-- ==== Sys2Proof/Word.lean ====
section
/-! DEFINITION. The word types of the part: bytes, 32-bit register words, 36-bit engine words, byte strings. -/

namespace Sys2Proof

/-- One byte of a message, an entry or a record. -/
abbrev Byte := BitVec 8

/-- A register word of either window (R117). -/
abbrev Word := BitVec 32

/-- A Kalmel engine word (11_kalmel_engines.md R409). -/
abbrev EWord := BitVec 36

/-- A byte string, first byte first. -/
abbrev Bytes := List Byte

end Sys2Proof
end

