-- ==== Sys2Proof/Operand.lean ====
section
/-! DEFINITION. The types of the operands of commands: causes, names of units and rings, and what the environment finds. -/

namespace Sys2Proof

/-- Cause of a power-on reset (R103). -/
inductive PorCause
  | porst | vaonLow
  deriving DecidableEq, Repr

/-- Cause of a device warm reset (R103, R112). -/
inductive WarmCause
  | request | brownout | tamper | lifecycle
  deriving DecidableEq, Repr

/-- Cause of a link reset (R103). -/
inductive LinkCause
  | perst | hotReset | linkDown
  deriving DecidableEq, Repr

/-- Cause of a partition reset, as PARTITION_RESET reports it (R205). -/
inductive PartCause
  | flr | resetReq | partReset | partDestroy
  deriving DecidableEq, Repr

/-- Why an LF channel is tested (06 R228): its bank was powered, the interval is over, a frame on air shows its current, the halves
ask for it. -/
inductive DiagCause
  | bank | interval | frame | request
  deriving DecidableEq, Repr

/-- A supply monitor whose trip is a brown-out (R60). -/
inductive Monitor
  | io33 | core | pwrgd
  deriving DecidableEq, Repr

/-- One of the two secure halves (R22). -/
inductive Half
  | north | south
  deriving DecidableEq, Repr

/-- Why a half fails bring-up (R98). -/
inductive HalfFail
  | uds | core | wellhead (cause : Nat) | image
  deriving DecidableEq, Repr

/-- Error of a host memory read (R121, R205). -/
inductive HostErr
  | unsupported | abort | poisoned | timeout
  deriving DecidableEq, Repr

/-- A ring of a partition (R168). -/
inductive RingRef
  | sq (i : Nat) | cq (i : Nat) | evr
  deriving DecidableEq, Repr

/-- A register window: the device window or the window of a partition (R128, R129). -/
inductive Win
  | dev | part (p : Nat)
  deriving DecidableEq, Repr

/-- One element of a scatter list (R177): address, length, flags. -/
structure Sgl where
  addr : Nat
  len : Nat
  flags : Nat
  deriving DecidableEq, Repr

/-- What the host's memory holds when an entry is fetched: the entry, its scatter lists, the input bytes, and whether
a read of input or list fails (R175-R179). -/
structure Fetch where
  entry : Bytes
  inList : List Sgl
  outList : List Sgl
  input : Bytes
  readFail : Bool
  deriving DecidableEq, Repr

/-- A fetched entry: partition, submission ring, index in the ring. -/
structure CmdKey where
  part : Nat
  sq : Nat
  idx : Nat
  deriving DecidableEq, Repr

/-- A field of configuration space that a configuration read returns (R113, R114, R120, R123, R145). -/
inductive CfgReg
  | vendorId | deviceId | revisionId | classCode | subsystemVendorId | subsystemId
  | bar (k : Nat) | barSize (k : Nat)
  | busMaster | maxPayload | maxRead | msixEnable | fnMask | tableSize | tableAt | pbaAt
  | powerState | noSoftReset
  | totalVfs | firstVf | vfStride | vfEnable | numVfs
  | aerStatus | aerHeader (k : Nat)
  deriving DecidableEq, Repr

/-- A configuration request: a read of a field, or what a write changes (R113, R120, R123, R145, R747). -/
inductive CfgOp
  | read (r : CfgReg)
  | bar (k addr : Nat)
  | maxPayload (bytes : Nat)
  | maxRead (bytes : Nat)
  | aerClear (mask : Nat)
  | busMaster (on : Bool)
  | msixEnable (on : Bool)
  | fnMask (on : Bool)
  | vecMask (v : Nat) (on : Bool)
  | vfEnable (on : Bool) (num : Nat)
  | d3hot (on : Bool)
  deriving DecidableEq, Repr

/-- What the environment finds at a bring-up (R89-R100): strap levels, which halves fail and why, whether both UDS
copies pass their own check values and differ, whether the Shore image fails, whether the store is beyond recovery,
the fused secrets, the VHOLD level, and the device time at which the bring-up started. -/
structure BringUp where
  straps : BitVec 4
  northFail : Option HalfFail
  southFail : Option HalfFail
  udsDiffer : Bool
  shoreImageFail : Bool
  storeLost : Bool
  vholdMv : Nat
  startedAt : Nat
  spareFails : List (Half × Nat)
  upTo : Nat
  deriving DecidableEq, Repr

/-- A CIR record as the bridge endpoint writes it (R278): KIND, PORT, COARSE, AGREE, NORM, the two RSSI words, and the
taps I and Q of the preamble and of the four STS quarters. -/
structure CirRec where
  kind : Nat
  port : Nat
  coarse : Nat
  agree : List (Nat × Nat)
  norm : List Nat
  rxPower : Nat
  fpPower : Nat
  taps : List (BitVec 18 × BitVec 18)
  deriving DecidableEq, Repr

/-- A physical engine slot: the half and the slot number (R40). -/
structure EngRef where
  half : Half
  slot : Nat
  deriving DecidableEq, Repr

/-- Kinds of unit that can be retired, coded as KIND of R625. -/
inductive RetKind
  | engine | hammer | digest | anvil | bank | path
  deriving DecidableEq, Repr

/-- A unit by kind, half and physical index (R625). -/
structure UnitRef where
  kind : RetKind
  half : Half
  idx : Nat
  deriving DecidableEq, Repr

/-- Causes of a fence (R599). -/
inductive FenceCause
  | silent | stale | beyondRepair | halfMismatch | infra | resyncFail
  deriving DecidableEq, Repr

/-- What the comparators report of one command (R603-R606): verdicts of both halves, whether the folds agree, a parity
error or failed R434 check with the half charged, the units of the two copies and their records, and the half that
fails HALF_TEST should it be run. -/
structure Verdict where
  eqN : Bool
  eqS : Bool
  folds : Bool
  parity : Option Half
  check434 : Option Half
  unitL : UnitRef
  effL : Bytes
  unitF : UnitRef
  effF : Bytes
  testFail : Option Half
  deriving DecidableEq, Repr

/-- What a HALF_TEST finds (R624): units that fail, and whether the Crucible copies agree. -/
structure TestFind where
  fails : List UnitRef
  crucible : Bool
  deriving DecidableEq, Repr

/-- What the patrol finds in one copy of a page (R572-R574): corrected errors as (codeword, bit), a weak cell, and
codewords that ECC cannot correct. -/
structure CopyFind where
  corrected : List (Nat × Nat)
  weak : Bool
  bad : List Nat
  deriving DecidableEq, Repr

/-- Findings of a column test (R574): the half and column, a reference cell that reads wrongly, rows that read wrongly
at the normal reference, rows that fail at a margin, and cells still weak after three refreshes. -/
structure ColTest where
  half : Half
  column : Nat
  refWrong : Bool
  rowsWrong : Nat
  weakRows : List Nat
  stillWeak : Nat
  deriving DecidableEq, Repr

/-- A shift amount of a Kalmel instruction (12 R457, R458): a register, or the 5-bit field of the immediate form. -/
inductive ShiftBy
  | reg (s : Nat)
  | imm (a : Nat)
  deriving DecidableEq, Repr

/-- Privileges of engine code (11 R409). -/
inductive Priv
  | f | p | a
  deriving DecidableEq, Repr

/-- How the dispatcher starts a task (11 R435): privilege, profile, entry point, arguments k0-k3, argument words from
0xC00 on, words copied to the task area, FMODE, budget, pool window, paired duty, partition, and the command or frame it
serves; the applet it runs, and whether it is run again after a fault (11 R448). -/
structure TaskStart where
  priv : Priv
  profile : Bool
  entry : Nat
  args : List EWord
  argWords : List EWord
  data : List EWord
  fmode : BitVec 3
  steps : Option Nat
  poolBase : Nat
  poolLim : Nat
  paired : Bool
  part : Nat
  cmd : Option CmdKey
  frame : Option Nat
  applet : Option Nat
  again : Bool
  deriving DecidableEq, Repr

/-- A reference with a monitor (R78). -/
inductive RefClk
  | ref38 | xtal | pcie | lane
  deriving DecidableEq, Repr

/-- A wake that arrives while a power state is entered (R641, R644): its code, and for a touch the handle channel and
touch stamp. -/
structure WakeIn where
  code : Nat
  chan : Nat
  stamp : Nat
  deriving DecidableEq, Repr

/-- What the Reservoir has measured when it plans (R651): mean base current in nA, mean charge of a handle measurement
in nC and of an unanswered welcome poll in uC. -/
structure PlanIn where
  baseNa : Nat
  measureNc : Nat
  welcomeUc : Nat
  deriving DecidableEq, Repr

/-- The answer to reset of a card (R706-R708): clock periods from the falling edge that opens TS to the next, the
characters, whether a gap exceeded 9,600 ETU, and the PPS response. -/
structure Atr where
  edge : Nat
  chars : Bytes
  longGap : Bool
  pps : Option Bytes
  deriving DecidableEq, Repr

/-- Kinds of PMIC transaction in the order they are served (R725). -/
inductive PmicKind
  | rail | vout | status | telemetry
  deriving DecidableEq, Repr

end Sys2Proof
end

