-- ==== Sys2Proof/Syntax.lean ====
section
/-! DEFINITION. The commands of the part: one constructor of `Instr` per row of spec/opcode_table.json, with the
operands its governing rule names. What the environment decides (an instant, a measured value, bytes received, which
unit fails) is an operand. -/

namespace Sys2Proof

/-- A command, with the mnemonic and the governing rule of its row. Commands of a fetched entry name it by its key; Kalmel
instructions name the engine slot whose task runs them. -/
inductive Instr
  /-- POWER_ON_RESET (R104). -/
  | powerOnReset (c : PorCause)
  /-- BRING_UP (R89). -/
  | bringUp (b : BringUp)
  /-- BROWN_OUT (R61). -/
  | brownOut (m : Monitor) (vholdMv : Nat)
  /-- SERDES_SUPPLY_LOW (R60). -/
  | serdesSupplyLow
  /-- HOLD_CAP_MEASURE (R66). -/
  | holdCapMeasure (dropUv : Nat)
  /-- DEVICE_WARM_RESET (R105). -/
  | deviceWarmReset (c : WarmCause)
  /-- WARM (R112). -/
  | devWarm (src : Nat) (data : Word)
  /-- LINK_RESET (R106). -/
  | linkReset (c : LinkCause)
  /-- PERST_N_RISE (R94). -/
  | perstNRise
  /-- FLR (R153). -/
  | flr (p : Nat)
  /-- PARTITION_RESET (R153). -/
  | partitionReset (p : Nat) (c : PartCause)
  /-- PCIE_CONFIG_ACCESS (R747). -/
  | pcieConfig (p : Nat) (op : CfgOp)
  /-- HOST_READ_ERROR (R121). -/
  | hostReadError (p : Nat) (r : RingRef) (e : HostErr) (idx : Nat)
  /-- REGISTER_WRITE (R17). -/
  | registerWrite (src : Nat) (w : Win) (off : Nat) (be : BitVec 4) (data : Word)
  /-- RESET_REQ (R108). -/
  | resetReq (src pg : Nat) (data : Word)
  /-- QUIESCE (R124). -/
  | pageQuiesce (src pg : Nat) (data : Word)
  /-- ENABLE (R124). -/
  | pageEnable (src pg : Nat) (data : Word)
  /-- PG_LOCK (R244). -/
  | pgLock (src pg : Nat) (data : Word)
  /-- INT_STAT_CLEAR (R125). -/
  | intStatClear (src pg : Nat) (data : Word)
  /-- FORCE (R124). -/
  | intForce (src pg : Nat) (data : Word)
  /-- ERR_CAP_CLEAR (R124). -/
  | errCapClear (src pg : Nat) (data : Word)
  /-- EVR_ENABLE (R146). -/
  | evrEnable (p : Nat) (data : Word)
  /-- EVR_DISABLE (R146). -/
  | evrDisable (p : Nat) (data : Word)
  /-- EVR_HEAD (R147). -/
  | evrHead (p : Nat) (data : Word)
  /-- SQ_TAIL (R173). -/
  | sqTail (p i : Nat) (data : Word)
  /-- CQ_HEAD (R174). -/
  | cqHead (p i : Nat) (data : Word)
  /-- RING_CREATE (R170). -/
  | ringCreate (p : Nat)
  /-- RING_DESTROY (R171). -/
  | ringDestroy (p : Nat)
  /-- SQ_DRAINED (R171). -/
  | sqDrained (p i : Nat)
  /-- RING_QUERY (R170). -/
  | ringQuery (p : Nat)
  /-- SQ_FETCH (R183). -/
  | sqFetch (p i : Nat) (f : Fetch)
  /-- NOP (R197). -/
  | nopCmd (k : CmdKey)
  /-- PART_CREATE (R136). -/
  | partCreate (k : CmdKey)
  /-- PART_SET (R139). -/
  | partSet (k : CmdKey)
  /-- PART_DESTROY (R141). -/
  | partDestroy (k : CmdKey)
  /-- PART_RESET (R141). -/
  | partReset (k : CmdKey)
  /-- POWER_VOTE (R156). -/
  | powerVote (k : CmdKey)
  /-- SPILL_REGION_SET (R368). -/
  | spillRegionSet (k : CmdKey)
  /-- RESERVOIR_SET (R650). -/
  | reservoirSet (k : CmdKey)
  /-- POWER_CAP_SET (R655). -/
  | powerCapSet (k : CmdKey)
  /-- KEY_GENERATE (R491). -/
  | keyGenerate (k : CmdKey)
  /-- KEY_IMPORT (R492). -/
  | keyImport (k : CmdKey)
  /-- KEY_DERIVE (R495). -/
  | keyDerive (k : CmdKey)
  /-- KEY_DESTROY (R500). -/
  | keyDestroy (k : CmdKey)
  /-- KEY_EXPORT (R501). -/
  | keyExport (k : CmdKey)
  /-- KEY_INFO (R508). -/
  | keyInfo (k : CmdKey)
  /-- COUNTER_CREATE (R492). -/
  | counterCreate (k : CmdKey)
  /-- COUNTER_INCREMENT (R502). -/
  | counterIncrement (k : CmdKey)
  /-- COUNTER_READ (R502). -/
  | counterRead (k : CmdKey)
  /-- SEAL (R503). -/
  | sealObject (k : CmdKey)
  /-- UNSEAL (R504). -/
  | unsealObject (k : CmdKey)
  /-- AEAD_ENCRYPT (R381). -/
  | aeadEncrypt (k : CmdKey)
  /-- AEAD_DECRYPT (R383). -/
  | aeadDecrypt (k : CmdKey)
  /-- MAC_GENERATE (R381). -/
  | macGenerate (k : CmdKey)
  /-- MAC_VERIFY (R381). -/
  | macVerify (k : CmdKey)
  /-- DATA_WRAP (R381). -/
  | dataWrap (k : CmdKey)
  /-- DATA_UNWRAP (R383). -/
  | dataUnwrap (k : CmdKey)
  /-- DIGEST (R404). -/
  | digestCmd (k : CmdKey)
  /-- PK_KEYGEN (R512). -/
  | pkKeygen (k : CmdKey)
  /-- PK_SIGN (R516). -/
  | pkSign (k : CmdKey)
  /-- PK_VERIFY (R513). -/
  | pkVerify (k : CmdKey)
  /-- PK_AGREE (R520). -/
  | pkAgree (k : CmdKey)
  /-- KEM_ENCAPS (R520). -/
  | kemEncaps (k : CmdKey)
  /-- KEM_DECAPS (R514). -/
  | kemDecaps (k : CmdKey)
  /-- ATTEST (R529). -/
  | attest (k : CmdKey)
  /-- RANDOM (R554). -/
  | randomBytes (k : CmdKey)
  /-- STORE_READ (R571). -/
  | storeRead (k : CmdKey)
  /-- STORE_WRITE (R568). -/
  | storeWrite (k : CmdKey)
  /-- STORE_SANITIZE (R578). -/
  | storeSanitize (k : CmdKey)
  /-- FLOW_CREATE (R338). -/
  | flowCreate (k : CmdKey)
  /-- FLOW_MODIFY (R341). -/
  | flowModify (k : CmdKey)
  /-- FLOW_DESTROY (R365). -/
  | flowDestroy (k : CmdKey)
  /-- SAK_INSTALL (R354). -/
  | sakInstall (k : CmdKey)
  /-- FLOW_STATS (R362). -/
  | flowStats (k : CmdKey)
  /-- APPLET_LOAD (R442). -/
  | appletLoad (k : CmdKey)
  /-- APPLET_INVOKE (R443). -/
  | appletInvoke (k : CmdKey) (e : EngRef) (base : Nat)
  /-- APPLET_UNLOAD (R445). -/
  | appletUnload (k : CmdKey)
  /-- FOB_PAIR (R307). -/
  | fobPair (k : CmdKey)
  /-- FOB_REMOVE (R309). -/
  | fobRemove (k : CmdKey)
  /-- ACCESS_POLICY_SET (R305). -/
  | accessPolicySet (k : CmdKey)
  /-- RELEASE_REQUEST (R316). -/
  | releaseRequest (k : CmdKey)
  /-- IMMO_CONFIG (R317). -/
  | immoConfig (k : CmdKey)
  /-- LIFECYCLE_ADVANCE (R687). -/
  | lifecycleAdvance (k : CmdKey) (readback whole : Bool)
  /-- DEBUG_CHALLENGE (R696). -/
  | debugChallenge (k : CmdKey)
  /-- DEBUG_GRANT (R701). -/
  | debugGrant (k : CmdKey)
  /-- CARD_TRANSACT (R714). -/
  | cardTransact (k : CmdKey)
  /-- HALF_TEST (R624). -/
  | halfTest (k : CmdKey) (f : TestFind)
  /-- EE_TRANSACTION (R566). -/
  | eeTransaction (vholdMv : Nat)
  /-- VHOLD_WAIT_TIMEOUT (R569). -/
  | vholdWaitTimeout (k : CmdKey)
  /-- FRAME_START (R330). -/
  | frameStart (n : Nat)
  /-- FRAME_RECEIVE (R329). -/
  | frameReceive (n : Nat) (data : Bytes) (cut : Bool)
  /-- PAUSE_REPEAT (R331). -/
  | pauseRepeat (n : Nat)
  /-- PAUSE_RECEIVE (R327). -/
  | pauseReceive (n quanta : Nat)
  /-- LANE_LINK_CHANGE (R328). -/
  | laneLinkChange (n : Nat) (up mismatch : Bool)
  /-- SECOC_VERIFY (R349). -/
  | secocVerify (id : Nat)
  /-- SECOC_SIGN (R348). -/
  | secocSign (id : Nat)
  /-- MACSEC_RX (R351). -/
  | macsecRx (id : Nat)
  /-- MACSEC_TX (R352). -/
  | macsecTx (id : Nat)
  /-- FRAME_TRANSMIT (R332). -/
  | frameTransmit (id : Nat)
  /-- CHECKPOINT_COMMIT (R356). -/
  | checkpointCommit (h : Nat)
  /-- CHECKPOINT_TIMEOUT (R359). -/
  | checkpointTimeout (id : Nat)
  /-- SPILL_RECORD_READ (R370). -/
  | spillRecordRead (h : Nat) (rec : Option Bytes)
  /-- WRITE_BACK (R372). -/
  | writeBack (h : Nat)
  /-- HAMMER_SEGMENT_END (R399). -/
  | hammerSegmentEnd (h : Half) (i : Nat) (ok : Bool)
  /-- HAMMER_REQUEST_END (R398). -/
  | hammerRequestEnd (h : Half) (i : Nat)
  /-- DEFENCE_RESEED (R545). -/
  | defenceReseed (h : Half) (i : Nat)
  /-- DIGEST_BLOCK_END (R405). -/
  | digestBlockEnd (h : Half) (ok : Bool)
  /-- ANVIL_OP_END (R519). -/
  | anvilOpEnd (h : Half) (i : Nat) (failedBy : Option (Half × Nat))
  /-- TASK_START (R435). -/
  | taskStart (e : EngRef) (b : TaskStart)
  /-- MOV (R457). -/
  | kMov (e : EngRef) (d r : Nat)
  /-- ADD (R457). -/
  | kAdd (e : EngRef) (d r : Nat)
  /-- ADC (R457). -/
  | kAdc (e : EngRef) (d r : Nat)
  /-- SUB (R457). -/
  | kSub (e : EngRef) (d r : Nat)
  /-- SBC (R457). -/
  | kSbc (e : EngRef) (d r : Nat)
  /-- CMP (R457). -/
  | kCmp (e : EngRef) (d r : Nat)
  /-- AND (R457). -/
  | kAnd (e : EngRef) (d r : Nat)
  /-- OR (R457). -/
  | kOr (e : EngRef) (d r : Nat)
  /-- XOR (R457). -/
  | kXor (e : EngRef) (d r : Nat)
  /-- SHL (R457). -/
  | kShl (e : EngRef) (d : Nat) (n : ShiftBy)
  /-- SHR (R457). -/
  | kShr (e : EngRef) (d : Nat) (n : ShiftBy)
  /-- SAR (R457). -/
  | kSar (e : EngRef) (d : Nat) (n : ShiftBy)
  /-- ROR (R458). -/
  | kRor (e : EngRef) (d a : Nat)
  /-- MUL (R457). -/
  | kMul (e : EngRef) (d r : Nat)
  /-- MULU (R457). -/
  | kMulu (e : EngRef) (d r : Nat)
  /-- MAC (R457). -/
  | kMac (e : EngRef) (d r : Nat)
  /-- MSB (R457). -/
  | kMsb (e : EngRef) (d r : Nat)
  /-- MOVI (R460). -/
  | kMovi (e : EngRef) (d imm : Nat)
  /-- ADDI (R460). -/
  | kAddi (e : EngRef) (d imm : Nat)
  /-- MOVW (R461). -/
  | kMovw (e : EngRef) (d imm : Nat)
  /-- ADDW (R461). -/
  | kAddw (e : EngRef) (d imm : Nat)
  /-- CMPW (R461). -/
  | kCmpw (e : EngRef) (d imm : Nat)
  /-- ANDW (R461). -/
  | kAndw (e : EngRef) (d imm : Nat)
  /-- ORW (R461). -/
  | kOrw (e : EngRef) (d imm : Nat)
  /-- XORW (R461). -/
  | kXorw (e : EngRef) (d imm : Nat)
  /-- MOVL (R461). -/
  | kMovl (e : EngRef) (d : Nat) (imm : EWord)
  /-- JMPCC (R461). -/
  | kJmpcc (e : EngRef) (c target : Nat)
  /-- SHORT_BRANCH (R467). -/
  | kShortBranch (e : EngRef) (c disp : Nat)
  /-- JR (R467). -/
  | kJr (e : EngRef) (r : Nat)
  /-- CALLM (R424). -/
  | kCallm (e : EngRef) (m kt : Nat)
  /-- RETM (R426). -/
  | kRetm (e : EngRef)
  /-- NOP_INSTRUCTION (R464). -/
  | kNopInstruction (e : EngRef)
  /-- END (R436). -/
  | kEnd (e : EngRef)
  /-- SVC (R446). -/
  | kSvc (e : EngRef)
  /-- SVCA (R469). -/
  | kSvca (e : EngRef)
  /-- SERVICE_REQUEST_END (R446). -/
  | serviceRequestEnd (e : EngRef) (which : Option Nat)
  /-- PUSH (R464). -/
  | kPush (e : EngRef) (r : Nat)
  /-- POP (R464). -/
  | kPop (e : EngRef) (r : Nat)
  /-- NOT (R464). -/
  | kNot (e : EngRef) (d : Nat)
  /-- NEG (R464). -/
  | kNeg (e : EngRef) (d : Nat)
  /-- ABS (R464). -/
  | kAbs (e : EngRef) (d : Nat)
  /-- TST (R464). -/
  | kTst (e : EngRef) (d : Nat)
  /-- PMV (R462). -/
  | kPmv (e : EngRef) (d : Nat)
  /-- MFS (R465). -/
  | kMfs (e : EngRef) (n d : Nat)
  /-- MTS (R465). -/
  | kMts (e : EngRef) (n r : Nat)
  /-- UOP (R473). -/
  | kUop (e : EngRef) (n d : Nat)
  /-- LD (R466). -/
  | kLd (e : EngRef) (r b off : Nat)
  /-- ST (R466). -/
  | kSt (e : EngRef) (r b off : Nat)
  /-- LDP (R466). -/
  | kLdp (e : EngRef) (r b off : Nat)
  /-- STP (R466). -/
  | kStp (e : EngRef) (r b off : Nat)
  /-- BFI (R471). -/
  | kBfi (e : EngRef) (d r p w : Nat)
  /-- BFX (R471). -/
  | kBfx (e : EngRef) (d r p w : Nat)
  /-- CLZ (R471). -/
  | kClz (e : EngRef) (d r : Nat)
  /-- BPERM (R471). -/
  | kBperm (e : EngRef) (d r sel zm : Nat)
  /-- WFE (R430). -/
  | kWfe (e : EngRef) (d : Nat)
  /-- SEV (R431). -/
  | kSev (e : EngRef) (r : Nat)
  /-- WAITC (R432). -/
  | kWaitc (e : EngRef) (r : Nat)
  /-- RDT (R432). -/
  | kRdt (e : EngRef) (d : Nat)
  /-- ENGINE_EVENT (R429). -/
  | engineEvent (e : EngRef) (line : Nat)
  /-- WAITC_DEADLINE (R433). -/
  | waitcDeadline (e : EngRef)
  /-- HS_SCAN_ROUND (R210). -/
  | hsScanRound
  /-- HS_MEASUREMENT (R217). -/
  | hsMeasurement (n count startedAt : Nat)
  /-- HS_CONFIRM (R212). -/
  | hsConfirm (n count startedAt : Nat)
  /-- HS_REMEASURE (R211). -/
  | hsRemeasure (n count startedAt : Nat)
  /-- STUCK_TOUCH (R218). -/
  | stuckTouch (n : Nat)
  /-- LF_FRAME_START (R226). -/
  | lfFrameStart (short : Nat)
  /-- LF_FRAME_END (R225). -/
  | lfFrameEnd (shorted : List (Nat × Nat))
  /-- LF_DIAG (R228). -/
  | lfDiag (n st res : Nat) (why : DiagCause)
  /-- BC_SESSION_START (R231). -/
  | bcSessionStart (transponder : Bool)
  /-- BC_REPLY (R231). -/
  | bcReply (raw : Bytes)
  /-- BC_SESSION_END (R231). -/
  | bcSessionEnd
  /-- UHF_WINDOW_OPEN (R240). -/
  | uhfWindowOpen
  /-- UHF_TELEGRAM (R238). -/
  | uhfTelegram (i : Nat) (raw : Bytes) (rssi0 rssi1 : Nat)
  /-- UHF_WINDOW_END (R241). -/
  | uhfWindowEnd (heard : List (List (Nat × Nat)))
  /-- UWB_ROUND_START (R263). -/
  | uwbRoundStart (t1 cleared : Nat) (lowLoss : Bool)
  /-- UWB_RESPONSE_RX (R262). -/
  | uwbResponseRx (t4c : Nat)
  /-- UWB_RESPONSE_TIMEOUT (R263). -/
  | uwbResponseTimeout (preamble : Bool)
  /-- CIR_RECORD (R278). -/
  | cirRecord (r : CirRec)
  /-- UWB_FINAL_TX (R260). -/
  | uwbFinalTx
  /-- UWB_REPORT_RX (R274). -/
  | uwbReportRx (psdu : Bytes)
  /-- UWB_REPORT_TIMEOUT (R280). -/
  | uwbReportTimeout
  /-- UWB_VERDICT (R275). -/
  | uwbVerdict
  /-- SESSION_TIMEOUT (R288). -/
  | sessionTimeout
  /-- RELEASE_PULSE_END (R315). -/
  | releasePulseEnd (g : Nat)
  /-- TOKEN_SEND (R320). -/
  | tokenSend
  /-- EDDY_ENTER (R628). -/
  | eddyEnter (wakes : List WakeIn)
  /-- TARGET (R630). -/
  | pwTarget (src : Nat) (data : Word)
  /-- PARK_ENTRY (R638). -/
  | parkEntry (wakes : List WakeIn)
  /-- POND_TIMEOUT (R628). -/
  | pondTimeout (wakes : List WakeIn)
  /-- TARN_TO_DRY (R628). -/
  | tarnToDry
  /-- PWRGD_RETURN (R628). -/
  | pwrgdReturn (imagesOk : Bool)
  /-- PARK_RETURN (R645). -/
  | parkReturn (railOk imagesOk : Bool)
  /-- LINGER_END (R637). -/
  | lingerEnd (wakes : List WakeIn)
  /-- WELCOME_POLL (R639). -/
  | welcomePoll
  /-- WAKE_PIN (R642). -/
  | wakePin (k : Nat) (high : Bool) (samples : Nat)
  /-- ALARM_WAKE (R641). -/
  | alarmWake
  /-- RESERVOIR_CREDIT (R650). -/
  | reservoirCredit (vaonNc : Nat)
  /-- RESERVOIR_PLAN (R652). -/
  | reservoirPlan (i : PlanIn)
  /-- POWER_READING (R656). -/
  | powerReading (mw : Option Nat) (ack : Bool)
  /-- PACE_WINDOW (R36). -/
  | paceWindow (counts : List Nat)
  /-- AVS_EVALUATE (R37). -/
  | avsEvaluate (ack hot slow : Bool)
  /-- CLR_PEAK (R660). -/
  | clrPeak (src : Nat) (data : Word)
  /-- HM_CLR_WAIT (R408). -/
  | hmClrWait (src : Nat) (data : Word)
  /-- HW_CLR_WAIT (R626). -/
  | hwClrWait (src : Nat) (data : Word)
  /-- CLR_LAT (R741). -/
  | clrLat (src : Nat) (data : Word)
  /-- REFCLK_LOSS (R79). -/
  | refclkLoss (r : RefClk)
  /-- REFCLK_RETURN (R79). -/
  | refclkReturn (r : RefClk)
  /-- HALF_SILENT (R596). -/
  | halfSilent (h : Half)
  /-- LEASE_RENEWAL (R595). -/
  | leaseRenewal
  /-- LEASE_EXPIRY (R597). -/
  | leaseExpiry
  /-- COMPARE_VERDICT (R604). -/
  | compareVerdict (k : CmdKey) (v : Verdict)
  /-- LATE_RECORD (R607). -/
  | lateRecord (u : UnitRef)
  /-- UNIT_WATCHDOG (R610). -/
  | unitWatchdog (u : UnitRef) (parity : Bool)
  /-- PROBATION_TEST (R612). -/
  | probationTest (u : UnitRef) (pass : Bool)
  /-- BANK_FAIL (R621). -/
  | bankFail (h : Half) (i : Nat) (testOk : Bool)
  /-- BANK_REBUILT (R621). -/
  | bankRebuilt (h : Half) (i : Nat)
  /-- PATROL_PAGE (R572). -/
  | patrolPage (north south : CopyFind) (tests : List ColTest)
  /-- COLUMN_REBUILD (R575). -/
  | columnRebuild (h : Half) (rows : Nat)
  /-- PAGE_CLEAR (R579). -/
  | pageClear (ok : Bool)
  /-- HEALTH_WINDOW (R537). -/
  | healthWindow (h : Half) (a b : List Bool)
  /-- OSCILLATOR_CHECK (R538). -/
  | oscillatorCheck (h : Half) (aKhz bKhz : Nat) (isLocked : Bool) (vnBits : Nat)
  /-- WELLHEAD_PHASE_END (R539). -/
  | wellheadPhaseEnd (h : Half) (knownAnswer : Bool)
  /-- TEST (R541). -/
  | whTest (src : Nat) (data : Word)
  /-- RAW_EN (R546). -/
  | rawEn (src : Nat) (data : Word)
  /-- WH_RAW_READ (R548). -/
  | whRawRead (src : Nat)
  /-- BELLOWS_RESEED (R552). -/
  | bellowsReseed (h : Half)
  /-- TAMPER_EVENT (R668). -/
  | tamperEvent (sensor sub : Nat)
  /-- GLITCH_DECIDE (R664). -/
  | glitchDecide
  /-- GUARD_END (R669). -/
  | guardEnd
  /-- ALARM_END (R679). -/
  | alarmEnd
  /-- TP_RELEASE (R675). -/
  | tpRelease (src : Nat) (data : Word)
  /-- TAP_RESET (R694). -/
  | tapReset
  /-- TAP_INSTRUCTION (R694). -/
  | tapInstruction (code : Nat)
  /-- EXTEST (R695). -/
  | extest (selected : Bool) (cells : Nat)
  /-- DBG_MEM (R702). -/
  | dbgMem (dr : BitVec 56)
  /-- DBG_ENG_READ (R703). -/
  | dbgEngRead (e : EngRef) (r : Nat) (spec : Bool)
  /-- DBG_ENG_HALT (R703). -/
  | dbgEngHalt (e : EngRef)
  /-- DBG_ENG_STEP (R703). -/
  | dbgEngStep (e : EngRef)
  /-- DBG_ENG_RESUME (R703). -/
  | dbgEngResume (e : EngRef)
  /-- CHALLENGE_LAPSE (R696). -/
  | challengeLapse
  /-- CARD_INSERT (R706). -/
  | cardInsert
  /-- CARD_ATR (R707). -/
  | cardAtr (a : Atr)
  /-- CARD_ATR_TIMEOUT (R706). -/
  | cardAtrTimeout
  /-- CARD_COND_POLL (R711). -/
  | cardCondPoll (resp : Bytes)
  /-- CARD_REMOVE (R718). -/
  | cardRemove (lost : Bool)
  /-- CARD_TXN_TIMEOUT (R717). -/
  | cardTxnTimeout
  /-- CLOCK_STOP (R710). -/
  | clockStop
  /-- CAN_BUS_OFF (R723). -/
  | canBusOff (n : Nat)
  /-- BUS_OFF_RECOVERY (R723). -/
  | busOffRecovery (n : Nat)
  /-- PMIC_ALERT (R724). -/
  | pmicAlert (rail : Nat) (status : Option Nat)
  /-- PMIC_RETRY (R725). -/
  | pmicRetry (k : PmicKind) (v : Option Nat)
  /-- VHOLD_READY (R569). -/
  | vholdReady (vholdMv : Nat)
  /-- SERDES_SUPPLY_RETURN (R60). -/
  | serdesSupplyReturn
  /-- VLF_LOW_CHANGE (R223). -/
  | vlfLowChange (mv : Nat)
  /-- SYNC_MATCH (R236). -/
  | syncMatch (bits : Nat)
  /-- HYPOTHESIS_FAILED (R238). -/
  | hypothesisFailed (i : Nat) (raw : Bytes)
  /-- CARD_RESPONSE (R714). -/
  | cardResponse (resp : Bytes)
  /-- REJOIN (R622). -/
  | rejoin (h : Half) (ok : Bool)
  /-- SENSOR_CLEAR (R669). -/
  | sensorClear (sensor : Nat)
  /-- REPETITION_COUNT_FAIL (R538). -/
  | repetitionCountFail (h : Half) (cause : Nat)
  /-- PAUSE_TIMER_EXPIRY (R327). -/
  | pauseTimerExpiry (n : Nat)
  /-- RAIL_ON_RETRY (R725). -/
  | railOnRetry (railOk imagesOk : Bool)
  /-- TOKEN_TRANSMITTED (R721). -/
  | tokenTransmitted (n tec rec : Nat)
  deriving DecidableEq, Repr

end Sys2Proof
end

