-- ==== Sys2Proof/Config.lean ====
section
/-! DEFINITION. What the spec leaves open or to a public standard: free values and the standard primitives, as opaque
constants that nothing can evaluate (notes/assumptions 3 and 4). -/

namespace Sys2Proof.Config

/-- The standard primitives the part computes and the spec does not write out (10 R376-R381, 13 R495, 14 R511, 15 R549). -/
inductive Prim
  | cmac | gmac | ctr | ccmTag | gcmTag | kwWrap | kwUnwrap | kwCheck
  | sha2 | sha3 | shake | hkdf
  | pubKey | sign | verify | agree | kemPub | kemCipher | kemSecret | kemDecap | genKey | pointOk
  | stsPulse | knownAnswer | resultCheck
  deriving DecidableEq, Repr

/-- Byte i of the result of a primitive on its inputs. Free: no value of it can be proved. -/
opaque primByte : Prim → List Bytes → Nat → Byte

/-- The yes-or-no result of a primitive (a signature, an AES-KW integrity value, a point check). Free. -/
opaque primOk : Prim → List Bytes → Bool

/-- Byte n of the sequence of random draws of a Bellows (15 R549-R554). Free: applied to the draw counter of State. -/
opaque draw : Nat → Byte

/-- Value n of the sequence of values the spec does not state. Free: applied to the draw counter of State. -/
opaque freeNat : Nat → Nat

/-- Cycles of pace meter n at corner N, fused at test (01 R36). Free. -/
opaque paceDivisor : Nat → Nat

/-- The ULINEAR16 word of a voltage in mV, by the exponent that VOUT_MODE of the PMIC gives (21 R724). Free. -/
opaque voutWord : Nat → Nat

/-- Level of GPIO ball k as an input at a device time (21 R726). Free. -/
opaque pinLevel : Nat → Nat → Bool

/-- Byte i of a hash that Apnex fixed at the factory: SHA-384 of the boot ROM patch set (1), of the Shore firmware (2), of the
key that signed the Shore firmware (0) (13 R486). Free. -/
opaque shoreByte : Nat → Nat → Byte

/-- Time a Weir takes for the result it accepts at a port at a device time (17 R614). Free. -/
opaque weirGap : Nat → Nat → Nat

/-- The edges of reference k have come back at a device time, before its monitor has shown OK for 1 ms (02 R79). Free. -/
opaque refBack : Nat → Nat → Bool

/-- What the register at an address measures at a device time: temperatures, utilisation (22 R741). Free. -/
opaque measured : Nat → Nat → Nat

/-- A factory hash. -/
def shoreHash (k : Nat) : Bytes := (List.range 48).map (shoreByte k)

/-- The first n bytes of a primitive's result. -/
def prim (f : Prim) (args : List Bytes) (n : Nat) : Bytes := (List.range n).map (primByte f args)

end Sys2Proof.Config
end

