-- ==== Sys2Proof/Machine/Maps.lean ====
section
/-! DEFINITION. Sparse maps in canonical form (addresses strictly rising), byte strings and bit masks: the named
operations every unit uses. -/

namespace Sys2Proof.Machine

variable {α : Type}

/-- The value a map lists at address a. -/
def mapGet : List (Nat × α) → Nat → Option α
  | [], _ => none
  | (k, v) :: m, a => if k = a then some v else mapGet m a

/-- Put v at address a, keeping the addresses strictly rising. -/
def mapPut : List (Nat × α) → Nat → α → List (Nat × α)
  | [], a, v => [(a, v)]
  | (k, w) :: m, a, v =>
    if a < k then (a, v) :: (k, w) :: m
    else if a = k then (a, v) :: m
    else (k, w) :: mapPut m a v

/-- Take address a out of a map. -/
def mapDel : List (Nat × α) → Nat → List (Nat × α)
  | [], _ => []
  | (k, w) :: m, a => if k = a then m else (k, w) :: mapDel m a

/-- Put v at a in a map whose unlisted addresses read as d: listing d is never done. -/
def mapSet [DecidableEq α] (d : α) (m : List (Nat × α)) (a : Nat) (v : α) : List (Nat × α) :=
  if v = d then mapDel m a else mapPut m a v

/-- Read a map whose unlisted addresses read as d. -/
def mapRead (d : α) (m : List (Nat × α)) (a : Nat) : α := (mapGet m a).getD d

/-- The addresses of a map rise strictly from b on. -/
def mapRising : Nat → List (Nat × α) → Bool
  | _, [] => true
  | b, (k, _) :: m => decide (b ≤ k) && mapRising (k + 1) m

/-- Change the value listed at a; an unlisted address stays unlisted. -/
def mapUpd (m : List (Nat × α)) (a : Nat) (f : α → α) : List (Nat × α) :=
  match mapGet m a with
  | some v => mapPut m a (f v)
  | none => m

/-- The least number from lo on, below lo + fuel, that the list does not hold. -/
def firstFree (used : List Nat) : Nat → Nat → Option Nat
  | _, 0 => none
  | lo, fuel + 1 => if used.contains lo then firstFree used (lo + 1) fuel else some lo

/-- n bytes of v, least significant first (R14). -/
def leBytes : Nat → Nat → Bytes
  | 0, _ => []
  | n + 1, v => BitVec.ofNat 8 v :: leBytes n (v / 256)

/-- n bytes of v, most significant first (on-air and on-wire order, R14). -/
def beBytes (n v : Nat) : Bytes := (leBytes n v).reverse

/-- The number a little-endian byte string spells. -/
def leNat : Bytes → Nat
  | [] => 0
  | b :: bs => b.toNat + 256 * leNat bs

/-- The number a big-endian byte string spells. -/
def beNat (bs : Bytes) : Nat := leNat bs.reverse

/-- n bytes of bs from offset o on, short reads filled with zero. -/
def slice (bs : Bytes) (o n : Nat) : Bytes :=
  let t := (bs.drop o).take n
  t ++ List.replicate (n - t.length) 0

/-- The little-endian number in n bytes at offset o. -/
def leAt (bs : Bytes) (o n : Nat) : Nat := leNat (slice bs o n)

/-- The big-endian number in n bytes at offset o. -/
def beAt (bs : Bytes) (o n : Nat) : Nat := beNat (slice bs o n)

/-- All bytes zero. -/
def allZero (bs : Bytes) : Bool := bs.all (· == 0)

/-- Zero bytes up to length n. -/
def padTo (n : Nat) (bs : Bytes) : Bytes := slice bs 0 n

/-- Bytewise exclusive or. -/
def xorBytes (a b : Bytes) : Bytes := List.zipWith (· ^^^ ·) a b

/-- Bit i of a mask. -/
def bit (m i : Nat) : Bool := m.testBit i

/-- Bit i as a number. -/
def b2n (b : Bool) : Nat := if b then 1 else 0

/-- Set bit i of a mask. -/
def setBit (m i : Nat) : Nat := m ||| 2 ^ i

/-- Clear bit i of a mask. -/
def clrBit (m i : Nat) : Nat := if m.testBit i then m - 2 ^ i else m

/-- The bits of a not in b. -/
def maskDiff (a b : Nat) : Nat := a - (a &&& b)

/-- The bits [hi:lo] of a number. -/
def bitsOf (v hi lo : Nat) : Nat := v / 2 ^ lo % 2 ^ (hi - lo + 1)

/-- The numbers below n whose bit is set in m, rising. -/
def maskList (m n : Nat) : List Nat := (List.range n).filter (bit m)

/-- The mask of a list of bit numbers. -/
def listMask (l : List Nat) : Nat := l.foldl setBit 0

/-- An unsigned count limited to hi. -/
def satTo (hi v : Nat) : Nat := min hi v

end Sys2Proof.Machine
end

