-- ==== Sys2Proof/Machine/Regs.lean ====
section
/-! DEFINITION. The register map: one constant per register and per field, and the table of access
codes and reset values, written from the register tables of spec/ (00_scope.md R17, R19).
Addresses are flat: the device window from 0, the window of partition p from `winBase p`. -/

namespace Sys2Proof.Machine

/-- A register field: flat address of its register and its bit range (R19). -/
structure Fld where
  addr : Nat
  hi : Nat
  lo : Nat
  deriving DecidableEq, Repr

/-- Access codes of R17. -/
inductive Access
  | ro | rw | w1c | w1s | wo | rwl | rws
  deriving DecidableEq, Repr

/-- One field of the register table: bit range, access code, reset value (R19). -/
structure FieldDesc where
  hi : Nat
  lo : Nat
  acc : Access
  reset : Nat
  deriving DecidableEq, Repr

/-- One row of the register map: offset in its window or page, number of array elements and their stride. -/
structure RegDesc where
  off : Nat
  stride : Nat
  count : Nat
  fields : List FieldDesc
  deriving DecidableEq, Repr

/-- Flat base of the window of partition p (04 R129); the device window has base 0 (04 R128). -/
def winBase (p : Nat) : Nat := 0x1000000 * (p + 1)

namespace Reg
def AVS_CTL : Nat := 0x110100
def PACE_STAT : Nat := 0x110104
def PACE_M (n : Nat) : Nat := 0x110140 + 4 * n
def PAD_SLEW : Nat := 0x10F100
def PAD_FILT : Nat := 0x10F104
def SSC_CTL : Nat := 0x10F108
def STRAP_STAT : Nat := 0x10F10C
def CLKMON_STAT : Nat := 0x10F110
def HOLD_STAT : Nat := 0x10F114
def BOOT_STAT : Nat := 0x100
def BOOT_TIME : Nat := 0x104
def RESET_CAUSE : Nat := 0x108
def DEV_RESET : Nat := 0x10C
def PG_ID (pg : Nat) : Nat := pg + 0x0
def PG_VER (pg : Nat) : Nat := pg + 0x4
def PG_CAP (pg : Nat) : Nat := pg + 0x8
def PG_STAT (pg : Nat) : Nat := pg + 0xC
def PG_CTL (pg : Nat) : Nat := pg + 0x10
def PG_OWNER (pg : Nat) : Nat := pg + 0x14
def INT_RAW (pg : Nat) : Nat := pg + 0x20
def INT_EN (pg : Nat) : Nat := pg + 0x24
def INT_STAT (pg : Nat) : Nat := pg + 0x28
def INT_FORCE (pg : Nat) : Nat := pg + 0x2C
def INT_VEC (pg : Nat) : Nat := pg + 0x30
def ERR_CAP0 (pg : Nat) : Nat := pg + 0x40
def ERR_CAP1 (pg : Nat) : Nat := pg + 0x44
def ERR_CAP2 (pg : Nat) : Nat := pg + 0x48
def ERR_CAP3 (pg : Nat) : Nat := pg + 0x4C
def PG_LOCK (pg : Nat) : Nat := pg + 0x50
def PH_INFO (p : Nat) : Nat := winBase p + 0x100
def PM_EXIST (n : Nat) : Nat := 0x10100 + 4 * n
def PM_SECURE (n : Nat) : Nat := 0x10108 + 4 * n
def PM_COMPAT (n : Nat) : Nat := 0x10110 + 4 * n
def PM_ACCESS : Nat := 0x10118
def EVR_BASE_LO (p : Nat) : Nat := winBase p + 0x3100
def EVR_BASE_HI (p : Nat) : Nat := winBase p + 0x3104
def EVR_CFG (p : Nat) : Nat := winBase p + 0x3108
def EVR_HEAD (p : Nat) : Nat := winBase p + 0x310C
def EVR_TAIL (p : Nat) : Nat := winBase p + 0x3110
def EVR_STAT (p : Nat) : Nat := winBase p + 0x3114
def QV_CFG (p : Nat) : Nat := winBase p + 0x4100
def QV_RING (p : Nat) : Nat := winBase p + 0x4104
def QV_FLOW_QUOTA (p : Nat) : Nat := winBase p + 0x4108
def QV_FLOW_USED (p : Nat) : Nat := winBase p + 0x410C
def QV_PSLOT (p : Nat) : Nat := winBase p + 0x4110
def QV_VSLOT (p : Nat) : Nat := winBase p + 0x4114
def PV_HOLD (p : Nat) : Nat := winBase p + 0x5100
def PV_GATE (p : Nat) : Nat := winBase p + 0x5104
def PV_DEFER (p : Nat) : Nat := winBase p + 0x5108
def PV_STATE (p : Nat) : Nat := winBase p + 0x510C
def QT_RINGS : Nat := 0x20100
def QT_FLOWS : Nat := 0x20104
def QT_FREE : Nat := 0x20108
def RC_BASE_LO (p : Nat) : Nat := winBase p + 0x2100
def RC_BASE_HI (p : Nat) : Nat := winBase p + 0x2104
def RC_CFG (p : Nat) : Nat := winBase p + 0x2108
def RC_CMD (p : Nat) : Nat := winBase p + 0x210C
def RC_STAT (p : Nat) : Nat := winBase p + 0x2110
def RC_QUEUE (p : Nat) : Nat := winBase p + 0x2114
def RC_INFO (p : Nat) : Nat := winBase p + 0x2118
def RC_SQ_ACTIVE (p : Nat) (n : Nat) : Nat := winBase p + 0x2140 + 4 * n
def RC_CQ_ACTIVE (p : Nat) (n : Nat) : Nat := winBase p + 0x2160 + 4 * n
def SQ_TAIL (p : Nat) (n : Nat) : Nat := winBase p + 0x1100 + 4 * n
def CQ_HEAD (p : Nat) (n : Nat) : Nat := winBase p + 0x1800 + 4 * n
def HS_CFG (n : Nat) : Nat := 0x40100 + 4 * n
def HS_DRIFT : Nat := 0x40118
def HS_STAT : Nat := 0x4011C
def HS_PLAN : Nat := 0x40120
def HS_MEAS (n : Nat) : Nat := 0x40140 + 4 * n
def HS_STAMP_LO : Nat := 0x40160
def HS_STAMP_HI : Nat := 0x40164
def LF_CARRIER : Nat := 0x41100
def LF_MODE : Nat := 0x41104
def LF_BURST : Nat := 0x41108
def LF_ZONE : Nat := 0x4110C
def LF_CH (n : Nat) : Nat := 0x41140 + 4 * n
def LF_DIAG (n : Nat) : Nat := 0x41160 + 4 * n
def LF_STAT : Nat := 0x41180
def UHF_FREQ : Nat := 0x42100
def UHF_MOD : Nat := 0x42104
def UHF_SYNC : Nat := 0x42108
def UHF_SLOT : Nat := 0x4210C
def UHF_SLOTRES : Nat := 0x42140
def UHF_RSSI : Nat := 0x42144
def UHF_CNT0 : Nat := 0x42148
def UHF_CNT1 : Nat := 0x4214C
def BC_CFG : Nat := 0x43100
def BC_STAT : Nat := 0x43104
def AS_FE_STAT (p : Nat) : Nat := winBase p + 0x7100
def UWB_PHY : Nat := 0x50100
def UWB_TIMING : Nat := 0x50104
def UWB_KEYWIN : Nat := 0x50108
def UWB_PLAN : Nat := 0x5010C
def UWB_POLICY : Nat := 0x50110
def UWB_LIMIT : Nat := 0x50114
def UWB_DETECT : Nat := 0x50118
def UWB_CAL (n : Nat) : Nat := 0x50140 + 4 * n
def RNG_LAST : Nat := 0x51100
def RNG_DIST : Nat := 0x51104
def RNG_COMP0 : Nat := 0x51108
def RNG_COMP1 : Nat := 0x5110C
def RNG_RSSI : Nat := 0x51110
def RNG_STAMP_LO : Nat := 0x51114
def RNG_STAMP_HI : Nat := 0x51118
def RNG_PORT : Nat := 0x5111C
def AC_STAT : Nat := 0x60100
def AC_LAST : Nat := 0x60104
def AC_SEQ : Nat := 0x60108
def IM_STAT : Nat := 0x61100
def IM_CNT_LO : Nat := 0x61104
def IM_CNT_HI : Nat := 0x61108
def LANE_CFG (n : Nat) : Nat := 0x30100 + 4 * n
def LANE_STAT (n : Nat) : Nat := 0x30140 + 4 * n
def FE_OK_LO : Nat := 0x31100
def FE_OK_HI : Nat := 0x31104
def FE_STAT : Nat := 0x31108
def FE_FAIL (n : Nat) : Nat := 0x31140 + 4 * n
def SPILL_BASE_LO : Nat := 0x21100
def SPILL_BASE_HI : Nat := 0x21104
def SPILL_SLOTS : Nat := 0x21108
def SPILL_USED : Nat := 0x2110C
def SPILL_RETIRED : Nat := 0x21110
def SPILL_CACHE : Nat := 0x21114
def SPILL_CNT0 : Nat := 0x21118
def SPILL_CNT1 : Nat := 0x2111C
def SPILL_CNT2 : Nat := 0x21120
def HM_AVAIL : Nat := 0x70100
def HM_PROB : Nat := 0x70104
def HM_QDEPTH : Nat := 0x70108
def HM_CNT_PREEMPT : Nat := 0x7010C
def HM_CNT_MISMATCH : Nat := 0x70110
def HM_CNT_AUTHFAIL : Nat := 0x70114
def HM_CNT_EXHAUSTED : Nat := 0x70118
def HM_CTL : Nat := 0x70120
def DG_STAT : Nat := 0x70124
def HM_WAITMAX (n : Nat) : Nat := 0x70140 + 4 * n
def EN_SVC_N : Nat := 0x80100
def EN_SVC_S : Nat := 0x80104
def EN_PROB_N : Nat := 0x80108
def EN_PROB_S : Nat := 0x8010C
def EN_SPARES : Nat := 0x80110
def EN_FW : Nat := 0x80114
def EN_STAGE : Nat := 0x80118
def EN_APPLETS : Nat := 0x8011C
def EN_CNT_FAULT : Nat := 0x80120
def EN_CNT_MOVE : Nat := 0x80124
def EN_MAP (n : Nat) : Nat := 0x80140 + 4 * n
def CR_STAT : Nat := 0x90100
def CR_SLOTS : Nat := 0x90104
def CR_SVN : Nat := 0x90108
def CR_CNT : Nat := 0x9010C
def CR_MEAS (n : Nat) : Nat := 0x90140 + 4 * n
def CR_SIGNER (n : Nat) : Nat := 0x90180 + 4 * n
def AV_AVAIL : Nat := 0xA0100
def AV_QDEPTH : Nat := 0xA0104
def AV_CNT_OPS : Nat := 0xA0108
def AV_CNT_CHECK : Nat := 0xA010C
def AV_SIGNERS : Nat := 0xA0110
def WH_CTL : Nat := 0xB0100
def WH_STAT (n : Nat) : Nat := 0xB0104 + 4 * n
def BW_STAT (n : Nat) : Nat := 0xB010C + 4 * n
def WH_CNT : Nat := 0xB0114
def WH_RAW : Nat := 0xB0118
def WH_RAWSTAT : Nat := 0xB011C
def EE_STAT : Nat := 0xC0100
def EE_SAN : Nat := 0xC0104
def EE_ECC : Nat := 0xC0108
def EE_REFRESH : Nat := 0xC010C
def EE_SPARES : Nat := 0xC0110
def EE_PATROL : Nat := 0xC0114
def EE_CREDFAIL : Nat := 0xC0118
def EE_RGN (n : Nat) : Nat := 0xC0140 + 4 * n
def HW_ROLE : Nat := 0xD0100
def HW_EPOCH_LO : Nat := 0xD0104
def HW_EPOCH_HI : Nat := 0xD0108
def HW_LEASE : Nat := 0xD010C
def HW_PATHS : Nat := 0xD0110
def HW_CNT_MISMATCH : Nat := 0xD0114
def HW_CNT_STALE : Nat := 0xD0118
def HW_CNT_FAILOVER : Nat := 0xD011C
def HW_WEIR_WAITN : Nat := 0xD0120
def HW_WEIR_WAITS : Nat := 0xD0124
def HW_CTL : Nat := 0xD0128
def HW_INPUT : Nat := 0xD012C
def HW_FENCE_TIME_LO : Nat := 0xD0130
def HW_FENCE_TIME_HI : Nat := 0xD0134
def PW_REQ : Nat := 0xE0100
def PW_CFG : Nat := 0xE0104
def PW_MISC : Nat := 0xE0108
def PW_STAT : Nat := 0xE010C
def PW_WAKE (n : Nat) : Nat := 0xE0140 + 4 * n
def PW_WAKE_STAT : Nat := 0xE0160
def PW_WAKE_TIME_LO : Nat := 0xE0164
def PW_WAKE_TIME_HI : Nat := 0xE0168
def PW_ALARM_LO : Nat := 0xE0170
def PW_ALARM_HI : Nat := 0xE0174
def PW_CAP : Nat := 0xE0180
def PW_POWER : Nat := 0xE0184
def PW_CNT : Nat := 0xE0188
def PW_CTL : Nat := 0xE018C
def RV_CONV : Nat := 0xE1100
def RV_WELCOME : Nat := 0xE1104
def RV_SCAN : Nat := 0xE1108
def RV_BUDGET : Nat := 0xE110C
def RV_STAT : Nat := 0xE1110
def RV_STORE : Nat := 0xE1114
def RV_FCAST : Nat := 0xE1118
def RV_PLAN : Nat := 0xE111C
def RV_BASE : Nat := 0xE1120
def RV_DEMAND : Nat := 0xE1124
def RV_SPENT_LO : Nat := 0xE1128
def RV_SPENT_HI : Nat := 0xE112C
def RV_STEPS : Nat := 0xE1130
def RVV_STAT (p : Nat) : Nat := winBase p + 0x6100
def RVV_PLAN (p : Nat) : Nat := winBase p + 0x6104
def TP_STAT : Nat := 0xF0100
def TP_RAISE : Nat := 0xF0104
def TP_CFG : Nat := 0xF0108
def TP_RELEASE : Nat := 0xF010C
def TP_LIFE : Nat := 0xF0110
def TP_LOG_SEL : Nat := 0xF0114
def TP_LOG_HEAD : Nat := 0xF0118
def TP_LOGD (n : Nat) : Nat := 0xF0120 + 4 * n
def TP_CNT (n : Nat) : Nat := 0xF0140 + 4 * n
def LC_STAT : Nat := 0x1100
def DBG_STAT : Nat := 0x1104
def DBG_CNT : Nat := 0x1108
def CD_CFG : Nat := 0x100100
def CD_STAT : Nat := 0x100104
def CD_CNT : Nat := 0x100108
def CAN_CFG (n : Nat) : Nat := 0x62100 + 4 * n
def CAN_NBT (n : Nat) : Nat := 0x62108 + 8 * n
def CAN_DBT (n : Nat) : Nat := 0x6210C + 8 * n
def CAN_STAT (n : Nat) : Nat := 0x62118 + 4 * n
def PM_PAGEMAP : Nat := 0x101100
def PM_STAT : Nat := 0x101104
def GPIO_CFG (n : Nat) : Nat := 0x102100 + 4 * n
def GPIO_OUT : Nat := 0x102140
def GPIO_IN : Nat := 0x102144
def TM_TEMP : Nat := 0x110180
def TM_UTIL : Nat := 0x110184
def TM_LAT_MAX : Nat := 0x110188
def TM_CTL : Nat := 0x11018C
def RNG_CNT0 : Nat := 0x51140
def RNG_CNT1 : Nat := 0x51144
def RNG_CNT2 : Nat := 0x51148
def RNG_CNT3 : Nat := 0x5114C
def AC_CNT0 : Nat := 0x60140
def AC_CNT1 : Nat := 0x60144
def AC_CNT2 : Nat := 0x60148
def LANE_CNTA (n : Nat) : Nat := 0x30180 + 8 * n
def LANE_CNTB (n : Nat) : Nat := 0x30184 + 8 * n
def AS_RNG_STAT (p : Nat) : Nat := winBase p + 0x7180
def AS_AC_LAST (p : Nat) : Nat := winBase p + 0x7200
def AS_IM_STAT (p : Nat) : Nat := winBase p + 0x7204

end Reg

namespace Fd

def AVS_CTL_VMAX_MV : Fld := ⟨Reg.AVS_CTL, 25, 16⟩
def AVS_CTL_AVS_EN : Fld := ⟨Reg.AVS_CTL, 0, 0⟩
def PACE_STAT_CAPPED : Fld := ⟨Reg.PACE_STAT, 31, 31⟩
def PACE_STAT_VCORE_MV : Fld := ⟨Reg.PACE_STAT, 25, 16⟩
def PACE_STAT_PACE_MIN : Fld := ⟨Reg.PACE_STAT, 15, 0⟩
def PACE_M_PACE (n : Nat) : Fld := ⟨Reg.PACE_M n, 15, 0⟩
def PAD_SLEW_SIDEBAND : Fld := ⟨Reg.PAD_SLEW, 11, 10⟩
def PAD_SLEW_TAP : Fld := ⟨Reg.PAD_SLEW, 9, 8⟩
def PAD_SLEW_PMIC : Fld := ⟨Reg.PAD_SLEW, 7, 6⟩
def PAD_SLEW_GPIO : Fld := ⟨Reg.PAD_SLEW, 5, 4⟩
def PAD_SLEW_CARD : Fld := ⟨Reg.PAD_SLEW, 3, 2⟩
def PAD_SLEW_CAN : Fld := ⟨Reg.PAD_SLEW, 1, 0⟩
def PAD_FILT_GPIO_IN : Fld := ⟨Reg.PAD_FILT, 7, 6⟩
def PAD_FILT_ALERT : Fld := ⟨Reg.PAD_FILT, 5, 4⟩
def PAD_FILT_CARD_DET : Fld := ⟨Reg.PAD_FILT, 3, 2⟩
def PAD_FILT_PERST : Fld := ⟨Reg.PAD_FILT, 1, 0⟩
def SSC_CTL_HS_SSC : Fld := ⟨Reg.SSC_CTL, 3, 2⟩
def SSC_CTL_CARD_SSC : Fld := ⟨Reg.SSC_CTL, 1, 0⟩
def STRAP_STAT_TEST_EN : Fld := ⟨Reg.STRAP_STAT, 3, 3⟩
def STRAP_STAT_PMIC_ASEL : Fld := ⟨Reg.STRAP_STAT, 2, 2⟩
def STRAP_STAT_USX_SEL : Fld := ⟨Reg.STRAP_STAT, 1, 1⟩
def STRAP_STAT_COMPAT_SEL : Fld := ⟨Reg.STRAP_STAT, 0, 0⟩
def CLKMON_STAT_REF38_PPM : Fld := ⟨Reg.CLKMON_STAT, 31, 16⟩
def CLKMON_STAT_LANE_LOSS : Fld := ⟨Reg.CLKMON_STAT, 11, 11⟩
def CLKMON_STAT_PCIE_LOSS : Fld := ⟨Reg.CLKMON_STAT, 10, 10⟩
def CLKMON_STAT_XTAL_LOSS : Fld := ⟨Reg.CLKMON_STAT, 9, 9⟩
def CLKMON_STAT_REF38_LOSS : Fld := ⟨Reg.CLKMON_STAT, 8, 8⟩
def CLKMON_STAT_LANE_OK : Fld := ⟨Reg.CLKMON_STAT, 3, 3⟩
def CLKMON_STAT_PCIE_OK : Fld := ⟨Reg.CLKMON_STAT, 2, 2⟩
def CLKMON_STAT_XTAL_OK : Fld := ⟨Reg.CLKMON_STAT, 1, 1⟩
def CLKMON_STAT_REF38_OK : Fld := ⟨Reg.CLKMON_STAT, 0, 0⟩
def HOLD_STAT_BOD_SEEN : Fld := ⟨Reg.HOLD_STAT, 18, 18⟩
def HOLD_STAT_CAP_LOW : Fld := ⟨Reg.HOLD_STAT, 17, 17⟩
def HOLD_STAT_HOLD_OK : Fld := ⟨Reg.HOLD_STAT, 16, 16⟩
def HOLD_STAT_HOLD_CAP_UF : Fld := ⟨Reg.HOLD_STAT, 9, 0⟩
def BOOT_STAT_READY : Fld := ⟨Reg.BOOT_STAT, 31, 31⟩
def BOOT_STAT_FAILED : Fld := ⟨Reg.BOOT_STAT, 30, 30⟩
def BOOT_STAT_HALVES : Fld := ⟨Reg.BOOT_STAT, 29, 28⟩
def BOOT_STAT_STEP : Fld := ⟨Reg.BOOT_STAT, 27, 24⟩
def BOOT_STAT_FAIL_CODE : Fld := ⟨Reg.BOOT_STAT, 23, 16⟩
def BOOT_STAT_RECOVERED : Fld := ⟨Reg.BOOT_STAT, 1, 1⟩
def BOOT_STAT_SANITIZE_DONE : Fld := ⟨Reg.BOOT_STAT, 0, 0⟩
def BOOT_TIME_BOOT_US : Fld := ⟨Reg.BOOT_TIME, 31, 0⟩
def RESET_CAUSE_HALF_S : Fld := ⟨Reg.RESET_CAUSE, 9, 9⟩
def RESET_CAUSE_HALF_N : Fld := ⟨Reg.RESET_CAUSE, 8, 8⟩
def RESET_CAUSE_LINK : Fld := ⟨Reg.RESET_CAUSE, 7, 7⟩
def RESET_CAUSE_PERST : Fld := ⟨Reg.RESET_CAUSE, 6, 6⟩
def RESET_CAUSE_LIFECYCLE : Fld := ⟨Reg.RESET_CAUSE, 5, 5⟩
def RESET_CAUSE_TAMPER : Fld := ⟨Reg.RESET_CAUSE, 4, 4⟩
def RESET_CAUSE_WARM_REQ : Fld := ⟨Reg.RESET_CAUSE, 3, 3⟩
def RESET_CAUSE_BROWNOUT : Fld := ⟨Reg.RESET_CAUSE, 2, 2⟩
def RESET_CAUSE_VAON_LOW : Fld := ⟨Reg.RESET_CAUSE, 1, 1⟩
def RESET_CAUSE_PORST : Fld := ⟨Reg.RESET_CAUSE, 0, 0⟩
def DEV_RESET_KEY : Fld := ⟨Reg.DEV_RESET, 31, 16⟩
def DEV_RESET_WARM : Fld := ⟨Reg.DEV_RESET, 0, 0⟩
def PG_ID_WINDOW (pg : Nat) : Fld := ⟨Reg.PG_ID pg, 31, 24⟩
def PG_ID_RANGE (pg : Nat) : Fld := ⟨Reg.PG_ID pg, 23, 16⟩
def PG_ID_PAGE (pg : Nat) : Fld := ⟨Reg.PG_ID pg, 15, 8⟩
def PG_ID_PART (pg : Nat) : Fld := ⟨Reg.PG_ID pg, 7, 0⟩
def PG_VER_MAJOR (pg : Nat) : Fld := ⟨Reg.PG_VER pg, 31, 16⟩
def PG_VER_MINOR (pg : Nat) : Fld := ⟨Reg.PG_VER pg, 15, 0⟩
def PG_CAP_INT (pg : Nat) : Fld := ⟨Reg.PG_CAP pg, 31, 31⟩
def PG_CAP_LOCK (pg : Nat) : Fld := ⟨Reg.PG_CAP pg, 30, 30⟩
def PG_CAP_OWN (pg : Nat) : Fld := ⟨Reg.PG_CAP pg, 29, 29⟩
def PG_CAP_BLOCK_CAP (pg : Nat) : Fld := ⟨Reg.PG_CAP pg, 15, 0⟩
def PG_STAT_FENCED (pg : Nat) : Fld := ⟨Reg.PG_STAT pg, 5, 5⟩
def PG_STAT_OWNED (pg : Nat) : Fld := ⟨Reg.PG_STAT pg, 4, 4⟩
def PG_STAT_LOCKED (pg : Nat) : Fld := ⟨Reg.PG_STAT pg, 3, 3⟩
def PG_STAT_FAULT (pg : Nat) : Fld := ⟨Reg.PG_STAT pg, 2, 2⟩
def PG_STAT_BUSY (pg : Nat) : Fld := ⟨Reg.PG_STAT pg, 1, 1⟩
def PG_STAT_READY (pg : Nat) : Fld := ⟨Reg.PG_STAT pg, 0, 0⟩
def PG_CTL_RESET_REQ (pg : Nat) : Fld := ⟨Reg.PG_CTL pg, 2, 2⟩
def PG_CTL_QUIESCE (pg : Nat) : Fld := ⟨Reg.PG_CTL pg, 1, 1⟩
def PG_CTL_ENABLE (pg : Nat) : Fld := ⟨Reg.PG_CTL pg, 0, 0⟩
def PG_OWNER_VALID (pg : Nat) : Fld := ⟨Reg.PG_OWNER pg, 31, 31⟩
def PG_OWNER_PART (pg : Nat) : Fld := ⟨Reg.PG_OWNER pg, 5, 0⟩
def INT_RAW_RAW (pg : Nat) : Fld := ⟨Reg.INT_RAW pg, 31, 0⟩
def INT_EN_EN (pg : Nat) : Fld := ⟨Reg.INT_EN pg, 31, 0⟩
def INT_STAT_STAT (pg : Nat) : Fld := ⟨Reg.INT_STAT pg, 31, 0⟩
def INT_FORCE_FORCE (pg : Nat) : Fld := ⟨Reg.INT_FORCE pg, 31, 0⟩
def INT_VEC_EVT (pg : Nat) : Fld := ⟨Reg.INT_VEC pg, 31, 31⟩
def INT_VEC_VEC (pg : Nat) : Fld := ⟨Reg.INT_VEC pg, 4, 0⟩
def ERR_CAP0_VALID (pg : Nat) : Fld := ⟨Reg.ERR_CAP0 pg, 31, 31⟩
def ERR_CAP0_MORE (pg : Nat) : Fld := ⟨Reg.ERR_CAP0 pg, 30, 30⟩
def ERR_CAP0_SRC (pg : Nat) : Fld := ⟨Reg.ERR_CAP0 pg, 29, 24⟩
def ERR_CAP0_CAUSE (pg : Nat) : Fld := ⟨Reg.ERR_CAP0 pg, 23, 16⟩
def ERR_CAP0_OFFSET (pg : Nat) : Fld := ⟨Reg.ERR_CAP0 pg, 11, 0⟩
def ERR_CAP1_DATA (pg : Nat) : Fld := ⟨Reg.ERR_CAP1 pg, 31, 0⟩
def ERR_CAP2_TIME_LO (pg : Nat) : Fld := ⟨Reg.ERR_CAP2 pg, 31, 0⟩
def ERR_CAP3_TIME_HI (pg : Nat) : Fld := ⟨Reg.ERR_CAP3 pg, 31, 0⟩
def PG_LOCK_LOCK (pg : Nat) : Fld := ⟨Reg.PG_LOCK pg, 0, 0⟩
def PH_INFO_EXISTS (p : Nat) : Fld := ⟨Reg.PH_INFO p, 15, 15⟩
def PH_INFO_ACCESS (p : Nat) : Fld := ⟨Reg.PH_INFO p, 14, 14⟩
def PH_INFO_COMPAT (p : Nat) : Fld := ⟨Reg.PH_INFO p, 13, 13⟩
def PH_INFO_WORLD (p : Nat) : Fld := ⟨Reg.PH_INFO p, 12, 12⟩
def PH_INFO_PART (p : Nat) : Fld := ⟨Reg.PH_INFO p, 5, 0⟩
def PM_EXIST_EXISTS (n : Nat) : Fld := ⟨Reg.PM_EXIST n, 31, 0⟩
def PM_SECURE_SECURE (n : Nat) : Fld := ⟨Reg.PM_SECURE n, 31, 0⟩
def PM_COMPAT_COMPAT (n : Nat) : Fld := ⟨Reg.PM_COMPAT n, 31, 0⟩
def PM_ACCESS_VALID : Fld := ⟨Reg.PM_ACCESS, 31, 31⟩
def PM_ACCESS_PART : Fld := ⟨Reg.PM_ACCESS, 5, 0⟩
def EVR_BASE_LO_ADDR (p : Nat) : Fld := ⟨Reg.EVR_BASE_LO p, 31, 12⟩
def EVR_BASE_HI_ADDR (p : Nat) : Fld := ⟨Reg.EVR_BASE_HI p, 31, 0⟩
def EVR_CFG_ENABLE (p : Nat) : Fld := ⟨Reg.EVR_CFG p, 31, 31⟩
def EVR_CFG_VEC (p : Nat) : Fld := ⟨Reg.EVR_CFG p, 20, 16⟩
def EVR_CFG_SIZE_LOG2 (p : Nat) : Fld := ⟨Reg.EVR_CFG p, 3, 0⟩
def EVR_HEAD_HEAD (p : Nat) : Fld := ⟨Reg.EVR_HEAD p, 11, 0⟩
def EVR_TAIL_PHASE (p : Nat) : Fld := ⟨Reg.EVR_TAIL p, 31, 31⟩
def EVR_TAIL_TAIL (p : Nat) : Fld := ⟨Reg.EVR_TAIL p, 11, 0⟩
def EVR_STAT_LOST (p : Nat) : Fld := ⟨Reg.EVR_STAT p, 31, 16⟩
def EVR_STAT_HELD (p : Nat) : Fld := ⟨Reg.EVR_STAT p, 15, 8⟩
def EVR_STAT_BADCFG (p : Nat) : Fld := ⟨Reg.EVR_STAT p, 2, 2⟩
def EVR_STAT_NOQ (p : Nat) : Fld := ⟨Reg.EVR_STAT p, 1, 1⟩
def EVR_STAT_ACTIVE (p : Nat) : Fld := ⟨Reg.EVR_STAT p, 0, 0⟩
def QV_CFG_LANE_SHARE (p : Nat) : Fld := ⟨Reg.QV_CFG p, 31, 24⟩
def QV_CFG_ENGINE_SHARE (p : Nat) : Fld := ⟨Reg.QV_CFG p, 23, 16⟩
def QV_CFG_HAMMER_SHARE (p : Nat) : Fld := ⟨Reg.QV_CFG p, 15, 8⟩
def QV_CFG_CLASS (p : Nat) : Fld := ⟨Reg.QV_CFG p, 1, 0⟩
def QV_RING_QUOTA (p : Nat) : Fld := ⟨Reg.QV_RING p, 26, 16⟩
def QV_RING_USED (p : Nat) : Fld := ⟨Reg.QV_RING p, 10, 0⟩
def QV_FLOW_QUOTA_QUOTA (p : Nat) : Fld := ⟨Reg.QV_FLOW_QUOTA p, 18, 0⟩
def QV_FLOW_USED_USED (p : Nat) : Fld := ⟨Reg.QV_FLOW_USED p, 18, 0⟩
def QV_PSLOT_QUOTA (p : Nat) : Fld := ⟨Reg.QV_PSLOT p, 29, 16⟩
def QV_PSLOT_USED (p : Nat) : Fld := ⟨Reg.QV_PSLOT p, 13, 0⟩
def QV_VSLOT_QUOTA (p : Nat) : Fld := ⟨Reg.QV_VSLOT p, 31, 16⟩
def QV_VSLOT_USED (p : Nat) : Fld := ⟨Reg.QV_VSLOT p, 15, 0⟩
def PV_HOLD_HOLD (p : Nat) : Fld := ⟨Reg.PV_HOLD p, 4, 0⟩
def PV_GATE_GATE (p : Nat) : Fld := ⟨Reg.PV_GATE p, 4, 0⟩
def PV_DEFER_DEFER (p : Nat) : Fld := ⟨Reg.PV_DEFER p, 4, 0⟩
def PV_STATE_SECURE_HELD (p : Nat) : Fld := ⟨Reg.PV_STATE p, 12, 8⟩
def PV_STATE_GATED (p : Nat) : Fld := ⟨Reg.PV_STATE p, 4, 0⟩
def QT_RINGS_LENT : Fld := ⟨Reg.QT_RINGS, 26, 16⟩
def QT_RINGS_RINGS : Fld := ⟨Reg.QT_RINGS, 10, 0⟩
def QT_FLOWS_FLOWS : Fld := ⟨Reg.QT_FLOWS, 18, 0⟩
def QT_FREE_FREE : Fld := ⟨Reg.QT_FREE, 18, 0⟩
def RC_BASE_LO_ADDR (p : Nat) : Fld := ⟨Reg.RC_BASE_LO p, 31, 12⟩
def RC_BASE_HI_ADDR (p : Nat) : Fld := ⟨Reg.RC_BASE_HI p, 31, 0⟩
def RC_CFG_TYPE (p : Nat) : Fld := ⟨Reg.RC_CFG p, 31, 31⟩
def RC_CFG_SIZE_LOG2 (p : Nat) : Fld := ⟨Reg.RC_CFG p, 27, 24⟩
def RC_CFG_ID (p : Nat) : Fld := ⟨Reg.RC_CFG p, 23, 16⟩
def RC_CFG_CQ_ID (p : Nat) : Fld := ⟨Reg.RC_CFG p, 15, 8⟩
def RC_CFG_VEC (p : Nat) : Fld := ⟨Reg.RC_CFG p, 4, 0⟩
def RC_CMD_OP (p : Nat) : Fld := ⟨Reg.RC_CMD p, 1, 0⟩
def RC_STAT_BUSY (p : Nat) : Fld := ⟨Reg.RC_STAT p, 31, 31⟩
def RC_STAT_RESULT (p : Nat) : Fld := ⟨Reg.RC_STAT p, 15, 0⟩
def RC_QUEUE_QUEUE (p : Nat) : Fld := ⟨Reg.RC_QUEUE p, 17, 0⟩
def RC_INFO_ACTIVE (p : Nat) : Fld := ⟨Reg.RC_INFO p, 31, 31⟩
def RC_INFO_STOPPED (p : Nat) : Fld := ⟨Reg.RC_INFO p, 30, 30⟩
def RC_INFO_INFLIGHT (p : Nat) : Fld := ⟨Reg.RC_INFO p, 18, 12⟩
def RC_INFO_HEAD (p : Nat) : Fld := ⟨Reg.RC_INFO p, 11, 0⟩
def RC_SQ_ACTIVE_ACTIVE (p : Nat) (n : Nat) : Fld := ⟨Reg.RC_SQ_ACTIVE p n, 31, 0⟩
def RC_CQ_ACTIVE_ACTIVE (p : Nat) (n : Nat) : Fld := ⟨Reg.RC_CQ_ACTIVE p n, 31, 0⟩
def SQ_TAIL_TAIL (p : Nat) (n : Nat) : Fld := ⟨Reg.SQ_TAIL p n, 11, 0⟩
def CQ_HEAD_HEAD (p : Nat) (n : Nat) : Fld := ⟨Reg.CQ_HEAD p n, 11, 0⟩
def HS_CFG_EN (n : Nat) : Fld := ⟨Reg.HS_CFG n, 31, 31⟩
def HS_CFG_WAKE_EN (n : Nat) : Fld := ⟨Reg.HS_CFG n, 30, 30⟩
def HS_CFG_DEB (n : Nat) : Fld := ⟨Reg.HS_CFG n, 27, 24⟩
def HS_CFG_REL_TH (n : Nat) : Fld := ⟨Reg.HS_CFG n, 23, 12⟩
def HS_CFG_TOUCH_TH (n : Nat) : Fld := ⟨Reg.HS_CFG n, 11, 0⟩
def HS_DRIFT_DRIFT_SHIFT : Fld := ⟨Reg.HS_DRIFT, 23, 20⟩
def HS_DRIFT_DRIFT_BAND : Fld := ⟨Reg.HS_DRIFT, 19, 8⟩
def HS_DRIFT_STUCK_S : Fld := ⟨Reg.HS_DRIFT, 7, 0⟩
def HS_STAT_FAULT : Fld := ⟨Reg.HS_STAT, 29, 24⟩
def HS_STAT_STUCK : Fld := ⟨Reg.HS_STAT, 21, 16⟩
def HS_STAT_LAST_CH : Fld := ⟨Reg.HS_STAT, 10, 8⟩
def HS_STAT_TOUCHED : Fld := ⟨Reg.HS_STAT, 5, 0⟩
def HS_PLAN_SCANNED : Fld := ⟨Reg.HS_PLAN, 29, 24⟩
def HS_PLAN_PERIOD : Fld := ⟨Reg.HS_PLAN, 16, 0⟩
def HS_MEAS_BASE (n : Nat) : Fld := ⟨Reg.HS_MEAS n, 31, 16⟩
def HS_MEAS_COUNT (n : Nat) : Fld := ⟨Reg.HS_MEAS n, 15, 0⟩
def HS_STAMP_LO_STAMP : Fld := ⟨Reg.HS_STAMP_LO, 31, 0⟩
def HS_STAMP_HI_STAMP : Fld := ⟨Reg.HS_STAMP_HI, 31, 0⟩
def LF_CARRIER_FREQ_HZ : Fld := ⟨Reg.LF_CARRIER, 17, 0⟩
def LF_MODE_WUP : Fld := ⟨Reg.LF_MODE, 31, 16⟩
def LF_MODE_RATE : Fld := ⟨Reg.LF_MODE, 9, 8⟩
def LF_MODE_PRE : Fld := ⟨Reg.LF_MODE, 7, 0⟩
def LF_BURST_LF_DIAG_INT : Fld := ⟨Reg.LF_BURST, 23, 16⟩
def LF_BURST_BURST_US : Fld := ⟨Reg.LF_BURST, 11, 0⟩
def LF_ZONE_MARGIN : Fld := ⟨Reg.LF_ZONE, 15, 8⟩
def LF_ZONE_MIN : Fld := ⟨Reg.LF_ZONE, 7, 0⟩
def LF_CH_EN (n : Nat) : Fld := ⟨Reg.LF_CH n, 31, 31⟩
def LF_CH_BCAST (n : Nat) : Fld := ⟨Reg.LF_CH n, 30, 30⟩
def LF_CH_BURST (n : Nat) : Fld := ⟨Reg.LF_CH n, 29, 29⟩
def LF_CH_ZONE (n : Nat) : Fld := ⟨Reg.LF_CH n, 26, 24⟩
def LF_CH_I_MA (n : Nat) : Fld := ⟨Reg.LF_CH n, 9, 0⟩
def LF_DIAG_STATE (n : Nat) : Fld := ⟨Reg.LF_DIAG n, 31, 28⟩
def LF_DIAG_RES_HZ (n : Nat) : Fld := ⟨Reg.LF_DIAG n, 17, 0⟩
def LF_STAT_VLF_LOW : Fld := ⟨Reg.LF_STAT, 31, 31⟩
def LF_STAT_EXCLUDED : Fld := ⟨Reg.LF_STAT, 23, 16⟩
def LF_STAT_LIMITED : Fld := ⟨Reg.LF_STAT, 15, 8⟩
def UHF_FREQ_FREQ_KHZ : Fld := ⟨Reg.UHF_FREQ, 19, 0⟩
def UHF_MOD_CS_TH : Fld := ⟨Reg.UHF_MOD, 31, 24⟩
def UHF_MOD_SYNC_ERR : Fld := ⟨Reg.UHF_MOD, 21, 20⟩
def UHF_MOD_DIV : Fld := ⟨Reg.UHF_MOD, 17, 16⟩
def UHF_MOD_DEV_KHZ : Fld := ⟨Reg.UHF_MOD, 15, 8⟩
def UHF_MOD_RATE : Fld := ⟨Reg.UHF_MOD, 5, 4⟩
def UHF_MOD_MOD : Fld := ⟨Reg.UHF_MOD, 1, 0⟩
def UHF_SYNC_SYNC : Fld := ⟨Reg.UHF_SYNC, 15, 0⟩
def UHF_SLOT_DELAY_100US : Fld := ⟨Reg.UHF_SLOT, 31, 24⟩
def UHF_SLOT_REPOLL : Fld := ⟨Reg.UHF_SLOT, 21, 20⟩
def UHF_SLOT_SLOTS : Fld := ⟨Reg.UHF_SLOT, 19, 16⟩
def UHF_SLOT_SLOT_US : Fld := ⟨Reg.UHF_SLOT, 15, 0⟩
def UHF_SLOTRES_OUTCOME : Fld := ⟨Reg.UHF_SLOTRES, 31, 0⟩
def UHF_RSSI_INPUT : Fld := ⟨Reg.UHF_RSSI, 16, 16⟩
def UHF_RSSI_RSSI_IN1 : Fld := ⟨Reg.UHF_RSSI, 15, 8⟩
def UHF_RSSI_RSSI_IN0 : Fld := ⟨Reg.UHF_RSSI, 7, 0⟩
def UHF_CNT0_FAILED : Fld := ⟨Reg.UHF_CNT0, 31, 16⟩
def UHF_CNT0_PASSED : Fld := ⟨Reg.UHF_CNT0, 15, 0⟩
def UHF_CNT1_CORRUPT : Fld := ⟨Reg.UHF_CNT1, 31, 16⟩
def UHF_CNT1_HYP_DROP : Fld := ⟨Reg.UHF_CNT1, 15, 0⟩
def BC_CFG_EN : Fld := ⟨Reg.BC_CFG, 31, 31⟩
def BC_CFG_I_MA : Fld := ⟨Reg.BC_CFG, 25, 16⟩
def BC_CFG_POWERUP_MS : Fld := ⟨Reg.BC_CFG, 7, 0⟩
def BC_STAT_STATE : Fld := ⟨Reg.BC_STAT, 2, 0⟩
def AS_FE_STAT_VLF_LOW (p : Nat) : Fld := ⟨Reg.AS_FE_STAT p, 31, 31⟩
def AS_FE_STAT_BC_STATE (p : Nat) : Fld := ⟨Reg.AS_FE_STAT p, 26, 24⟩
def AS_FE_STAT_EXCLUDED (p : Nat) : Fld := ⟨Reg.AS_FE_STAT p, 23, 16⟩
def AS_FE_STAT_FAULT (p : Nat) : Fld := ⟨Reg.AS_FE_STAT p, 13, 8⟩
def AS_FE_STAT_TOUCHED (p : Nat) : Fld := ⟨Reg.AS_FE_STAT p, 5, 0⟩
def UWB_PHY_TX_LEVEL : Fld := ⟨Reg.UWB_PHY, 31, 24⟩
def UWB_PHY_STS_LEN : Fld := ⟨Reg.UWB_PHY, 17, 16⟩
def UWB_PHY_PSR : Fld := ⟨Reg.UWB_PHY, 13, 12⟩
def UWB_PHY_PCODE : Fld := ⟨Reg.UWB_PHY, 11, 8⟩
def UWB_PHY_CHAN : Fld := ⟨Reg.UWB_PHY, 0, 0⟩
def UWB_TIMING_REPLY_US : Fld := ⟨Reg.UWB_TIMING, 31, 16⟩
def UWB_TIMING_GUARD_US : Fld := ⟨Reg.UWB_TIMING, 7, 0⟩
def UWB_KEYWIN_REPLY_MAX_US : Fld := ⟨Reg.UWB_KEYWIN, 31, 16⟩
def UWB_KEYWIN_REPLY_MIN_US : Fld := ⟨Reg.UWB_KEYWIN, 15, 0⟩
def UWB_PLAN_ROUNDS_M1 : Fld := ⟨Reg.UWB_PLAN, 25, 24⟩
def UWB_PLAN_PORTS : Fld := ⟨Reg.UWB_PLAN, 15, 0⟩
def UWB_POLICY_MIN_SCORE : Fld := ⟨Reg.UWB_POLICY, 31, 24⟩
def UWB_POLICY_PPM_MAX : Fld := ⟨Reg.UWB_POLICY, 23, 16⟩
def UWB_POLICY_MARGIN_CM : Fld := ⟨Reg.UWB_POLICY, 15, 8⟩
def UWB_POLICY_NEG_LIMIT_CM : Fld := ⟨Reg.UWB_POLICY, 7, 0⟩
def UWB_LIMIT_D_LIMIT_CM : Fld := ⟨Reg.UWB_LIMIT, 15, 0⟩
def UWB_DETECT_NTM : Fld := ⟨Reg.UWB_DETECT, 15, 8⟩
def UWB_DETECT_PMULT : Fld := ⟨Reg.UWB_DETECT, 7, 0⟩
def UWB_CAL_RX_DELAY (n : Nat) : Fld := ⟨Reg.UWB_CAL n, 31, 16⟩
def UWB_CAL_TX_DELAY (n : Nat) : Fld := ⟨Reg.UWB_CAL n, 15, 0⟩
def RNG_LAST_OUTCOME : Fld := ⟨Reg.RNG_LAST, 31, 28⟩
def RNG_LAST_TX_PORT : Fld := ⟨Reg.RNG_LAST, 27, 26⟩
def RNG_LAST_RX_PORT : Fld := ⟨Reg.RNG_LAST, 25, 24⟩
def RNG_LAST_ROUND : Fld := ⟨Reg.RNG_LAST, 23, 22⟩
def RNG_LAST_SCORE : Fld := ⟨Reg.RNG_LAST, 15, 8⟩
def RNG_LAST_FOB : Fld := ⟨Reg.RNG_LAST, 7, 4⟩
def RNG_DIST_BOUND_CM : Fld := ⟨Reg.RNG_DIST, 31, 16⟩
def RNG_DIST_DIST_CM : Fld := ⟨Reg.RNG_DIST, 15, 0⟩
def RNG_COMP0_C4 : Fld := ⟨Reg.RNG_COMP0, 31, 24⟩
def RNG_COMP0_C3 : Fld := ⟨Reg.RNG_COMP0, 23, 16⟩
def RNG_COMP0_C2 : Fld := ⟨Reg.RNG_COMP0, 15, 8⟩
def RNG_COMP0_C1 : Fld := ⟨Reg.RNG_COMP0, 7, 0⟩
def RNG_COMP1_PPM : Fld := ⟨Reg.RNG_COMP1, 31, 16⟩
def RNG_COMP1_KEY_SCORE : Fld := ⟨Reg.RNG_COMP1, 15, 8⟩
def RNG_COMP1_C5 : Fld := ⟨Reg.RNG_COMP1, 7, 0⟩
def RNG_RSSI_FP_POWER : Fld := ⟨Reg.RNG_RSSI, 15, 8⟩
def RNG_RSSI_RX_POWER : Fld := ⟨Reg.RNG_RSSI, 7, 0⟩
def RNG_STAMP_LO_STAMP : Fld := ⟨Reg.RNG_STAMP_LO, 31, 0⟩
def RNG_STAMP_HI_STAMP : Fld := ⟨Reg.RNG_STAMP_HI, 31, 0⟩
def RNG_PORT_FAULT : Fld := ⟨Reg.RNG_PORT, 3, 0⟩
def AC_STAT_SESSION : Fld := ⟨Reg.AC_STAT, 31, 31⟩
def AC_STAT_POLICY : Fld := ⟨Reg.AC_STAT, 30, 30⟩
def AC_STAT_LEVEL : Fld := ⟨Reg.AC_STAT, 26, 24⟩
def AC_STAT_SOURCE : Fld := ⟨Reg.AC_STAT, 22, 20⟩
def AC_STAT_QUEUED : Fld := ⟨Reg.AC_STAT, 19, 16⟩
def AC_STAT_PAIRED : Fld := ⟨Reg.AC_STAT, 15, 0⟩
def AC_LAST_TARGET : Fld := ⟨Reg.AC_LAST, 31, 24⟩
def AC_LAST_REASON : Fld := ⟨Reg.AC_LAST, 23, 16⟩
def AC_LAST_FOB : Fld := ⟨Reg.AC_LAST, 15, 11⟩
def AC_LAST_ZONE : Fld := ⟨Reg.AC_LAST, 7, 0⟩
def AC_SEQ_SEQ : Fld := ⟨Reg.AC_SEQ, 31, 0⟩
def IM_STAT_STREAMING : Fld := ⟨Reg.IM_STAT, 31, 31⟩
def IM_STAT_V1 : Fld := ⟨Reg.IM_STAT, 30, 30⟩
def IM_STAT_CONFIGURED : Fld := ⟨Reg.IM_STAT, 29, 29⟩
def IM_STAT_EXHAUSTED : Fld := ⟨Reg.IM_STAT, 28, 28⟩
def IM_STAT_REMAIN : Fld := ⟨Reg.IM_STAT, 15, 0⟩
def IM_CNT_LO_COUNTER : Fld := ⟨Reg.IM_CNT_LO, 31, 0⟩
def IM_CNT_HI_COUNTER : Fld := ⟨Reg.IM_CNT_HI, 15, 0⟩
def LANE_CFG_EN (n : Nat) : Fld := ⟨Reg.LANE_CFG n, 31, 31⟩
def LANE_CFG_PAUSE_TX (n : Nat) : Fld := ⟨Reg.LANE_CFG n, 30, 30⟩
def LANE_CFG_PAUSE_RX (n : Nat) : Fld := ⟨Reg.LANE_CFG n, 29, 29⟩
def LANE_CFG_UNKNOWN (n : Nat) : Fld := ⟨Reg.LANE_CFG n, 28, 28⟩
def LANE_CFG_DIVERT (n : Nat) : Fld := ⟨Reg.LANE_CFG n, 26, 24⟩
def LANE_CFG_XOFF_4K (n : Nat) : Fld := ⟨Reg.LANE_CFG n, 23, 16⟩
def LANE_CFG_XON_4K (n : Nat) : Fld := ⟨Reg.LANE_CFG n, 15, 8⟩
def LANE_STAT_UP (n : Nat) : Fld := ⟨Reg.LANE_STAT n, 31, 31⟩
def LANE_STAT_USX (n : Nat) : Fld := ⟨Reg.LANE_STAT n, 30, 30⟩
def LANE_STAT_PAUSED (n : Nat) : Fld := ⟨Reg.LANE_STAT n, 29, 29⟩
def LANE_STAT_XOFF (n : Nat) : Fld := ⟨Reg.LANE_STAT n, 28, 28⟩
def LANE_STAT_MISMATCH (n : Nat) : Fld := ⟨Reg.LANE_STAT n, 27, 27⟩
def LANE_STAT_OCC_KB (n : Nat) : Fld := ⟨Reg.LANE_STAT n, 11, 0⟩
def FE_OK_LO_OK : Fld := ⟨Reg.FE_OK_LO, 31, 0⟩
def FE_OK_HI_OK : Fld := ⟨Reg.FE_OK_HI, 31, 0⟩
def FE_STAT_STALLED : Fld := ⟨Reg.FE_STAT, 18, 0⟩
def FE_FAIL_COUNT (n : Nat) : Fld := ⟨Reg.FE_FAIL n, 31, 0⟩
def SPILL_BASE_LO_BASE : Fld := ⟨Reg.SPILL_BASE_LO, 31, 0⟩
def SPILL_BASE_HI_BASE : Fld := ⟨Reg.SPILL_BASE_HI, 31, 0⟩
def SPILL_SLOTS_USABLE : Fld := ⟨Reg.SPILL_SLOTS, 16, 0⟩
def SPILL_USED_USED : Fld := ⟨Reg.SPILL_USED, 16, 0⟩
def SPILL_RETIRED_RETIRED : Fld := ⟨Reg.SPILL_RETIRED, 16, 0⟩
def SPILL_CACHE_SOUTH : Fld := ⟨Reg.SPILL_CACHE, 28, 16⟩
def SPILL_CACHE_NORTH : Fld := ⟨Reg.SPILL_CACHE, 12, 0⟩
def SPILL_CNT0_COUNT : Fld := ⟨Reg.SPILL_CNT0, 31, 0⟩
def SPILL_CNT1_COUNT : Fld := ⟨Reg.SPILL_CNT1, 31, 0⟩
def SPILL_CNT2_LOST : Fld := ⟨Reg.SPILL_CNT2, 31, 16⟩
def SPILL_CNT2_REJECTED : Fld := ⟨Reg.SPILL_CNT2, 15, 0⟩
def HM_AVAIL_SOUTH : Fld := ⟨Reg.HM_AVAIL, 31, 16⟩
def HM_AVAIL_NORTH : Fld := ⟨Reg.HM_AVAIL, 15, 0⟩
def HM_PROB_SOUTH : Fld := ⟨Reg.HM_PROB, 31, 16⟩
def HM_PROB_NORTH : Fld := ⟨Reg.HM_PROB, 15, 0⟩
def HM_QDEPTH_BACKGROUND : Fld := ⟨Reg.HM_QDEPTH, 31, 24⟩
def HM_QDEPTH_BULK : Fld := ⟨Reg.HM_QDEPTH, 23, 16⟩
def HM_QDEPTH_CONTROL : Fld := ⟨Reg.HM_QDEPTH, 15, 8⟩
def HM_QDEPTH_RELEASE : Fld := ⟨Reg.HM_QDEPTH, 7, 0⟩
def HM_CNT_PREEMPT_COUNT : Fld := ⟨Reg.HM_CNT_PREEMPT, 31, 0⟩
def HM_CNT_MISMATCH_COUNT : Fld := ⟨Reg.HM_CNT_MISMATCH, 31, 0⟩
def HM_CNT_AUTHFAIL_COUNT : Fld := ⟨Reg.HM_CNT_AUTHFAIL, 31, 0⟩
def HM_CNT_EXHAUSTED_COUNT : Fld := ⟨Reg.HM_CNT_EXHAUSTED, 31, 0⟩
def HM_CTL_CLR_WAIT : Fld := ⟨Reg.HM_CTL, 0, 0⟩
def DG_STAT_MISMATCH : Fld := ⟨Reg.DG_STAT, 31, 16⟩
def DG_STAT_PROB : Fld := ⟨Reg.DG_STAT, 7, 4⟩
def DG_STAT_AVAIL : Fld := ⟨Reg.DG_STAT, 3, 0⟩
def HM_WAITMAX_NS (n : Nat) : Fld := ⟨Reg.HM_WAITMAX n, 31, 0⟩
def EN_SVC_N_SVC : Fld := ⟨Reg.EN_SVC_N, 31, 0⟩
def EN_SVC_S_SVC : Fld := ⟨Reg.EN_SVC_S, 31, 0⟩
def EN_PROB_N_PROB : Fld := ⟨Reg.EN_PROB_N, 31, 0⟩
def EN_PROB_S_PROB : Fld := ⟨Reg.EN_PROB_S, 31, 0⟩
def EN_SPARES_PROB_S : Fld := ⟨Reg.EN_SPARES, 15, 12⟩
def EN_SPARES_SVC_S : Fld := ⟨Reg.EN_SPARES, 11, 8⟩
def EN_SPARES_PROB_N : Fld := ⟨Reg.EN_SPARES, 7, 4⟩
def EN_SPARES_SVC_N : Fld := ⟨Reg.EN_SPARES, 3, 0⟩
def EN_FW_FW_SVN : Fld := ⟨Reg.EN_FW, 31, 16⟩
def EN_FW_DEC_SVN : Fld := ⟨Reg.EN_FW, 15, 0⟩
def EN_STAGE_FAILED : Fld := ⟨Reg.EN_STAGE, 6, 4⟩
def EN_STAGE_PENDING : Fld := ⟨Reg.EN_STAGE, 2, 0⟩
def EN_APPLETS_LOADED : Fld := ⟨Reg.EN_APPLETS, 31, 0⟩
def EN_CNT_FAULT_COUNT : Fld := ⟨Reg.EN_CNT_FAULT, 31, 0⟩
def EN_CNT_MOVE_COUNT : Fld := ⟨Reg.EN_CNT_MOVE, 31, 0⟩
def EN_MAP_S_REMOTE (n : Nat) : Fld := ⟨Reg.EN_MAP n, 31, 31⟩
def EN_MAP_N_REMOTE (n : Nat) : Fld := ⟨Reg.EN_MAP n, 30, 30⟩
def EN_MAP_S_PHYS (n : Nat) : Fld := ⟨Reg.EN_MAP n, 21, 16⟩
def EN_MAP_N_PHYS (n : Nat) : Fld := ⟨Reg.EN_MAP n, 5, 0⟩
def CR_STAT_EXACT_OK : Fld := ⟨Reg.CR_STAT, 31, 31⟩
def CR_STAT_DEBUG : Fld := ⟨Reg.CR_STAT, 30, 30⟩
def CR_STAT_LOSTSLOT : Fld := ⟨Reg.CR_STAT, 29, 29⟩
def CR_STAT_QUENCH : Fld := ⟨Reg.CR_STAT, 26, 24⟩
def CR_STAT_SEED_GEN : Fld := ⟨Reg.CR_STAT, 15, 0⟩
def CR_SLOTS_VUSED : Fld := ⟨Reg.CR_SLOTS, 31, 16⟩
def CR_SLOTS_PUSED : Fld := ⟨Reg.CR_SLOTS, 13, 0⟩
def CR_SVN_SVN : Fld := ⟨Reg.CR_SVN, 31, 0⟩
def CR_CNT_MISMATCH : Fld := ⟨Reg.CR_CNT, 31, 16⟩
def CR_CNT_RESOLVED : Fld := ⟨Reg.CR_CNT, 15, 0⟩
def CR_MEAS_M (n : Nat) : Fld := ⟨Reg.CR_MEAS n, 31, 0⟩
def CR_SIGNER_ID (n : Nat) : Fld := ⟨Reg.CR_SIGNER n, 31, 0⟩
def AV_AVAIL_PROB : Fld := ⟨Reg.AV_AVAIL, 7, 4⟩
def AV_AVAIL_AVAIL : Fld := ⟨Reg.AV_AVAIL, 3, 0⟩
def AV_QDEPTH_BACKGROUND : Fld := ⟨Reg.AV_QDEPTH, 31, 24⟩
def AV_QDEPTH_BULK : Fld := ⟨Reg.AV_QDEPTH, 23, 16⟩
def AV_QDEPTH_CONTROL : Fld := ⟨Reg.AV_QDEPTH, 15, 8⟩
def AV_QDEPTH_RELEASE : Fld := ⟨Reg.AV_QDEPTH, 7, 0⟩
def AV_CNT_OPS_COUNT : Fld := ⟨Reg.AV_CNT_OPS, 31, 0⟩
def AV_CNT_CHECK_SELFCHECK : Fld := ⟨Reg.AV_CNT_CHECK, 31, 16⟩
def AV_CNT_CHECK_VERIFY_FAIL : Fld := ⟨Reg.AV_CNT_CHECK, 15, 0⟩
def AV_SIGNERS_DEVCERT : Fld := ⟨Reg.AV_SIGNERS, 5, 5⟩
def AV_SIGNERS_D0 : Fld := ⟨Reg.AV_SIGNERS, 4, 4⟩
def AV_SIGNERS_A1 : Fld := ⟨Reg.AV_SIGNERS, 3, 3⟩
def AV_SIGNERS_A0 : Fld := ⟨Reg.AV_SIGNERS, 2, 2⟩
def AV_SIGNERS_F1 : Fld := ⟨Reg.AV_SIGNERS, 1, 1⟩
def AV_SIGNERS_F0 : Fld := ⟨Reg.AV_SIGNERS, 0, 0⟩
def WH_CTL_TEST : Fld := ⟨Reg.WH_CTL, 7, 7⟩
def WH_CTL_RAW_HALF : Fld := ⟨Reg.WH_CTL, 4, 4⟩
def WH_CTL_RAW_SEL : Fld := ⟨Reg.WH_CTL, 3, 2⟩
def WH_CTL_RAW_EN : Fld := ⟨Reg.WH_CTL, 0, 0⟩
def WH_STAT_STATE (n : Nat) : Fld := ⟨Reg.WH_STAT n, 31, 29⟩
def WH_STAT_CAUSE (n : Nat) : Fld := ⟨Reg.WH_STAT n, 28, 24⟩
def WH_STAT_FAILS (n : Nat) : Fld := ⟨Reg.WH_STAT n, 23, 16⟩
def WH_STAT_POOL (n : Nat) : Fld := ⟨Reg.WH_STAT n, 15, 8⟩
def WH_STAT_RATE (n : Nat) : Fld := ⟨Reg.WH_STAT n, 7, 0⟩
def BW_STAT_STRETCH (n : Nat) : Fld := ⟨Reg.BW_STAT n, 31, 31⟩
def BW_STAT_WAITING (n : Nat) : Fld := ⟨Reg.BW_STAT n, 30, 30⟩
def BW_STAT_INST (n : Nat) : Fld := ⟨Reg.BW_STAT n, 29, 29⟩
def BW_STAT_SINCE_KIB (n : Nat) : Fld := ⟨Reg.BW_STAT n, 12, 0⟩
def WH_CNT_RECOVERED : Fld := ⟨Reg.WH_CNT, 31, 16⟩
def WH_CNT_STRETCHED : Fld := ⟨Reg.WH_CNT, 15, 0⟩
def WH_RAW_DATA : Fld := ⟨Reg.WH_RAW, 31, 0⟩
def WH_RAWSTAT_OVERRUN : Fld := ⟨Reg.WH_RAWSTAT, 31, 31⟩
def WH_RAWSTAT_LEVEL : Fld := ⟨Reg.WH_RAWSTAT, 12, 0⟩
def EE_STAT_N_OK : Fld := ⟨Reg.EE_STAT, 31, 31⟩
def EE_STAT_S_OK : Fld := ⟨Reg.EE_STAT, 30, 30⟩
def EE_STAT_CLEARING : Fld := ⟨Reg.EE_STAT, 29, 29⟩
def EE_STAT_SUSPENDED : Fld := ⟨Reg.EE_STAT, 28, 28⟩
def EE_STAT_J_WAIT : Fld := ⟨Reg.EE_STAT, 27, 27⟩
def EE_STAT_J_FREE : Fld := ⟨Reg.EE_STAT, 9, 0⟩
def EE_SAN_RANGES : Fld := ⟨Reg.EE_SAN, 23, 16⟩
def EE_SAN_REMAIN : Fld := ⟨Reg.EE_SAN, 15, 0⟩
def EE_ECC_SOUTH : Fld := ⟨Reg.EE_ECC, 31, 16⟩
def EE_ECC_NORTH : Fld := ⟨Reg.EE_ECC, 15, 0⟩
def EE_REFRESH_SOUTH : Fld := ⟨Reg.EE_REFRESH, 31, 16⟩
def EE_REFRESH_NORTH : Fld := ⟨Reg.EE_REFRESH, 15, 0⟩
def EE_SPARES_SOUTH : Fld := ⟨Reg.EE_SPARES, 24, 16⟩
def EE_SPARES_NORTH : Fld := ⟨Reg.EE_SPARES, 8, 0⟩
def EE_PATROL_HOURS : Fld := ⟨Reg.EE_PATROL, 31, 24⟩
def EE_PATROL_PROGRESS : Fld := ⟨Reg.EE_PATROL, 15, 0⟩
def EE_CREDFAIL_COUNT : Fld := ⟨Reg.EE_CREDFAIL, 15, 0⟩
def EE_RGN_EN (n : Nat) : Fld := ⟨Reg.EE_RGN n, 31, 31⟩
def EE_RGN_SHARED (n : Nat) : Fld := ⟨Reg.EE_RGN n, 30, 30⟩
def EE_RGN_OWNER (n : Nat) : Fld := ⟨Reg.EE_RGN n, 29, 24⟩
def EE_RGN_BASE (n : Nat) : Fld := ⟨Reg.EE_RGN n, 23, 12⟩
def EE_RGN_PAGES_M1 (n : Nat) : Fld := ⟨Reg.EE_RGN n, 11, 0⟩
def HW_ROLE_SOLO : Fld := ⟨Reg.HW_ROLE, 6, 6⟩
def HW_ROLE_LEAD : Fld := ⟨Reg.HW_ROLE, 5, 5⟩
def HW_ROLE_LEASE : Fld := ⟨Reg.HW_ROLE, 4, 4⟩
def HW_ROLE_S_STATE : Fld := ⟨Reg.HW_ROLE, 3, 2⟩
def HW_ROLE_N_STATE : Fld := ⟨Reg.HW_ROLE, 1, 0⟩
def HW_EPOCH_LO_EPOCH : Fld := ⟨Reg.HW_EPOCH_LO, 31, 0⟩
def HW_EPOCH_HI_EPOCH : Fld := ⟨Reg.HW_EPOCH_HI, 31, 0⟩
def HW_LEASE_RENEWALS : Fld := ⟨Reg.HW_LEASE, 31, 16⟩
def HW_LEASE_REMAIN_US : Fld := ⟨Reg.HW_LEASE, 10, 0⟩
def HW_PATHS_REBUILD : Fld := ⟨Reg.HW_PATHS, 11, 8⟩
def HW_PATHS_BANKS : Fld := ⟨Reg.HW_PATHS, 7, 4⟩
def HW_PATHS_PATHS : Fld := ⟨Reg.HW_PATHS, 3, 0⟩
def HW_CNT_MISMATCH_INFRA : Fld := ⟨Reg.HW_CNT_MISMATCH, 31, 16⟩
def HW_CNT_MISMATCH_UNIT : Fld := ⟨Reg.HW_CNT_MISMATCH, 15, 0⟩
def HW_CNT_STALE_FENCED : Fld := ⟨Reg.HW_CNT_STALE, 31, 16⟩
def HW_CNT_STALE_STALE_GEN : Fld := ⟨Reg.HW_CNT_STALE, 15, 0⟩
def HW_CNT_FAILOVER_HALF : Fld := ⟨Reg.HW_CNT_FAILOVER, 31, 24⟩
def HW_CNT_FAILOVER_BANK : Fld := ⟨Reg.HW_CNT_FAILOVER, 23, 16⟩
def HW_CNT_FAILOVER_HAMMER : Fld := ⟨Reg.HW_CNT_FAILOVER, 15, 8⟩
def HW_CNT_FAILOVER_ENGINE : Fld := ⟨Reg.HW_CNT_FAILOVER, 7, 0⟩
def HW_WEIR_WAITN_NS : Fld := ⟨Reg.HW_WEIR_WAITN, 31, 0⟩
def HW_WEIR_WAITS_NS : Fld := ⟨Reg.HW_WEIR_WAITS, 31, 0⟩
def HW_CTL_CLR_WAIT : Fld := ⟨Reg.HW_CTL, 0, 0⟩
def HW_INPUT_USED_KIB : Fld := ⟨Reg.HW_INPUT, 14, 0⟩
def HW_FENCE_TIME_LO_TIME : Fld := ⟨Reg.HW_FENCE_TIME_LO, 31, 0⟩
def HW_FENCE_TIME_HI_TIME : Fld := ⟨Reg.HW_FENCE_TIME_HI, 31, 0⟩
def PW_REQ_TARGET : Fld := ⟨Reg.PW_REQ, 2, 0⟩
def PW_CFG_POND_MAX_S : Fld := ⟨Reg.PW_CFG, 31, 16⟩
def PW_CFG_EDDY_IDLE_US : Fld := ⟨Reg.PW_CFG, 15, 0⟩
def PW_MISC_ALARM_HOST : Fld := ⟨Reg.PW_MISC, 31, 31⟩
def PW_MISC_LINGER_MS : Fld := ⟨Reg.PW_MISC, 15, 0⟩
def PW_STAT_STATE : Fld := ⟨Reg.PW_STAT, 31, 29⟩
def PW_STAT_EXCURSION : Fld := ⟨Reg.PW_STAT, 28, 28⟩
def PW_STAT_RETURN_FAIL : Fld := ⟨Reg.PW_STAT, 27, 27⟩
def PW_STAT_DEFER : Fld := ⟨Reg.PW_STAT, 26, 26⟩
def PW_STAT_WAIT : Fld := ⟨Reg.PW_STAT, 22, 16⟩
def PW_STAT_PENDING : Fld := ⟨Reg.PW_STAT, 15, 13⟩
def PW_STAT_LAST_WAKE : Fld := ⟨Reg.PW_STAT, 11, 8⟩
def PW_WAKE_EN (n : Nat) : Fld := ⟨Reg.PW_WAKE n, 31, 31⟩
def PW_WAKE_POL (n : Nat) : Fld := ⟨Reg.PW_WAKE n, 30, 30⟩
def PW_WAKE_LEVEL (n : Nat) : Fld := ⟨Reg.PW_WAKE n, 29, 29⟩
def PW_WAKE_HOST (n : Nat) : Fld := ⟨Reg.PW_WAKE n, 28, 28⟩
def PW_WAKE_L4 (n : Nat) : Fld := ⟨Reg.PW_WAKE n, 27, 27⟩
def PW_WAKE_FILT (n : Nat) : Fld := ⟨Reg.PW_WAKE n, 25, 24⟩
def PW_WAKE_STAT_SRC : Fld := ⟨Reg.PW_WAKE_STAT, 15, 0⟩
def PW_WAKE_TIME_LO_TIME : Fld := ⟨Reg.PW_WAKE_TIME_LO, 31, 0⟩
def PW_WAKE_TIME_HI_TIME : Fld := ⟨Reg.PW_WAKE_TIME_HI, 31, 0⟩
def PW_ALARM_LO_TIME : Fld := ⟨Reg.PW_ALARM_LO, 31, 0⟩
def PW_ALARM_HI_TIME : Fld := ⟨Reg.PW_ALARM_HI, 31, 0⟩
def PW_CAP_OVER : Fld := ⟨Reg.PW_CAP, 31, 31⟩
def PW_CAP_NOTEL : Fld := ⟨Reg.PW_CAP, 30, 30⟩
def PW_CAP_STEP : Fld := ⟨Reg.PW_CAP, 26, 24⟩
def PW_CAP_CAP_MW : Fld := ⟨Reg.PW_CAP, 15, 0⟩
def PW_POWER_PEAK_MW : Fld := ⟨Reg.PW_POWER, 31, 16⟩
def PW_POWER_POWER_MW : Fld := ⟨Reg.PW_POWER, 15, 0⟩
def PW_CNT_REPLAYS : Fld := ⟨Reg.PW_CNT, 31, 16⟩
def PW_CNT_EXCURSIONS : Fld := ⟨Reg.PW_CNT, 15, 0⟩
def PW_CTL_CLR_PEAK : Fld := ⟨Reg.PW_CTL, 0, 0⟩
def RV_CONV_EFF_PCT : Fld := ⟨Reg.RV_CONV, 31, 24⟩
def RV_CONV_VBAT_MV : Fld := ⟨Reg.RV_CONV, 15, 0⟩
def RV_WELCOME_MAX_S : Fld := ⟨Reg.RV_WELCOME, 31, 16⟩
def RV_WELCOME_MIN_S : Fld := ⟨Reg.RV_WELCOME, 15, 0⟩
def RV_SCAN_SLOW_MS : Fld := ⟨Reg.RV_SCAN, 31, 16⟩
def RV_SCAN_FAST_MS : Fld := ⟨Reg.RV_SCAN, 15, 0⟩
def RV_BUDGET_UAH_DAY : Fld := ⟨Reg.RV_BUDGET, 31, 0⟩
def RV_STAT_LEVEL : Fld := ⟨Reg.RV_STAT, 26, 24⟩
def RV_STAT_HORIZON_D : Fld := ⟨Reg.RV_STAT, 15, 0⟩
def RV_STORE_NAH : Fld := ⟨Reg.RV_STORE, 31, 0⟩
def RV_FCAST_NAH_DAY : Fld := ⟨Reg.RV_FCAST, 31, 0⟩
def RV_PLAN_DAYS : Fld := ⟨Reg.RV_PLAN, 31, 16⟩
def RV_PLAN_WELCOME_S : Fld := ⟨Reg.RV_PLAN, 15, 0⟩
def RV_BASE_QW_UC : Fld := ⟨Reg.RV_BASE, 31, 16⟩
def RV_BASE_BASE_NA : Fld := ⟨Reg.RV_BASE, 15, 0⟩
def RV_DEMAND_NAH_DAY : Fld := ⟨Reg.RV_DEMAND, 31, 0⟩
def RV_SPENT_LO_NAH : Fld := ⟨Reg.RV_SPENT_LO, 31, 0⟩
def RV_SPENT_HI_NAH : Fld := ⟨Reg.RV_SPENT_HI, 31, 0⟩
def RV_STEPS_UP : Fld := ⟨Reg.RV_STEPS, 31, 16⟩
def RV_STEPS_DOWN : Fld := ⟨Reg.RV_STEPS, 15, 0⟩
def RVV_STAT_STATE (p : Nat) : Fld := ⟨Reg.RVV_STAT p, 31, 29⟩
def RVV_STAT_LEVEL (p : Nat) : Fld := ⟨Reg.RVV_STAT p, 26, 24⟩
def RVV_STAT_WELCOME_S (p : Nat) : Fld := ⟨Reg.RVV_STAT p, 15, 0⟩
def RVV_PLAN_DAYS (p : Nat) : Fld := ⟨Reg.RVV_PLAN p, 31, 16⟩
def TP_STAT_RESP : Fld := ⟨Reg.TP_STAT, 31, 29⟩
def TP_STAT_PENDING : Fld := ⟨Reg.TP_STAT, 28, 28⟩
def TP_STAT_HOLD : Fld := ⟨Reg.TP_STAT, 27, 27⟩
def TP_STAT_GUARD : Fld := ⟨Reg.TP_STAT, 26, 26⟩
def TP_STAT_ALARM : Fld := ⟨Reg.TP_STAT, 25, 25⟩
def TP_STAT_ACTIVE : Fld := ⟨Reg.TP_STAT, 14, 8⟩
def TP_STAT_LAST : Fld := ⟨Reg.TP_STAT, 3, 0⟩
def TP_RAISE_LINK : Fld := ⟨Reg.TP_RAISE, 17, 15⟩
def TP_RAISE_TEMP : Fld := ⟨Reg.TP_RAISE, 14, 12⟩
def TP_RAISE_CLOCK : Fld := ⟨Reg.TP_RAISE, 11, 9⟩
def TP_RAISE_GLITCH : Fld := ⟨Reg.TP_RAISE, 8, 6⟩
def TP_RAISE_LIGHT : Fld := ⟨Reg.TP_RAISE, 5, 3⟩
def TP_RAISE_MESH : Fld := ⟨Reg.TP_RAISE, 2, 0⟩
def TP_CFG_WAKE_HOST : Fld := ⟨Reg.TP_CFG, 16, 16⟩
def TP_CFG_ALARM_10MS : Fld := ⟨Reg.TP_CFG, 15, 0⟩
def TP_RELEASE_KEY : Fld := ⟨Reg.TP_RELEASE, 31, 16⟩
def TP_RELEASE_RELEASE : Fld := ⟨Reg.TP_RELEASE, 0, 0⟩
def TP_LIFE_WARM : Fld := ⟨Reg.TP_LIFE, 15, 8⟩
def TP_LIFE_Q3 : Fld := ⟨Reg.TP_LIFE, 7, 0⟩
def TP_LOG_SEL_AGE : Fld := ⟨Reg.TP_LOG_SEL, 5, 0⟩
def TP_LOG_HEAD_NEXT : Fld := ⟨Reg.TP_LOG_HEAD, 31, 0⟩
def TP_LOGD_DATA (n : Nat) : Fld := ⟨Reg.TP_LOGD n, 31, 0⟩
def TP_CNT_LIFE (n : Nat) : Fld := ⟨Reg.TP_CNT n, 31, 16⟩
def TP_CNT_SINCE (n : Nat) : Fld := ⟨Reg.TP_CNT n, 15, 0⟩
def LC_STAT_PENDING : Fld := ⟨Reg.LC_STAT, 31, 31⟩
def LC_STAT_STEP : Fld := ⟨Reg.LC_STAT, 26, 24⟩
def LC_STAT_TARGET : Fld := ⟨Reg.LC_STAT, 18, 16⟩
def LC_STAT_FUSED : Fld := ⟨Reg.LC_STAT, 10, 8⟩
def LC_STAT_STATE : Fld := ⟨Reg.LC_STAT, 2, 0⟩
def DBG_STAT_ACTIVE : Fld := ⟨Reg.DBG_STAT, 31, 31⟩
def DBG_STAT_CHALLENGE : Fld := ⟨Reg.DBG_STAT, 30, 30⟩
def DBG_STAT_OPEN : Fld := ⟨Reg.DBG_STAT, 29, 29⟩
def DBG_STAT_TEST : Fld := ⟨Reg.DBG_STAT, 28, 28⟩
def DBG_STAT_HALTED : Fld := ⟨Reg.DBG_STAT, 27, 27⟩
def DBG_STAT_SCOPE : Fld := ⟨Reg.DBG_STAT, 15, 0⟩
def DBG_CNT_REFUSED : Fld := ⟨Reg.DBG_CNT, 31, 16⟩
def DBG_CNT_ACCEPTED : Fld := ⟨Reg.DBG_CNT, 15, 0⟩
def CD_CFG_EN : Fld := ⟨Reg.CD_CFG, 31, 31⟩
def CD_CFG_COND_EN : Fld := ⟨Reg.CD_CFG, 30, 30⟩
def CD_CFG_COND_MS : Fld := ⟨Reg.CD_CFG, 29, 16⟩
def CD_CFG_TXN_S : Fld := ⟨Reg.CD_CFG, 7, 0⟩
def CD_STAT_PRESENT : Fld := ⟨Reg.CD_STAT, 31, 31⟩
def CD_STAT_STATE : Fld := ⟨Reg.CD_STAT, 30, 28⟩
def CD_STAT_CLASS : Fld := ⟨Reg.CD_STAT, 27, 27⟩
def CD_STAT_PROTO : Fld := ⟨Reg.CD_STAT, 26, 26⟩
def CD_STAT_CLK : Fld := ⟨Reg.CD_STAT, 25, 24⟩
def CD_STAT_TXN : Fld := ⟨Reg.CD_STAT, 23, 23⟩
def CD_STAT_TXN_PART : Fld := ⟨Reg.CD_STAT, 21, 16⟩
def CD_STAT_ETU : Fld := ⟨Reg.CD_STAT, 15, 0⟩
def CD_CNT_ROLLBACKS : Fld := ⟨Reg.CD_CNT, 31, 16⟩
def CD_CNT_REMOVALS : Fld := ⟨Reg.CD_CNT, 15, 0⟩
def CAN_CFG_EN (n : Nat) : Fld := ⟨Reg.CAN_CFG n, 31, 31⟩
def CAN_CFG_FD (n : Nat) : Fld := ⟨Reg.CAN_CFG n, 30, 30⟩
def CAN_CFG_BRS (n : Nat) : Fld := ⟨Reg.CAN_CFG n, 29, 29⟩
def CAN_CFG_STB_POL (n : Nat) : Fld := ⟨Reg.CAN_CFG n, 28, 28⟩
def CAN_CFG_AUTO_BOR (n : Nat) : Fld := ⟨Reg.CAN_CFG n, 27, 27⟩
def CAN_CFG_T_MODE_US (n : Nat) : Fld := ⟨Reg.CAN_CFG n, 15, 0⟩
def CAN_NBT_BRP_M1 (n : Nat) : Fld := ⟨Reg.CAN_NBT n, 31, 27⟩
def CAN_NBT_TSEG1_M1 (n : Nat) : Fld := ⟨Reg.CAN_NBT n, 26, 19⟩
def CAN_NBT_TSEG2_M1 (n : Nat) : Fld := ⟨Reg.CAN_NBT n, 18, 12⟩
def CAN_NBT_SJW_M1 (n : Nat) : Fld := ⟨Reg.CAN_NBT n, 11, 5⟩
def CAN_DBT_BRP_M1 (n : Nat) : Fld := ⟨Reg.CAN_DBT n, 31, 27⟩
def CAN_DBT_TSEG1_M1 (n : Nat) : Fld := ⟨Reg.CAN_DBT n, 26, 22⟩
def CAN_DBT_TSEG2_M1 (n : Nat) : Fld := ⟨Reg.CAN_DBT n, 21, 18⟩
def CAN_DBT_SJW_M1 (n : Nat) : Fld := ⟨Reg.CAN_DBT n, 17, 14⟩
def CAN_DBT_TDC (n : Nat) : Fld := ⟨Reg.CAN_DBT n, 13, 13⟩
def CAN_DBT_TDCO (n : Nat) : Fld := ⟨Reg.CAN_DBT n, 12, 6⟩
def CAN_STAT_STATE (n : Nat) : Fld := ⟨Reg.CAN_STAT n, 31, 30⟩
def CAN_STAT_WITHDRAWN (n : Nat) : Fld := ⟨Reg.CAN_STAT n, 29, 16⟩
def CAN_STAT_REC (n : Nat) : Fld := ⟨Reg.CAN_STAT n, 15, 8⟩
def CAN_STAT_TEC (n : Nat) : Fld := ⟨Reg.CAN_STAT n, 7, 0⟩
def PM_PAGEMAP_IO33 : Fld := ⟨Reg.PM_PAGEMAP, 24, 20⟩
def PM_PAGEMAP_IO18 : Fld := ⟨Reg.PM_PAGEMAP, 19, 15⟩
def PM_PAGEMAP_RF : Fld := ⟨Reg.PM_PAGEMAP, 14, 10⟩
def PM_PAGEMAP_SERDES : Fld := ⟨Reg.PM_PAGEMAP, 9, 5⟩
def PM_PAGEMAP_CORE : Fld := ⟨Reg.PM_PAGEMAP, 4, 0⟩
def PM_STAT_FAIL : Fld := ⟨Reg.PM_STAT, 31, 31⟩
def PM_STAT_RAIL_FAIL : Fld := ⟨Reg.PM_STAT, 30, 30⟩
def PM_STAT_FMP : Fld := ⟨Reg.PM_STAT, 29, 29⟩
def PM_STAT_PEC : Fld := ⟨Reg.PM_STAT, 28, 28⟩
def PM_STAT_RAIL : Fld := ⟨Reg.PM_STAT, 18, 16⟩
def PM_STAT_STATUS : Fld := ⟨Reg.PM_STAT, 15, 0⟩
def GPIO_CFG_OD (n : Nat) : Fld := ⟨Reg.GPIO_CFG n, 3, 3⟩
def GPIO_CFG_ACT_HIGH (n : Nat) : Fld := ⟨Reg.GPIO_CFG n, 2, 2⟩
def GPIO_CFG_MODE (n : Nat) : Fld := ⟨Reg.GPIO_CFG n, 1, 0⟩
def GPIO_OUT_LEVEL : Fld := ⟨Reg.GPIO_OUT, 11, 0⟩
def GPIO_IN_LEVEL : Fld := ⟨Reg.GPIO_IN, 11, 0⟩
def TM_TEMP_SOUTH : Fld := ⟨Reg.TM_TEMP, 29, 20⟩
def TM_TEMP_NORTH : Fld := ⟨Reg.TM_TEMP, 19, 10⟩
def TM_TEMP_SHORE : Fld := ⟨Reg.TM_TEMP, 9, 0⟩
def TM_UTIL_S_ENG : Fld := ⟨Reg.TM_UTIL, 31, 24⟩
def TM_UTIL_S_HAM : Fld := ⟨Reg.TM_UTIL, 23, 16⟩
def TM_UTIL_N_ENG : Fld := ⟨Reg.TM_UTIL, 15, 8⟩
def TM_UTIL_N_HAM : Fld := ⟨Reg.TM_UTIL, 7, 0⟩
def TM_LAT_MAX_NS : Fld := ⟨Reg.TM_LAT_MAX, 31, 0⟩
def TM_CTL_CLR_LAT : Fld := ⟨Reg.TM_CTL, 0, 0⟩
def RNG_CNT0_REJECTED : Fld := ⟨Reg.RNG_CNT0, 31, 16⟩
def RNG_CNT0_VALID : Fld := ⟨Reg.RNG_CNT0, 15, 0⟩
def RNG_CNT1_NO_RESPONSE : Fld := ⟨Reg.RNG_CNT1, 31, 16⟩
def RNG_CNT1_ABORTED : Fld := ⟨Reg.RNG_CNT1, 15, 0⟩
def RNG_CNT2_FP_MISMATCH : Fld := ⟨Reg.RNG_CNT2, 31, 16⟩
def RNG_CNT2_STS_FAIL : Fld := ⟨Reg.RNG_CNT2, 15, 0⟩
def RNG_CNT3_EDLC_SUSPECT : Fld := ⟨Reg.RNG_CNT3, 31, 16⟩
def RNG_CNT3_REPORT_FAIL : Fld := ⟨Reg.RNG_CNT3, 15, 0⟩
def AC_CNT0_INVALID : Fld := ⟨Reg.AC_CNT0, 31, 16⟩
def AC_CNT0_VALID : Fld := ⟨Reg.AC_CNT0, 15, 0⟩
def AC_CNT1_SUSPECT : Fld := ⟨Reg.AC_CNT1, 31, 16⟩
def AC_CNT1_RELEASES : Fld := ⟨Reg.AC_CNT1, 15, 0⟩
def AC_CNT2_REFUSED : Fld := ⟨Reg.AC_CNT2, 31, 16⟩
def AC_CNT2_SESSIONS : Fld := ⟨Reg.AC_CNT2, 15, 0⟩
def LANE_CNTA_FCS_ERR (n : Nat) : Fld := ⟨Reg.LANE_CNTA n, 31, 16⟩
def LANE_CNTA_LEN_ERR (n : Nat) : Fld := ⟨Reg.LANE_CNTA n, 15, 0⟩
def LANE_CNTB_UNCLASSIFIED (n : Nat) : Fld := ⟨Reg.LANE_CNTB n, 31, 16⟩
def LANE_CNTB_BUF_DROP (n : Nat) : Fld := ⟨Reg.LANE_CNTB n, 15, 0⟩
def AS_RNG_STAT_VAL (p : Nat) : Fld := ⟨Reg.AS_RNG_STAT p, 31, 0⟩
def AS_AC_LAST_VAL (p : Nat) : Fld := ⟨Reg.AS_AC_LAST p, 31, 0⟩
def AS_IM_STAT_VAL (p : Nat) : Fld := ⟨Reg.AS_IM_STAT p, 31, 0⟩

end Fd

def regTableDev0 : List RegDesc :=
  [⟨0x110100, 4, 1, [⟨25, 16, .rwl, 900⟩, ⟨0, 0, .rwl, 1⟩]⟩,
   ⟨0x110104, 4, 1, [⟨31, 31, .ro, 0⟩, ⟨25, 16, .ro, 800⟩, ⟨15, 0, .ro, 0⟩]⟩,
   ⟨0x110140, 4, 14, [⟨15, 0, .ro, 0⟩]⟩,
   ⟨0x10F100, 4, 1, [⟨11, 10, .rwl, 0⟩, ⟨9, 8, .rwl, 1⟩, ⟨7, 6, .rwl, 0⟩, ⟨5, 4, .rwl, 0⟩, ⟨3, 2, .rwl, 0⟩, ⟨1, 0, .rwl, 1⟩]⟩,
   ⟨0x10F104, 4, 1, [⟨7, 6, .rwl, 2⟩, ⟨5, 4, .rwl, 2⟩, ⟨3, 2, .rwl, 3⟩, ⟨1, 0, .rwl, 1⟩]⟩,
   ⟨0x10F108, 4, 1, [⟨3, 2, .rwl, 1⟩, ⟨1, 0, .rwl, 1⟩]⟩,
   ⟨0x10F10C, 4, 1, [⟨3, 3, .ro, 0⟩, ⟨2, 2, .ro, 0⟩, ⟨1, 1, .ro, 0⟩, ⟨0, 0, .ro, 0⟩]⟩,
   ⟨0x10F110, 4, 1, [⟨31, 16, .ro, 0⟩, ⟨11, 11, .w1c, 0⟩, ⟨10, 10, .w1c, 0⟩, ⟨9, 9, .w1c, 0⟩, ⟨8, 8, .w1c, 0⟩, ⟨3, 3, .ro, 0⟩, ⟨2, 2, .ro, 0⟩, ⟨1, 1, .ro, 0⟩, ⟨0, 0, .ro, 0⟩]⟩,
   ⟨0x10F114, 4, 1, [⟨18, 18, .w1c, 0⟩, ⟨17, 17, .ro, 0⟩, ⟨16, 16, .ro, 0⟩, ⟨9, 0, .ro, 0⟩]⟩,
   ⟨0x100, 4, 1, [⟨31, 31, .ro, 0⟩, ⟨30, 30, .ro, 0⟩, ⟨29, 28, .ro, 0⟩, ⟨27, 24, .ro, 0⟩, ⟨23, 16, .ro, 0⟩, ⟨1, 1, .w1c, 0⟩, ⟨0, 0, .w1c, 0⟩]⟩,
   ⟨0x104, 4, 1, [⟨31, 0, .ro, 0⟩]⟩,
   ⟨0x108, 4, 1, [⟨9, 9, .w1c, 0⟩, ⟨8, 8, .w1c, 0⟩, ⟨7, 7, .w1c, 0⟩, ⟨6, 6, .w1c, 0⟩, ⟨5, 5, .w1c, 0⟩, ⟨4, 4, .w1c, 0⟩, ⟨3, 3, .w1c, 0⟩, ⟨2, 2, .w1c, 0⟩, ⟨1, 1, .w1c, 0⟩, ⟨0, 0, .w1c, 0⟩]⟩,
   ⟨0x10C, 4, 1, [⟨31, 16, .wo, 0⟩, ⟨0, 0, .wo, 0⟩]⟩,
   ⟨0x10100, 4, 2, [⟨31, 0, .ro, 0⟩]⟩,
   ⟨0x10108, 4, 2, [⟨31, 0, .ro, 0⟩]⟩,
   ⟨0x10110, 4, 2, [⟨31, 0, .ro, 0⟩]⟩,
   ⟨0x10118, 4, 1, [⟨31, 31, .ro, 0⟩, ⟨5, 0, .ro, 0⟩]⟩,
   ⟨0x20100, 4, 1, [⟨26, 16, .ro, 0⟩, ⟨10, 0, .ro, 0⟩]⟩,
   ⟨0x20104, 4, 1, [⟨18, 0, .ro, 0⟩]⟩,
   ⟨0x20108, 4, 1, [⟨18, 0, .ro, 262144⟩]⟩]

def regTableDev1 : List RegDesc :=
  [⟨0x40100, 4, 6, [⟨31, 31, .rwl, 0⟩, ⟨30, 30, .rwl, 0⟩, ⟨27, 24, .rwl, 3⟩, ⟨23, 12, .rwl, 30⟩, ⟨11, 0, .rwl, 60⟩]⟩,
   ⟨0x40118, 4, 1, [⟨23, 20, .rwl, 6⟩, ⟨19, 8, .rwl, 20⟩, ⟨7, 0, .rwl, 30⟩]⟩,
   ⟨0x4011C, 4, 1, [⟨29, 24, .ro, 0⟩, ⟨21, 16, .ro, 0⟩, ⟨10, 8, .ro, 0⟩, ⟨5, 0, .ro, 0⟩]⟩,
   ⟨0x40120, 4, 1, [⟨29, 24, .ro, 0⟩, ⟨16, 0, .ro, 0⟩]⟩,
   ⟨0x40140, 4, 6, [⟨31, 16, .ro, 0⟩, ⟨15, 0, .ro, 0⟩]⟩,
   ⟨0x40160, 4, 1, [⟨31, 0, .ro, 0⟩]⟩,
   ⟨0x40164, 4, 1, [⟨31, 0, .ro, 0⟩]⟩,
   ⟨0x41100, 4, 1, [⟨17, 0, .rwl, 125000⟩]⟩,
   ⟨0x41104, 4, 1, [⟨31, 16, .rwl, 0⟩, ⟨9, 8, .rwl, 1⟩, ⟨7, 0, .rwl, 8⟩]⟩,
   ⟨0x41108, 4, 1, [⟨23, 16, .rwl, 60⟩, ⟨11, 0, .rwl, 1000⟩]⟩,
   ⟨0x4110C, 4, 1, [⟨15, 8, .rwl, 12⟩, ⟨7, 0, .rwl, 40⟩]⟩,
   ⟨0x41140, 4, 8, [⟨31, 31, .rwl, 0⟩, ⟨30, 30, .rwl, 0⟩, ⟨29, 29, .rwl, 0⟩, ⟨26, 24, .rwl, 0⟩, ⟨9, 0, .rwl, 300⟩]⟩,
   ⟨0x41160, 4, 8, [⟨31, 28, .ro, 6⟩, ⟨17, 0, .ro, 0⟩]⟩,
   ⟨0x41180, 4, 1, [⟨31, 31, .ro, 0⟩, ⟨23, 16, .ro, 0⟩, ⟨15, 8, .ro, 0⟩]⟩,
   ⟨0x42100, 4, 1, [⟨19, 0, .rwl, 433920⟩]⟩,
   ⟨0x42104, 4, 1, [⟨31, 24, .rwl, 105⟩, ⟨21, 20, .rwl, 1⟩, ⟨17, 16, .rwl, 2⟩, ⟨15, 8, .rwl, 20⟩, ⟨5, 4, .rwl, 1⟩, ⟨1, 0, .rwl, 0⟩]⟩,
   ⟨0x42108, 4, 1, [⟨15, 0, .rwl, 45966⟩]⟩,
   ⟨0x4210C, 4, 1, [⟨31, 24, .rwl, 10⟩, ⟨21, 20, .rwl, 2⟩, ⟨19, 16, .rwl, 3⟩, ⟨15, 0, .rwl, 6000⟩]⟩,
   ⟨0x42140, 4, 1, [⟨31, 0, .ro, 0⟩]⟩,
   ⟨0x42144, 4, 1, [⟨16, 16, .ro, 0⟩, ⟨15, 8, .ro, 0⟩, ⟨7, 0, .ro, 0⟩]⟩]

def regTableDev2 : List RegDesc :=
  [⟨0x42148, 4, 1, [⟨31, 16, .ro, 0⟩, ⟨15, 0, .ro, 0⟩]⟩,
   ⟨0x4214C, 4, 1, [⟨31, 16, .ro, 0⟩, ⟨15, 0, .ro, 0⟩]⟩,
   ⟨0x43100, 4, 1, [⟨31, 31, .rwl, 0⟩, ⟨25, 16, .rwl, 400⟩, ⟨7, 0, .rwl, 5⟩]⟩,
   ⟨0x43104, 4, 1, [⟨2, 0, .ro, 0⟩]⟩,
   ⟨0x50100, 4, 1, [⟨31, 24, .rwl, 82⟩, ⟨17, 16, .rwl, 1⟩, ⟨13, 12, .rwl, 1⟩, ⟨11, 8, .rwl, 9⟩, ⟨0, 0, .rwl, 1⟩]⟩,
   ⟨0x50104, 4, 1, [⟨31, 16, .rwl, 1500⟩, ⟨7, 0, .rwl, 20⟩]⟩,
   ⟨0x50108, 4, 1, [⟨31, 16, .rwl, 2500⟩, ⟨15, 0, .rwl, 1000⟩]⟩,
   ⟨0x5010C, 4, 1, [⟨25, 24, .rwl, 2⟩, ⟨15, 0, .rwl, 64080⟩]⟩,
   ⟨0x50110, 4, 1, [⟨31, 24, .rwl, 128⟩, ⟨23, 16, .rwl, 60⟩, ⟨15, 8, .rwl, 30⟩, ⟨7, 0, .rwl, 50⟩]⟩,
   ⟨0x50114, 4, 1, [⟨15, 0, .rwl, 20000⟩]⟩,
   ⟨0x50118, 4, 1, [⟨15, 8, .rwl, 22⟩, ⟨7, 0, .rwl, 32⟩]⟩,
   ⟨0x50140, 4, 4, [⟨31, 16, .rwl, 0⟩, ⟨15, 0, .rwl, 0⟩]⟩,
   ⟨0x51100, 4, 1, [⟨31, 28, .ro, 0⟩, ⟨27, 26, .ro, 0⟩, ⟨25, 24, .ro, 0⟩, ⟨23, 22, .ro, 0⟩, ⟨15, 8, .ro, 0⟩, ⟨7, 4, .ro, 0⟩]⟩,
   ⟨0x51104, 4, 1, [⟨31, 16, .ro, 65535⟩, ⟨15, 0, .ro, 65535⟩]⟩,
   ⟨0x51108, 4, 1, [⟨31, 24, .ro, 0⟩, ⟨23, 16, .ro, 0⟩, ⟨15, 8, .ro, 0⟩, ⟨7, 0, .ro, 0⟩]⟩,
   ⟨0x5110C, 4, 1, [⟨31, 16, .ro, 0⟩, ⟨15, 8, .ro, 0⟩, ⟨7, 0, .ro, 0⟩]⟩,
   ⟨0x51110, 4, 1, [⟨15, 8, .ro, 0⟩, ⟨7, 0, .ro, 0⟩]⟩,
   ⟨0x51114, 4, 1, [⟨31, 0, .ro, 0⟩]⟩,
   ⟨0x51118, 4, 1, [⟨31, 0, .ro, 0⟩]⟩,
   ⟨0x5111C, 4, 1, [⟨3, 0, .ro, 0⟩]⟩]

def regTableDev3 : List RegDesc :=
  [⟨0x60100, 4, 1, [⟨31, 31, .ro, 0⟩, ⟨30, 30, .ro, 0⟩, ⟨26, 24, .ro, 1⟩, ⟨22, 20, .ro, 0⟩, ⟨19, 16, .ro, 0⟩, ⟨15, 0, .ro, 0⟩]⟩,
   ⟨0x60104, 4, 1, [⟨31, 24, .ro, 0⟩, ⟨23, 16, .ro, 0⟩, ⟨15, 11, .ro, 31⟩, ⟨7, 0, .ro, 255⟩]⟩,
   ⟨0x60108, 4, 1, [⟨31, 0, .ro, 0⟩]⟩,
   ⟨0x61100, 4, 1, [⟨31, 31, .ro, 0⟩, ⟨30, 30, .ro, 0⟩, ⟨29, 29, .ro, 0⟩, ⟨28, 28, .ro, 0⟩, ⟨15, 0, .ro, 0⟩]⟩,
   ⟨0x61104, 4, 1, [⟨31, 0, .ro, 0⟩]⟩,
   ⟨0x61108, 4, 1, [⟨15, 0, .ro, 0⟩]⟩,
   ⟨0x30100, 4, 1, [⟨31, 31, .rwl, 1⟩, ⟨30, 30, .rwl, 0⟩, ⟨29, 29, .rwl, 1⟩, ⟨28, 28, .rwl, 0⟩, ⟨26, 24, .rwl, 0⟩, ⟨23, 16, .rwl, 48⟩, ⟨15, 8, .rwl, 32⟩]⟩,
   ⟨0x30104, 4, 1, [⟨31, 31, .rwl, 1⟩, ⟨30, 30, .rwl, 0⟩, ⟨29, 29, .rwl, 1⟩, ⟨28, 28, .rwl, 0⟩, ⟨26, 24, .rwl, 1⟩, ⟨23, 16, .rwl, 48⟩, ⟨15, 8, .rwl, 32⟩]⟩,
   ⟨0x30108, 4, 1, [⟨31, 31, .rwl, 1⟩, ⟨30, 30, .rwl, 0⟩, ⟨29, 29, .rwl, 1⟩, ⟨28, 28, .rwl, 0⟩, ⟨26, 24, .rwl, 2⟩, ⟨23, 16, .rwl, 48⟩, ⟨15, 8, .rwl, 32⟩]⟩,
   ⟨0x3010C, 4, 1, [⟨31, 31, .rwl, 1⟩, ⟨30, 30, .rwl, 0⟩, ⟨29, 29, .rwl, 1⟩, ⟨28, 28, .rwl, 0⟩, ⟨26, 24, .rwl, 3⟩, ⟨23, 16, .rwl, 48⟩, ⟨15, 8, .rwl, 32⟩]⟩,
   ⟨0x30110, 4, 1, [⟨31, 31, .rwl, 1⟩, ⟨30, 30, .rwl, 0⟩, ⟨29, 29, .rwl, 1⟩, ⟨28, 28, .rwl, 0⟩, ⟨26, 24, .rwl, 4⟩, ⟨23, 16, .rwl, 48⟩, ⟨15, 8, .rwl, 32⟩]⟩,
   ⟨0x30114, 4, 1, [⟨31, 31, .rwl, 1⟩, ⟨30, 30, .rwl, 0⟩, ⟨29, 29, .rwl, 1⟩, ⟨28, 28, .rwl, 0⟩, ⟨26, 24, .rwl, 5⟩, ⟨23, 16, .rwl, 48⟩, ⟨15, 8, .rwl, 32⟩]⟩,
   ⟨0x30118, 4, 1, [⟨31, 31, .rwl, 1⟩, ⟨30, 30, .rwl, 0⟩, ⟨29, 29, .rwl, 1⟩, ⟨28, 28, .rwl, 0⟩, ⟨26, 24, .rwl, 6⟩, ⟨23, 16, .rwl, 48⟩, ⟨15, 8, .rwl, 32⟩]⟩,
   ⟨0x3011C, 4, 1, [⟨31, 31, .rwl, 1⟩, ⟨30, 30, .rwl, 0⟩, ⟨29, 29, .rwl, 1⟩, ⟨28, 28, .rwl, 0⟩, ⟨26, 24, .rwl, 7⟩, ⟨23, 16, .rwl, 48⟩, ⟨15, 8, .rwl, 32⟩]⟩,
   ⟨0x30140, 4, 8, [⟨31, 31, .ro, 0⟩, ⟨30, 30, .ro, 0⟩, ⟨29, 29, .ro, 0⟩, ⟨28, 28, .ro, 0⟩, ⟨27, 27, .ro, 0⟩, ⟨11, 0, .ro, 0⟩]⟩,
   ⟨0x31100, 4, 1, [⟨31, 0, .ro, 0⟩]⟩,
   ⟨0x31104, 4, 1, [⟨31, 0, .ro, 0⟩]⟩,
   ⟨0x31108, 4, 1, [⟨18, 0, .ro, 0⟩]⟩,
   ⟨0x31144, 4, 11, [⟨31, 0, .ro, 0⟩]⟩,
   ⟨0x21100, 4, 1, [⟨31, 0, .ro, 0⟩]⟩]

def regTableDev4 : List RegDesc :=
  [⟨0x21104, 4, 1, [⟨31, 0, .ro, 0⟩]⟩,
   ⟨0x21108, 4, 1, [⟨16, 0, .ro, 0⟩]⟩,
   ⟨0x2110C, 4, 1, [⟨16, 0, .ro, 0⟩]⟩,
   ⟨0x21110, 4, 1, [⟨16, 0, .ro, 0⟩]⟩,
   ⟨0x21114, 4, 1, [⟨28, 16, .ro, 0⟩, ⟨12, 0, .ro, 0⟩]⟩,
   ⟨0x21118, 4, 1, [⟨31, 0, .ro, 0⟩]⟩,
   ⟨0x2111C, 4, 1, [⟨31, 0, .ro, 0⟩]⟩,
   ⟨0x21120, 4, 1, [⟨31, 16, .ro, 0⟩, ⟨15, 0, .ro, 0⟩]⟩,
   ⟨0x70100, 4, 1, [⟨31, 16, .ro, 0⟩, ⟨15, 0, .ro, 0⟩]⟩,
   ⟨0x70104, 4, 1, [⟨31, 16, .ro, 0⟩, ⟨15, 0, .ro, 0⟩]⟩,
   ⟨0x70108, 4, 1, [⟨31, 24, .ro, 0⟩, ⟨23, 16, .ro, 0⟩, ⟨15, 8, .ro, 0⟩, ⟨7, 0, .ro, 0⟩]⟩,
   ⟨0x7010C, 4, 1, [⟨31, 0, .ro, 0⟩]⟩,
   ⟨0x70110, 4, 1, [⟨31, 0, .ro, 0⟩]⟩,
   ⟨0x70114, 4, 1, [⟨31, 0, .ro, 0⟩]⟩,
   ⟨0x70118, 4, 1, [⟨31, 0, .ro, 0⟩]⟩,
   ⟨0x70120, 4, 1, [⟨0, 0, .wo, 0⟩]⟩,
   ⟨0x70124, 4, 1, [⟨31, 16, .ro, 0⟩, ⟨7, 4, .ro, 0⟩, ⟨3, 0, .ro, 0⟩]⟩,
   ⟨0x70140, 4, 4, [⟨31, 0, .ro, 0⟩]⟩,
   ⟨0x80100, 4, 1, [⟨31, 0, .ro, 0⟩]⟩,
   ⟨0x80104, 4, 1, [⟨31, 0, .ro, 0⟩]⟩]

def regTableDev5 : List RegDesc :=
  [⟨0x80108, 4, 1, [⟨31, 0, .ro, 0⟩]⟩,
   ⟨0x8010C, 4, 1, [⟨31, 0, .ro, 0⟩]⟩,
   ⟨0x80110, 4, 1, [⟨15, 12, .ro, 0⟩, ⟨11, 8, .ro, 0⟩, ⟨7, 4, .ro, 0⟩, ⟨3, 0, .ro, 0⟩]⟩,
   ⟨0x80114, 4, 1, [⟨31, 16, .ro, 0⟩, ⟨15, 0, .ro, 0⟩]⟩,
   ⟨0x80118, 4, 1, [⟨6, 4, .w1c, 0⟩, ⟨2, 0, .ro, 0⟩]⟩,
   ⟨0x8011C, 4, 1, [⟨31, 0, .ro, 0⟩]⟩,
   ⟨0x80120, 4, 1, [⟨31, 0, .ro, 0⟩]⟩,
   ⟨0x80124, 4, 1, [⟨31, 0, .ro, 0⟩]⟩,
   ⟨0x80140, 4, 32, [⟨31, 31, .ro, 0⟩, ⟨30, 30, .ro, 0⟩, ⟨21, 16, .ro, 0⟩, ⟨5, 0, .ro, 0⟩]⟩,
   ⟨0x90100, 4, 1, [⟨31, 31, .ro, 0⟩, ⟨30, 30, .ro, 0⟩, ⟨29, 29, .w1c, 0⟩, ⟨26, 24, .ro, 0⟩, ⟨15, 0, .ro, 0⟩]⟩,
   ⟨0x90104, 4, 1, [⟨31, 16, .ro, 0⟩, ⟨13, 0, .ro, 0⟩]⟩,
   ⟨0x90108, 4, 1, [⟨31, 0, .ro, 0⟩]⟩,
   ⟨0x9010C, 4, 1, [⟨31, 16, .ro, 0⟩, ⟨15, 0, .ro, 0⟩]⟩,
   ⟨0x90140, 4, 12, [⟨31, 0, .ro, 0⟩]⟩,
   ⟨0x90180, 4, 12, [⟨31, 0, .ro, 0⟩]⟩,
   ⟨0xA0100, 4, 1, [⟨7, 4, .ro, 0⟩, ⟨3, 0, .ro, 0⟩]⟩,
   ⟨0xA0104, 4, 1, [⟨31, 24, .ro, 0⟩, ⟨23, 16, .ro, 0⟩, ⟨15, 8, .ro, 0⟩, ⟨7, 0, .ro, 0⟩]⟩,
   ⟨0xA0108, 4, 1, [⟨31, 0, .ro, 0⟩]⟩,
   ⟨0xA010C, 4, 1, [⟨31, 16, .ro, 0⟩, ⟨15, 0, .ro, 0⟩]⟩,
   ⟨0xA0110, 4, 1, [⟨5, 5, .ro, 0⟩, ⟨4, 4, .ro, 0⟩, ⟨3, 3, .ro, 0⟩, ⟨2, 2, .ro, 0⟩, ⟨1, 1, .ro, 0⟩, ⟨0, 0, .ro, 0⟩]⟩]

def regTableDev6 : List RegDesc :=
  [⟨0xB0100, 4, 1, [⟨7, 7, .wo, 0⟩, ⟨4, 4, .rws, 0⟩, ⟨3, 2, .rws, 1⟩, ⟨0, 0, .rws, 0⟩]⟩,
   ⟨0xB0104, 4, 2, [⟨31, 29, .ro, 0⟩, ⟨28, 24, .ro, 0⟩, ⟨23, 16, .ro, 0⟩, ⟨15, 8, .ro, 0⟩, ⟨7, 0, .ro, 0⟩]⟩,
   ⟨0xB010C, 4, 2, [⟨31, 31, .ro, 0⟩, ⟨30, 30, .ro, 0⟩, ⟨29, 29, .ro, 0⟩, ⟨12, 0, .ro, 0⟩]⟩,
   ⟨0xB0114, 4, 1, [⟨31, 16, .ro, 0⟩, ⟨15, 0, .ro, 0⟩]⟩,
   ⟨0xB0118, 4, 1, [⟨31, 0, .ro, 0⟩]⟩,
   ⟨0xB011C, 4, 1, [⟨31, 31, .w1c, 0⟩, ⟨12, 0, .ro, 0⟩]⟩,
   ⟨0xC0100, 4, 1, [⟨31, 31, .ro, 0⟩, ⟨30, 30, .ro, 0⟩, ⟨29, 29, .ro, 0⟩, ⟨28, 28, .ro, 0⟩, ⟨27, 27, .ro, 0⟩, ⟨9, 0, .ro, 0⟩]⟩,
   ⟨0xC0104, 4, 1, [⟨23, 16, .ro, 0⟩, ⟨15, 0, .ro, 0⟩]⟩,
   ⟨0xC0108, 4, 1, [⟨31, 16, .ro, 0⟩, ⟨15, 0, .ro, 0⟩]⟩,
   ⟨0xC010C, 4, 1, [⟨31, 16, .ro, 0⟩, ⟨15, 0, .ro, 0⟩]⟩,
   ⟨0xC0110, 4, 1, [⟨24, 16, .ro, 0⟩, ⟨8, 0, .ro, 0⟩]⟩,
   ⟨0xC0114, 4, 1, [⟨31, 24, .rwl, 8⟩, ⟨15, 0, .ro, 0⟩]⟩,
   ⟨0xC0118, 4, 1, [⟨15, 0, .ro, 0⟩]⟩,
   ⟨0xC0140, 4, 32, [⟨31, 31, .rwl, 0⟩, ⟨30, 30, .rwl, 0⟩, ⟨29, 24, .rwl, 0⟩, ⟨23, 12, .rwl, 0⟩, ⟨11, 0, .rwl, 0⟩]⟩,
   ⟨0xD0100, 4, 1, [⟨6, 6, .ro, 0⟩, ⟨5, 5, .ro, 0⟩, ⟨4, 4, .ro, 0⟩, ⟨3, 2, .ro, 0⟩, ⟨1, 0, .ro, 0⟩]⟩,
   ⟨0xD0104, 4, 1, [⟨31, 0, .ro, 0⟩]⟩,
   ⟨0xD0108, 4, 1, [⟨31, 0, .ro, 0⟩]⟩,
   ⟨0xD010C, 4, 1, [⟨31, 16, .ro, 0⟩, ⟨10, 0, .ro, 0⟩]⟩,
   ⟨0xD0110, 4, 1, [⟨11, 8, .ro, 0⟩, ⟨7, 4, .ro, 0⟩, ⟨3, 0, .ro, 0⟩]⟩,
   ⟨0xD0114, 4, 1, [⟨31, 16, .ro, 0⟩, ⟨15, 0, .ro, 0⟩]⟩]

def regTableDev7 : List RegDesc :=
  [⟨0xD0118, 4, 1, [⟨31, 16, .ro, 0⟩, ⟨15, 0, .ro, 0⟩]⟩,
   ⟨0xD011C, 4, 1, [⟨31, 24, .ro, 0⟩, ⟨23, 16, .ro, 0⟩, ⟨15, 8, .ro, 0⟩, ⟨7, 0, .ro, 0⟩]⟩,
   ⟨0xD0120, 4, 1, [⟨31, 0, .ro, 0⟩]⟩,
   ⟨0xD0124, 4, 1, [⟨31, 0, .ro, 0⟩]⟩,
   ⟨0xD0128, 4, 1, [⟨0, 0, .wo, 0⟩]⟩,
   ⟨0xD012C, 4, 1, [⟨14, 0, .ro, 0⟩]⟩,
   ⟨0xD0130, 4, 1, [⟨31, 0, .ro, 0⟩]⟩,
   ⟨0xD0134, 4, 1, [⟨31, 0, .ro, 0⟩]⟩,
   ⟨0xE0100, 4, 1, [⟨2, 0, .rw, 0⟩]⟩,
   ⟨0xE0104, 4, 1, [⟨31, 16, .rwl, 600⟩, ⟨15, 0, .rwl, 1000⟩]⟩,
   ⟨0xE0108, 4, 1, [⟨31, 31, .rwl, 0⟩, ⟨15, 0, .rwl, 500⟩]⟩,
   ⟨0xE010C, 4, 1, [⟨31, 29, .ro, 0⟩, ⟨28, 28, .ro, 0⟩, ⟨27, 27, .w1c, 0⟩, ⟨26, 26, .ro, 0⟩, ⟨22, 16, .ro, 0⟩, ⟨15, 13, .ro, 0⟩, ⟨11, 8, .ro, 0⟩]⟩,
   ⟨0xE0140, 4, 8, [⟨31, 31, .rwl, 0⟩, ⟨30, 30, .rwl, 0⟩, ⟨29, 29, .rwl, 0⟩, ⟨28, 28, .rwl, 0⟩, ⟨27, 27, .rwl, 0⟩, ⟨25, 24, .rwl, 2⟩]⟩,
   ⟨0xE0160, 4, 1, [⟨15, 0, .w1c, 0⟩]⟩,
   ⟨0xE0164, 4, 1, [⟨31, 0, .ro, 0⟩]⟩,
   ⟨0xE0168, 4, 1, [⟨31, 0, .ro, 0⟩]⟩,
   ⟨0xE0170, 4, 1, [⟨31, 0, .rw, 0⟩]⟩,
   ⟨0xE0174, 4, 1, [⟨31, 0, .rw, 0⟩]⟩,
   ⟨0xE0180, 4, 1, [⟨31, 31, .ro, 0⟩, ⟨30, 30, .ro, 0⟩, ⟨26, 24, .ro, 0⟩, ⟨15, 0, .ro, 9500⟩]⟩,
   ⟨0xE0184, 4, 1, [⟨31, 16, .ro, 0⟩, ⟨15, 0, .ro, 0⟩]⟩]

def regTableDev8 : List RegDesc :=
  [⟨0xE0188, 4, 1, [⟨31, 16, .ro, 0⟩, ⟨15, 0, .ro, 0⟩]⟩,
   ⟨0xE018C, 4, 1, [⟨0, 0, .wo, 0⟩]⟩,
   ⟨0xE1100, 4, 1, [⟨31, 24, .rwl, 85⟩, ⟨15, 0, .rwl, 12000⟩]⟩,
   ⟨0xE1104, 4, 1, [⟨31, 16, .rwl, 60⟩, ⟨15, 0, .rwl, 2⟩]⟩,
   ⟨0xE1108, 4, 1, [⟨31, 16, .rwl, 500⟩, ⟨15, 0, .rwl, 100⟩]⟩,
   ⟨0xE110C, 4, 1, [⟨31, 0, .ro, 4294967295⟩]⟩,
   ⟨0xE1110, 4, 1, [⟨26, 24, .ro, 1⟩, ⟨15, 0, .ro, 0⟩]⟩,
   ⟨0xE1114, 4, 1, [⟨31, 0, .ro, 2147483647⟩]⟩,
   ⟨0xE1118, 4, 1, [⟨31, 0, .ro, 0⟩]⟩,
   ⟨0xE111C, 4, 1, [⟨31, 16, .ro, 65535⟩, ⟨15, 0, .ro, 0⟩]⟩,
   ⟨0xE1120, 4, 1, [⟨31, 16, .ro, 1500⟩, ⟨15, 0, .ro, 390⟩]⟩,
   ⟨0xE1124, 4, 1, [⟨31, 0, .ro, 0⟩]⟩,
   ⟨0xE1128, 4, 1, [⟨31, 0, .ro, 0⟩]⟩,
   ⟨0xE112C, 4, 1, [⟨31, 0, .ro, 0⟩]⟩,
   ⟨0xE1130, 4, 1, [⟨31, 16, .ro, 0⟩, ⟨15, 0, .ro, 0⟩]⟩,
   ⟨0xF0100, 4, 1, [⟨31, 29, .ro, 0⟩, ⟨28, 28, .ro, 0⟩, ⟨27, 27, .ro, 0⟩, ⟨26, 26, .ro, 0⟩, ⟨25, 25, .ro, 0⟩, ⟨14, 8, .ro, 0⟩, ⟨3, 0, .ro, 0⟩]⟩,
   ⟨0xF0104, 4, 1, [⟨17, 15, .rwl, 0⟩, ⟨14, 12, .rwl, 0⟩, ⟨11, 9, .rwl, 0⟩, ⟨8, 6, .rwl, 0⟩, ⟨5, 3, .rwl, 0⟩, ⟨2, 0, .rwl, 0⟩]⟩,
   ⟨0xF0108, 4, 1, [⟨16, 16, .rwl, 0⟩, ⟨15, 0, .rwl, 100⟩]⟩,
   ⟨0xF010C, 4, 1, [⟨31, 16, .wo, 0⟩, ⟨0, 0, .wo, 0⟩]⟩,
   ⟨0xF0110, 4, 1, [⟨15, 8, .ro, 0⟩, ⟨7, 0, .ro, 0⟩]⟩]

def regTableDev9 : List RegDesc :=
  [⟨0xF0114, 4, 1, [⟨5, 0, .rw, 0⟩]⟩,
   ⟨0xF0118, 4, 1, [⟨31, 0, .ro, 0⟩]⟩,
   ⟨0xF0120, 4, 4, [⟨31, 0, .ro, 0⟩]⟩,
   ⟨0xF0144, 4, 7, [⟨31, 16, .ro, 0⟩, ⟨15, 0, .ro, 0⟩]⟩,
   ⟨0x1100, 4, 1, [⟨31, 31, .ro, 0⟩, ⟨26, 24, .ro, 0⟩, ⟨18, 16, .ro, 0⟩, ⟨10, 8, .ro, 0⟩, ⟨2, 0, .ro, 0⟩]⟩,
   ⟨0x1104, 4, 1, [⟨31, 31, .ro, 0⟩, ⟨30, 30, .ro, 0⟩, ⟨29, 29, .ro, 0⟩, ⟨28, 28, .ro, 0⟩, ⟨27, 27, .ro, 0⟩, ⟨15, 0, .ro, 0⟩]⟩,
   ⟨0x1108, 4, 1, [⟨31, 16, .ro, 0⟩, ⟨15, 0, .ro, 0⟩]⟩,
   ⟨0x100100, 4, 1, [⟨31, 31, .rwl, 0⟩, ⟨30, 30, .rwl, 1⟩, ⟨29, 16, .rwl, 2000⟩, ⟨7, 0, .rwl, 30⟩]⟩,
   ⟨0x100104, 4, 1, [⟨31, 31, .ro, 0⟩, ⟨30, 28, .ro, 0⟩, ⟨27, 27, .ro, 0⟩, ⟨26, 26, .ro, 0⟩, ⟨25, 24, .ro, 0⟩, ⟨23, 23, .ro, 0⟩, ⟨21, 16, .ro, 0⟩, ⟨15, 0, .ro, 0⟩]⟩,
   ⟨0x100108, 4, 1, [⟨31, 16, .ro, 0⟩, ⟨15, 0, .ro, 0⟩]⟩,
   ⟨0x62100, 4, 2, [⟨31, 31, .rwl, 0⟩, ⟨30, 30, .rwl, 1⟩, ⟨29, 29, .rwl, 1⟩, ⟨28, 28, .rwl, 1⟩, ⟨27, 27, .rwl, 1⟩, ⟨15, 0, .rwl, 50⟩]⟩,
   ⟨0x62108, 8, 2, [⟨31, 27, .rwl, 1⟩, ⟨26, 19, .rwl, 62⟩, ⟨18, 12, .rwl, 15⟩, ⟨11, 5, .rwl, 15⟩]⟩,
   ⟨0x6210C, 8, 2, [⟨31, 27, .rwl, 0⟩, ⟨26, 22, .rwl, 30⟩, ⟨21, 18, .rwl, 7⟩, ⟨17, 14, .rwl, 7⟩, ⟨13, 13, .rwl, 1⟩, ⟨12, 6, .rwl, 31⟩]⟩,
   ⟨0x62118, 4, 2, [⟨31, 30, .ro, 0⟩, ⟨29, 16, .ro, 0⟩, ⟨15, 8, .ro, 0⟩, ⟨7, 0, .ro, 0⟩]⟩,
   ⟨0x101100, 4, 1, [⟨24, 20, .rwl, 4⟩, ⟨19, 15, .rwl, 3⟩, ⟨14, 10, .rwl, 2⟩, ⟨9, 5, .rwl, 1⟩, ⟨4, 0, .rwl, 0⟩]⟩,
   ⟨0x101104, 4, 1, [⟨31, 31, .w1c, 0⟩, ⟨30, 30, .w1c, 0⟩, ⟨29, 29, .rwl, 0⟩, ⟨28, 28, .rwl, 0⟩, ⟨18, 16, .ro, 0⟩, ⟨15, 0, .ro, 0⟩]⟩,
   ⟨0x102100, 4, 12, [⟨3, 3, .rwl, 0⟩, ⟨2, 2, .rwl, 1⟩, ⟨1, 0, .rwl, 0⟩]⟩,
   ⟨0x102140, 4, 1, [⟨11, 0, .rw, 0⟩]⟩,
   ⟨0x102144, 4, 1, [⟨11, 0, .ro, 0⟩]⟩,
   ⟨0x110180, 4, 1, [⟨29, 20, .ro, 0⟩, ⟨19, 10, .ro, 0⟩, ⟨9, 0, .ro, 0⟩]⟩]

def regTableDev10 : List RegDesc :=
  [⟨0x110184, 4, 1, [⟨31, 24, .ro, 0⟩, ⟨23, 16, .ro, 0⟩, ⟨15, 8, .ro, 0⟩, ⟨7, 0, .ro, 0⟩]⟩,
   ⟨0x110188, 4, 1, [⟨31, 0, .ro, 0⟩]⟩,
   ⟨0x11018C, 4, 1, [⟨0, 0, .wo, 0⟩]⟩,
   ⟨0x51140, 4, 1, [⟨31, 16, .ro, 0⟩, ⟨15, 0, .ro, 0⟩]⟩,
   ⟨0x51144, 4, 1, [⟨31, 16, .ro, 0⟩, ⟨15, 0, .ro, 0⟩]⟩,
   ⟨0x51148, 4, 1, [⟨31, 16, .ro, 0⟩, ⟨15, 0, .ro, 0⟩]⟩,
   ⟨0x5114C, 4, 1, [⟨31, 16, .ro, 0⟩, ⟨15, 0, .ro, 0⟩]⟩,
   ⟨0x60140, 4, 1, [⟨31, 16, .ro, 0⟩, ⟨15, 0, .ro, 0⟩]⟩,
   ⟨0x60144, 4, 1, [⟨31, 16, .ro, 0⟩, ⟨15, 0, .ro, 0⟩]⟩,
   ⟨0x60148, 4, 1, [⟨31, 16, .ro, 0⟩, ⟨15, 0, .ro, 0⟩]⟩,
   ⟨0x30180, 8, 8, [⟨31, 16, .ro, 0⟩, ⟨15, 0, .ro, 0⟩]⟩,
   ⟨0x30184, 8, 8, [⟨31, 16, .ro, 0⟩, ⟨15, 0, .ro, 0⟩]⟩]

/-- Registers of the device window. -/
def regTableDev : List RegDesc :=
  regTableDev0 ++ regTableDev1 ++ regTableDev2 ++ regTableDev3 ++ regTableDev4 ++ regTableDev5 ++ regTableDev6 ++ regTableDev7 ++ regTableDev8 ++ regTableDev9 ++ regTableDev10

def regTablePart0 : List RegDesc :=
  [⟨0x100, 4, 1, [⟨15, 15, .ro, 0⟩, ⟨14, 14, .ro, 0⟩, ⟨13, 13, .ro, 0⟩, ⟨12, 12, .ro, 0⟩, ⟨5, 0, .ro, 0⟩]⟩,
   ⟨0x3100, 4, 1, [⟨31, 12, .rw, 0⟩]⟩,
   ⟨0x3104, 4, 1, [⟨31, 0, .rw, 0⟩]⟩,
   ⟨0x3108, 4, 1, [⟨31, 31, .rw, 0⟩, ⟨20, 16, .rw, 0⟩, ⟨3, 0, .rw, 0⟩]⟩,
   ⟨0x310C, 4, 1, [⟨11, 0, .rw, 0⟩]⟩,
   ⟨0x3110, 4, 1, [⟨31, 31, .ro, 1⟩, ⟨11, 0, .ro, 0⟩]⟩,
   ⟨0x3114, 4, 1, [⟨31, 16, .ro, 0⟩, ⟨15, 8, .ro, 0⟩, ⟨2, 2, .w1c, 0⟩, ⟨1, 1, .w1c, 0⟩, ⟨0, 0, .ro, 0⟩]⟩,
   ⟨0x4100, 4, 1, [⟨31, 24, .ro, 0⟩, ⟨23, 16, .ro, 0⟩, ⟨15, 8, .ro, 0⟩, ⟨1, 0, .ro, 0⟩]⟩,
   ⟨0x4104, 4, 1, [⟨26, 16, .ro, 0⟩, ⟨10, 0, .ro, 0⟩]⟩,
   ⟨0x4108, 4, 1, [⟨18, 0, .ro, 0⟩]⟩,
   ⟨0x410C, 4, 1, [⟨18, 0, .ro, 0⟩]⟩,
   ⟨0x4110, 4, 1, [⟨29, 16, .ro, 0⟩, ⟨13, 0, .ro, 0⟩]⟩,
   ⟨0x4114, 4, 1, [⟨31, 16, .ro, 0⟩, ⟨15, 0, .ro, 0⟩]⟩,
   ⟨0x5100, 4, 1, [⟨4, 0, .ro, 0⟩]⟩,
   ⟨0x5104, 4, 1, [⟨4, 0, .ro, 0⟩]⟩,
   ⟨0x5108, 4, 1, [⟨4, 0, .ro, 0⟩]⟩,
   ⟨0x510C, 4, 1, [⟨12, 8, .ro, 0⟩, ⟨4, 0, .ro, 0⟩]⟩,
   ⟨0x2100, 4, 1, [⟨31, 12, .rw, 0⟩]⟩,
   ⟨0x2104, 4, 1, [⟨31, 0, .rw, 0⟩]⟩,
   ⟨0x2108, 4, 1, [⟨31, 31, .rw, 0⟩, ⟨27, 24, .rw, 0⟩, ⟨23, 16, .rw, 0⟩, ⟨15, 8, .rw, 0⟩, ⟨4, 0, .rw, 0⟩]⟩]

def regTablePart1 : List RegDesc :=
  [⟨0x210C, 4, 1, [⟨1, 0, .wo, 0⟩]⟩,
   ⟨0x2110, 4, 1, [⟨31, 31, .ro, 0⟩, ⟨15, 0, .ro, 0⟩]⟩,
   ⟨0x2114, 4, 1, [⟨17, 0, .ro, 0⟩]⟩,
   ⟨0x2118, 4, 1, [⟨31, 31, .ro, 0⟩, ⟨30, 30, .ro, 0⟩, ⟨18, 12, .ro, 0⟩, ⟨11, 0, .ro, 0⟩]⟩,
   ⟨0x2140, 4, 8, [⟨31, 0, .ro, 0⟩]⟩,
   ⟨0x2160, 4, 8, [⟨31, 0, .ro, 0⟩]⟩,
   ⟨0x1100, 4, 256, [⟨11, 0, .rw, 0⟩]⟩,
   ⟨0x1800, 4, 256, [⟨11, 0, .rw, 0⟩]⟩,
   ⟨0x7100, 4, 1, [⟨31, 31, .ro, 0⟩, ⟨26, 24, .ro, 0⟩, ⟨23, 16, .ro, 0⟩, ⟨13, 8, .ro, 0⟩, ⟨5, 0, .ro, 0⟩]⟩,
   ⟨0x6100, 4, 1, [⟨31, 29, .ro, 0⟩, ⟨26, 24, .ro, 1⟩, ⟨15, 0, .ro, 0⟩]⟩,
   ⟨0x6104, 4, 1, [⟨31, 16, .ro, 65535⟩]⟩,
   ⟨0x7180, 4, 1, [⟨31, 0, .ro, 0⟩]⟩,
   ⟨0x7200, 4, 1, [⟨31, 0, .ro, 0⟩]⟩,
   ⟨0x7204, 4, 1, [⟨31, 0, .ro, 0⟩]⟩]

/-- The MSI-X table: address, upper address, data and vector control of 32 vectors, masked after reset, and the Pending Bit
Array (04 R129, R145; layout and reset of PCI Express, notes/assumptions 5). -/
def regTablePart2 : List RegDesc :=
  [⟨0x3800, 16, 32, [⟨31, 2, .rw, 0⟩]⟩,
   ⟨0x3804, 16, 32, [⟨31, 0, .rw, 0⟩]⟩,
   ⟨0x3808, 16, 32, [⟨31, 0, .rw, 0⟩]⟩,
   ⟨0x380C, 16, 32, [⟨0, 0, .rw, 1⟩]⟩,
   ⟨0x3C00, 4, 1, [⟨31, 0, .ro, 0⟩]⟩]

/-- Registers of a partition window, offsets in the window. -/
def regTablePart : List RegDesc :=
  regTablePart0 ++ regTablePart1 ++ regTablePart2

def regTableHdr0 : List RegDesc :=
  [⟨0x0, 4, 1, [⟨31, 24, .ro, 0⟩, ⟨23, 16, .ro, 0⟩, ⟨15, 8, .ro, 0⟩, ⟨7, 0, .ro, 0⟩]⟩,
   ⟨0x4, 4, 1, [⟨31, 16, .ro, 1⟩, ⟨15, 0, .ro, 0⟩]⟩,
   ⟨0x8, 4, 1, [⟨31, 31, .ro, 0⟩, ⟨30, 30, .ro, 0⟩, ⟨29, 29, .ro, 0⟩, ⟨15, 0, .ro, 0⟩]⟩,
   ⟨0xC, 4, 1, [⟨5, 5, .ro, 0⟩, ⟨4, 4, .ro, 0⟩, ⟨3, 3, .ro, 0⟩, ⟨2, 2, .ro, 0⟩, ⟨1, 1, .ro, 0⟩, ⟨0, 0, .ro, 0⟩]⟩,
   ⟨0x10, 4, 1, [⟨2, 2, .wo, 0⟩, ⟨1, 1, .rw, 0⟩, ⟨0, 0, .rw, 1⟩]⟩,
   ⟨0x14, 4, 1, [⟨31, 31, .rwl, 0⟩, ⟨5, 0, .rwl, 0⟩]⟩,
   ⟨0x20, 4, 1, [⟨31, 0, .ro, 0⟩]⟩,
   ⟨0x24, 4, 1, [⟨31, 0, .rw, 0⟩]⟩,
   ⟨0x28, 4, 1, [⟨31, 0, .w1c, 0⟩]⟩,
   ⟨0x2C, 4, 1, [⟨31, 0, .wo, 0⟩]⟩,
   ⟨0x30, 4, 1, [⟨31, 31, .rw, 0⟩, ⟨4, 0, .rw, 0⟩]⟩,
   ⟨0x40, 4, 1, [⟨31, 31, .w1c, 0⟩, ⟨30, 30, .ro, 0⟩, ⟨29, 24, .ro, 0⟩, ⟨23, 16, .ro, 0⟩, ⟨11, 0, .ro, 0⟩]⟩,
   ⟨0x44, 4, 1, [⟨31, 0, .ro, 0⟩]⟩,
   ⟨0x48, 4, 1, [⟨31, 0, .ro, 0⟩]⟩,
   ⟨0x4C, 4, 1, [⟨31, 0, .ro, 0⟩]⟩,
   ⟨0x50, 4, 1, [⟨0, 0, .w1s, 0⟩]⟩]

/-- Registers of the standard page header (04 R124), offsets in the page. -/
def regTableHdr : List RegDesc :=
  regTableHdr0

end Sys2Proof.Machine
end

