-- ==== Sys2Proof/Machine/FlowTypes.lean ====
section
/-! DEFINITION. State of lanes, flows and the Spillway (09_traffic_protection.md R326-R375). -/

namespace Sys2Proof.Machine

/-- A flow context: CTL's fields and the rest of the 48 bytes (R342, R343). -/
structure Ctx where
  kind : Nat
  cls : Nat
  part : Nat
  invert : Bool
  action : Nat
  report : Bool
  enabled : Bool
  carry : Nat
  egress : Nat
  spill : Bool
  lost : Bool
  stalled : Bool
  key0 : Nat
  key1 : Nat
  param : Nat
  fv0 : Nat
  fv1 : Nat
  aux : Nat
  okCnt : Nat
  failCnt : Nat
  lastFail : Nat
  deriving DecidableEq, Repr

/-- What the spill table and the caches hold of a Spillway flow (R370-R372): whether its context is
cached on its home half, whether the cached context has changed, and the place of its last use. -/
structure SpillInfo where
  cached : Bool
  changed : Bool
  loading : Bool
  lastUse : Nat
  deriving DecidableEq, Repr

/-- A flow: its context, match key and lanes (R340), a checkpoint commit under way with its target (R356), the time of
its last FLOW_FAILURE and the failures suppressed since (R361), whether its PN threshold was said (R353), the freshness
set by a restart still to come for a Spillway flow (R357), and its spill entry. -/
structure Flow where
  ctx : Ctx
  key : Bytes
  lanes : Nat
  ckptTo : Option Nat
  lastEvent : Option Nat
  suppressed : Nat
  restart : Bool
  spill : Option SpillInfo
  deriving DecidableEq, Repr

/-- A message or PDU of a frame (R335): the flow that matched it, its header bytes and its payload,
its bytes as they will leave, the freshness value a verified message waits with, whether it is processed or dropped, and when it began to wait for a checkpoint. -/
structure Msg where
  flow : Option Nat
  hdr : Bytes
  body : Bytes
  raw : Bytes
  cand : Nat
  done : Bool
  dropped : Bool
  waitSince : Option Nat
  deriving DecidableEq, Repr

/-- How a frame's payload was parsed (R334): the kind of its step. -/
inductive Parse
  | macsecRx | acf | someip | raw | macsecTx | none
  deriving DecidableEq, Repr

/-- A frame held in the ingress buffer (R330-R335): lane, the bytes it takes and where, its bytes without FCS as
received, the parse, the part before the messages, its messages, the part after them, whether it is diverted,
changed or dropped, whether it is unclassified, the time it was received, and the epoch it carries to the gate (01 R33). -/
structure Frame where
  id : Nat
  lane : Nat
  size : Nat
  shared : Bool
  orig : Bytes
  parse : Parse
  pre : Bytes
  msgs : List Msg
  post : Bytes
  divert : Bool
  changed : Bool
  unknown : Bool
  egress : Option Nat
  since : Nat
  epoch : Nat := 0
  deriving DecidableEq, Repr

/-- A lane (R328-R331): the frame arriving and where its reservation lies, the end of the partner's PAUSE, and the
time of the last PAUSE sent. -/
structure LaneSt where
  arriving : Option Bool
  pausedUntil : Option Nat
  pauseSent : Nat
  deriving DecidableEq, Repr

/-- The Spillway: region base and usable indices, SPILL_KEY, current version of each
index (unlisted 0), retired indices, and the order of uses of the caches (R368-R374). -/
structure SpillSt where
  base : Nat
  usable : Nat
  key : Bytes
  versions : List (Nat × Nat)
  retired : List Nat
  clock : Nat
  deriving DecidableEq, Repr

end Sys2Proof.Machine
end

