-- ==== Sys2Proof/Machine/FrontTypes.lean ====
section
/-! DEFINITION. State of the access front end, of ranging and of the access session (06_access_front_end.md,
07_ranging.md, 08_access_protocol_and_release.md). -/

namespace Sys2Proof.Machine

/-- Configuration words of one page as a start read them: the words that differ from their reset value (R207, R283). -/
abbrev CfgWords := List (Nat × Word)

/-- A handle channel (R212-R219): baseline in 1/256 counts, latest count, run of low measurements, run of counts in
range while FAULT, confirmation (measurements left, touch stamp), measurement discarded under R211, start of the touch, start of the
last measurement of the confirmation and the configuration that the confirmation began with (R207). -/
structure HsChan where
  base : Nat
  count : Nat
  lowRun : Nat
  goodRun : Nat
  confirm : Option (Nat × Nat)
  discarded : Bool
  touchedAt : Option Nat
  lastAt : Nat := 0
  cfg : CfgWords := []
  deriving DecidableEq, Repr

/-- The handle-sense front end: channels 0-5, channels still to measure in the round, the time of the last round and
the configuration it read, with HS_SSC (R207, R209, R210; 02 R72), and the touches confirmed that an earlier stamp under confirmation
still holds back, as (channel, stamp) by stamp (R214). -/
structure HsSt where
  chans : List HsChan
  round : List Nat
  lastRound : Nat
  cfg : CfgWords
  ssc : Nat := 1
  ready : List (Nat × Nat) := []
  deriving DecidableEq, Repr

/-- Which frame the halves asked for (R292). -/
inductive LfKind
  | challenge | welcome | repoll (fob : Nat) | pair
  deriving DecidableEq, Repr

/-- An LF frame requested by the halves: its data field, and the channels to which they narrow its burst list and its broadcast set
(R224, R226). -/
structure LfReq where
  kind : LfKind
  data : Bytes
  bursts : Nat
  bcast : Nat := 255
  deriving DecidableEq, Repr

/-- Current drawn from VLF: from when, until when, and how much in mA (R227). -/
structure LfDraw where
  since : Nat
  till : Nat
  ma : Nat
  deriving DecidableEq, Repr

/-- A telegram passed in a window: its slot, its payload, the time of its sync end, its input and its RSSI (R238). -/
structure Heard where
  slot : Nat
  payload : Bytes
  syncAt : Nat
  input : Nat
  rssi : Nat
  deriving DecidableEq, Repr

/-- A backup-coil session (R231): step 1, NONCE_V of the frame last sent, whether a transponder showed (steps 3 and 4 run), the end of
the last downlink, the time the field goes off unless the halves extend it, and the page as the start read it (R207). -/
structure BcSession where
  startedAt : Nat
  nonceV : Bytes
  exchange : Bool
  downEnd : Nat
  till : Nat
  cfg : CfgWords
  deriving DecidableEq, Repr

/-- Source of an access session, coded as SOURCE of R314. -/
inductive Source
  | touch | start | welcome | backupCoil | command
  deriving DecidableEq, Repr

/-- A VALID answer: key, its LF field strengths by channel, k_sts, k_rpt, the payload and its time (R294-R300). -/
structure Candidate where
  fob : Nat
  strengths : List (Nat × Nat)
  kSts : Bytes
  kRpt : Bytes
  payload : Bytes
  time : Nat
  nonceV : Bytes
  deriving DecidableEq, Repr

/-- A key listed for re-polls after a window (R242): its slot, frames sent, whether it answered, whether its re-polls
are over, and the failed hypotheses and peak RSSI of the slot. -/
structure Repoll where
  slot : Nat
  fob : Nat
  count : Nat
  answered : Bool
  done : Bool
  hyps : Nat
  rssi : Nat
  deriving DecidableEq, Repr

/-- A running access session (R288-R303, R312). `target` is 0-7 for doors, 16 for START, 32 for WELCOME; `bursts` are those the last
CHALLENGE or WELCOME named, `sent` those of them that went out (R229, R230); `bcFob` is the key whose
reply on the backup coil was valid. -/
structure Session where
  source : Source
  target : Nat
  openedAt : Nat
  nonceV : Bytes
  cmd : Nat
  bursts : Nat
  sent : Nat := 0
  candidates : List Candidate
  answers : List (Nat × Bytes)
  decided : List Nat
  ranged : List Nat
  retriesLeft : Nat
  repolls : List Repoll
  polled : List (Nat × Nat)
  polling : Bool
  rounds : Nat
  lastStatus : Nat
  lastReason : Nat
  lastFob : Nat
  lastZone : Nat
  lastRng : Nat
  lastBound : Nat
  lastScore : Nat
  bcFob : Option Nat := none
  drawDue : Bool := false
  deriving DecidableEq, Repr

/-- A frame on air or ended: the request as composed, its start, broadcast set, burst list (R224), bursts sent and bursts omitted
(R225, R229), the session that asked for it if that is over, and its end. -/
structure LfAir where
  req : LfReq
  startedAt : Nat
  broadcast : Nat
  asked : Nat
  bursts : Nat
  omitted : Nat
  past : Option Session := none
  endedAt : Nat := 0
  deriving DecidableEq, Repr

/-- The LF drivers: frame on air, frames waiting, VLF in mV, end of the last transmission, currents drawn of late (R227), frames
reported not sent, the last frame that ended, the configuration that the last frame read at its start (R207), the time of each
channel's last diagnostic, and the channels tested since their bank was powered (R228). -/
structure LfSt where
  air : Option LfAir
  waiting : List LfReq
  vlfMv : Nat
  lastEnd : Nat
  charge : List LfDraw
  notSent : Nat
  ended : Option LfAir
  cfg : CfgWords
  diagAt : List Nat := []
  tested : Nat := 0
  deriving DecidableEq, Repr

/-- A UHF response window (R240, R241): time it opens, its slots, the key re-polled, the page as the start read it (R207), the
hypotheses open (slot and time of the sync end, oldest first), the telegrams passed, the slots of hypotheses failed, and the session
that asked for it if that is over. -/
structure UhfWindow where
  opensAt : Nat
  slots : Nat
  repoll : Option Nat
  hyps : List (Nat × Nat)
  passed : List Heard
  failed : List Nat
  cfg : CfgWords
  past : Option Session
  deriving DecidableEq, Repr

/-- A touch or start request that waits for the running session (R289). -/
structure Queued where
  source : Source
  target : Nat
  stamp : Nat
  deriving DecidableEq, Repr

/-- A fob record (R306). -/
structure FobRec where
  id : Nat
  fobId : Nat
  slot : Nat
  rights : Nat
  key : Bytes
  gen : Nat
  deriving DecidableEq, Repr

/-- The last valid key nonces of one key with their times (R301). -/
structure NonceLog where
  fob : Nat
  nonces : List (Bytes × Nat)
  deriving DecidableEq, Repr

/-- The components C1-C5 of a record (R270). -/
structure Comps where
  c1 : Nat
  c2 : Nat
  c3 : Nat
  c4 : Nat
  c5 : Nat
  deriving DecidableEq, Repr

/-- What the engines find in the CIR record of a RESPONSE (R270, R271, R278): its components, the STS first path in units, received
and first-path power. -/
structure CirFound where
  comps : Comps
  firstPath : Int
  rxPower : Nat
  fpPower : Nat
  deriving DecidableEq, Repr

/-- One ranging round in progress (R263): index in its request, session round number n, ports, t1, coarse and refined
RESPONSE time, t5, response seen, REPORT received, what the record of RESPONSE shows, and C1 of the record of REPORT. -/
structure Round where
  idx : Nat
  n : Nat
  txPort : Nat
  rxPort : Nat
  t1 : Nat
  responseSeen : Bool
  t4c : Nat
  t5 : Nat
  finalSent : Bool
  reportSeen : Bool
  report : Bytes
  startedAt : Nat
  found : Option CirFound
  reportC1 : Option Nat
  deriving DecidableEq, Repr

/-- Ranging: the key ranged by the running request, the plan entry next tried, the round in progress, port domains on,
the configuration page as the request read it (R283), and the STS that the timestamp unit holds, by frame index (R253). -/
structure UwbSt where
  fob : Option Nat
  planIdx : Nat
  roundsRun : Nat
  round : Option Round
  portsOn : Nat
  twinClaimed : Bool
  cfg : CfgWords
  stsHeld : List (Nat × Bytes) := []
  deriving DecidableEq, Repr

/-- Pairing in progress (R307): the command, the record and the attempts left. -/
structure Pairing where
  key : CmdKey
  fob : Nat
  fobId : Nat
  slot : Nat
  rights : Nat
  kFob : Bytes
  nonceV : Bytes
  triesLeft : Nat
  started : Bool
  deriving DecidableEq, Repr

/-- A token to compose (R318): TYPE, TARGET, key, FLAGS bit 0, SEQ. -/
structure Token where
  kind : Nat
  target : Nat
  fob : Nat
  backup : Bool
  seq : Nat
  deriving DecidableEq, Repr

/-- The immobiliser: token configuration record of R317 with its v1 mark, counter, mark J, the running stream
(tokens left, key, flags, SEQ, time of the next token) and the ticket of a waiting J commit (R317-R322). -/
structure ImmoSt where
  config : Option Bytes
  v1 : Bool
  counter : Nat
  markJ : Nat
  remain : Nat
  fob : Nat
  backup : Bool
  seq : Nat
  nextAt : Nat
  streaming : Bool
  queue : List Token
  deriving DecidableEq, Repr

/-- The access machinery as a whole. -/
structure AccessSt where
  session : Option Session
  queued : List Queued
  policy : Option Bytes
  fobs : List FobRec
  fobGen : Nat
  nonceLog : List NonceLog
  decisionSeq : Nat
  pairing : Option Pairing
  pulses : List (Nat × Nat)
  deriving DecidableEq, Repr

end Sys2Proof.Machine
end

