-- ==== Sys2Proof/Machine/HalfTypes.lean ====
section
/-! DEFINITION. State of the halves and the Weir, and of the EE store (17_halves_and_consistency.md R594-R626,
16_ee_store.md R556-R588). -/

namespace Sys2Proof.Machine

/-- A retired unit on probation or BAD (R612): passes so far, late results discarded, when the next test is due. -/
structure Retired where
  unit : UnitRef
  passes : Nat
  late : Nat
  testAt : Nat
  bad : Bool
  deriving DecidableEq, Repr

/-- One run of a paired command whose copies differed (R606). -/
structure Run where
  unitL : UnitRef
  recL : Bytes
  unitF : UnitRef
  recF : Bytes
  deriving DecidableEq, Repr

/-- A paired command under comparison: runs that disagreed, infrastructure faults with the halves they charged. -/
structure Compare where
  key : CmdKey
  runs : List Run
  infra : List (List Half)
  deriving DecidableEq, Repr

/-- The collector of a half (R613, R614): results that wait at their units, as (port, arrival), the port served last, the
time until which the Weir is taken, and the longest wait. -/
structure WeirSt where
  waiting : List (Nat × Nat)
  token : Nat
  freeAt : Nat
  longest : Nat
  deriving DecidableEq, Repr

/-- A frame note in the other half's context store (R617): ingress buffer identifier, outcome, freshness value or PN. -/
structure Note where
  frame : Nat
  outcome : Nat
  fv : Nat
  deriving DecidableEq, Repr

/-- The replica of a split-duty command that changes a context: its completion and its output (R617). -/
structure Replica where
  key : CmdKey
  status : Nat
  output : Bytes
  deriving DecidableEq, Repr

/-- The warden and the Weirs: end of the lease, commits stopped under R597, the epoch kept in PD00 and the one
journalled, fences of each half since power-on, charges of the comparator paths and strikes of units with their times,
retired units and how often each was retired since power-on, engine slot to physical index (slots 0-31 North, 32-63
South), slots run in the other half, commands under comparison, start of a resync, both halves lost, the
bring-up count of the interim bridge key, the link keys drawn and the fused base key (01 R25), the check key of R602, engines
marked bad in fuse (01 R41), the Weirs of North and South, frame notes and replicas, and how many waiting transactions carry the
epoch of a Lead that was fenced (16 R567). -/
structure HalvesSt where
  leaseEnd : Nat
  stopped : Bool
  epoch : Nat
  epochJ : Nat
  fences : List Half
  charges : List (Nat × Nat)
  strikes : List (UnitRef × Nat)
  retired : List Retired
  retireCount : List (UnitRef × Nat)
  slots : List Nat
  remote : List Nat
  compares : List Compare
  resyncAt : Option (Half × Nat)
  fenceNoted : Bool
  lost : Bool
  bringUps : Nat
  linkN : Option Bytes
  linkS : Option Bytes
  checkKey : Bytes
  baseKey : Bytes
  badFuse : List (Half × Nat)
  weirs : List WeirSt
  notes : List Note
  replicas : List Replica
  staleTxns : Nat := 0
  deriving DecidableEq, Repr

/-- A user region as it was last journalled (R559-R563): its EE_RGN word, the password values kept, consecutive
mismatches and the end of a refusal. -/
structure Region where
  word : Word
  rdPw : Bytes
  wrPw : Bytes
  misses : Nat
  refuseUntil : Nat
  deriving DecidableEq, Repr

/-- A column remapped to a spare (R575): where, and the next row of a rebuild that has not ended. -/
structure Remap where
  half : Half
  array : Nat
  column : Nat
  spare : Nat
  row : Option Nat
  deriving DecidableEq, Repr

/-- A correction the patrol recorded in its pass (R572, R574): half, array, codeword index, bit, row. -/
structure Correction where
  half : Half
  array : Nat
  word : Nat
  bitNo : Nat
  row : Nat
  deriving DecidableEq, Repr

/-- The EE store: the bytes of USER by logical address as the commits left them (unlisted 0), the GEN of each logical
page of USER and KEY (unlisted 0, R556), pages marked CLEARING range by range in the order of their commit points (R578), pages lost in
both copies with their lost codewords (R577), user regions as journalled, the repair logs, broken columns that wait for
their remap (R575), pages whose copy in a half is older than the other's (R584, 17 R622), the corrections of the pass, marked pages
that margin reads failed three times, each with whether its array's columns have been tested since (R579), when the pass of the patrol
began, by device time with PD28 and PD46 on, and since when one of them is off (R572). -/
structure EeSt where
  mem : List (Nat × Byte)
  gens : List (Nat × Nat)
  clearing : List (List Nat)
  lostPages : List (Nat × List Nat)
  regions : List Region
  remaps : List Remap
  broken : List (Half × Nat × Nat)
  behind : List (Half × Nat)
  corrections : List Correction
  failing : List (Nat × Bool) := []
  passStart : Option Nat := none
  storeOff : Option Nat := none
  deriving DecidableEq, Repr

end Sys2Proof.Machine
end

