-- ==== Sys2Proof/Machine/KalmelTypes.lean ====
section
/-! DEFINITION. State of the Kalmel engines: tasks, data memory, the shared pool, images and applets
(11_kalmel_engines.md R409-R450, 12_kalmel_instruction_set.md). -/

namespace Sys2Proof.Machine

/-- FLAGS (R412). -/
structure KFlags where
  z : Bool
  n : Bool
  c : Bool
  v : Bool
  g : Bool
  s : Bool
  deriving DecidableEq, Repr

/-- What a task waits for (R410): nothing, an event of a WFE into k(d), a WAITC deadline, an SVC with its 64-byte request
and its pool offset, an SVCA that finds four outstanding, the debugger, or its commit after END. -/
inductive Wait
  | none
  | wfe (d : Nat)
  | waitc (deadline : EWord)
  | svc (req : Bytes) (off : Nat)
  | svca (req : Bytes) (off : Nat)
  | ended
  deriving DecidableEq, Repr

/-- An effect staged until the run commits (R438): output bytes, state region bytes, a counter's steps, a volatile key. -/
inductive Staged
  | out (off : Nat) (data : Bytes)
  | state (off : Nat) (data : Bytes)
  | counter (slot step : Nat)
  | key (slot owner ktype binding attr svnFloor limit : Nat) (bindHash material : Bytes)
  deriving DecidableEq, Repr

/-- A task in a slot (R409-R438): how it started, k0-k15, PC, FLAGS, FMODE, the product after each of the last three
instructions (newest first, R416), DTHI, WMASK, EVPEND, STEPS, its wait, outstanding SVCA requests with their offsets,
what it staged, whether it is halted by the debugger. A task in paired duty has its Follower's copy in slot `follower` from `followerAt` on; the
copy takes the same inputs and readings (R434), so one state stands for both (01 R31, R43; notes/assumptions 68). -/
structure Task where
  start : TaskStart
  k : List EWord
  pc : Nat
  fl : KFlags
  fmode : BitVec 3
  p1 : BitVec 72
  p2 : BitVec 72
  p3 : BitVec 72
  dthi : BitVec 28
  wmask : BitVec 16
  evpend : BitVec 16
  steps : Option Nat
  wait : Wait
  svca : List (Bytes × Nat)
  staged : List Staged
  halted : Bool
  follower : Option EngRef := none
  followerAt : Nat := 0
  deriving DecidableEq, Repr

/-- The header, code and initial data of a signed image (R441), and its SHA-256 digest (R442). -/
structure Image where
  kind : Nat
  profile : Bool
  state : Bool
  share : Bool
  fmode : BitVec 3
  code : List Nat
  data : List EWord
  poolBytes : Nat
  stateBytes : Nat
  entries : List Nat
  svn : Nat
  steps : Nat
  digest : Bytes
  deriving DecidableEq, Repr

/-- An engine slot (R435, R437, R422): the task it runs, its generation, its data memory (unlisted 0), the applet and image
its applet area holds, and what the task before left: partition, applet, pool window. -/
structure Eng where
  task : Option Task
  gen : Nat
  dm : List (Nat × EWord)
  applet : Option (Nat × Image)
  last : Option (Nat × Option Nat × Nat × Nat)
  deriving DecidableEq, Repr

/-- A loaded applet (R442): its owner, image and state region. -/
structure Applet where
  owner : Nat
  image : Image
  state : Bytes
  deriving DecidableEq, Repr

/-- The engines of both halves by slot (North 0-31, South 32-63), the pool windows' bytes (a half's pool from
262144 x half on, unlisted 0), applets, the active firmware and parse images, the active decode table and its SVN, and staged
images by number 0-2 (R442, R449). -/
structure KalmelSt where
  engines : List Eng
  pools : List (Nat × Byte)
  applets : List (Nat × Applet)
  firmware : Option Image
  parse : Option Image
  decode : Option (List Nat)
  decodeSvn : Nat
  staged : List (Nat × Bytes)
  deriving DecidableEq, Repr

end Sys2Proof.Machine
end

