-- ==== Sys2Proof/Machine/HostTypes.lean ====
section
/-! DEFINITION. State of the host link: functions, partitions, rings, event rings, fetched commands, outputs
(04_host_link_and_partitions.md, 05_command_rings.md). -/

namespace Sys2Proof.Machine

/-- An LF frame as it goes out: preamble in units of 128 us, wake pattern, data, broadcast set, bursts, and the factor by which every
channel of the broadcast part is scaled (R222, R224). -/
structure LfOut where
  pre : Nat
  wup : Nat
  data : Bytes
  broadcast : Nat
  bursts : Nat
  scale : Nat × Nat
  deriving DecidableEq, Repr

/-- What leaves the part, newest first in `State.out`. The model's own record. -/
inductive Output
  | hostWrite (part addr : Nat) (data : Bytes)
  | hostRead (part addr len : Nat)
  | cfgRead (part value : Nat)
  | msix (part vec : Nat)
  | laneTx (lane : Nat) (data : Bytes)
  | pause (lane quanta : Nat)
  | lfFrame (f : LfOut)
  | backupCoil (data : Bytes)
  | uwbPoll (port fob : Nat) (sts : Bytes)
  | uwbFinal (port fob : Nat) (sts : Bytes)
  | canFrame (bus id : Nat) (fd brs : Bool) (data : Bytes)
  | pmic (data : Bytes)
  | cardApdu (data : Bytes)
  | tdo (data : Bytes)
  | regRead (part : Nat) (value : Word)
  deriving DecidableEq, Repr

/-- The partition configuration record without its COMPAT bit (R135, R140). -/
structure PartCfg where
  secure : Bool
  access : Bool
  cls : Nat
  voteMask : Nat
  ringQuota : Nat
  flowQuota : Nat
  pslotQuota : Nat
  vslotQuota : Nat
  hammerShare : Nat
  engineShare : Nat
  laneShare : Nat
  deriving DecidableEq, Repr

/-- A submission ring (R168-R173, R183). `fetched` counts entries fetched since creation. -/
structure Sq where
  id : Nat
  base : Nat
  sizeLog2 : Nat
  cq : Nat
  queue : Nat
  head : Nat
  tail : Nat
  fetched : Nat
  stopped : Bool
  draining : Bool
  deriving DecidableEq, Repr

/-- A completion ring (R168, R173, R180-R183): write index, index the host will read next, reserved entries, phase. -/
structure Cq where
  id : Nat
  base : Nat
  sizeLog2 : Nat
  vec : Nat
  queue : Nat
  wr : Nat
  rd : Nat
  reserved : Nat
  phase : Bool
  stopped : Bool
  deriving DecidableEq, Repr

/-- An active event ring (R146-R148). -/
structure Evr where
  base : Nat
  sizeLog2 : Nat
  vec : Nat
  queue : Nat
  head : Nat
  tail : Nat
  seq : Nat
  phase : Bool
  deriving DecidableEq, Repr

/-- An event before it is written to a ring (R203). -/
structure Event where
  code : Nat
  src : Nat
  time : Nat
  detail : Bytes
  deriving DecidableEq, Repr

/-- The resume record of one SQ number (R194): index and TAG of the last committed entry and the mask MISSING, with
the part that covers durable commands alone (R195). `ordinal` counts entries within the ring's life; it is none once
the ring is gone. -/
structure Resume where
  sq : Nat
  index : Nat
  tag : Nat
  missing : Nat
  ordinal : Option Nat
  durIndex : Nat
  durTag : Nat
  durMissing : Nat
  durOrdinal : Option Nat
  hasAll : Bool
  hasDur : Bool
  deriving DecidableEq, Repr

/-- A completion that has ended its command (R180): where it goes, its fields, the writes of its output area, the epoch it carries to the gate (01 R33), and of a FENCE whether it is one over every
ring (R188). -/
structure Compl where
  cq : Nat
  sq : Nat
  tag : Nat
  status : Nat
  detail : Nat
  written : Nat
  result : Bytes
  outputs : List (Nat × Bytes)
  epoch : Nat := 0
  fence : Option Bool := none
  key : Option CmdKey := none
  deriving DecidableEq, Repr

/-- A partition (R122, R123): its configuration, COMPAT bit, rings, held events and completions, votes, resume records, the
SQ fetched last, the cause of a partition reset in progress, and the commands its step 2 aborted (R153). -/
structure PartSt where
  cfg : PartCfg
  compat : Bool
  sqs : List Sq
  cqs : List Cq
  evr : Option Evr
  held : List Event
  lost : Nat
  heldCompl : List Compl
  hold : Nat
  gate : Nat
  resume : List Resume
  lastSq : Nat
  inReset : Option PartCause
  aborted : Nat := 0
  deriving DecidableEq, Repr

/-- PCI Express state of one function (R113, R114, R120, R145, R747): Bus Master Enable, MSI-X, the payload and read request sizes,
the bases of its BARs, and AER's uncorrectable error status with its header log. -/
structure FnSt where
  busMaster : Bool
  msixEnable : Bool
  fnMask : Bool
  pending : Nat
  mps : Nat := 128
  mrrs : Nat := 512
  bars : List Nat := [0, 0]
  aer : Nat := 0
  aerHdr : List Nat := []
  deriving DecidableEq, Repr

/-- A fetched command that has not ended (R175-R183, R139). `ordinal` is its place in the ring's life, `seq` its place
in the partition's order of admission; `follower` the device time at which the Follower's copy of a command in paired duty begins
(01 R31), `drawSince` the time since which its draw waits for Bellows (15 R553),
`declared` a request of an applet that declares state access, which runs in paired duty with it (11 R444), `share` the HAMMER_SHARE
it was admitted with (R139), `resetDone` that its PART_DESTROY has reset the target (R141). -/
structure Inflight where
  key : CmdKey
  ordinal : Nat
  seq : Nat
  opcode : Nat
  flags : Nat
  tag : Nat
  param : Bytes
  inLen : Nat
  outLen : Nat
  inAddr : Nat := 0
  outAddr : Nat
  inList : List Sgl
  outList : List Sgl
  input : Bytes
  readFail : Bool
  cls : Nat
  compat : Bool
  secure : Bool
  follower : Nat := 0
  drawSince : Option Nat := none
  declared : Bool := false
  share : Nat := 1
  resetDone : Bool := false
  image : Option Image := none
  solo : Bool := false
  deriving DecidableEq, Repr

end Sys2Proof.Machine
end

