-- ==== Sys2Proof/Machine/KeyTypes.lean ====
section
/-! DEFINITION. State of the Crucible and of the shared units' queues (13_crucible.md R479-R510, 10_hammers.md
R397-R408, 14_anvils.md R511, R519). -/

namespace Sys2Proof.Machine

/-- A held key slot (R481, R490, R493, R494). `uses` is U and `useMark` its committed mark M, `dn` and `dnMark` the
count of drawn nonces and its committed mark N. -/
structure KeySlot where
  owner : Nat
  ktype : Nat
  binding : Nat
  attr : Nat
  svnFloor : Nat
  limit : Nat
  uses : Nat
  useMark : Nat
  dn : Nat
  dnMark : Nat
  gen : Nat
  bindHash : Bytes
  material : Bytes
  limitSaid : Bool
  drawnSaid : Bool
  deriving DecidableEq, Repr

/-- The Crucible: slots by their SLOT value (R198), tombstone generations (R500), withheld indices (R497), the storage
seed and its count (R488, R506), component digests by tag, signer_id and svn (R486), the measurement m, the randomness of the alias
certificate's signature (14 R532), an accepted debug grant (R487), the UDS destroyed by Q4 (R505), the fused hashes F0, F1, A0, A1,
D0 as 0 to 4 (14 R527), and the stored device certificate (14 R533). -/
structure KeySt where
  slots : List (Nat × KeySlot)
  tombs : List (Nat × Nat)
  withheld : List Nat
  seed : Option Bytes
  seedGen : Nat
  images : List (Nat × Bytes)
  signerId : Bytes
  svn : Nat
  m : Bytes
  aliasRnd : Bytes
  grant : Option Bytes
  udsGone : Bool
  fuses : List (Nat × Bytes)
  devCert : Option Bytes
  deriving DecidableEq, Repr

/-- Whose work a request is: a command, a frame, or Frexus's own (10 R398). -/
inductive JobOwner
  | cmd (k : CmdKey) | frame (id : Nat) | own (n : Nat)
  deriving DecidableEq, Repr

/-- Kinds of shared unit that serve requests: Hammers, digest units, Anvils. -/
inductive UnitKind
  | hammer | digest | anvil
  deriving DecidableEq, Repr

/-- A stream of work on Hammers, digest units or an Anvil (R397-R400): its bytes in all, done, done in the present
request, the segment size, when it
joined its queue, the unit it may not restart on after a failed check (R393), and the HAMMER_SHARE it was admitted with (04 R139,
R151). `full` is the check policy (R391). -/
structure Job where
  owner : JobOwner
  unit : UnitKind
  half : Half
  part : Nat
  cls : Nat
  full : Bool
  mode : Nat
  slot : Nat
  total : Nat
  done : Nat
  inReq : Nat
  seg : Nat
  saved : Nat
  since : Nat
  avoid : Option Nat
  share : Nat := 1
  deriving DecidableEq, Repr

/-- A running job and the units that carry it: a Hammer number of its half (the even one of a pair under FULL), the
digest pair 0, or an Anvil number. -/
structure Running where
  unit : Nat
  job : Job
  deriving DecidableEq, Repr

/-- Staging in the pool of a half: the bytes of plaintext that a decryption holds there (R383, R401). -/
structure PoolStage where
  key : CmdKey
  half : Half
  bytes : Nat
  deriving DecidableEq, Repr

/-- The shared units: running jobs, waiting jobs oldest first, blocks since each Hammer's defence reseed (R396); commands whose
first Hammer request has started (R387); staged plaintext (R386, R401); the access service's requests still to be made, by half with
their bytes (R403); and the turns each partition has had in the present round of admission and of ingress (04 R151). -/
structure UnitsSt where
  running : List Running
  waiting : List Job
  blocks : List (Nat × Nat)
  started : List CmdKey := []
  staged : List PoolStage := []
  owed : List (Half × Nat) := []
  turns : List (Nat × Nat) := []
  laneTurns : List (Nat × Nat) := []
  deriving DecidableEq, Repr

/-- A Wellhead and its Bellows (15 R535-R553): pool bits, times of counted failures in the last second, bytes given
since the last reseed and its time, a stretch under way, a TEST still to run, and the raw FIFO with the samples of a word
not yet full. -/
structure WellSt where
  pool : Nat
  fails : List Nat
  since : Nat
  reseedAt : Nat
  stretched : Bool
  testNext : Bool
  raw : List Word
  rawPart : List Bool
  deriving DecidableEq, Repr

end Sys2Proof.Machine
end

