-- ==== Sys2Proof/Machine/SysTypes.lean ====
section
/-! DEFINITION. State of power, the Reservoir, tamper, life cycle, debug, the card port and the CAN controllers
(18_power_and_reservoir.md to 21_card_port_and_can.md). -/

namespace Sys2Proof.Machine

/-- Where bring-up stands (R88, R99): waiting after a power-on reset, waiting after a device warm reset or brown-out,
ended at ready, ended by failure. -/
inductive Boot
  | power | warm | up | failed
  deriving DecidableEq, Repr

/-- Power states and the wake logic (R627-R647), the cap (R655, R656), pace and voltage (R36-R38): PERST_N low; the
armed request comes from a NORMAL-world P0; PCIE_WAKE_N driven low; times of the last activity, of entry into Pond and
of the last wake or session end of an excursion, and of the last welcome poll; a welcome poll of Tarn under way with its
nonce, bursts named and bursts sent, and the telegrams (payload, slot, RSSI) that wait for the halves; welcome nonces staged in PD00; WAKE pins
at their active level; alarm reached; failed rail-ons and the time of the last; cap set and journalled; consecutive readings at or below 95 % of the
cap, readings above it at step 3, time of the last step undone; work held under R86 (0 none, 1 BACKGROUND, 2 BULK too);
times of the last power reading, pace window and evaluation; domains on throughout the window that runs, meters that
took part in the last; VDD_CORE request under way; PMIC transactions being retried with retries made and time; the time PD08 came
on (R640). -/
structure PowerSt where
  perstLow : Bool
  reqNormal : Bool
  wakeLow : Bool
  busyAt : Nat
  pondAt : Nat
  lingerAt : Nat
  welcomeAt : Nat
  poll : Option (Bytes × Nat × Nat)
  heard : List (Bytes × Nat × Nat)
  nonces : List Bytes
  pins : Nat
  alarmed : Bool
  railFails : Nat
  railAt : Nat
  capMw : Nat
  under : Nat
  overCap : Nat
  undoAt : Nat
  hot : Nat
  readAt : Nat
  paceAt : Nat
  avsAt : Nat
  paceOn : Nat
  tookPart : Nat
  vcoreAsk : Option Nat
  retries : List (PmicKind × Nat × Nat)
  ref38At : Nat := 0
  deriving DecidableEq, Repr

/-- The Reservoir ledger (R648-R654): journalled budget in uAh a day and horizon in days, store in nAh, credit short of a
whole nAh in 1/86,400, booked charge short of a whole nAh in nC, mean charge of a handle measurement in nC, demand
charges with their times in nC, times of the last credit, plan and change of level, and a refill by a power-on reset
still to plan. -/
structure LedgerSt where
  budget : Nat
  horizon : Nat
  store : Int
  credit : Nat
  debt : Nat
  measureNc : Nat
  demand : List (Nat × Nat)
  creditAt : Nat
  planAt : Nat
  changedAt : Nat
  refilled : Bool
  deriving DecidableEq, Repr

/-- A tamper log entry (R680). -/
structure TpEntry where
  time : Nat
  sensor : Nat
  sub : Nat
  resp : Nat
  ctx : Nat
  seq : Nat
  deriving DecidableEq, Repr

/-- Tamper (R663-R683): log in the EE store (newest first, 64 entries) and entries PD00 still buffers; SEQ of the next
entry; lifetime counts of the written entries, by sensor, of WARMs and of Q3s; events since power-on by sensor; times of
recent events by sensor and of recent tamper WARMs; sensors tripped; sensors that hold GUARD with the time they cleared;
start of the GUARD that runs; a dip under judgement with its SUB and time; HOLD; a pending Quench level (0 none, 3, 4)
and whether its entry came from SCRAP by tamper; end of ALARM_N after a WARM (none: not driven for one); ALARM_N driven
since a Quench; TAMPER_LOGGED events to post after ready; the mesh key PD00 keeps (R667). -/
structure TamperSt where
  log : List TpEntry
  buffered : List TpEntry
  seq : Nat
  lifeCnt : List (Nat × Nat)
  lifeWarm : Nat
  lifeQ3 : Nat
  since : List (Nat × Nat)
  recent : List (Nat × Nat)
  warms : List Nat
  active : Nat
  guards : List (Nat × Option Nat)
  guardFrom : Option Nat
  dip : Option (Nat × Nat)
  hold : Bool
  quench : Nat
  alarmTill : Option Nat
  quenchAlarm : Bool
  repost : List Event
  meshKey : Bytes
  deriving DecidableEq, Repr

/-- Life cycle and debug (R684-R704): fused code; progress record FROM, TO and last step; LIFECYCLE_CHANGED to post at
ready; challenge outstanding with its NONCE, time and EPOCH; SCOPE of the active grant; TAP instruction; boundary register;
EXTEST selected; UDS cells programmed; the maker record that a transition to MAKER journalled (fused hashes are in KeySt). -/
structure LifeSt where
  fused : Nat
  progress : Option (Nat × Nat × Nat)
  changed : Option (Nat × Nat × Nat)
  challenge : Option (Bytes × Nat × Nat)
  scope : Nat
  tap : Nat
  boundary : Nat
  extest : Bool
  udsSet : Bool
  record : Bytes
  deriving DecidableEq, Repr

/-- An open card transaction (R714-R717): owner, before-images of pages newest first, time of its last command. -/
structure CardTxn where
  part : Nat
  images : List (Nat × Bytes)
  lastAt : Nat
  deriving DecidableEq, Repr

/-- The card port (R705-R718): second activation attempt, Fd and Dd after a failed PPS, clock stop allowed (R710), time of
the ATR and of the next conditions poll, CARD_ID, the command whose APDU is with the card and the response it has got,
commands that wait for READY with the time they began to, clock stopped or deactivated by the CARD vote, end of the last
character, open transaction, CARD_SSC as the activation read it (02 R72). -/
structure CardSt where
  classB : Bool
  noPps : Bool
  stopOk : Bool
  atrAt : Nat
  pollAt : Nat
  cardId : Nat
  busy : Option CmdKey
  resp : Option Bytes
  waiting : List (CmdKey × Nat)
  gated : Bool
  lastChar : Nat
  txn : Option CardTxn
  ssc : Nat := 1
  deriving DecidableEq, Repr

/-- A CAN frame waiting for the bus (R718, R720): identifier word, CAN FD, data, and the token counter it carries. -/
structure CanFrame where
  ident : Nat
  fd : Bool
  data : Bytes
  deriving DecidableEq, Repr

/-- A CAN controller (R719-R723): frames waiting for the bus, and the time from which its transceiver is in normal
mode while it runs. -/
structure CanSt where
  waiting : List CanFrame
  readyAt : Nat
  deriving DecidableEq, Repr

end Sys2Proof.Machine
end

