-- ==== Sys2Proof/Machine/State.lean ====
section
/-! DEFINITION. The state of the block as plain data: everything the spec names, the queue of waiting commands, and the
state right after a power-on reset (03_bring_up_and_reset.md R106, R112; notes/assumptions 2, 6, 8-10 for the values the
spec does not give). -/

namespace Sys2Proof.Machine

/-- Physical levels and monitors (02 R60-R66, R78): VHOLD in mV, the charger connected, VDD_IO33, VDD_CORE, PWRGD and
VAON below their thresholds, VDD_SERDES low, a brown-out in progress, the references lost, and the time at which the measurement
of R66 disconnected the charger. -/
structure Supply where
  vholdMv : Nat
  charger : Bool
  io33Low : Bool
  coreLow : Bool
  pwrgdLow : Bool
  vaonLow : Bool
  serdesLow : Bool
  brownout : Bool
  lostRef38 : Bool
  lostXtal : Bool
  lostPcie : Bool
  lostLane : Bool
  capAt : Option Nat := none
  deriving DecidableEq, Repr

/-- A transaction that waits for VHOLD or journal room (02 R67, 16 R569): a command's, with the time it began to wait,
or one of Frexus's own. -/
inductive OwnTxn
  | tokenMark | epoch | pageJournal (pg : Nat) | useMark (slot : Nat) | drawMark (slot : Nat)
  | refresh (page gen : Nat)
  | rollback (cause : Nat) (waits : Option CmdKey)
  | tamperLog
  | quench
  deriving DecidableEq, Repr

/-- A waiting transaction: a command's, with the time it began to wait, or one of Frexus's own. -/
inductive Txn
  | cmd (k : CmdKey) (since : Nat)
  | own (t : OwnTxn)
  deriving DecidableEq, Repr

/-- Why a step faults. No command of the block ends so. -/
inductive Fault
  /-- Raised by no meaning: the block has no command that stops the machine. Safe. -/
  | never
  deriving DecidableEq, Repr

/-- Why a step is refused. -/
inductive Refusal
  /-- Raised by an arm of `exec` whose command has no meaning yet, with its mnemonic. Safe. -/
  | notModelled (mnemonic : String)
  deriving DecidableEq, Repr

/-- The whole block. The model's own: `pending` (commands waiting, first in first out), `out` (what left the part, newest
first) and `draws` (free values drawn, notes/assumptions 3). Time: `deviceTime` in ns (00 R10), `refPhase` (place in the pattern of
periods, 00 R11, 18 R640), `rtc` in ns. Registers: `regs` lists by flat address the words that differ from reset (00 R19); `journals`
the RWL words journalled by page (06 R244). Link: output gates open, Configuration Request Retry Status, link trained, VF
Enable, NumVFs, D3hot, functions, partitions. Commands: fetched ones, number admitted, waiting transactions. Resources gated
by votes; `noEntropy` (15 R544); current life-cycle code; power domains on; the COMPAT strap. Bring-up: where it stands, when
it may start, and whether VHOLD's capacitance was measured in it. The rest by block. -/
structure State where
  pending : List Instr
  out : List Output
  draws : Nat
  deviceTime : Nat
  refPhase : Nat
  regs : List (Nat × Word)
  supply : Supply
  gatesOpen : Bool
  retry : Bool
  linkUp : Bool
  vfEnable : Bool
  numVfs : Nat
  d3hot : Bool
  fns : List (Nat × FnSt)
  parts : List (Nat × PartSt)
  inflight : List Inflight
  admitted : Nat
  gated : Nat
  txns : List Txn
  noEntropy : Bool
  life : Nat
  domains : Nat
  strapCompat : Bool
  keys : KeySt
  units : UnitsSt
  wells : List WellSt
  halves : HalvesSt
  ee : EeSt
  kalmel : KalmelSt
  flows : List (Nat × Flow)
  spill : SpillSt
  lanes : List LaneSt
  frames : List Frame
  nextFrame : Nat
  hs : HsSt
  lf : LfSt
  bc : Option BcSession
  uhf : Option UhfWindow
  uwb : UwbSt
  acc : AccessSt
  immo : ImmoSt
  power : PowerSt
  ledger : LedgerSt
  tamper : TamperSt
  lc : LifeSt
  card : CardSt
  can : List CanSt
  journals : List (Nat × List (Nat × Word))
  boot : Boot
  bootAt : Nat
  capDone : Bool
  rtc : Nat
  deriving DecidableEq, Repr

/-! ### Parts as they stand after a power-on reset -/

/-- No supply monitor tripped, every reference present, VHOLD at 0 V (R64; notes/assumptions 2). -/
def Supply.init : Supply :=
  { vholdMv := 0, charger := false, io33Low := false, coreLow := false, pwrgdLow := false, vaonLow := false,
    serdesLow := false, brownout := false, lostRef38 := false, lostXtal := false, lostPcie := false, lostLane := false }

def HsSt.init : HsSt :=
  { chans := List.replicate 6 {
      base := 0, count := 0, lowRun := 0, goodRun := 0, confirm := none, discarded := false, touchedAt := none },
    round := [], lastRound := 0, cfg := [] }

def LfSt.init : LfSt :=
  { air := none, waiting := [], vlfMv := 12000, lastEnd := 0, charge := [], notSent := 0, ended := none, cfg := [],
    diagAt := List.replicate 8 0, tested := 0 }

def UwbSt.init : UwbSt :=
  { fob := none, planIdx := 0, roundsRun := 0, round := none, portsOn := 0, twinClaimed := false, cfg := [] }

def AccessSt.init : AccessSt :=
  { session := none, queued := [], policy := none, fobs := [], fobGen := 0, nonceLog := [], decisionSeq := 0, pairing := none,
    pulses := [] }

def ImmoSt.init : ImmoSt :=
  { config := none, v1 := false, counter := 0, markJ := 0, remain := 0, fob := 0, backup := false, seq := 0, nextAt := 0,
    streaming := false, queue := [] }

/-- A partition as PART_CREATE makes it: no rings, events, votes or records (04 R137). -/
def PartSt.new (c : PartCfg) (compat : Bool) : PartSt :=
  { cfg := c, compat := compat, sqs := [], cqs := [], evr := none, held := [], lost := 0, heldCompl := [], hold := 0,
    gate := 0, resume := [], lastSq := 255, inReset := none }

/-- The configuration of P0 at first bring-up (04 R142). -/
def PartCfg.p0 : PartCfg :=
  { secure := true, access := false, cls := 1, voteMask := 31, ringQuota := 64, flowQuota := 0, pslotQuota := 256,
    vslotQuota := 1024, hammerShare := 16, engineShare := 16, laneShare := 16 }

/-- The Crucible of a part as shipped (20 R686): F0, F1 and D0 fused, with values that stand for hashes nobody stated
(notes/assumptions 8), no maker hashes, no keys. -/
def KeySt.init : KeySt :=
  { slots := [], tombs := [], withheld := [], seed := none, seedGen := 0, images := [], signerId := List.replicate 48 0,
    svn := 0, m := List.replicate 48 0, aliasRnd := List.replicate 128 0, grant := none, udsGone := false,
    fuses := [(0, List.replicate 48 0xF0), (1, List.replicate 48 0xF1), (4, List.replicate 48 0xD0)],
    devCert := some (List.replicate 5517 0) }

def UnitsSt.init : UnitsSt := { running := [], waiting := [], blocks := [] }

/-- A Wellhead and Bellows that have not started. -/
def WellSt.init (now : Nat) : WellSt :=
  { pool := 0, fails := [], since := 0, reseedAt := now, stretched := false, testNext := false, raw := [], rawPart := [] }

/-- A Weir that nothing has reached. -/
def WeirSt.init : WeirSt := { waiting := [], token := 63, freeAt := 0, longest := 0 }

/-- Slot j holds the engine of index j (01 R41); no half in service. The bridge base key stands for a fused value nobody
stated, and no engine is marked bad (notes/assumptions 8). -/
def HalvesSt.init : HalvesSt :=
  { leaseEnd := 0, stopped := true, epoch := 0, epochJ := 0, fences := [], charges := [], strikes := [], retired := [],
    retireCount := [], slots := List.range 32 ++ List.range 32, remote := [], compares := [], resyncAt := none,
    fenceNoted := false, lost := false, bringUps := 0, linkN := none, linkS := none, checkKey := [],
    baseKey := List.replicate 16 0xB0, badFuse := [], weirs := [WeirSt.init, WeirSt.init], notes := [], replicas := [], staleTxns := 0 }

/-- A region that was never set up (16 R559-R563). -/
def Region.none : Region :=
  { word := 0, rdPw := List.replicate 16 0, wrPw := List.replicate 16 0, misses := 0, refuseUntil := 0 }

def EeSt.init : EeSt :=
  { mem := [], gens := [], clearing := [], lostPages := [], regions := List.replicate 32 Region.none, remaps := [], broken := [], behind := [],
    corrections := [] }

/-- An engine slot after an engine reset. -/
def Eng.idle : Eng := { task := none, gen := 0, dm := [], applet := none, last := none }

def KalmelSt.init : KalmelSt :=
  { engines := List.replicate 64 Eng.idle, pools := [], applets := [], firmware := none, parse := none, decode := none, decodeSvn := 0,
    staged := [] }

def SpillSt.init : SpillSt := { base := 0, usable := 0, key := [], versions := [], retired := [], clock := 0 }

/-- Lanes with nothing arriving and no pause. -/
def lanesIdle : List LaneSt := List.replicate 8 { arriving := none, pausedUntil := none, pauseSent := 0 }

/-- Power with the cap kept over resets (18 R655). -/
def PowerSt.init (capMw : Nat) : PowerSt :=
  { perstLow := true, reqNormal := false, wakeLow := false, busyAt := 0, pondAt := 0, lingerAt := 0, welcomeAt := 0,
    poll := none, heard := [], nonces := [], pins := 0, alarmed := false, railFails := 0, railAt := 0, capMw := capMw, under := 0, overCap := 0, undoAt := 0,
    hot := 0, readAt := 0, paceAt := 0, avsAt := 0, paceOn := 0, tookPart := 0, vcoreAsk := none, retries := [] }

/-- The ledger before the first RESERVOIR_SET (18 R650). -/
def LedgerSt.init : LedgerSt :=
  { budget := 0xFFFFFFFF, horizon := 0, store := 0, credit := 0, debt := 0, measureNc := 8, demand := [], creditAt := 0,
    planAt := 0, changedAt := 0, refilled := false }

def TamperSt.init : TamperSt :=
  { log := [], buffered := [], seq := 0, lifeCnt := [], lifeWarm := 0, lifeQ3 := 0, since := [], recent := [], warms := [],
    active := 0, guards := [], guardFrom := none, dip := none, hold := false, quench := 0, alarmTill := none,
    quenchAlarm := false, repost := [], meshKey := [] }

/-- SEALED, the state a part is shipped in (20 R686; notes/assumptions 10); a TAP that was reset has IDCODE selected (IEEE
1149.1, notes/assumptions 5). -/
def LifeSt.init : LifeSt :=
  { fused := 3, progress := none, changed := none, challenge := none, scope := 0, tap := 0x01, boundary := 0, extest := false,
    udsSet := true, record := [] }

def CardSt.init : CardSt :=
  { classB := false, noPps := false, stopOk := false, atrAt := 0, pollAt := 0, cardId := 0, busy := none, resp := none, waiting := [], gated := false,
    lastChar := 0, txn := none }

def CanSt.init : CanSt := { waiting := [], readyAt := 0 }

/-- The block right after a power-on reset: time zero, only PD00 on, gates closed, configuration requests retried, no
command waiting; RESET_CAUSE names PORST_N (notes/assumptions 2); bring-up may start (03 R88, R106, R112). -/
def State.reset : State :=
  { pending := [], out := [], draws := 0, deviceTime := 0, refPhase := 0, regs := [(0x108, 1#32)], supply := Supply.init, gatesOpen := false,
    retry := true, linkUp := false, vfEnable := false, numVfs := 0, d3hot := false, fns := [],
    parts := [(0, PartSt.new PartCfg.p0 false)], inflight := [], admitted := 0, gated := 0, txns := [], noEntropy := false,
    life := 3, domains := 1, strapCompat := false, keys := KeySt.init, units := UnitsSt.init,
    wells := [WellSt.init 0, WellSt.init 0], halves := HalvesSt.init, ee := EeSt.init, kalmel := KalmelSt.init, flows := [],
    spill := SpillSt.init, lanes := lanesIdle, frames := [], nextFrame := 0, hs := HsSt.init, lf := LfSt.init, bc := none,
    uhf := none, uwb := UwbSt.init, acc := AccessSt.init, immo := ImmoSt.init, power := PowerSt.init 9500,
    ledger := LedgerSt.init, tamper := TamperSt.init, lc := LifeSt.init, card := CardSt.init, can := [CanSt.init, CanSt.init],
    journals := [], boot := .power, bootAt := 0, capDone := false, rtc := 0 }

end Sys2Proof.Machine
end

