-- ==== Sys2Proof/Machine/Ops.lean ====
section
/-! DEFINITION. Operations every family uses: registers by field, free draws, outputs, messages, events, page
interrupts, first-error capture, and the completion of a command. -/

namespace Sys2Proof.Machine

/-! ### Registers (00 R15-R19, R117) -/

/-- The register description that covers offset a of a table, if any. -/
def findReg : List RegDesc → Nat → Option RegDesc
  | [], _ => none
  | d :: t, a =>
    if d.off ≤ a ∧ (a - d.off) % d.stride = 0 ∧ (a - d.off) / d.stride < d.count then some d else findReg t a

/-- The window and offset of a flat address: none for the device window, the partition otherwise. -/
def addrPart (a : Nat) : Option Nat := if a < 0x1000000 then none else some (a / 0x1000000 - 1)

/-- The offset of a flat address in its window. -/
def addrOff (a : Nat) : Nat := a % 0x1000000

/-- The description of the register at flat address a: header registers by their place in the page, others by the
table of the window. -/
def regDesc (a : Nat) : Option RegDesc :=
  if addrOff a % 0x1000 < 0x100 then findReg regTableHdr (addrOff a % 0x1000)
  else match addrPart a with
    | none => findReg regTableDev (addrOff a)
    | some _ => findReg regTablePart (addrOff a)

/-- The word whose fields hold their reset values (R19). -/
def resetWord (fs : List FieldDesc) : Word :=
  fs.foldl (fun w f => w ||| BitVec.ofNat 32 (f.reset % 2 ^ (f.hi - f.lo + 1) * 2 ^ f.lo)) 0

/-- What the register at a reads after reset. -/
def regReset (a : Nat) : Word :=
  match regDesc a with
  | some d => resetWord d.fields
  | none => 0

/-- The stored word at a: an unlisted register reads its reset value. -/
def State.reg (s : State) (a : Nat) : Word := mapRead (regReset a) s.regs a

/-- Store a whole word at a. -/
def State.setReg (s : State) (a : Nat) (w : Word) : State := { s with regs := mapSet (regReset a) s.regs a w }

/-- The value of a field. -/
def State.fld (s : State) (f : Fld) : Nat := bitsOf (s.reg f.addr).toNat f.hi f.lo

/-- The configuration of the page at pg as a start reads it now (06 R207; 07 R283). -/
def State.pageCfg (s : State) (pg : Nat) : CfgWords := s.regs.filter (fun c => c.1 / 0x1000 == pg / 0x1000)

/-- The value of a field in configuration words that a start has read. -/
def cfgFld (m : CfgWords) (f : Fld) : Nat := bitsOf (mapRead (regReset f.addr) m f.addr).toNat f.hi f.lo

/-- A word with bits [hi:lo] replaced by v. -/
def insertBits (w : Word) (hi lo v : Nat) : Word :=
  BitVec.ofNat 32 (w.toNat - bitsOf w.toNat hi lo * 2 ^ lo + v % 2 ^ (hi - lo + 1) * 2 ^ lo)

/-- Set a field to v. -/
def State.setFld (s : State) (f : Fld) (v : Nat) : State := s.setReg f.addr (insertBits (s.reg f.addr) f.hi f.lo v)

/-- Add n to a counter field modulo its width. -/
def State.bump (s : State) (f : Fld) (n : Nat := 1) : State := s.setFld f (s.fld f + n)

/-- Add n to a counter field that saturates. -/
def State.bumpSat (s : State) (f : Fld) (n : Nat := 1) : State :=
  s.setFld f (min (2 ^ (f.hi - f.lo + 1) - 1) (s.fld f + n))

/-- Put the registers of a range of flat addresses back to their reset values. -/
def State.resetRegs (s : State) (p : Nat → Bool) : State := { s with regs := s.regs.filter (fun c => !p c.1) }

/-! ### Draws and outputs -/

/-- n fresh random bytes of a Bellows (15 R549): the free values at the draw counter. -/
def State.drawn (s : State) (n : Nat) : Bytes := (List.range n).map (fun i => Config.draw (s.draws + i))

/-- A free value the spec leaves open (notes/assumptions 3). -/
def State.free (s : State) : Nat × State := (Config.freeNat s.draws, { s with draws := s.draws + 1 })

/-- Record an output. -/
def State.emit (s : State) (o : Output) : State := { s with out := o :: s.out }

/-! ### Partitions, functions, worlds -/

def State.part? (s : State) (p : Nat) : Option PartSt := mapGet s.parts p

/-- Change partition p; a partition that does not exist stays so. -/
def State.updPart (s : State) (p : Nat) (f : PartSt → PartSt) : State := { s with parts := mapUpd s.parts p f }

/-- A function after its reset: Bus Master Enable and MSI-X Enable clear (04 R106, R145). -/
def FnSt.init : FnSt := { busMaster := false, msixEnable := false, fnMask := false, pending := 0 }

def State.fn (s : State) (p : Nat) : FnSt := mapRead FnSt.init s.fns p

def State.setFn (s : State) (p : Nat) (f : FnSt) : State := { s with fns := mapSet FnSt.init s.fns p f }

/-- The debug port as the source of a register access; first-error capture shows it as 0x3F (20 R702). -/
def dbgSrc : Nat := 0x7F

/-- The source acts from the SECURE world: a partition by its WORLD, the debug port always (04 R132; 20 R698). -/
def State.secure (s : State) (p : Nat) : Bool :=
  p == dbgSrc || match s.part? p with
  | some q => q.cfg.secure
  | none => false

/-- The partition that holds the ACCESS attribute (04 R143). -/
def State.accessPart (s : State) : Option Nat := (s.parts.find? (fun c => c.2.cfg.access)).map (·.1)

/-- Function p can be reached over the link (R123). -/
def State.reachable (s : State) (p : Nat) : Bool := s.linkUp && (p == 0 || (s.vfEnable && decide (p ≤ s.numVfs)))

/-- The window of partition p is offered: after ready, and not after a bring-up that failed (03 R95, R99). -/
def State.windowOpen (s : State) (p : Nat) : Bool := s.reachable p && !s.retry && s.boot != .failed

/-- Frexus may make a host memory request for partition p (R120). -/
def State.canMaster (s : State) (p : Nat) : Bool := s.reachable p && (s.fn p).busMaster && !s.d3hot

/-- A posted write for partition p cannot be sent: the data link is down, or the function was reset by an FLR or removed with VF
Enable (R746). -/
def State.cannotSend (s : State) (p : Nat) : Bool :=
  !s.reachable p || (s.part? p).any (fun q => q.inReset == some .flr)

/-- The block of a page takes new work: ENABLE is 1 and QUIESCE 0 (R124). -/
def State.pageAdmits (s : State) (pg : Nat) : Bool :=
  s.fld (Fd.PG_CTL_ENABLE pg) == 1 && s.fld (Fd.PG_CTL_QUIESCE pg) == 0

/-- ENABLE of the partition header of p (R124). -/
def State.hdrEnable (s : State) (p : Nat) : Bool := s.fld (Fd.PG_CTL_ENABLE (winBase p)) == 1

def State.hdrQuiesce (s : State) (p : Nat) : Bool := s.fld (Fd.PG_CTL_QUIESCE (winBase p)) == 1

/-! ### MSI-X messages (R145, R747) -/

/-- The vector control mask bit of vector v of function p (04 R145; PCI Express layout, notes/assumptions 5). -/
def Fd.msixMask (p v : Nat) : Fld := ⟨winBase p + 0x380C + 16 * v, 0, 0⟩

/-- Vector v of function p is masked, by the function, by the vector, or under R747. -/
def State.vecMasked (s : State) (p v : Nat) : Bool :=
  (s.fn p).fnMask || s.fld (Fd.msixMask p v) == 1 || !(s.fn p).busMaster || s.d3hot || !s.hdrEnable p

/-- Send a vector message, or set its Pending Bit while masked, or nothing while MSI-X Enable is 0 (R145, R747). -/
def State.sendMsg (s : State) (p v : Nat) : State :=
  if !(s.fn p).msixEnable then s
  else if s.vecMasked p v then s.setFn p { s.fn p with pending := setBit (s.fn p).pending v }
  else if s.reachable p then s.emit (.msix p v)
  else s

/-- Send the pending message of one vector once it is unmasked (R145, R747). -/
def State.flushVec (s : State) (p v : Nat) : State :=
  if (s.fn p).msixEnable && bit (s.fn p).pending v && !s.vecMasked p v then
    (s.setFn p { s.fn p with pending := clrBit (s.fn p).pending v }).sendMsg p v
  else s

/-- Send every pending message of a function that may now go. -/
def State.flushMsgs (s : State) (p : Nat) : State := (List.range 32).foldl (fun t v => t.flushVec p v) s

/-! ### Events (R146, R147, R203) -/

/-- The event ring of p takes entries now: allocated, and the function may write host memory and ENABLE is 1. -/
def State.evrReady (s : State) (p : Nat) : Bool := s.canMaster p && s.hdrEnable p

def Evr.size (r : Evr) : Nat := 2 ^ r.sizeLog2

def Evr.full (r : Evr) : Bool := (r.tail + 1) % r.size == r.head

/-- The 32 bytes of an event entry (R203). -/
def eventBytes (e : Event) (seq : Nat) (phase : Bool) : Bytes :=
  leBytes 2 e.code ++ leBytes 1 e.src ++ leBytes 1 (b2n phase) ++ leBytes 4 seq ++ leBytes 8 e.time ++ padTo 16 e.detail

/-- Write one event to the ring r of p, which has room, and announce it if the ring was empty (R147). -/
def State.writeEvent (s : State) (p : Nat) (r : Evr) (e : Event) : State :=
  let tail := (r.tail + 1) % r.size
  let r' := { r with tail := tail, seq := r.seq + 1, phase := if tail == 0 then !r.phase else r.phase }
  let s := (s.emit (.hostWrite p (r.base + 32 * r.tail) (eventBytes e r.seq r.phase))).updPart p
    (fun q => { q with evr := some r' })
  if r.head == r.tail then s.sendMsg p r.vec else s

/-- DETAIL of RING_ERROR: type, ring number, error, entry concerned (R205). -/
def ringErrorDetail (type id err idx : Nat) : Bytes :=
  leBytes 1 type ++ leBytes 1 id ++ leBytes 1 err ++ [0] ++ leBytes 2 idx

/-- The write of event e to the ring r cannot be sent: the ring is disabled, and e is held first, then its RING_ERROR (R121,
R746). -/
def PartSt.failEvr (q : PartSt) (p now : Nat) (r : Evr) (e : Event) : PartSt :=
  let l := [e, { code := 3, src := p, time := now, detail := ringErrorDetail 2 0 6 r.tail }] ++ q.held
  { q with evr := none, held := l.take 16, lost := satTo 65535 (q.lost + (l.length - 16)) }

/-- Post an event to partition p: to its ring, held while no ring takes it (at most 16), or counted in LOST (R147). -/
def State.postTo (s : State) (p : Nat) (e : Event) : State :=
  match s.part? p with
  | none => s
  | some q =>
    match q.evr with
    | some r =>
      if s.cannotSend p && s.hdrEnable p && q.held.isEmpty && !r.full then s.updPart p (fun q => q.failEvr p s.deviceTime r e)
      else if s.evrReady p && q.held.isEmpty then
        if r.full then s.updPart p (fun q => { q with lost := satTo 65535 (q.lost + 1) })
        else s.writeEvent p r e
      else if q.held.length < 16 then s.updPart p (fun q => { q with held := q.held ++ [e] })
      else s.updPart p (fun q => { q with lost := satTo 65535 (q.lost + 1) })
    | none =>
      if q.held.length < 16 then s.updPart p (fun q => { q with held := q.held ++ [e] })
      else s.updPart p (fun q => { q with lost := satTo 65535 (q.lost + 1) })

/-- Post an event now, from a partition or from the device (0xFE). -/
def State.post (s : State) (p code src : Nat) (detail : Bytes) : State :=
  s.postTo p { code := code, src := src, time := s.deviceTime, detail := detail }

def srcDevice : Nat := 0xFE

/-- Post the overflow event that carries LOST once there is room, then clear LOST (R147, R205). -/
def State.postOverflow (s : State) (p : Nat) : State :=
  match s.part? p with
  | none => s
  | some q =>
    match q.evr with
    | none => s
    | some r =>
      if q.lost = 0 || r.full || !s.evrReady p || !q.held.isEmpty then s
      else
        (s.writeEvent p r { code := 4, src := p, time := s.deviceTime, detail := leBytes 4 q.lost }).updPart p
          (fun q => { q with lost := 0 })

/-- Post held events, oldest first, while the ring takes them. -/
def State.flushHeld (s : State) (p : Nat) : Nat → State
  | 0 => s
  | n + 1 =>
    match s.part? p with
    | none => s
    | some q =>
      match q.evr, q.held with
      | some r, e :: es =>
        if s.evrReady p && !r.full then
          ((s.updPart p (fun q => { q with held := es })).writeEvent p r e).flushHeld p n
        else s
      | _, _ => s

/-- Post what was held and the count of what was lost, after the ring becomes able to take entries. -/
def State.drainEvents (s : State) (p : Nat) : State := (s.flushHeld p 16).postOverflow p

/-- Post an event to the partition that holds ACCESS, if any (R310). -/
def State.postAccess (s : State) (code : Nat) (detail : Bytes) : State :=
  match s.accessPart with
  | some p => s.post p code p detail
  | none => s

/-! ### Page interrupts and first-error capture (R124, R125, R748) -/

/-- Flat base of the page an address lies in. -/
def pageOf (a : Nat) : Nat := a / 0x1000 * 0x1000

/-- PG_ID of a page: window, range, page, partition (R124). -/
def pgId (pg : Nat) : Word :=
  match addrPart pg with
  | none => BitVec.ofNat 32 (0x01000000 + pg / 0x10000 * 0x10000 + pg / 0x1000 % 16 * 0x100)
  | some p => BitVec.ofNat 32 (0x02000000 + addrOff pg / 0x1000 % 16 * 0x100 + p)

/-- The partition that receives a page's interrupts (R125). -/
def State.receiver (s : State) (pg : Nat) : Nat :=
  match addrPart pg with
  | some p => p
  | none => if s.fld (Fd.PG_OWNER_VALID pg) == 1 then s.fld (Fd.PG_OWNER_PART pg) else 0

/-- INT_STAT: RAW and EN combined bit by bit (R124). -/
def State.intStat (s : State) (pg : Nat) : Nat := s.fld (Fd.INT_RAW_RAW pg) &&& s.fld (Fd.INT_EN_EN pg)

/-- Tell the receiving partition of INT_STAT's change from `old`: an event of the newly set bits with EVT, else one
message when it leaves zero (R124, R125). -/
def State.intNotify (s : State) (pg old : Nat) : State :=
  let now := s.intStat pg
  let fresh := maskDiff now old
  if fresh = 0 then s
  else if s.fld (Fd.INT_VEC_EVT pg) == 1 then
    s.post (s.receiver pg) 7 (match addrPart pg with | some p => p | none => srcDevice)
      (leBytes 4 (pgId pg).toNat ++ leBytes 4 fresh)
  else if old = 0 then s.sendMsg (s.receiver pg) (s.fld (Fd.INT_VEC_VEC pg))
  else s

/-- Interrupt sources of a page occur: their INT_RAW bits are set (R124). -/
def State.raise (s : State) (pg mask : Nat) : State :=
  let old := s.intStat pg
  (s.setFld (Fd.INT_RAW_RAW pg) (s.fld (Fd.INT_RAW_RAW pg) ||| mask)).intNotify pg old

/-- Record a refused access in the first-error capture of a page: the first one fills it, later ones set MORE. -/
def State.errCap (s : State) (pg src cause off data : Nat) : State :=
  if s.fld (Fd.ERR_CAP0_VALID pg) == 1 then s.setFld (Fd.ERR_CAP0_MORE pg) 1
  else
    ((((((s.setFld (Fd.ERR_CAP0_VALID pg) 1).setFld (Fd.ERR_CAP0_SRC pg) src).setFld (Fd.ERR_CAP0_CAUSE pg) cause).setFld
      (Fd.ERR_CAP0_OFFSET pg) off).setFld (Fd.ERR_CAP1_DATA pg) data).setFld (Fd.ERR_CAP2_TIME_LO pg)
        (s.deviceTime % 2 ^ 32)).setFld (Fd.ERR_CAP3_TIME_HI pg) (s.deviceTime / 2 ^ 32)

/-! ### Output gates (01 R33; 17 R601) -/

/-- An item of a fenced half, or one that carries an old epoch, is discarded, counted and logged, its time kept when it is the
first since the fence (R601; 01 R33). -/
def State.discardItem (s : State) : State :=
  let s := (s.bump Fd.HW_CNT_STALE_FENCED).raise 0x0D0000 16
  if s.halves.fenceNoted then s
  else (State.setFld { s with halves := { s.halves with fenceNoted := true } } Fd.HW_FENCE_TIME_LO_TIME
    (s.deviceTime % 2 ^ 32)).setFld Fd.HW_FENCE_TIME_HI_TIME (s.deviceTime / 2 ^ 32)

/-! ### Bellows (15 R547-R553) -/

def State.well (s : State) (n : Nat) : WellSt :=
  s.wells.getD n { pool := 0, fails := [], since := 0, reseedAt := 0, stretched := false, testNext := false, raw := [], rawPart := [] }

def State.updWell (s : State) (n : Nat) (f : WellSt → WellSt) : State := { s with wells := s.wells.modify n f }

/-- Bellows of half n is instantiated (15 R555). -/
def State.bellowsUp (s : State) (n : Nat) : Bool := s.fld (Fd.BW_STAT_INST n) == 1

/-- The Bellows that serves a draw which half `pref` would make: its own, or the other half's while it is not
instantiated, as in raw mode or out of service (15 R547, R550). -/
def State.bellowsOf (s : State) (pref : Nat) : Nat :=
  if s.bellowsUp pref && (if pref = 0 then s.fld Fd.HW_ROLE_N_STATE else s.fld Fd.HW_ROLE_S_STATE) == 1 then pref else 1 - pref

/-- The Bellows of paired duty and of Frexus's own draws: the Lead's (15 R550). -/
def State.leadBellows (s : State) : Nat := s.bellowsOf (s.fld Fd.HW_ROLE_LEAD)

/-- A reseed is due: 64 KiB or 10 ms since the last (15 R552). -/
def State.reseedDue (s : State) (n : Nat) : Bool :=
  s.bellowsUp n && (decide (65536 ≤ (s.well n).since) || decide ((s.well n).reseedAt + 10000000 ≤ s.deviceTime))

/-- A generate request of some bytes stands at the limit of a stretch: it would take the output since the last reseed past 4 MiB,
or 1 s has passed, and there is no seed (15 R553). -/
def State.atLimit (s : State) (n : Nat) (bytes : Nat := 1) : Bool :=
  s.reseedDue n && decide ((s.well n).pool < 512) &&
  (decide (4194304 < (s.well n).since + bytes) || decide ((s.well n).reseedAt + 1000000000 ≤ s.deviceTime))

/-- Bellows of half n is instantiated once the pool holds a seed and a nonce (15 R549), reseeds when a reseed is due and
the pool holds a seed, or begins a stretch (15 R552, R553). -/
def State.bellows (s : State) (n : Nat) : State :=
  let w := s.well n
  if !s.bellowsUp n then
    if s.fld (Fd.WH_STAT_STATE n) = 2 && decide (640 ≤ w.pool) then
      (s.updWell n (fun w => { w with pool := w.pool - 640, since := 0, reseedAt := s.deviceTime })).setFld (Fd.BW_STAT_INST n) 1
    else s
  else if !s.reseedDue n then s
  else if 512 ≤ w.pool then
    s.updWell n (fun w => { w with pool := w.pool - 512, since := 0, reseedAt := s.deviceTime, stretched := false })
  else if w.stretched then s
  else ((s.updWell n (fun w => { w with stretched := true })).bump Fd.WH_CNT_STRETCHED).raise 0x0B0000 4

/-- No generate request of some bytes starts in the Bellows that half `pref` uses (15 R553). -/
def State.drawWaits (s : State) (pref : Nat) (bytes : Nat := 1) : Bool :=
  !s.bellowsUp (s.bellowsOf pref) || s.atLimit (s.bellowsOf pref) bytes

/-- The state after half `pref` drew n bytes: they count toward the reseed of the Bellows that gave them, which reseeds
first where it can (15 R552). -/
def State.drawAt (s : State) (pref n : Nat) : State :=
  let b := s.bellowsOf pref
  let s := s.bellows b
  State.updWell { s with draws := s.draws + n } b (fun w => { w with since := w.since + n })

/-- A draw taken from the Wellhead waits: Bellows has no seed to reseed from (15 R551). -/
def State.freshWaits (s : State) : Bool := !s.bellowsUp s.leadBellows || decide ((s.well s.leadBellows).pool < 512)

/-- The Lead's Bellows reseeds, and then generates n bytes (15 R551). -/
def State.drawFresh (s : State) (n : Nat) : State :=
  let b := s.leadBellows
  State.updWell { s with draws := s.draws + n } b (fun w =>
    { w with pool := w.pool - 512, since := n, reseedAt := s.deviceTime, stretched := false })

/-- A draw in paired duty or of Frexus's own. -/
def State.draw (s : State) (n : Nat) : State := s.drawAt (s.fld Fd.HW_ROLE_LEAD) n

/-- The half that draws the skew value b: the Follower, or the survivor in solo duty (01 R31; 17 R608). -/
def State.skewHalf (s : State) : Nat :=
  if s.fld Fd.HW_ROLE_SOLO = 1 then s.fld Fd.HW_ROLE_LEAD else 1 - s.fld Fd.HW_ROLE_LEAD

/-- The skew of a copy in ns, 512 + 32 b with a 5-bit b drawn afresh, or 16 without entropy, and the state after the draw (01 R31;
15 R544). -/
def State.skew (s : State) : Nat × State :=
  if s.noEntropy then (1024, s)
  else (512 + 32 * (((s.drawn 1).headD 0).toNat % 32), s.drawAt s.skewHalf 1)

/-! ### Power state (18 R628) -/

/-- Eddy keeps of each half its core, Crucible, EE store, context banks, engine groups 0 and 7 and Hammer group 0
(18 R627). -/
def eddyOff : Nat := listMask [15, 16, 17, 18, 19, 20, 22, 24, 25, 26, 33, 34, 35, 36, 37, 38, 40, 42, 43, 44]

/-- The LF channels of the banks among some domains (06 R228). -/
def bankChannels (d : Nat) : Nat := (if bit d 2 then 0x0F else 0) + (if bit d 3 then 0xF0 else 0)

/-- PD28 and PD46 of the EE stores go off or on at some device time: the time between does not count for the patrol (16 R572). -/
def EeSt.power (e : EeSt) (now : Nat) (was on : Bool) : EeSt :=
  if was && !on then
    { e with storeOff := some now }
  else if on && !was then
    { e with storeOff := none, passStart := e.passStart.map (fun t => t + (now - e.storeOff.getD now)) }
  else e

/-- The domains change; a meter's window no longer counts a domain that went off in it, the time PD08 comes on is kept, and the
channels of an LF bank that goes off are to be tested again (01 R37, R45; 06 R228; 18 R640). -/
def State.setDomains (s : State) (d : Nat) : State :=
  { s with
    domains := d, ee := s.ee.power s.deviceTime (bit s.domains 28 && bit s.domains 46) (bit d 28 && bit d 46), lf := { s.lf with tested := s.lf.tested &&& bankChannels d },
    power := { s.power with
      paceOn := s.power.paceOn &&& d,
      ref38At := if bit d 8 && !bit s.domains 8 then s.deviceTime else s.power.ref38At } }

/-- A spare engine group is on only while one of its engines holds a slot or is under test: on probation, with its test due
(01 R49; 17 R612). -/
def State.spareOn (s : State) (north : Bool) : Bool :=
  (if north then s.halves.slots.take 32 else s.halves.slots.drop 32).any (fun i => decide (32 ≤ i)) ||
  s.halves.retired.any (fun r => r.unit.kind == .engine && (r.unit.half == .north) == north && decide (32 ≤ r.unit.idx) && !r.bad &&
    decide (r.testAt ≤ s.deviceTime))

/-- The domains of the halves in Flow (01 R49, 18 R627). -/
def State.halfDomains (s : State) : Nat :=
  let all := 2 ^ 50 - 2 ^ 14
  let all := if s.spareOn true then all else clrBit all 22
  if s.spareOn false then all else clrBit all 40

/-- In Flow the spare groups of powered halves go on and off as their engines are needed (01 R49). -/
def State.setSpares (s : State) : State :=
  if s.fld Fd.PW_STAT_STATE ≠ 0 then s else
  let put := fun (core pd : Nat) (north : Bool) (d : Nat) => if bit d core && s.spareOn north then setBit d pd else clrBit d pd
  s.setDomains (put 49 40 false (put 31 22 true s.domains))

/-- The power state changes (18 R660 bit 0). -/
def State.setPowerState (s : State) (n : Nat) : State :=
  if s.fld Fd.PW_STAT_STATE = n then s else (s.setFld Fd.PW_STAT_STATE n).raise 0x0E0000 1

/-- Something happens that Eddy waits out: the time is kept, and Frexus leaves Eddy for Flow (18 R628). -/
def State.eddyExit (s : State) : State :=
  let s := { s with power := { s.power with busyAt := s.deviceTime } }
  if s.fld Fd.PW_STAT_STATE = 1 then (s.setPowerState 0).setDomains (s.domains ||| s.halfDomains) else s

/-- The power cap holds the request: steps 1 to 4 in Flow (01 R38; 18 R656). -/
def State.capped (s : State) : Bool := s.fld Fd.PW_CAP_STEP != 0 && s.fld Fd.PW_STAT_STATE == 0

/-- Work of a class is not admitted: BACKGROUND from step 3 of the cap on and BULK at step 4 (18 R656), or as R86 holds
them while the cap holds the request (02 R86), the more restrictive of the two. -/
def State.classHeld (s : State) (cls : Nat) : Bool :=
  let n := max (s.fld Fd.PW_CAP_STEP - 2) (if s.capped then s.power.hot else 0)
  (cls == 3 && decide (1 ≤ n)) || (cls == 2 && decide (2 ≤ n))

/-- Pond, Tarn or Dry (18 R627). -/
def State.parked (s : State) : Bool := decide (2 ≤ s.fld Fd.PW_STAT_STATE)

/-- The halves are powered: Flow, Eddy, Pond or an excursion (18 R627, R637). -/
def State.halvesOn (s : State) : Bool := decide (s.fld Fd.PW_STAT_STATE ≤ 2) || s.fld Fd.PW_STAT_EXCURSION == 1

end Sys2Proof.Machine
end

