-- ==== Sys2Proof/Machine/FirstPath.lean ====
section
/-! DEFINITION. The first-path detector and the components of a CIR record (07_ranging.md R270-R273, R278, R279). -/

namespace Sys2Proof.Machine

/-- The whole part of the square root of n, for n below 2^(2 b): r holds the bits found so far. -/
def rootFrom : Nat → Nat → Nat → Nat
  | 0, r, _ => r
  | b + 1, r, n => if (r + 2 ^ b) * (r + 2 ^ b) ≤ n then rootFrom b (r + 2 ^ b) n else rootFrom b r n

/-- The whole part of the square root of n, n below 2^128. -/
def root (n : Nat) : Nat := rootFrom 64 0 n

/-- The energy of a tap, its squared magnitude (R279). -/
def tapEnergy (t : BitVec 18 × BitVec 18) : Nat := t.1.toInt.natAbs ^ 2 + t.2.toInt.natAbs ^ 2

/-- The squared threshold of R279 times 65,536: the greater of NTM / 2 times the noise and PMULT / 256 times the peak, squared. -/
def fpThreshold (ntm pmult : Nat) (es : List Nat) : Nat :=
  max (256 * ntm ^ 2 * (es.take 64).sum) (pmult ^ 2 * (es.drop 64).foldl max 0)

/-- The first tap of 64-255 whose magnitude reaches the threshold (R279). -/
def fpIndex (thr : Nat) (es : List Nat) : Option Nat :=
  ((List.range 192).map (· + 64)).find? (fun i => decide (thr ≤ 65536 * es.getD i 0))

/-- The crossing between taps i - 1 and i in 1/1,024 unit, a tap being 64 units; `fr` where the two are equal (R279). -/
def fpBetween (thr a b i : Nat) (fr : Int) : Int :=
  let ra : Int := root (65536 * a * 2 ^ 40)
  let rb : Int := root (65536 * b * 2 ^ 40)
  if ra = rb then fr else ((i : Int) - 1) * 65536 + ((root (thr * 2 ^ 40) : Int) - ra) * 65536 / (rb - ra)

/-- The first path of a block in 1/1,024 unit, none where it is undefined (R279). -/
def firstPath (ntm pmult : Nat) (es : List Nat) (fr : Int) : Option Int :=
  let thr := fpThreshold ntm pmult es
  (fpIndex thr es).map (fun i => fpBetween thr (es.getD (i - 1) 0) (es.getD i 0) i fr)

/-- Limit a component to 0-255 (R270). -/
def clamp255 (v : Int) : Nat := (max 0 (min 255 v)).toNat

/-- C1 of a record: the lowest normalised peak of its quarters, in 1/255 (R270). -/
def cirC1 (norm : List Nat) : Nat := min 255 (255 * (norm.min?.getD 0) / 2 ^ 35)

/-- C5: the lowest share of matching pulses of the quarters (R270). -/
def cirC5 (agree : List (Nat × Nat)) : Nat :=
  ((agree.map (fun a => if a.2 = 0 then 0 else clamp255 (255 * (2 * (a.1 : Int) - a.2) / a.2))).min?).getD 0

/-- The component of a difference d in 1/1,024 unit: 255 less twice the difference (R270, C2 and C3). -/
def cirNear (d : Int) : Nat := clamp255 ((255 * 1024 - 2 * d) / 1024)

/-- C4 for a sum p of 29 tap energies ahead of a first-path energy e: the greatest n up to 255 for which
255 - 12 (q + 20) is n or more, that is p^120 * 10^n at most 10^15 * (29 e)^120; `fr` where both are 0 (R270). -/
def cirC4 (p e fr : Nat) : Nat :=
  if p = 0 ∧ e = 0 then fr % 256
  else
    let l := p ^ 120
    let r := 10 ^ 15 * (29 * e) ^ 120
    ((List.range 255).filter (fun n => decide (l * 10 ^ (n + 1) ≤ r))).length

/-- The four quarter first paths, none where one is undefined. -/
def allPaths (l : List (Option Int)) : Option (List Int) := l.mapM id

/-- The spread between the earliest and the latest. -/
def pathSpread (l : List Int) : Int := l.foldl max (l.headD 0) - l.foldl min (l.headD 0)

/-- The mean of the middle two of four paths in 1/1,024 unit, to the nearest unit (R271). -/
def middleMean (l : List Int) : Int :=
  (l.sum - l.foldl max (l.headD 0) - l.foldl min (l.headD 0) + 1024) / 2048

/-- C4 at the STS first path, the energies of the four quarters added; open where its taps lie outside the record (R270). -/
def preEnergy (es : List Nat) (sts : Int) (fr : Nat) : Nat :=
  let tap := ((sts + 32) / 64).toNat
  if tap < 32 ∨ 255 < tap then fr % 256
  else cirC4 ((List.range 29).map (fun k => es.getD (tap - 32 + k) 0)).sum (es.getD tap 0) fr

/-- Energies of block k of a record: 0 the preamble, 1-4 the STS quarters (R278). -/
def blockEnergies (r : CirRec) (k : Nat) : List Nat :=
  (List.range 256).map (fun i => tapEnergy (r.taps.getD (256 * k + i) (0, 0)))

/-- What the engines find in the record of a RESPONSE. A component that needs an undefined first path is 0 (R270, R271, R279). -/
def measureCir (ntm pmult : Nat) (r : CirRec) (openAt : Nat → Nat) : CirFound :=
  let pre := firstPath ntm pmult (blockEnergies r 0) (openAt 0)
  let paths := allPaths ((List.range 4).map (fun k => firstPath ntm pmult (blockEnergies r (k + 1)) (openAt (k + 1))))
  let c1 := cirC1 r.norm
  let c5 := cirC5 r.agree
  let sum := (List.range 256).map (fun i =>
    ((List.range 4).map (fun k => tapEnergy (r.taps.getD (256 * (k + 1) + i) (0, 0)))).sum)
  match paths with
  | none => { comps := ⟨c1, 0, 0, 0, c5⟩, firstPath := openAt 6, rxPower := r.rxPower, fpPower := r.fpPower }
  | some l =>
    let sts := middleMean l
    let c3 := match pre with | some p => cirNear (Int.natAbs (p - sts * 1024)) | none => 0
    { comps := ⟨c1, cirNear (pathSpread l), c3, preEnergy sum sts (openAt 5), c5⟩, firstPath := sts,
      rxPower := r.rxPower, fpPower := r.fpPower }

/-- A record reaches the round in progress: what it shows of RESPONSE, or C1 of REPORT (R272, R278, R279). Values that R270 and
R279 leave open are free. -/
def State.takeRecord (s : State) (r : CirRec) : State :=
  match s.uwb.round with
  | none => s
  | some x =>
    if r.kind = 0 && x.responseSeen then
      let m := measureCir (cfgFld s.uwb.cfg Fd.UWB_DETECT_NTM) (cfgFld s.uwb.cfg Fd.UWB_DETECT_PMULT) r
        (fun k => Config.freeNat (s.draws + k))
      { s with
        uwb := { s.uwb with round := some { x with found := some m } }
        draws := s.draws + 7 }
    else if r.kind = 1 && x.finalSent then
      { s with uwb := { s.uwb with round := some { x with reportC1 := some (cirC1 r.norm) } } }
    else s

end Sys2Proof.Machine
end

