-- ==== Sys2Proof/Machine/KalmelOps.lean ====
section
/-! DEFINITION. What engine tasks are to the rest of the part: starting, aborting, moving; data memory and pool; events
and waits (11_kalmel_engines.md R411-R440). -/

namespace Sys2Proof.Machine

/-! ### Slots -/

/-- Index of an engine slot in KalmelSt.engines. -/
def engIdx (e : EngRef) : Nat := (match e.half with | .north => 0 | .south => 32) + e.slot % 32


def State.eng (s : State) (e : EngRef) : Eng := s.kalmel.engines.getD (engIdx e) Eng.idle

def State.updEng (s : State) (e : EngRef) (f : Eng → Eng) : State :=
  { s with kalmel := { s.kalmel with engines := s.kalmel.engines.modify (engIdx e) f } }

def State.task? (s : State) (e : EngRef) : Option Task := (s.eng e).task

def State.setTask (s : State) (e : EngRef) (t : Task) : State := s.updEng e (fun x => { x with task := some t })

/-- Every slot of a half. -/
def slotsOf (h : Half) : List EngRef := (List.range 32).map (fun j => ⟨h, j⟩)

def allSlots : List EngRef := slotsOf .north ++ slotsOf .south

/-- The logical engine of a slot: E(2j) North, E(2j + 1) South (01 R40). -/
def logicalEng (e : EngRef) : Nat := 2 * (e.slot % 32) + (match e.half with | .north => 0 | .south => 1)

/-- The half of the physical engine that serves a slot (01 R42). -/
def State.engHalf (s : State) (e : EngRef) : Nat :=
  match e.half with
  | .north => s.fld (Fd.EN_MAP_N_REMOTE (e.slot % 32))
  | .south => 1 - s.fld (Fd.EN_MAP_S_REMOTE (e.slot % 32))

/-! ### Start of a task (R422, R435) -/

/-- Base of a half's pool in KalmelSt.pools. -/
def poolOrg (h : Half) : Nat := match h with | .north => 0 | .south => 262144

/-- The pool with the bytes of a window zero. -/
def zeroPool (m : List (Nat × Byte)) (a n : Nat) : List (Nat × Byte) := m.filter (fun c => !(decide (a ≤ c.1) && decide (c.1 < a + n)))

/-- Put words into data memory from address a on. -/
def putWords (m : List (Nat × EWord)) (a : Nat) : List EWord → List (Nat × EWord)
  | [] => m
  | w :: ws => putWords (mapSet 0 m a w) (a + 1) ws

/-- The state of R435. -/
def initTask (b : TaskStart) : Task :=
  { start := b, k := (b.args.take 4 ++ List.replicate (4 - (b.args.take 4).length) 0) ++ List.replicate 10 0 ++ [0xC00, 0],
    pc := b.entry, fl := { z := false, n := false, c := false, v := false, g := false, s := false }, fmode := b.fmode,
    p1 := 0, p2 := 0, p3 := 0, dthi := 0, wmask := 0, evpend := 0, steps := b.steps, wait := .none, svca := [], staged := [],
    halted := false }

/-- The slot of the Follower's copy: the same slot of the other half, or in solo duty the slot 16 further on (01 R43; 17 R608). -/
def State.copySlot (s : State) (e : EngRef) : EngRef :=
  if s.fld Fd.HW_ROLE_SOLO = 1 then ⟨e.half, (e.slot + 16) % 32⟩
  else ⟨(match e.half with | .north => .south | .south => .north), e.slot⟩

/-- Slot e runs the Follower's copy of a task. -/
def State.copyIn (s : State) (e : EngRef) : Bool :=
  allSlots.any (fun d => match s.task? d with | some t => t.follower == some e | none => false)

/-- Slot e runs nothing. -/
def State.slotFree (s : State) (e : EngRef) : Bool := (s.task? e).isNone && !s.copyIn e

/-- The Follower's copy of a paired-duty task starts with its skew (01 R31, R43). -/
def State.startCopy (s : State) (e : EngRef) (b : TaskStart) : State :=
  if !b.paired then s
  else
    let d := s.copySlot e
    let (n, s) := s.skew
    s.updEng e (fun x => { x with
      task := x.task.map (fun t => { t with follower := some d, followerAt := s.deviceTime + n }) })

/-- Start a task in slot e: memory is zeroed between partitions and at the start of an applet (R422), then its data and
arguments are put in place (R435, R441, R443); in paired duty its copy starts too. `img` is the image in the applet area. -/
def State.startTask (s : State) (e : EngRef) (b : TaskStart) (img : Option Image := none) : State :=
  let g := s.eng e
  let samePart := match g.last with | some (p, _, _, _) => p == b.part | none => false
  let sameApplet := match g.last with | some (p, a, _, _) => p == b.part && a == b.applet && b.applet.isSome | none => false
  let changed := g.last.isSome && !samePart
  let fresh := b.priv = .a && !sameApplet
  let dm := if changed || fresh then g.dm.filter (fun c => decide (0xC00 ≤ c.1)) else g.dm
  let pools := match g.last with
    | some (_, _, base, lim) => if changed then zeroPool s.kalmel.pools (poolOrg e.half + base) lim else s.kalmel.pools
    | none => s.kalmel.pools
  let pools := if fresh then zeroPool pools (poolOrg e.half + b.poolBase) b.poolLim else pools
  let dm := putWords (putWords dm 0 b.data) 0xC00 b.argWords
  let s := State.updEng { s with kalmel := { s.kalmel with pools := pools } } e (fun x => { x with
    task := some (initTask b), dm := dm, last := some (b.part, b.applet, b.poolBase, b.poolLim),
    applet := if b.priv = .a then b.applet.bind (fun n => img.map (fun i => (n, i))) else x.applet })
  s.startCopy e b

/-! ### Generations and aborts (R436, R437) -/

/-- The generation of a slot advances. -/
def Eng.advance (g : Eng) : Eng := { g with gen := (g.gen + 1) % 65536 }

/-- The task of a slot is aborted: its outstanding requests and staged effects go with it (R436, R438, R469). -/
def State.abortTask (s : State) (e : EngRef) : State :=
  match s.task? e with
  | some _ => s.updEng e (fun x => { x.advance with task := none })
  | none => s

/-- Abort the tasks that p picks. -/
def State.abortTasks (s : State) (p : Task → Bool) : State :=
  allSlots.foldl (fun t e => match t.task? e with | some k => if p k then t.abortTask e else t | none => t) s

/-- An engine reset: the slot's generation advances, and its engine keeps no task and no memory (R437; 03 R106). -/
def State.engineReset (s : State) (e : EngRef) : State :=
  s.updEng e (fun x => { x.advance with task := none, dm := [], applet := none, last := none })

/-- The image in slot e's applet area. -/
def State.areaImage (s : State) (e : EngRef) : Option Image := (s.eng e).applet.map (fun x => x.2)

/-- The task of slot e starts again with a new GEN (R438). -/
def State.restartTask (s : State) (e : EngRef) (b : TaskStart) : State :=
  (s.updEng e (fun x => { x.advance with task := none })).startTask e b (s.areaImage e)

/-- The engine of a slot is reset or replaced, and the task of the slot, or the one whose copy ran there, starts again with a
new GEN (R437-R439). -/
def State.engineLost (s : State) (e : EngRef) : State :=
  let b := (s.task? e).map (fun t => t.start)
  let lead := allSlots.findSome? (fun d => (s.task? d).bind (fun t => if t.follower = some e then some (d, t.start) else none))
  let img := s.areaImage e
  let s := s.engineReset e
  match b, lead with
  | some b, _ => s.startTask e b img
  | none, some (d, b) => s.restartTask d b
  | none, none => s

/-! ### Moves off twin 31 (R440; 07 R277) -/

/-- The slots of twin 31: slot 31 of both halves, or in solo duty slots 31 and 15 of the survivor (17 R608). -/
def State.twin31 (s : State) : List EngRef :=
  if s.fld Fd.HW_ROLE_SOLO = 1 then
    let h : Half := if s.fld Fd.HW_ROLE_LEAD = 0 then .north else .south
    [⟨h, 31⟩, ⟨h, 15⟩]
  else [⟨.north, 31⟩, ⟨.south, 31⟩]

/-- Slot e is of twin 31. -/
def State.inTwin (s : State) (e : EngRef) : Bool := s.twin31.contains ⟨e.half, e.slot % 32⟩

/-- Slot e is of twin 31 while that is claimed for ranging (07 R277). -/
def State.claimed (s : State) (e : EngRef) : Bool := s.uwb.twinClaimed && s.inTwin e

/-- A slot of a half outside twin 31 that can take up a task, with one for its copy in paired duty. -/
def State.freeSlot (s : State) (h : Half) (paired : Bool) : Option EngRef :=
  (slotsOf h).find? (fun e => !s.inTwin e && s.slotFree e && (!paired || s.slotFree (s.copySlot e)))

/-- A task of twin 31 that is run again elsewhere and not moved: TIME profile at P or F (R440). -/
def Task.rerun (t : Task) : Bool := t.start.priv != .a && t.start.profile

/-- A service request of the task is in progress. -/
def Task.asking (t : Task) : Bool := (match t.wait with | .svc _ _ => true | .svca _ _ => true | _ => false) || !t.svca.isEmpty

/-- Task t of slot e goes on in slot d with all it has, its copy beside it (R440). -/
def State.moveTask (s : State) (e d : EngRef) (t : Task) : State :=
  let g := s.eng e
  let s := s.updEng e (fun x => { x.advance with task := none })
  let t := if t.start.paired then { t with follower := some (s.copySlot d) } else t
  (s.updEng d (fun x => { x with task := some t, dm := g.dm, applet := g.applet, last := g.last })).bump Fd.EN_CNT_MOVE_COUNT

/-- The task of slot e of twin 31 leaves it: it is moved once it asks for no service, or, in TIME profile at P or F or where no slot
is free, ended, to be run again on another engine (R440). -/
def State.leave (s : State) (e : EngRef) : State :=
  match s.task? e with
  | none => s
  | some t =>
    if !t.rerun && t.asking then s else
    match s.freeSlot e.half t.start.paired with
    | none => s.abortTask e
    | some d => if t.rerun then (s.abortTask e).startTask d t.start else s.moveTask e d t

/-- Twin 31 is claimed for ranging, and the tasks there leave it (07 R277). -/
def State.claimTwin31 (s : State) : State :=
  if s.uwb.twinClaimed then s else
  let s := s.twin31.foldl State.leave s
  { s with uwb := { s.uwb with twinClaimed := true } }

/-- A task that was asking for a service when twin 31 was claimed leaves it now (R440). -/
def State.leaveClaimed (s : State) (e : EngRef) : State :=
  match s.task? e with
  | some t => if s.claimed e && !t.rerun then s.leave e else s
  | none => s

/-! ### Events and waits (R429-R433) -/

/-- Device time's low 36 bits. -/
def State.time36 (s : State) : EWord := BitVec.ofNat 36 s.deviceTime

/-- Deadline d counts as reached at time t (R432). -/
def reached (t d : EWord) : Bool := decide ((t - d).toNat < 2 ^ 35)

def Task.reg (t : Task) (r : Nat) : EWord := t.k.getD (r % 16) 0
def Task.setReg (t : Task) (r : Nat) (v : EWord) : Task := { t with k := t.k.set (r % 16) v }

/-- A WFE of mask m: the pending events within it are written to k(d) and cleared (R430, R472). -/
def Task.takeEvents (t : Task) (d : Nat) (m : BitVec 16) : Task :=
  { (t.setReg d ((t.evpend &&& m).setWidth 36)) with evpend := t.evpend &&& ~~~m, wait := .none }

/-- The mask a waiting WFE named. -/
def Task.wfeMask (t : Task) (d : Nat) : BitVec 16 := (t.reg d).setWidth 16

/-- An event arrives: it becomes pending, and ends a wait for it (R429, R430, R432). -/
def Task.event (t : Task) (line : Nat) : Task :=
  let t := { t with evpend := t.evpend ||| BitVec.ofNat 16 (2 ^ line) }
  match t.wait with
  | .wfe d => if t.evpend &&& t.wfeMask d = 0 then t else t.takeEvents d (t.wfeMask d)
  | .waitc _ => if t.evpend &&& t.wmask = 0 then t else { t with wait := .none, fl := { t.fl with c := false } }
  | _ => t

/-- Lines that can be set (R429). -/
def lineOk (n : Nat) : Bool := decide (n < 3) || (decide (8 ≤ n) && decide (n < 16))

/-- Set event line n of the engine in slot e. -/
def State.setEvent (s : State) (e : EngRef) (n : Nat) : State :=
  match s.task? e with
  | some t => if lineOk n then s.setTask e (t.event n) else s
  | none => s

/-- ENGINE_EVENT: an event line of an engine is set (R429). -/
def execEngineEvent (e : EngRef) (line : Nat) (s : State) : Host.Outcome State Fault Refusal := .next (s.setEvent e line)

/-- WAITC_DEADLINE: device time has reached the deadline and the task goes on with C set (R432, R433). -/
def execWaitcDeadline (e : EngRef) (s : State) : Host.Outcome State Fault Refusal :=
  .next <|
    match s.task? e with
    | some t =>
      (match t.wait with
       | .waitc d => if reached s.time36 d then s.setTask e { t with wait := .none, fl := { t.fl with c := true } } else s
       | _ => s)
    | none => s

/-- TASK_START: the dispatcher starts a task of firmware or a parse program in a free slot (R435). Twin 31 takes no other
work while it is claimed (07 R277). A task in paired duty needs both its slots (01 R43). -/
def execTaskStart (e : EngRef) (b : TaskStart) (s : State) : Host.Outcome State Fault Refusal :=
  .next <|
    if !s.slotFree e || (b.paired && !s.slotFree (s.copySlot e)) || b.priv = .a || (s.claimed e && !b.profile) || !s.gatesOpen ||
       !s.pageAdmits 0x080000 then s
    else s.startTask e b

/-! ### CIR records (07 R278) -/

/-- A word of two 18-bit halves. -/
def pairWord (hi lo : Nat) : EWord := BitVec.ofNat 36 (hi % 2 ^ 18 * 2 ^ 18 + lo % 2 ^ 18)

/-- Exactly n words of a list, padded with zero. -/
def exactly (n : Nat) (l : List EWord) : List EWord := l.take n ++ List.replicate (n - (l.take n).length) 0

/-- The words of a record (07 R278). -/
def recordWords (r : CirRec) : List EWord :=
  [BitVec.ofNat 36 r.kind, BitVec.ofNat 36 r.port, BitVec.ofNat 36 (r.coarse % 2 ^ 36), BitVec.ofNat 36 (r.coarse / 2 ^ 36 % 16)] ++
  exactly 4 (r.agree.map (fun a => pairWord a.1 a.2)) ++ exactly 4 (r.norm.map (BitVec.ofNat 36)) ++
  [BitVec.ofNat 36 r.rxPower, BitVec.ofNat 36 r.fpPower, 0, 0] ++
  exactly 1280 (r.taps.map (fun a => a.1.append a.2))

/-- The record in data memory 0x000-0x50F of one engine, and its event. -/
def State.putRecord (s : State) (e : EngRef) (r : CirRec) : State :=
  (s.updEng e (fun x => { x with dm := putWords x.dm 0 (recordWords r) })).setEvent e 0

/-- CIR_RECORD: a record is written into both engines of twin 31 while it is claimed, and RECORD is signalled (07 R278);
the round in progress has what it shows (07 R279). -/
def execCirRecord (r : CirRec) (s : State) : Host.Outcome State Fault Refusal :=
  .next <| if s.uwb.twinClaimed then (s.twin31.foldl (fun t e => t.putRecord e r) s).takeRecord r else s

end Sys2Proof.Machine
end

