-- ==== Sys2Proof/Machine/Operands.lean ====
section
/-! DEFINITION. Operand forms of Kalmel instructions: privileges, data memory, the pool window, program addresses
(11_kalmel_engines.md R418-R420, 12_kalmel_instruction_set.md R452, R466, R467). -/

namespace Sys2Proof.Machine

/-- Faults of R448. -/
inductive KFault
  | illegal | protect | stack | steps | result
  deriving DecidableEq, Repr

/-- What an instruction works on: its task, the data memory of its engine, and the pool of its half with its origin. -/
structure KCtx where
  t : Task
  dm : List (Nat × EWord)
  pool : List (Nat × Byte)
  org : Nat

/-- A program address lies in the X regions of a privilege (R418). -/
def canExec (q : Priv) (a : Nat) : Bool :=
  match q with
  | .f => decide (a < 0x1800)
  | .p => decide (0x1000 ≤ a) && decide (a < 0x1800)
  | .a => decide (0x1800 ≤ a) && decide (a < 0x2000)

/-- Every word of an instruction at pc lies in program memory and in the X regions (R420, R452). -/
def canFetch (q : Priv) (pc words : Nat) : Bool := (List.range words).all (fun i => canExec q (pc + i))

/-- Data memory a privilege may read (R418). -/
def dmRead (q : Priv) (a : Nat) : Bool :=
  match q with
  | .f => decide (a < 0x1000)
  | _ => decide (a < 0xC40)

/-- Data memory a privilege may write (R418). -/
def dmWrite (q : Priv) (a : Nat) : Bool :=
  match q with
  | .f => decide (a < 0x1000)
  | _ => decide (a < 0xC00)

/-- A pool access at a byte offset of the window is allowed: within it and aligned (R419, R420). -/
def poolOk (t : Task) (off : Nat) : Bool := off % 4 == 0 && decide (off + 4 ≤ t.start.poolLim)

def KCtx.priv (k : KCtx) : Priv := k.t.start.priv

/-- Absolute place of a window offset in the pool. -/
def KCtx.at (k : KCtx) (off : Nat) : Nat := k.org + k.t.start.poolBase + off

/-- n bytes of the window from an offset on. -/
def KCtx.poolBytes (k : KCtx) (off n : Nat) : Bytes := (List.range n).map (fun i => mapRead 0 k.pool (k.at off + i))

/-- The pool with bytes put from an absolute place on. -/
def putPool (m : List (Nat × Byte)) (a : Nat) : Bytes → List (Nat × Byte)
  | [] => m
  | b :: bs => putPool (mapSet 0 m a b) (a + 1) bs

/-- Put bytes into the window. -/
def KCtx.setPool (k : KCtx) (off : Nat) (bs : Bytes) : KCtx := { k with pool := putPool k.pool (k.at off) bs }

/-- The word of data memory at an address. -/
def KCtx.dmAt (k : KCtx) (a : Nat) : EWord := mapRead 0 k.dm a

/-- Put words into data memory from an address on. -/
def KCtx.setDm (k : KCtx) (a : Nat) (ws : List EWord) : KCtx := { k with dm := putWords k.dm a ws }

end Sys2Proof.Machine
end

