-- ==== Sys2Proof/Machine/Flags.lean ====
section
/-! DEFINITION. Flags, fraction mode and rounding of the Kalmel instructions (11_kalmel_engines.md R413-R415,
12_kalmel_instruction_set.md R455, R456, R459). -/

namespace Sys2Proof.Machine

/-- A condition holds (R455). -/
def condHolds (c : Nat) (f : KFlags) : Bool :=
  match c % 16 with
  | 0 => f.z
  | 1 => !f.z
  | 2 => f.c
  | 3 => !f.c
  | 4 => f.n
  | 5 => !f.n
  | 6 => f.v
  | 7 => !f.v
  | 8 => !f.c && !f.z
  | 9 => f.c || f.z
  | 10 => f.n == f.v
  | 11 => f.n != f.v
  | 12 => !f.z && f.n == f.v
  | 13 => f.z || f.n != f.v
  | 14 => true
  | _ => f.g

/-- FLAGS as MFS reads it (R412). -/
def KFlags.word (f : KFlags) : EWord :=
  BitVec.ofNat 36 (b2n f.z + 2 * b2n f.n + 4 * b2n f.c + 8 * b2n f.v + 16 * b2n f.g + 32 * b2n f.s)

/-- FLAGS as MTS writes it (R465). -/
def flagsOf (w : EWord) : KFlags :=
  { z := bit w.toNat 0, n := bit w.toNat 1, c := bit w.toNat 2, v := bit w.toNat 3, g := bit w.toNat 4, s := bit w.toNat 5 }

/-- Z and N of a result (R456). -/
def KFlags.zn (f : KFlags) (r : EWord) : KFlags := { f with z := r == 0, n := r.msb }

/-- A signed value lies outside 36 bits. -/
def overflows (x : Int) : Bool := decide (x < -2 ^ 35) || decide (2 ^ 35 ≤ x)

/-- The 36-bit pattern of an exact value, modulo 2^36. -/
def wrap36 (x : Int) : EWord := BitVec.ofInt 36 x

/-- Flags of an addition with carry in (R456). -/
def KFlags.add (f : KFlags) (a b : EWord) (cin : Nat) : KFlags :=
  { f.zn (a + b + BitVec.ofNat 36 cin) with
    c := decide (2 ^ 36 ≤ a.toNat + b.toNat + cin), v := overflows (a.toInt + b.toInt + cin) }

/-- Flags of a subtraction with borrow in (R456). -/
def KFlags.sub (f : KFlags) (a b : EWord) (bin : Nat) : KFlags :=
  { f.zn (a - b - BitVec.ofNat 36 bin) with
    c := decide (a.toNat < b.toNat + bin), v := overflows (a.toInt - b.toInt - bin) }

/-- FMODE.FRAC and RND (R412). -/
def Task.frac (t : Task) : Bool := t.fmode.getLsbD 0
def Task.rnd (t : Task) : Nat := t.fmode.toNat / 2

/-- x / 2^n rounded by RND (R414): truncate, half-up, half-even, toward zero. -/
def roundShift (rnd n : Nat) (x : Int) : Int :=
  if n = 0 then x else
  let d : Int := 2 ^ n
  match rnd with
  | 0 => x.fdiv d
  | 1 => (x + d / 2).fdiv d
  | 2 =>
    let q := x.fdiv d
    let r := x.fmod d
    if 2 * r < d then q else if d < 2 * r then q + 1 else if q.fmod 2 = 0 then q else q + 1
  | _ => x.tdiv d

/-- Saturate an exact value to the range of Q4.31 (R414). -/
def saturate (x : Int) : Int := max (-2 ^ 35) (min (2 ^ 35 - 1) x)

/-- Flags of a fraction-mode result whose exact rounded value is x (R415, R459). -/
def KFlags.frac (f : KFlags) (x : Int) : KFlags :=
  { f.zn (wrap36 (saturate x)) with
    v := overflows x, c := false, s := f.s || overflows x, g := decide (2 ^ 31 ≤ (saturate x).natAbs) }

/-- Write a fraction-mode result to k(d) (R459). -/
def Task.fracTo (t : Task) (d : Nat) (x : Int) : Task := { t.setReg d (wrap36 (saturate x)) with fl := t.fl.frac x }

/-- Bit i of a register, bits beyond it as given. -/
def bitOr (w : EWord) (i : Nat) (beyond : Bool) : Bool := if i < 36 then w.getLsbD i else beyond

/-- C after SHL by n: the last bit shifted out (R456). -/
def shlCarry (a : EWord) (n : Nat) (c : Bool) : Bool := if n = 0 then c else if n ≤ 36 then a.getLsbD (36 - n) else false

/-- C after SHR or SAR by n: the last bit shifted out, with the fill beyond the register (R456). -/
def shrCarry (a : EWord) (n : Nat) (c fill : Bool) : Bool := if n = 0 then c else bitOr a (n - 1) fill

end Sys2Proof.Machine
end

