-- ==== Sys2Proof/Machine/Alu.lean ====
section
/-! DEFINITION. What each Kalmel computation does to a task's registers, flags and product
(12_kalmel_instruction_set.md R456-R465, R471). -/

namespace Sys2Proof.Machine

/-! ### Register and immediate arithmetic (R457, R460, R461) -/

def kMov (d s : Nat) (t : Task) : Task := t.setReg d (t.reg s)

/-- kd = kd + b (ADD, ADDI, ADDW). -/
def addTo (d : Nat) (b : EWord) (t : Task) : Task :=
  if t.frac then t.fracTo d ((t.reg d).toInt + b.toInt)
  else { t.setReg d (t.reg d + b) with fl := t.fl.add (t.reg d) b 0 }

def kAdd (d s : Nat) (t : Task) : Task := addTo d (t.reg s) t

def kAdc (d s : Nat) (t : Task) : Task :=
  { t.setReg d (t.reg d + t.reg s + BitVec.ofNat 36 (b2n t.fl.c)) with fl := t.fl.add (t.reg d) (t.reg s) (b2n t.fl.c) }

def kSub (d s : Nat) (t : Task) : Task :=
  if t.frac then t.fracTo d ((t.reg d).toInt - (t.reg s).toInt)
  else { t.setReg d (t.reg d - t.reg s) with fl := t.fl.sub (t.reg d) (t.reg s) 0 }

def kSbc (d s : Nat) (t : Task) : Task :=
  { t.setReg d (t.reg d - t.reg s - BitVec.ofNat 36 (b2n t.fl.c)) with fl := t.fl.sub (t.reg d) (t.reg s) (b2n t.fl.c) }

/-- Flags of kd - b (CMP, CMPW). -/
def cmpTo (d : Nat) (b : EWord) (t : Task) : Task := { t with fl := t.fl.sub (t.reg d) b 0 }

def kCmp (d s : Nat) (t : Task) : Task := cmpTo d (t.reg s) t

/-- A logical result and its Z and N. -/
def Task.logic (t : Task) (d : Nat) (r : EWord) : Task := { t.setReg d r with fl := t.fl.zn r }

def kAnd (d s : Nat) (t : Task) : Task := t.logic d (t.reg d &&& t.reg s)
def kOr (d s : Nat) (t : Task) : Task := t.logic d (t.reg d ||| t.reg s)
def kXor (d s : Nat) (t : Task) : Task := t.logic d (t.reg d ^^^ t.reg s)

/-- An immediate of w bits, sign-extended. -/
def immSx (w imm : Nat) : EWord := (BitVec.ofNat w imm).signExtend 36

def kMovi (d imm : Nat) (t : Task) : Task := t.setReg d (immSx 6 imm)
def kAddi (d imm : Nat) (t : Task) : Task := addTo d (immSx 6 imm) t
def kMovw (d imm : Nat) (t : Task) : Task := t.setReg d (immSx 14 imm)
def kAddw (d imm : Nat) (t : Task) : Task := addTo d (immSx 14 imm) t
def kCmpw (d imm : Nat) (t : Task) : Task := cmpTo d (immSx 14 imm) t
def kAndw (d imm : Nat) (t : Task) : Task := t.logic d (t.reg d &&& BitVec.ofNat 36 (imm % 2 ^ 14))
def kOrw (d imm : Nat) (t : Task) : Task := t.logic d (t.reg d ||| BitVec.ofNat 36 (imm % 2 ^ 14))
def kXorw (d imm : Nat) (t : Task) : Task := t.logic d (t.reg d ^^^ BitVec.ofNat 36 (imm % 2 ^ 14))
def kMovl (d : Nat) (imm : EWord) (t : Task) : Task := t.setReg d imm

/-! ### Shifts (R457, R458, R459) -/

/-- kd shifted left by n. -/
def shlTo (d n : Nat) (t : Task) : Task :=
  let a := t.reg d
  if t.frac then t.fracTo d (a.toInt * 2 ^ min n 72)
  else
    let r := a <<< min n 36
    { t.setReg d r with fl := { t.fl.zn r with c := shlCarry a n t.fl.c } }

/-- kd shifted right by n, zero-filling. -/
def shrTo (d n : Nat) (t : Task) : Task :=
  let a := t.reg d
  let r := a >>> min n 36
  { t.setReg d r with fl := { t.fl.zn r with c := shrCarry a n t.fl.c false } }

/-- kd shifted right by n, sign-filling; in fraction mode rounded by RND. -/
def sarTo (d n : Nat) (t : Task) : Task :=
  let a := t.reg d
  if t.frac then t.fracTo d (roundShift t.rnd (min n 40) a.toInt)
  else
    let r := a.sshiftRight (min n 36)
    { t.setReg d r with fl := { t.fl.zn r with c := shrCarry a n t.fl.c a.msb } }

/-- kd rotated right by n of 1 to 32. -/
def rorTo (d n : Nat) (t : Task) : Task :=
  let r := (t.reg d).rotateRight n
  { t.setReg d r with fl := { t.fl.zn r with c := r.msb } }

/-- A shift amount: a register's value, or an immediate whose field 0 means 32 (R457, R458). -/
def shiftAmount (n : ShiftBy) (t : Task) : Nat :=
  match n with
  | .reg s => (t.reg s).toNat
  | .imm a => if a % 32 = 0 then 32 else a % 32

def kShl (d : Nat) (n : ShiftBy) (t : Task) : Task := shlTo d (shiftAmount n t) t
def kShr (d : Nat) (n : ShiftBy) (t : Task) : Task := shrTo d (shiftAmount n t) t
def kSar (d : Nat) (n : ShiftBy) (t : Task) : Task := sarTo d (shiftAmount n t) t
def kRor (d a : Nat) (t : Task) : Task := rorTo d (shiftAmount (.imm a) t) t

/-! ### Products (R416, R457, R462, R463) -/

def sx72 (w : EWord) : BitVec 72 := w.signExtend 72
def zx72 (w : EWord) : BitVec 72 := w.setWidth 72

def kMul (d s : Nat) (t : Task) : Task := { t with p1 := sx72 (t.reg d) * sx72 (t.reg s) }
def kMulu (d s : Nat) (t : Task) : Task := { t with p1 := zx72 (t.reg d) * zx72 (t.reg s) }
def kMac (d s : Nat) (t : Task) : Task := { t with p1 := t.p1 + sx72 (t.reg d) * sx72 (t.reg s) }
def kMsb (d s : Nat) (t : Task) : Task := { t with p1 := t.p1 - sx72 (t.reg d) * sx72 (t.reg s) }

/-- PMV: the product that R416 lets this instruction read, to k(d). -/
def kPmv (d : Nat) (t : Task) : Task :=
  if t.frac then t.fracTo d (roundShift t.rnd 31 t.p3.toInt)
  else t.logic d (t.p3.setWidth 36)

/-! ### System group computations (R464) -/

def kNot (d : Nat) (t : Task) : Task := t.logic d (~~~ t.reg d)

def kNeg (d : Nat) (t : Task) : Task :=
  if t.frac then t.fracTo d (-(t.reg d).toInt)
  else { t.setReg d (0 - t.reg d) with fl := t.fl.sub 0 (t.reg d) 0 }

def kAbs (d : Nat) (t : Task) : Task :=
  let a := t.reg d
  if t.frac then t.fracTo d a.toInt.natAbs
  else
    let r := if a.msb then 0 - a else a
    { t.setReg d r with fl := { t.fl.zn r with v := overflows a.toInt.natAbs } }

def kTst (d : Nat) (t : Task) : Task := { t with fl := t.fl.zn (t.reg d) }

/-! ### SHAPE group (R471) -/

def lowMask (w : Nat) : EWord := BitVec.ofNat 36 (2 ^ w - 1)

/-- BFI and BFX need w from 1 to 36 and p + w at most 36. -/
def fieldOk (p w : Nat) : Bool := decide (1 ≤ w ∧ p + w ≤ 36)

def kBfi (d s p w : Nat) (t : Task) : Task :=
  let m := lowMask w <<< p
  t.logic d ((t.reg d &&& ~~~m) ||| ((t.reg s <<< p) &&& m))

def kBfx (d s p w : Nat) (t : Task) : Task := t.logic d ((t.reg s >>> p) &&& lowMask w)

/-- Zero bits from bit 35 down to the first 1. -/
def leadingZeros (w : EWord) : Nat := ((List.range 36).find? (fun i => w.getLsbD (35 - i))).getD 36

def kClz (d s : Nat) (t : Task) : Task := t.logic d (BitVec.ofNat 36 (leadingZeros (t.reg s)))

/-- BPERM: byte i is byte sel[2i+1:2i] of ks[31:0], or 0 under zm bit i. -/
def kBperm (d s sel zm : Nat) (t : Task) : Task :=
  let src := (t.reg s).toNat
  let byteAt := fun i => if bit zm i then 0 else src / 256 ^ (sel / 4 ^ i % 4) % 256 * 256 ^ i
  t.logic d (BitVec.ofNat 36 (byteAt 0 + byteAt 1 + byteAt 2 + byteAt 3))

/-! ### Special registers (R412, R465) -/

/-- EINFO (R412). -/
def einfo (logical half : Nat) (t : Task) : EWord :=
  BitVec.ofNat 36 (logical + 64 * half + 128 * b2n t.start.profile +
    256 * (match t.start.priv with | .f => 0 | .p => 1 | .a => 2) + 1024 * b2n t.start.paired)

/-- What MFS reads: 0 for a reserved number. `info` is EINFO and `gen` the generation. -/
def special (n : Nat) (info : EWord) (gen : Nat) (t : Task) : EWord :=
  match n % 16 with
  | 0 => t.fl.word
  | 1 => t.fmode.setWidth 36
  | 2 => (t.p3 >>> 36).setWidth 36
  | 3 => t.p3.setWidth 36
  | 4 => info
  | 5 => BitVec.ofNat 36 gen
  | 6 => t.dthi.setWidth 36
  | 7 => t.wmask.setWidth 36
  | 8 => t.evpend.setWidth 36
  | 9 => BitVec.ofNat 36 t.start.poolBase
  | 10 => BitVec.ofNat 36 t.start.poolLim
  | 11 => (match t.steps with | some k => BitVec.ofNat 36 k | none => BitVec.ofNat 36 (2 ^ 36 - 1))
  | _ => 0

/-- MTS: FLAGS, FMODE and WMASK can be written. -/
def mtsTo (n : Nat) (v : EWord) (t : Task) : Option Task :=
  match n % 16 with
  | 0 => some { t with fl := flagsOf v }
  | 1 => some { t with fmode := v.setWidth 3 }
  | 7 => some { t with wmask := v.setWidth 16 }
  | _ => none

end Sys2Proof.Machine
end

