-- ==== Sys2Proof/Machine/Units.lean ====
section
/-! DEFINITION. The queues of the shared units: who runs, who waits, who is served next (10_hammers.md R397-R406,
14_anvils.md R519; 04_host_link_and_partitions.md R150, R151). -/

namespace Sys2Proof.Machine

/-- The number of a half in masks and records: North 0, South 1. -/
def halfNum : Half → Nat
  | .north => 0 | .south => 1

/-- Mask of the units of a kind in service in a half. -/
def State.unitMask (s : State) (u : UnitKind) (h : Half) : Nat :=
  match u, h with
  | .hammer, .north => s.fld Fd.HM_AVAIL_NORTH
  | .hammer, .south => s.fld Fd.HM_AVAIL_SOUTH
  | .digest, .north => s.fld Fd.DG_STAT_AVAIL % 4
  | .digest, .south => s.fld Fd.DG_STAT_AVAIL / 4
  | .anvil, .north => s.fld Fd.AV_AVAIL_AVAIL % 4
  | .anvil, .south => s.fld Fd.AV_AVAIL_AVAIL / 4

/-- Bytes of a segment: 256 of a stream, 16 AES invocations of AES-KW, each on 8 bytes of a pass (R399). -/
def segBytes (mode : Nat) : Nat := if mode = 0x20 then 128 else 256

/-- Bytes a request covers at most; an AES-KW operation, six passes over its data, is always one request (R397). -/
def reqBytes (mode : Nat) : Nat := if mode = 0x20 then 6 * 65536 else 65536

/-- Unit numbers a running job occupies (R44, R391, R405). -/
def Running.occupies (r : Running) : List Nat :=
  match r.job.unit with
  | .hammer => if r.job.full then [r.unit, r.unit + 1] else [r.unit]
  | .digest => [0, 1]
  | .anvil => [r.unit]

/-- Units of a kind and half that carry work. -/
def State.busyUnits (s : State) (u : UnitKind) (h : Half) : List Nat :=
  (s.units.running.filter (fun r => r.job.unit = u && r.job.half = h)).flatMap Running.occupies

/-- The first free unit for a job: a pair under FULL, one Hammer under INVERT, the digest pair, an Anvil (R398). -/
def State.freeUnit (s : State) (j : Job) : Option Nat :=
  let m := s.unitMask j.unit j.half
  let busy := s.busyUnits j.unit j.half
  let lone := fun i => maskDiff m (if j.unit = .hammer && j.full then 3 * 2 ^ i else 2 ^ i) == 0
  let ok := fun i => bit m i && !busy.contains i && (j.avoid != some i || lone i)
  match j.unit with
  | .hammer => if j.full then (List.range 8).findSome? (fun i => if ok (2 * i) && ok (2 * i + 1) then some (2 * i) else none)
               else (List.range 16).find? ok
  | .digest => if ok 0 && ok 1 then some 0 else none
  | .anvil => (List.range 2).find? ok

/-- Hammer requests a partition may hold at once: max(1, floor(16 x HAMMER_SHARE / W)), each partition at the share its oldest
request was admitted with (R139, R151). -/
def State.hammerLimit (s : State) (p cls : Nat) : Nat :=
  let jobs := (s.units.running.map (·.job) ++ s.units.waiting).filter (fun j => j.unit = .hammer && j.cls == cls)
  let share := fun q => match jobs.find? (fun j => j.part == q) with | some j => j.share | none => 0
  let w := (((List.range 64).filter (fun q => jobs.any (fun j => j.part == q))).map share).sum
  max 1 (16 * share p / w)

/-- A frame's job that no unit has taken up while its class is held (18 R656). -/
def State.jobHeld (s : State) (j : Job) : Bool :=
  (match j.owner with | .frame _ => true | _ => false) && j.done == 0 && s.classHeld j.cls

/-- Bytes of plaintext that the request of a decryption stages (R383). -/
def State.stages (s : State) (j : Job) : Nat :=
  match j.owner with
  | .cmd k => (match s.inflight.find? (fun c => c.key == k) with
    | some c => if c.opcode = 0x0202 then min 65536 (c.inLen - leAt c.param 24 4 - leAt c.param 5 1)
                else if c.opcode = 0x0206 then min 65536 (c.inLen - 8) else 0
    | none => 0)
  | _ => 0

/-- The staging a command's request has in a half already. -/
def State.hasStage (s : State) (j : Job) : Bool := s.units.staged.any (fun x => .cmd x.key == j.owner && x.half == j.half)

/-- The pool of its half has staging space, and a save record is free, for a request (R401). -/
def State.poolRoom (s : State) (j : Job) : Bool :=
  (s.hasStage j ||
    decide (((s.units.staged.filter (fun x => x.half == j.half)).map (·.bytes)).sum + s.stages j ≤ 131072)) &&
  (j.saved != 0 ||
    decide ((s.units.running.filter (fun r => r.job.unit = .hammer && r.job.half = j.half)).length +
      (s.units.waiting.filter (fun o => o.unit = .hammer && o.half = j.half && o.saved != 0)).length < 128))

/-- The page of the units of a kind (04 R128). -/
def unitPage (u : UnitKind) : Nat := if u = .anvil then 0x0A0000 else 0x070000

/-- Position i of the waiting jobs is within its partition's limit, its work is admitted by its class and by its block's page, the pool
has room for it, and no GUARD runs (R401; 04 R124; 19 R668). -/
def State.eligible (s : State) (i : Nat) (j : Job) : Bool :=
  if s.jobHeld j || !s.gatesOpen || (j.unit == .hammer && !s.poolRoom j) || !s.pageAdmits (unitPage j.unit) then false else
  j.unit != .hammer ||
  decide (((s.units.running.map (·.job) ++ s.units.waiting.take i).filter
    (fun o => o.unit = .hammer && o.part == j.part && o.cls == j.cls)).length < s.hammerLimit j.part j.cls)

/-- The job of a kind and half that is due: of the highest class that has one, the first come (R150, R398). -/
def State.dueJob (s : State) (u : UnitKind) (h : Half) : Option (Nat × Job) :=
  (List.range 4).findSome? (fun c =>
    (List.range s.units.waiting.length).findSome? (fun i =>
      match s.units.waiting[i]? with
      | some j => if j.unit = u && j.half = h && j.cls = c && s.eligible i j then some (i, j) else none
      | none => none))

/-- The queues of the shared units: one of each kind in each half (R398). -/
def unitQueues : List (UnitKind × Half) :=
  [(.hammer, .north), (.hammer, .south), (.digest, .north), (.digest, .south), (.anvil, .north), (.anvil, .south)]

/-- The waiting job served next: the due one of a queue that finds a unit free. Nothing behind it in its queue takes a unit first
(R150, R398). -/
def State.nextJob (s : State) : Option (Nat × Job × Nat) :=
  unitQueues.findSome? (fun q => (s.dueJob q.1 q.2).bind (fun x => (s.freeUnit x.2).map (fun u => (x.1, x.2, u))))

/-- The longest wait of a class is kept (R408). -/
def State.noteWait (s : State) (j : Job) : State :=
  if j.unit = .anvil then s
  else
    let w := min (2 ^ 32 - 1) (s.deviceTime - j.since)
    s.setFld (Fd.HM_WAITMAX_NS j.cls) (max w (s.fld (Fd.HM_WAITMAX_NS j.cls)))

/-- The job at position i takes unit u: a command's first Hammer request has started, and a decryption has its staging (R387,
R401). -/
def State.startJob (s : State) (i : Nat) (j : Job) (u : Nat) : State :=
  let x := s.units
  let cmd := match j.owner with | .cmd k => if j.unit = .hammer then some k else none | _ => none
  { s with units := { x with
      waiting := x.waiting.eraseIdx i, running := x.running ++ [{ unit := u, job := { j with avoid := none } }],
      started := match cmd with | some k => if x.started.contains k then x.started else k :: x.started | none => x.started,
      staged := match cmd with
        | some k => if s.hasStage j || s.stages j = 0 then x.staged else ⟨k, j.half, s.stages j⟩ :: x.staged
        | none => x.staged } }

/-- Let waiting jobs take free units. -/
def State.serve (s : State) : Nat → State
  | 0 => s
  | n + 1 =>
    match s.nextJob with
    | none => s
    | some (i, j, u) => ((s.startJob i j u).noteWait j).serve n

/-- A job joins the queue of its class, and free units are taken. -/
def State.addJob (s : State) (j : Job) : State :=
  State.serve { s with units := { s.units with waiting := s.units.waiting ++ [j] } } 4

/-- The work of an owner leaves the units, its save records and its staged plaintext erased (R386, R400). -/
def State.dropJobs (s : State) (o : JobOwner) : State :=
  let us := { s.units with
    started := s.units.started.filter (fun k => !(.cmd k == o)),
    staged := s.units.staged.filter (fun x => !(.cmd x.key == o)),
    running := s.units.running.filter (fun r => !(r.job.owner == o)),
    waiting := s.units.waiting.filter (fun j => !(j.owner == o)) }
  State.serve { s with units := us } 16

/-- A half in service: HW_ROLE shows SERVICE (17 R626). -/
def State.halfUp (s : State) (h : Half) : Bool :=
  decide (1 = (match h with | .north => s.fld Fd.HW_ROLE_N_STATE | .south => s.fld Fd.HW_ROLE_S_STATE))

/-- The context bank of half h that holds the queues whose home is h is in service: bank 0 of North, bank 1 of South
(01 R27, R28; 17 R621). -/
def State.bankUp (s : State) (h : Half) : Bool :=
  bit (s.fld Fd.HW_PATHS_BANKS) (match h with | .north => 0 | .south => 3)

/-- The half that serves work homed on h: h itself, or the other while h or its bank is out of service (R28, R367;
17 R621). -/
def State.serving (s : State) (h : Half) : Half :=
  let o : Half := match h with | .north => .south | .south => .north
  if s.halfUp h && (s.bankUp h || !s.halfUp o) then h else o

/-- Message block of a digest algorithm (R404, R406). -/
def digestBlock (alg : Nat) : Nat :=
  match alg with
  | 0x01 => 64 | 0x02 => 128 | 0x03 => 128 | 0x11 => 136 | 0x12 => 104 | 0x13 => 72 | 0x21 => 168 | _ => 136

/-- The HAMMER_SHARE that a request has: of a command as it was admitted, else of the partition now; Frexus's own work has weight 1
(04 R139, R151). -/
def State.shareOf (s : State) (o : JobOwner) (p : Nat) : Nat :=
  match o with
  | .cmd k => (match s.inflight.find? (fun c => c.key == k) with | some c => c.share | none => 1)
  | .frame _ => (match s.part? p with | some q => q.cfg.hammerShare | none => 1)
  | .own _ => 1

/-- A job of an owner as it joins. -/
def State.newJob (s : State) (o : JobOwner) (u : UnitKind) (h : Half) (part cls : Nat) (full : Bool) (mode slot total : Nat) :
    State :=
  s.addJob { owner := o, unit := u, half := s.serving h, part := part, cls := cls, full := full, mode := mode,
             slot := slot, total := total, done := 0, inReq := 0, seg := if u = .digest then digestBlock mode else segBytes mode,
             saved := 0, since := s.deviceTime, avoid := none, share := s.shareOf o part }

/-! ### The access service's requests (R149, R403) -/

/-- The partition number that stands for Frexus's own work. -/
def ownPart : Nat := 64

/-- The access service has a request outstanding in a half. -/
def State.ownBusy (s : State) (h : Half) : Bool :=
  (s.units.running.map (·.job) ++ s.units.waiting).any (fun j => j.half == h && (match j.owner with | .own _ => true | _ => false))

/-- The next request of the access service in half h, of at most 8 KiB at class RELEASE, once none is outstanding there (R403; 04
R149). -/
def State.ownNext (s : State) (h : Half) : State :=
  if s.ownBusy h then s else
  match s.units.owed.find? (fun x => x.1 == h) with
  | none => s
  | some x =>
    let s := { s with units := { s.units with owed := s.units.owed.erase x } }
    s.newJob (.own (halfNum h)) .hammer h ownPart 0 true 0x10 0 (min 8192 x.2)

/-- The access service asks each half in service for a CMAC over n bytes (R398, R403). -/
def State.askOwn (s : State) (n : Nat) : State :=
  [Half.north, Half.south].foldl (fun (t : State) h =>
    if t.halfUp h then State.ownNext { t with units := { t.units with owed := t.units.owed ++ [(h, n)] } } h else t) s

end Sys2Proof.Machine
end

