-- ==== Sys2Proof/Machine/Command.lean ====
section
/-! DEFINITION. The life of a command: the order of a ring, the checks of R202, its end with a completion entry and
the resume record (05_command_rings.md R175-R202). -/

namespace Sys2Proof.Machine

/-- Status codes (R200). -/
inductive Status
  | ok | deferred | spilled | busyRetry | badOpcode | badParam | notPermitted | lifecycle | noSlot | queueFull
  | noPartition | authFail | keyExhausted | keyBoundMismatch | entropyHalt | storeFault | fenced | tamperHold
  | abortedReset | abortedRemoval | rangeReject | outOfBudget
  deriving DecidableEq, Repr

/-- The value of a status code (R200). -/
def Status.code : Status → Nat
  | .ok => 0x0000 | .deferred => 0x0001 | .spilled => 0x0002 | .busyRetry => 0x0003
  | .badOpcode => 0x0100 | .badParam => 0x0101 | .notPermitted => 0x0102 | .lifecycle => 0x0103
  | .noSlot => 0x0200 | .queueFull => 0x0201 | .noPartition => 0x0202
  | .authFail => 0x0300 | .keyExhausted => 0x0301 | .keyBoundMismatch => 0x0302
  | .entropyHalt => 0x0400 | .storeFault => 0x0401 | .fenced => 0x0402 | .tamperHold => 0x0403
  | .abortedReset => 0x0500 | .abortedRemoval => 0x0501 | .rangeReject => 0x0600 | .outOfBudget => 0x0601

/-- How a command ends: status, DETAIL, RESULT bytes and the bytes of its output area, from its
start or in parts at offsets of it (R180, R182; 11 R447). -/
structure Reply where
  status : Status
  result : Bytes := []
  out : Bytes := []
  detail : Nat := 0
  parts : List (Nat × Bytes) := []
  deriving DecidableEq, Repr

/-- An end without effect. -/
def Reply.fail (st : Status) : Reply := { status := st }

/-- An end with OK and nothing to return. -/
def Reply.done : Reply := { status := .ok }

/-- FLAGS bits of an entry (R176). -/
def Inflight.fence (c : Inflight) : Bool := bit c.flags 0
def Inflight.unordered (c : Inflight) : Bool := bit c.flags 1
def Inflight.xring (c : Inflight) : Bool := bit c.flags 2

/-- PARAM byte fields (R197). -/
def Inflight.p8 (c : Inflight) (o : Nat) : Nat := leAt c.param o 1
def Inflight.p16 (c : Inflight) (o : Nat) : Nat := leAt c.param o 2
def Inflight.p32 (c : Inflight) (o : Nat) : Nat := leAt c.param o 4
def Inflight.p64 (c : Inflight) (o : Nat) : Nat := leAt c.param o 8

/-- Command o, fetched before c by the same partition and not ended, must end before c may take effect: in-order
commands of one ring (R186) and fences (R187, R188). -/
def Inflight.blocks (o c : Inflight) : Bool :=
  o.key.part == c.key.part && decide (o.seq < c.seq) &&
  ((c.fence && (o.key.sq == c.key.sq || c.xring)) ||
   (o.fence && (o.key.sq == c.key.sq || o.xring)) ||
   (o.key.sq == c.key.sq && !o.unordered && !c.unordered))

/-- The fetched command with this key, if it has not ended. -/
def State.cmd? (s : State) (k : CmdKey) : Option Inflight := s.inflight.find? (fun c => c.key == k)

/-- A completion that is not posted yet holds command c back: c is a FENCE over its ring, or the completion is that of one (R188). -/
def Compl.blocks (m : Compl) (c : Inflight) : Bool :=
  (c.fence && (m.sq == c.key.sq || c.xring)) ||
  (match m.fence with | some x => m.sq == c.key.sq || x | none => false)

/-- The slots PK_SIGN names: one, or two of a hybrid signature (14 R516). -/
def Inflight.signSlots (c : Inflight) : List Nat :=
  if c.p8 8 = 0x40 || c.p8 8 = 0x41 then [c.p32 0, c.p32 4] else [c.p32 0]

/-- SLOT values that command c fills or destroys (R197; 13 R491, R500; 14 R520). -/
def Inflight.fills (c : Inflight) : List Nat :=
  match c.opcode with
  | 0x0101 | 0x0102 | 0x0103 | 0x0104 | 0x0301 | 0x0305 => [c.p32 0]
  | 0x0107 => [c.p16 0]
  | 0x0304 | 0x0306 => [c.p32 4]
  | _ => []

/-- SLOT values that command c names beside those (R197, R198). -/
def Inflight.slotReads (c : Inflight) : List Nat :=
  match c.opcode with
  | 0x0102 | 0x0103 => [c.p32 20]
  | 0x0105 => [c.p32 0, c.p32 4]
  | 0x0106 | 0x010A | 0x010B | 0x0201 | 0x0202 | 0x0203 | 0x0204 | 0x0205 | 0x0206 | 0x0304 | 0x0306 => [c.p32 0]
  | 0x0108 | 0x0109 => [c.p16 0]
  | 0x0302 => c.signSlots
  | 0x0601 | 0x0602 | 0x0801 => [leAt c.input 8 4]
  | 0x0604 => [c.p32 4]
  | 0x0805 => [leAt c.input 0 4, leAt c.input 16 4]
  | _ => []

/-- The two lists share a SLOT value that names a slot; index 0xFFFF asks for a free one. -/
def slotsMeet (a b : List Nat) : Bool := a.any (fun n => n % 65536 != 0xFFFF && b.contains n)

/-- Command o, admitted before c by the same partition, and c cannot hold a slot together: one of them replaces or destroys it, so c
waits for o (10 R390; 13 R499). -/
def Inflight.holdsFrom (o c : Inflight) : Bool :=
  o.key.part == c.key.part && decide (o.seq < c.seq) &&
  (slotsMeet o.fills (c.fills ++ c.slotReads) || slotsMeet c.fills o.slotReads)

/-- Command o names a slot of its partition with EXACT binding. -/
def State.namesExact (s : State) (o : Inflight) : Bool :=
  (o.fills ++ o.slotReads).any (fun n => match mapGet s.keys.slots n with
    | some k => k.owner == o.key.part && k.binding == 2
    | none => false)

/-- A DEBUG_GRANT waits for the admitted commands that name EXACT slots and need not follow it: they use them (20 R701). -/
def State.grantWaits (s : State) (c : Inflight) : Bool :=
  c.opcode == 0x0903 && s.inflight.any (fun o => o.key != c.key && !c.blocks o && s.namesExact o)

/-- Command c may take effect now (R186-R188; 13 R499; 20 R701). -/
def State.admissible (s : State) (c : Inflight) : Bool :=
  !s.inflight.any (fun o => o.blocks c || o.holdsFrom c) && !s.grantWaits c &&
  !(s.part? c.key.part).any (fun q => q.heldCompl.any (fun m => m.blocks c))

/-! ### Resume records (R194, R195) -/

/-- MISSING after entry n commits when the record stood at entry m: entries between become missing, m becomes a
committed one; an entry before m loses its missing bit. -/
def missingAfter (m missing n : Nat) : Nat :=
  if m < n then (missing * 2 ^ (n - m) + (2 ^ (n - m - 1) - 1)) % 2 ^ 63
  else if n < m then clrBit missing (m - n - 1)
  else missing

/-- The record after command c commits. -/
def Resume.commit (r : Resume) (c : Inflight) (durable : Bool) : Resume :=
  let a : Resume := match r.ordinal with
    | some m =>
      { r with hasAll := true, index := if m < c.ordinal then c.key.idx else r.index,
               tag := if m < c.ordinal then c.tag else r.tag,
               missing := missingAfter m r.missing c.ordinal, ordinal := some (max m c.ordinal) }
    | none =>
      { r with hasAll := true, index := c.key.idx, tag := c.tag, ordinal := some c.ordinal,
               missing := 2 ^ (min 63 c.ordinal) - 1 }
  if !durable then a else
  match r.durOrdinal with
  | some m =>
    { a with hasDur := true, durIndex := if m < c.ordinal then c.key.idx else r.durIndex,
             durTag := if m < c.ordinal then c.tag else r.durTag,
             durMissing := missingAfter m r.durMissing c.ordinal, durOrdinal := some (max m c.ordinal) }
  | none =>
    { a with hasDur := true, durIndex := c.key.idx, durTag := c.tag, durOrdinal := some c.ordinal,
             durMissing := 2 ^ (min 63 c.ordinal) - 1 }

/-- An empty record of SQ i. -/
def Resume.empty (i : Nat) : Resume :=
  { sq := i, index := 0, tag := 0, missing := 0, ordinal := none, durIndex := 0, durTag := 0, durMissing := 0,
    durOrdinal := none, hasAll := false, hasDur := false }

/-- Change the resume record of SQ i, making it if there is none. -/
def resumeUpd (i : Nat) (f : Resume → Resume) : List Resume → List Resume
  | [] => [f (Resume.empty i)]
  | r :: t => if r.sq = i then f r :: t else r :: resumeUpd i f t

/-! ### Completions (R180-R182) -/

/-- The 32 bytes of a completion entry (R180). -/
def complBytes (m : Compl) (sqHead : Nat) (phase : Bool) : Bytes :=
  leBytes 4 m.tag ++ leBytes 2 m.status ++ leBytes 1 m.sq ++ leBytes 1 (b2n phase) ++ leBytes 2 sqHead ++
  leBytes 2 m.detail ++ leBytes 4 m.written ++ padTo 16 m.result

def Cq.size (q : Cq) : Nat := 2 ^ q.sizeLog2
def Sq.size (q : Sq) : Nat := 2 ^ q.sizeLog2

def updCq (i : Nat) (f : Cq → Cq) (l : List Cq) : List Cq := l.map (fun q => if q.id = i then f q else q)
def updSq (i : Nat) (f : Sq → Sq) (l : List Sq) : List Sq := l.map (fun q => if q.id = i then f q else q)

def PartSt.cq? (q : PartSt) (i : Nat) : Option Cq := q.cqs.find? (fun r => r.id == i)
def PartSt.sq? (q : PartSt) (i : Nat) : Option Sq := q.sqs.find? (fun r => r.id == i)

/-- A ring becomes STOPPED and a RING_ERROR event names it (R172, R205). -/
def State.stopRing (s : State) (p : Nat) (r : RingRef) (err idx : Nat) : State :=
  match r with
  | .sq i => (s.updPart p (fun q => { q with sqs := updSq i (fun w => { w with stopped := true }) q.sqs })).post p 3 p
      (ringErrorDetail 0 i err idx)
  | .cq i => (s.updPart p (fun q => { q with cqs := updCq i (fun w => { w with stopped := true }) q.cqs })).post p 3 p
      (ringErrorDetail 1 i err idx)
  | .evr => (s.updPart p (fun q => { q with evr := none })).post p 3 p (ringErrorDetail 2 0 err idx)

/-- A completion whose output area could not be written: the effect stands, and DETAIL says so (R182). -/
def Compl.outputLost (m : Compl) : Compl :=
  if m.outputs.isEmpty then m else { m with outputs := [], written := 0, detail := 0x8000 }

/-- Write the output area of a completion; where that cannot be sent the output is lost (R182, R746). -/
def State.writeOutputs (s : State) (p : Nat) (m : Compl) : State × Compl :=
  if s.cannotSend p then (s, m.outputLost)
  else (m.outputs.foldl (fun t o => t.emit (.hostWrite p o.1 o.2)) s, m)

/-- The replica that a completion leaves behind is gone (17 R617). -/
def State.dropReplica (s : State) (m : Compl) : State :=
  { s with halves := { s.halves with replicas := s.halves.replicas.filter (fun x => some x.key != m.key) } }

/-- A completion at its gate: one that carries an old epoch is discarded and logged, and made again for the survivor from the journal
record, the verdicts or the replica it holds (01 R33; 17 R601, R618). Its replica is no longer needed. -/
def State.passGate (s : State) (m : Compl) : State :=
  (if m.epoch = s.halves.epoch then s else s.discardItem).dropReplica m

/-- Write a completion: the output area first, then the entry, then the message if the CQ was empty (R118, R174, R182).
A CQ that is gone or stopped takes no entry (R172); a write that cannot be sent stops it (R746). -/
def State.writeCompl (s : State) (p : Nat) (m : Compl) : State :=
  let (s, m) := (s.passGate m).writeOutputs p m
  match s.part? p with
  | none => s
  | some q =>
    match q.cq? m.cq with
    | none => s
    | some r =>
      if r.stopped then s
      else if s.cannotSend p then s.stopRing p (.cq r.id) 6 r.wr
      else
      let head := match q.sq? m.sq with | some w => w.head | none => 0
      let wr := (r.wr + 1) % r.size
      let s := s.emit (.hostWrite p (r.base + 32 * r.wr) (complBytes m head r.phase))
      let s := s.updPart p (fun q => { q with cqs := updCq m.cq (fun r =>
        { r with wr := wr, reserved := r.reserved - 1, phase := if wr == 0 then !r.phase else r.phase }) q.cqs })
      if r.wr == r.rd then s.sendMsg p r.vec else s

/-- Post a completion now, or keep it while Frexus may not write host memory for p (R120); with the link down or the function reset
its writes fail (R746). -/
def State.postCompl (s : State) (p : Nat) (m : Compl) : State :=
  if s.canMaster p || s.cannotSend p then s.writeCompl p m
  else s.updPart p (fun q => { q with heldCompl := q.heldCompl ++ [m] })

/-- Write the completions that waited, oldest first (R120). -/
def State.flushCompl (s : State) (p : Nat) : State :=
  match s.part? p with
  | none => s
  | some q =>
    if s.canMaster p then
      q.heldCompl.foldl (fun t m => t.writeCompl p m) (s.updPart p (fun q => { q with heldCompl := [] }))
    else s

/-- Spread output bytes from offset o on over the elements of a scatter list (R177). -/
def scatter : List Sgl → Nat → Bytes → List (Nat × Bytes)
  | [], _, _ => []
  | e :: t, o, bs =>
    if bit e.flags 1 then scatter t o bs
    else if bs.isEmpty then []
    else if e.len ≤ o then scatter t (o - e.len) bs
    else (e.addr + o, bs.take (e.len - o)) :: scatter t 0 (bs.drop (e.len - o))

/-- Where output bytes from offset o on go: the output area or its scatter list (R175, R177). -/
def Inflight.outputs (c : Inflight) (o : Nat) (bs : Bytes) : List (Nat × Bytes) :=
  if bs.isEmpty then [] else if bit c.flags 7 then scatter c.outList o bs else [(c.outAddr + o, bs)]

/-- End command c: it leaves the fetched commands, its resume record moves on, and its completion is posted
(R180-R182, R190, R194). -/
def State.complete (s : State) (c : Inflight) (durable : Bool) (r : Reply) : State :=
  let s := State.dropJobs { s with
    inflight := s.inflight.filter (fun o => !(o.key == c.key)),
    halves := { s.halves with compares := s.halves.compares.filter (fun x => !(x.key == c.key)) } } (.cmd c.key)
  let cq := match s.part? c.key.part with
    | some q => (match q.sq? c.key.sq with | some w => w.cq | none => 0)
    | none => 0
  let s := s.updPart c.key.part (fun q => { q with resume := resumeUpd c.key.sq (fun x => x.commit c durable) q.resume })
  s.postCompl c.key.part
    { cq := cq, sq := c.key.sq, tag := c.tag, status := r.status.code, detail := r.detail,
      written := r.out.length + (r.parts.map (fun x => x.2.length)).sum, result := r.result, epoch := s.halves.epoch, key := some c.key,
      fence := if c.fence then some c.xring else none,
      outputs := c.outputs 0 r.out ++ r.parts.flatMap (fun x => c.outputs x.1 x.2) }

/-- The opcodes of R197. -/
def opcodes : List Nat :=
  [0x0001, 0x0002, 0x0003, 0x0004, 0x0005, 0x0006, 0x0007, 0x0008, 0x0009, 0x0101, 0x0102, 0x0103, 0x0104, 0x0105,
   0x0106, 0x0107, 0x0108, 0x0109, 0x010A, 0x010B, 0x0201, 0x0202, 0x0203, 0x0204, 0x0205, 0x0206, 0x0207, 0x0301,
   0x0302, 0x0303, 0x0304, 0x0305, 0x0306, 0x0307, 0x0401, 0x0501, 0x0502, 0x0503, 0x0601, 0x0602, 0x0603, 0x0604,
   0x0605, 0x0701, 0x0702, 0x0703, 0x0801, 0x0802, 0x0803, 0x0804, 0x0805, 0x0901, 0x0902, 0x0903, 0x0904, 0x0A01]

/-- An entry whose opcode is not in the catalogue (R199). -/
def Inflight.isBad (c : Inflight) : Bool := !opcodes.contains c.opcode

/-- End the entries with a bad opcode whose turn has come, without effect (R186, R199). -/
def State.sweepBad (s : State) : Nat → State
  | 0 => s
  | n + 1 =>
    match s.inflight.find? (fun c => c.isBad && s.admissible c) with
    | some c => (s.complete c false (.fail .badOpcode)).sweepBad n
    | none => s

/-- End command c, then the bad entries that waited for it. -/
def State.finish (s : State) (c : Inflight) (durable : Bool) (r : Reply) : State :=
  (s.complete c durable r).sweepBad (s.inflight.length)

/-! ### Paired duty (01 R29, R31; R197) -/

/-- Opcodes in paired duty whatever they name (R197). -/
def pairedOps : List Nat :=
  [0x0002, 0x0003, 0x0004, 0x0005, 0x0006, 0x0007, 0x0008, 0x0009, 0x0101, 0x0102, 0x0103, 0x0104, 0x0105, 0x0107, 0x0108,
   0x0301, 0x0304, 0x0305, 0x0306, 0x0307, 0x0502, 0x0503, 0x0601, 0x0602, 0x0603, 0x0604, 0x0701, 0x0703, 0x0801, 0x0802,
   0x0803, 0x0804, 0x0805, 0x0901, 0x0902, 0x0903, 0x0904]

/-- The opcode and what PARAM names put command c in paired duty; an applet's declaration does too (11 R444). -/
def Inflight.pairedOp (c : Inflight) : Bool :=
  pairedOps.contains c.opcode || (c.opcode == 0x0302 && c.signSlots.any (fun n => !bit n 31))

/-- The home half of the queue of command c: North for even numbers (01 R28). -/
def State.cmdHome (s : State) (c : Inflight) : Nat :=
  match s.part? c.key.part with
  | some q => (match q.sq? c.key.sq with | some w => w.queue % 2 | none => 0)
  | none => 0

/-- The half whose Bellows serves the draws of command c: the Lead's in paired duty, else its home half's (15 R550). -/
def State.drawHalf (s : State) (c : Inflight) : Nat := if c.pairedOp || c.declared then s.fld Fd.HW_ROLE_LEAD else s.cmdHome c

/-- A run of command k has disagreed or failed and no later run has agreed: only a verdict lets it commit (01 R32; 17 R605,
R606). -/
def State.disagrees (s : State) (k : CmdKey) : Bool := s.halves.compares.any (fun x => x.key == k)

/-! ### The checks of R202 -/

/-- Issuer column of R197. -/
inductive Issuer
  | any | p0 | p0Secure | secure | access
  deriving DecidableEq, Repr

/-- What R197 says of an opcode: issuer, PARAM bytes in use as (offset, size), durable effect, fixed input length,
least and greatest lengths, the opcode's own format check (step 4 of R202) and its DETAIL, whether it draws random bytes (15 R544)
where PARAM names a slot whose persistence makes the effect durable ("If persistent"), where it names a class (R149), the life-cycle
check that PARAM adds (step 3), the checks that the opcode's chapter puts before the device condition (R136, R139, R141), and when
it waits to be admitted (R154). -/
structure OpInfo where
  code : Nat
  issuer : Issuer := .any
  used : List (Nat × Nat) := []
  durable : Bool := false
  fixedIn : Option Nat := none
  minOut : Nat := 0
  maxIn : Nat := 16777216
  params : Inflight → Bool := fun _ => true
  paramDetail : Inflight → Nat := fun _ => 0
  draws : Inflight → Bool := fun _ => false
  slotAt : Option Nat := none
  clsAt : Option Nat := none
  lifeAlso : State → Inflight → Bool := fun _ _ => true
  first : State → Inflight → Option Status := fun _ _ => none
  waits : State → Inflight → Bool := fun _ _ => false

/-- PARAM bytes outside the ranges in use are reserved and must be 0 (R16, R175). -/
def reservedZero (used : List (Nat × Nat)) (param : Bytes) : Bool :=
  (List.range 32).all (fun i => used.any (fun u => decide (u.1 ≤ i ∧ i < u.1 + u.2)) || param.getD i 0 == 0)

/-- A scatter list ends with its LAST element; what stands behind it is not read (R177). -/
def cutLast : List Sgl → List Sgl
  | [] => []
  | e :: t => if bit e.flags 0 then [e] else e :: cutLast t

/-- A scatter list at an address is well formed and covers exactly n bytes: it and the lists it chains to are 16-byte aligned, and
its last element is LAST. For no bytes there is no list (R175, R177). -/
def sglOk (addr : Nat) (l : List Sgl) (n : Nat) : Bool :=
  let data := l.filter (fun e => !bit e.flags 1)
  if n = 0 then l.isEmpty else
  addr % 16 == 0 && (l.filter (fun e => bit e.flags 1)).all (fun e => e.addr % 16 == 0) &&
  (match l.getLast? with | some e => bit e.flags 0 | none => false) &&
  decide (data.length ≤ 256) && decide ((data.map (·.len)).sum = n) &&
  l.all (fun e => decide (e.flags < 4)) && data.all (fun e => decide (1 ≤ e.len ∧ e.len ≤ 16777216))

/-- Format of the whole entry (R175-R177, R197; step 4 of R202). A list that could not be read is not judged (R179). -/
def entryOk (i : OpInfo) (c : Inflight) : Bool :=
  decide (c.flags < 256) && !(c.fence && c.unordered) && !(c.xring && !c.fence) &&
  decide (c.inLen ≤ i.maxIn) && decide (c.outLen ≤ 16777216) &&
  (match i.fixedIn with | some n => c.inLen == n | none => true) && decide (i.minOut ≤ c.outLen) &&
  reservedZero i.used c.param &&
  (c.inLen != 0 || c.inAddr == 0) && (c.outLen != 0 || c.outAddr == 0) &&
  (c.readFail || ((!bit c.flags 6 || sglOk c.inAddr c.inList c.inLen) && (!bit c.flags 7 || sglOk c.outAddr c.outList c.outLen)))

/-- The issuer column holds for the command (R197, R199). -/
def State.issuerOk (s : State) (i : Issuer) (c : Inflight) : Bool :=
  match i with
  | .any => true
  | .p0 => c.key.part == 0
  | .p0Secure => c.key.part == 0 && s.secure 0
  | .secure => s.secure c.key.part
  | .access => s.accessPart == some c.key.part

/-- CLASS asked for above the partition's class (R176): RELEASE is 0 and highest. -/
def Inflight.classAbove (c : Inflight) : Bool := bit c.flags 3 && decide (bitsOf c.flags 5 4 < c.cls)

/-- Steps 1 to 4 of R202; the life cycle check (step 3) is the opcode's own. An access opcode from a partition without
the access service page is BAD_OPCODE (R199). -/
def State.preCheck (s : State) (i : OpInfo) (lifeOk : Bool) (c : Inflight) : Option Status :=
  if i.issuer = .access && !s.issuerOk .access c then some .badOpcode
  else if !s.issuerOk i.issuer c || c.classAbove ||
    (match i.clsAt with | some o => decide (c.p8 o < c.cls) | none => false) then some .notPermitted
  else if !lifeOk || !i.lifeAlso s c then some .lifecycle
  else if !entryOk i c then some .badParam
  else none

/-! ### Device conditions and durable work (R63, R67, step 5 of R202) -/

/-- HOLD is in force, or a Quench is decided and its warm reset still to come (19 R668, R676). -/
def State.tamperHold (s : State) : Bool := s.tamper.hold || s.tamper.quench != 0
def State.holdOk (s : State) : Bool := s.fld Fd.HOLD_STAT_HOLD_OK == 1

/-- A journal write may begin: VHOLD at 2.85 V or more, no brown-out in progress, and the lease allows commits (R63,
R569; 17 R597). -/
def State.canCommit (s : State) : Bool := decide (2850 ≤ s.supply.vholdMv) && !s.supply.brownout && !s.halves.stopped

/-- The command has durable effect: always, or because the slot it names is persistent (R197, R198). -/
def OpInfo.isDurable (i : OpInfo) (c : Inflight) : Bool :=
  i.durable || (match i.slotAt with | some o => !bit (c.p32 o) 31 | none => false)

/-- Step 5 of R202 (R67, R544). -/
def State.deviceCheck (s : State) (i : OpInfo) (c : Inflight) : Option Status :=
  if s.tamperHold then some .tamperHold
  else if i.draws c && s.noEntropy then some .entropyHalt
  else if i.isDurable c && !s.holdOk then some .storeFault
  else none

/-- What a command's own rules answer: an end at once, work that goes on (the command stays fetched), or a durable
commit that gives the state and the reply once the journal may be written. -/
inductive Work
  | finish (s : State) (r : Reply)
  | more (s : State)
  | commit (s : State) (r : Reply)

/-- A commit of command k that cannot begin yet waits (R63; 16 R569). -/
def State.waitCommit (s : State) (k : CmdKey) : State :=
  if s.txns.any (fun x => match x with | .cmd k' _ => k' == k | .own _ => false) then s
  else { s with txns := s.txns ++ [.cmd k s.deviceTime] }

/-- The commit of command k waits no more. -/
def State.dropWait (s : State) (k : CmdKey) : State :=
  { s with txns := s.txns.filter (fun x => match x with | .cmd k' _ => !(k' == k) | .own _ => true) }

/-- The answer of a command's own rules in state s takes effect. -/
def Work.settle (w : Work) (s : State) (k : CmdKey) (c : Inflight) : State :=
  match w with
  | .finish t r => t.finish c false r
  | .more t => t
  | .commit t r => if s.canCommit then (t.dropWait k).finish c true r else s.waitCommit k

/-- Class a command runs at (R149, R176). -/
def Inflight.runClass (c : Inflight) : Nat := if bit c.flags 3 then bitsOf c.flags 5 4 else c.cls

/-- The most bytes that command c draws: what RANDOM writes; 128 for any other (15 R553, R554). -/
def Inflight.drawBound (c : Inflight) : Nat := if c.opcode = 0x0401 then c.outLen else 128

/-- The draw of command c waits: its Bellows is at its limit, or a request of a higher class, or an older one of its class, waits
for the same half (15 R550, R553). -/
def State.drawHeld (s : State) (c : Inflight) : Bool :=
  s.drawWaits (s.drawHalf c) c.drawBound ||
  s.inflight.any (fun o => o.key != c.key && s.drawHalf o == s.drawHalf c && (match o.drawSince with
    | none => false
    | some t => decide (o.runClass < c.runClass) || (o.runClass == c.runClass && (match c.drawSince with
      | some u => decide (t < u)
      | none => true))))

/-- The draw of command k begins to wait. -/
def State.waitDraw (s : State) (k : CmdKey) : State :=
  { s with inflight := s.inflight.map (fun c =>
      if c.key == k && c.drawSince.isNone then { c with drawSince := some s.deviceTime } else c) }

/-- Run command c by its opcode information and its own rules. A durable commit that cannot begin yet waits as a
transaction (R63, R569). The row of a command in paired duty is a run whose copies agree; after one that did not, the verdict
of COMPARE_VERDICT runs it (01 R32). After a bring-up that failed every command ends with STORE_FAULT (03 R99). -/
def State.runCmd (s : State) (i : OpInfo) (lifeOk : Bool) (body : State → Inflight → Work) (k : CmdKey) : State :=
  match s.cmd? k with
  | none => s
  | some c =>
    if s.boot = .failed then s.finish c false (.fail .storeFault) else
    if c.opcode ≠ i.code || !s.admissible c || s.halves.lost || !s.gatesOpen || s.disagrees k || i.waits s c ||
       (match s.part? k.part with | some q => q.inReset.isSome | none => false) then s else
    match s.preCheck i lifeOk c with
    | some st => s.finish c false (.fail st)
    | none =>
      if c.readFail then s.finish c false { status := .badParam, detail := 1 } else
      if !i.params c then s.finish c false { status := .badParam, detail := i.paramDetail c } else
      match i.first s c <|> s.deviceCheck i c with
      | some st => s.finish c false (.fail st)
      | none =>
      if i.draws c && s.drawHeld c then s.waitDraw k else
      (body s c).settle s k c

end Sys2Proof.Machine
end

