-- ==== Sys2Proof/Machine/EeOps.lean ====
section
/-! DEFINITION. The EE store: bytes and pages, CLEARING marks, generations, regions and repair events
(16_ee_store.md R556-R588). -/

namespace Sys2Proof.Machine

/-! ### Pages and bytes (R556, R558, R566) -/

/-- First logical page of USER and of KEY (R558). -/
def userPage0 : Nat := 28672
def keyPage0 : Nat := 2048

/-- The halves whose store takes no write: out of service, or in resync (17 R608, R626). -/
def State.outHalves (s : State) : List Half :=
  (if s.fld Fd.HW_ROLE_N_STATE = 1 then [] else [Half.north]) ++ (if s.fld Fd.HW_ROLE_S_STATE = 1 then [] else [Half.south])

/-- A page image was written or the page cleared: GEN rises by 1 (R566, R579); the copy of a half out of service falls behind
(R584; 17 R608, R622). -/
def State.raiseGen (s : State) (p : Nat) : State :=
  { s with ee := { s.ee with
      gens := mapSet 0 s.ee.gens p (mapRead 0 s.ee.gens p + 1),
      behind := (s.outHalves.map (fun h => (h, p))).filter (fun x => !s.ee.behind.contains x) ++ s.ee.behind } }

/-- The older copies of half h are written from the newer ones: at resync and at the recovery pass (R584; 17 R622). -/
def State.catchUp (s : State) (h : Half) : State := { s with ee := { s.ee with behind := s.ee.behind.filter (fun x => x.1 != h) } }

/-- n bytes of USER from logical address a on. -/
def State.eeBytes (s : State) (a n : Nat) : Bytes := (List.range n).map (fun i => mapRead 0 s.ee.mem (a + i))

/-- The memory with bytes written from address a on. -/
def putBytes (m : List (Nat × Byte)) (a : Nat) : Bytes → List (Nat × Byte)
  | [] => m
  | b :: bs => putBytes (mapSet 0 m a b) (a + 1) bs

/-- The memory with every byte of page p zero. -/
def zeroPage (m : List (Nat × Byte)) (p : Nat) : List (Nat × Byte) := m.filter (fun c => c.1 / 128 != p)

/-- The pages n bytes from address a on cover (R568). -/
def pagesOf (a n : Nat) : List Nat := (List.range ((a + n - 1) / 128 - a / 128 + 1)).map (· + a / 128)

/-! ### CLEARING (R571, R578-R582) -/

/-- Page p is marked CLEARING. -/
def State.marked (s : State) (p : Nat) : Bool := s.ee.clearing.any (fun r => r.contains p)

/-- REMAIN of EE_SAN (R588). -/
def State.remain (s : State) : Nat := (s.ee.clearing.map List.length).sum

/-- Mark the pages of a range that are not yet marked, as one range; they read as zeros from now on (R571, R578, R581). -/
def State.markPages (s : State) (ps : List Nat) : State :=
  let new := ps.filter (fun p => !s.marked p)
  if new.isEmpty then s else
  let mem := s.ee.mem.filter (fun (c : Nat × Byte) => !new.contains (c.1 / 128))
  { s with ee := { s.ee with
      mem := mem, clearing := s.ee.clearing ++ [new],
      lostPages := s.ee.lostPages.filter (fun c => !new.contains c.1) } }

/-- A page that failed its margin reads three times waits for the test of its array's columns, and for the repair that follows
(R574, R579). -/
def State.clearHeld (s : State) (p : Nat) : Bool :=
  s.ee.failing.any (fun x => x.1 == p && (!x.2 ||
    s.ee.broken.any (fun b => b.2.1 == p / 2048) || s.ee.remaps.any (fun r => r.array == p / 2048 && r.row.isSome)))

/-- The columns of an array have been tested (R579). -/
def State.tested (s : State) (array : Nat) : State :=
  { s with ee := { s.ee with failing := s.ee.failing.map (fun x => if x.1 / 2048 = array then (x.1, true) else x) } }

/-- The page that is cleared next: in the order of the ranges and of the pages, but for those that are held (R578, R579). -/
def State.nextClear (s : State) : Option Nat := s.ee.clearing.flatten.find? (fun p => !s.clearHeld p)

/-- Page p is cleared: MARK IDLE with GEN raised; the last page of all raises SAN_DONE (R579, R588). -/
def State.clearPage (s : State) (p : Nat) : State :=
  if !s.marked p then s else
  let ranges := (s.ee.clearing.map (fun r => r.filter (· != p))).filter (fun r => !r.isEmpty)
  let s := State.raiseGen { s with ee := { s.ee with clearing := ranges, failing := s.ee.failing.filter (fun x => x.1 != p) } } p
  if ranges.isEmpty then s.raise 0x0C0000 2 else s

/-- PD28 and PD46 are on (R572, R580). -/
def State.storePower (s : State) : Bool := bit s.domains 28 && bit s.domains 46

/-- The logical page of the record of generation g of persistent slot index i (13 R490). -/
def slotPage (i g : Nat) : Nat := keyPage0 + 2 * (i % 65536) + g % 2

/-- A page image is written; a marked page is cleared out of turn first (R566, R581). -/
def State.writePage (s : State) (p : Nat) : State := (s.clearPage p).raiseGen p

/-! ### Repairs and losses (R557, R575-R577, R587) -/

/-- STORE_REPAIR (R587). -/
def State.storeRepair (s : State) (half kind array column spare page : Nat) : State :=
  (s.post 0 0x0080 srcDevice (leBytes 1 half ++ leBytes 1 kind ++ leBytes 1 array ++ [0] ++ leBytes 2 column ++
    leBytes 2 spare ++ leBytes 4 page ++ [0, 0, 0, 0])).raise 0x0C0000 1

/-- Lost codewords of page p (R577). -/
def State.lostWords (s : State) (p : Nat) : List Nat := mapRead [] s.ee.lostPages p

/-- A write of n bytes from address a on covers codewords of lost pages (R577). -/
def State.coverLost (s : State) (a n : Nat) : State :=
  let cover := fun (p w : Nat) => decide (a ≤ 128 * p + 8 * w ∧ 128 * p + 8 * w + 8 ≤ a + n)
  let lost := (s.ee.lostPages.map (fun c => (c.1, c.2.filter (fun w => !cover c.1 w)))).filter (fun c => !c.2.isEmpty)
  { s with ee := { s.ee with lostPages := lost } }

/-! ### User regions (R559-R564) -/

/-- A word of EE_RGN with its bits [hi:lo]. -/
def Region.bits (r : Region) (hi lo : Nat) : Nat := bitsOf r.word.toNat hi lo
def Region.en (r : Region) : Bool := r.bits 31 31 == 1
def Region.shared (r : Region) : Bool := r.bits 30 30 == 1
def Region.owner (r : Region) : Nat := r.bits 29 24
def Region.base (r : Region) : Nat := r.bits 23 12
def Region.pages (r : Region) : Nat := r.bits 11 0 + 1

def State.region (s : State) (k : Nat) : Region := s.ee.regions.getD k Region.none

def State.setRegion (s : State) (k : Nat) (r : Region) : State :=
  { s with ee := { s.ee with regions := s.ee.regions.set k r } }

/-- The staged table is refused: two enabled regions overlap, or one runs past page 4,095 of USER (R560). -/
def tableBad (t : List Region) : Bool :=
  let on := t.filter Region.en
  on.any (fun r => decide (4096 < r.base + r.pages)) ||
  (List.range on.length).any (fun i => (List.range i).any (fun j =>
    let a := on.getD i Region.none
    let b := on.getD j Region.none
    decide (a.base < b.base + b.pages ∧ b.base < a.base + a.pages)))

/-- Region k of the table and its owner, of page u of USER. -/
def pageHome (t : List Region) (u : Nat) : Option (Nat × Nat) :=
  (List.range t.length).findSome? (fun k =>
    let r := t.getD k Region.none
    if r.en && decide (r.base ≤ u ∧ u < r.base + r.pages) then some (k, r.owner) else none)

/-- The pages of USER that region r covers while enabled. -/
def Region.span (r : Region) : List Nat := if r.en then (List.range r.pages).map (· + r.base) else []

/-- The region with its passwords unset and its mismatches forgotten (R561, R563). -/
def Region.unset (r : Region) : Region :=
  { r with rdPw := List.replicate 16 0, wrPw := List.replicate 16 0, misses := 0, refuseUntil := 0 }

/-- A region's OWNER, BASE, PAGES_M1 or EN differ (R561). -/
def Region.differs (a b : Region) : Bool := clrBit a.word.toNat 30 != clrBit b.word.toNat 30

/-- Replace the served table. -/
def State.setRegions (s : State) (t : List Region) : State := { s with ee := { s.ee with regions := t } }

/-- Serve a new table of EE_RGN words (R560, R561): pages whose region or owner has changed are marked, and the
passwords of changed regions are unset. -/
def State.serveTable (s : State) (words : List Word) : State :=
  let old := s.ee.regions
  let new := List.zipWith (fun (r : Region) w =>
    let r' := { r with word := w }
    if r.differs r' then r'.unset else r') old words
  let touched := (List.zipWith (fun (a b : Region) => if a.differs b then a.span ++ b.span else []) old new).flatten
  let pages := (touched.filter (fun u => pageHome old u != pageHome new u)).eraseDups
  (State.markPages s (pages.map (· + userPage0))).setRegions new

end Sys2Proof.Machine
end

