-- ==== Sys2Proof/Machine/KeyOps.lean ====
section
/-! DEFINITION. Key slots as every user of a key sees them: naming, binding, uses and their limits, key derivation
(13_crucible.md R479-R495, 10_hammers.md R387-R389). -/

namespace Sys2Proof.Machine

/-! ### Names, types and attributes (R198, R482, R483) -/

/-- A SLOT value names a volatile slot (R198). -/
def slotVolatile (n : Nat) : Bool := bit n 31

/-- The index a SLOT value names. -/
def slotIndex (n : Nat) : Nat := n % 65536

/-- Reserved bits [30:16] of a SLOT value are 0. -/
def slotFmt (n : Nat) : Bool := bitsOf n 30 16 == 0

/-- A SLOT value in the range of its kind. -/
def slotInRange (n : Nat) : Bool := slotFmt n && decide (slotIndex n < (if slotVolatile n then 32768 else 8192))

/-- ATTR bits (R483). -/
def atAead : Nat := 0
def atMac : Nat := 1
def atTraffic : Nat := 2
def atWrap : Nat := 3
def atUnwrap : Nat := 4
def atDerive : Nat := 5
def atSeal : Nat := 6
def atSign : Nat := 7
def atAgree : Nat := 8
def atExportable : Nat := 9
def atReplaceable : Nat := 10
def atAccess : Nat := 11
def atApplet : Nat := 12

/-- Material length of a key type, none for an unknown type (R482). -/
def materialLen (t : Nat) : Option Nat :=
  match t with
  | 0x0001 => some 16 | 0x0002 => some 32 | 0x0003 => some 32 | 0x0004 => some 48 | 0x0010 => some 32
  | 0x0020 => some 8 | 0x0101 => some 32 | 0x0102 => some 48 | 0x0103 => some 32 | 0x0104 => some 32
  | 0x0201 => some 64 | 0x0202 => some 64 | 0x0211 => some 32 | 0x0212 => some 32 | _ => none

def isAes (t : Nat) : Bool := t == 1 || t == 2
def isXpn (t : Nat) : Bool := t == 3 || t == 4
def isSymmetric (t : Nat) : Bool := isAes t || isXpn t || t == 0x10

/-- ATTR bits a key type allows (R483). -/
def attrAllowed (t : Nat) : Nat :=
  let general := if t = 0x20 then 0x1000 else 0x1600
  let aes := if isAes t then 0x1F else 0
  let xpn := if isXpn t then 0x05 else 0
  let derive := if t = 0x10 || t = 2 then 0x20 else 0
  let sealB := if t = 2 then 0x40 else 0
  let sign := if [0x101, 0x102, 0x103, 0x211, 0x212].contains t then 0x80 else 0
  let agree := if [0x101, 0x102, 0x104, 0x201, 0x202].contains t then 0x100 else 0
  let access := if t = 1 then 0x800 else 0
  general ||| aes ||| xpn ||| derive ||| sealB ||| sign ||| agree ||| access

/-- R484: no bit the type does not allow, and no data role together with a key role. -/
def attrOk (t a : Nat) : Bool :=
  maskDiff a (attrAllowed t) == 0 && (a &&& 0x807 == 0 || a &&& 0x078 == 0)

/-- The AES key part of a slot's material (10 R377). -/
def KeySlot.aesKey (k : KeySlot) : Bytes :=
  match k.ktype with
  | 1 => k.material.take 16 | 3 => k.material.take 16 | _ => k.material.take 32

/-! ### Slots (R479, R485, R489) -/

def State.slot? (s : State) (n : Nat) : Option KeySlot := mapGet s.keys.slots n

/-- The slot partition p names, if it holds it. -/
def State.ownSlot (s : State) (p n : Nat) : Option KeySlot :=
  match s.slot? n with
  | some k => if k.owner = p && slotInRange n then some k else none
  | none => none

def State.putSlot (s : State) (n : Nat) (k : KeySlot) : State :=
  { s with keys := { s.keys with slots := mapPut s.keys.slots n k } }

/-- Write the record of slot n: a persistent slot's goes to the page its generation names (R490; 16 R566). -/
def State.writeSlot (s : State) (n : Nat) (k : KeySlot) : State :=
  if slotVolatile n then s.putSlot n k else (s.putSlot n k).writePage (slotPage n k.gen)

/-- Slots a partition holds of the kind of SLOT value n. -/
def State.slotsHeld (s : State) (p : Nat) (vol : Bool) : Nat :=
  (s.keys.slots.filter (fun c => c.2.owner == p && slotVolatile c.1 == vol)).length

/-- What BIND_HASH must be for a binding now (R490). -/
def State.bindNow (s : State) (b : Nat) : Bytes :=
  if b = 1 then s.keys.signerId.take 16 else if b = 2 then s.keys.m.take 16 else List.replicate 16 0

/-- The binding of a key holds (R487, R489). -/
def State.bindOk (s : State) (n : Nat) (k : KeySlot) : Bool :=
  match k.binding with
  | 0 => true
  | 1 => k.bindHash == s.bindNow 1 && decide (k.svnFloor ≤ s.keys.svn)
  | _ => k.bindHash == s.bindNow 2 && (slotVolatile n || s.keys.grant.isNone)

/-- How naming a slot for a use ends. -/
inductive SlotUse
  | ok (k : KeySlot)
  | bad (r : Reply)

/-- Step 6 of R202 for a slot that partition p names: it is p's (R485), its type and ATTR fit, its binding holds
(R489). `fit` says whether the type and attributes allow the use. -/
def State.useSlot (s : State) (p n : Nat) (fit : KeySlot → Bool) : SlotUse :=
  match s.ownSlot p n with
  | none => .bad { status := .badParam, detail := 0x0D02 }
  | some k =>
    if !fit k || k.ktype = 0x20 then .bad { status := .badParam, detail := 0x0D01 }
    else if !s.bindOk n k then .bad { status := .keyBoundMismatch }
    else .ok k

/-- A command refused at its objects: a binding mismatch is counted (R510). -/
def State.refuse (s : State) (r : Reply) : Work :=
  if r.status = .keyBoundMismatch then .finish (s.bump Fd.CR_CNT_MISMATCH) r else .finish s r

/-! ### Uses (10 R387-R389, R493, R494) -/

/-- REKEY_ADVISED for slot n (R509). -/
def State.rekeyAdvised (s : State) (n cause : Nat) (k : KeySlot) : State :=
  ((s.post k.owner 0x0010 k.owner (leBytes 4 n ++ leBytes 1 cause ++ [0, 0, 0] ++ leBytes 8 k.uses)).raise 0x090000 1)

/-- How taking a use ends: taken, refused at a limit, or it waits for a mark (R388, R493, R494). -/
inductive Take
  | ok (s : State)
  | exhausted (s : State)
  | wait (s : State)

/-- Write a record with a later mark as a two-phase update, or leave it waiting for VHOLD (R493, R494, R569). -/
def State.raiseMark (s : State) (n : Nat) (t : OwnTxn) (k : KeySlot) : State :=
  if s.canCommit then s.writeSlot n { k with gen := k.gen + 1 }
  else if s.txns.contains (.own t) then s
  else { s with txns := s.txns ++ [.own t] }

/-- Raise USE_MARK of a persistent slot when U has reached M - 32,768 (R493). -/
def State.checkUseMark (s : State) (n : Nat) : State :=
  match s.slot? n with
  | some k =>
    if slotVolatile n || k.uses + 32768 < k.useMark then s
    else s.raiseMark n (.useMark n) { k with useMark := k.useMark + 65536 }
  | none => s

/-- Raise the drawn-nonce mark when DN has reached N - 65,536 (R494). -/
def State.checkDrawMark (s : State) (n : Nat) : State :=
  match s.slot? n with
  | some k =>
    if slotVolatile n || k.dn + 65536 < k.dnMark || 2 ^ 32 + 131072 ≤ k.dnMark then s
    else s.raiseMark n (.drawMark n) { k with dnMark := k.dnMark + 131072 }
  | none => s

/-- Take one use of slot n; `drawn` where the use draws a GCM or GMAC nonce (R380, R387, R388, R389). -/
def State.takeUse (s : State) (n : Nat) (drawn : Bool) : Take :=
  match s.slot? n with
  | none => .exhausted s
  | some k =>
    if k.limit ≤ k.uses || (drawn && decide (2 ^ 32 ≤ k.dn)) then .exhausted (s.bump Fd.HM_CNT_EXHAUSTED_COUNT)
    else if !slotVolatile n && decide (k.useMark ≤ k.uses) then .wait (s.checkUseMark n)
    else if drawn && !slotVolatile n && decide (k.dnMark ≤ k.dn) then .wait (s.checkDrawMark n)
    else
      let k' := { k with uses := k.uses + 1, dn := if drawn then k.dn + 1 else k.dn }
      let full := decide (k'.limit ≤ k'.uses) && !k.limitSaid
      let spent := drawn && decide (2 ^ 32 ≤ k'.dn) && !k.drawnSaid
      let s := s.putSlot n { k' with limitSaid := k.limitSaid || full, drawnSaid := k.drawnSaid || spent }
      let s := if full then s.rekeyAdvised n 1 k' else s
      let s := if spent then s.rekeyAdvised n 2 k' else s
      let s := s.checkUseMark n
      .ok (if drawn then s.checkDrawMark n else s)

/-- Take one use of each of several slots: at a limit of any, or while a mark of any is waited for, none is taken (R387, R388). -/
def State.takeUses (s : State) (l : List Nat) : Take :=
  let spent := fun n => match s.slot? n with | some k => decide (k.limit ≤ k.uses) | none => true
  let waits := fun n => match s.slot? n with | some k => !slotVolatile n && decide (k.useMark ≤ k.uses) | none => false
  if l.any spent then .exhausted (s.bump Fd.HM_CNT_EXHAUSTED_COUNT)
  else match l.find? waits with
    | some n => .wait (s.checkUseMark n)
    | none => .ok (l.foldl (fun (t : State) n => match t.takeUse n false with | .ok u => u | _ => t) s)

/-- The slot whose key the Hammer requests of command c use: SLOT, or the wrapping or parent slot (05 R197). -/
def Inflight.keyUsed (c : Inflight) : Nat :=
  if c.opcode = 0x0102 || c.opcode = 0x0103 then c.p32 20 else if c.opcode = 0x0105 then c.p32 4 else c.p32 0

/-- A command that ends without its own work, once its first Hammer request has started, keeps the use it took (R387; 05 R201). -/
def State.keepUse (s : State) (c : Inflight) : State :=
  if !s.units.started.contains c.key || (s.ownSlot c.key.part c.keyUsed).isNone then s
  else match s.takeUse c.keyUsed false with
    | .ok t => t
    | .exhausted _ => s
    | .wait t => t

/-- Go on with a command once a use is taken; at a limit it completes with KEY_EXHAUSTED (R388). -/
def Take.andThen (t : Take) (f : State → Work) : Work :=
  match t with
  | .ok s => f s
  | .exhausted s => .finish s (.fail .keyExhausted)
  | .wait s => .more s

/-! ### Derivation (R486, R495) -/

/-- SP 800-108 counter mode with CMAC-AES-256 (R486): l bits, a multiple of 128. -/
def kdf (k label ctx : Bytes) (l : Nat) : Bytes :=
  (List.range (l / 128)).flatMap (fun i =>
    Config.prim .cmac [k, beBytes 4 (i + 1) ++ label ++ [0] ++ ctx ++ beBytes 4 l] 16)

/-- The bytes of an ASCII label. -/
def ascii (t : String) : Bytes := t.toList.map (fun c => BitVec.ofNat 8 c.toNat)

/-- AES-GCM seal: ciphertext by the counter keystream and the 16-byte tag (SP 800-38D). -/
def gcmSeal (key nonce aad pt : Bytes) : Bytes × Bytes :=
  let ct := xorBytes pt (Config.prim .ctr [key, nonce] pt.length)
  (ct, Config.prim .gcmTag [key, nonce, aad, ct] 16)

/-- AES-GCM open: the plaintext where the tag (its first bytes) verifies. -/
def gcmOpen (key nonce aad ct tag : Bytes) : Option Bytes :=
  if (Config.prim .gcmTag [key, nonce, aad, ct] 16).take tag.length = tag then
    some (xorBytes ct (Config.prim .ctr [key, nonce] ct.length))
  else none

/-- The unique device secret (R486): 256 bits fixed in the part. -/
def udsValue : Bytes := Config.prim .genKey [] 32

end Sys2Proof.Machine
end

