-- ==== Sys2Proof/Machine/FlowOps.lean ====
section
/-! DEFINITION. Flows: contexts, placement, failures, the Spillway's sealed records (09_traffic_protection.md R337-R375;
05_command_rings.md R162-R165). -/

namespace Sys2Proof.Machine

/-! ### The 48-byte context (R342-R344, R356, R357) -/

/-- CTL (R343). -/
def Ctx.ctl (c : Ctx) : Nat :=
  c.kind % 8 * 2 ^ 29 + c.cls % 4 * 2 ^ 27 + c.part % 64 * 2 ^ 21 + b2n c.invert * 2 ^ 20 + c.action % 4 * 2 ^ 18 +
  b2n c.report * 2 ^ 17 + b2n c.enabled * 2 ^ 16 + c.carry % 4 * 2 ^ 14 + c.egress % 16 * 2 ^ 10 + b2n c.spill * 2 ^ 9 +
  b2n c.lost * 2 ^ 8 + b2n c.stalled * 2 ^ 7

/-- The context as the store holds it (R342). -/
def Ctx.bytes (c : Ctx) : Bytes :=
  leBytes 4 c.ctl ++ leBytes 4 c.key0 ++ leBytes 4 c.key1 ++ leBytes 4 c.param ++ leBytes 8 c.fv0 ++ leBytes 8 c.fv1 ++
  leBytes 4 c.aux ++ leBytes 6 c.okCnt ++ leBytes 4 c.failCnt ++ leBytes 1 c.lastFail ++ [0]

/-- The context that 48 bytes spell (R342). -/
def Ctx.ofBytes (b : Bytes) : Ctx :=
  let w := leAt b 0 4
  { kind := bitsOf w 31 29, cls := bitsOf w 28 27, part := bitsOf w 26 21, invert := bit w 20, action := bitsOf w 19 18,
    report := bit w 17, enabled := bit w 16, carry := bitsOf w 15 14, egress := bitsOf w 13 10, spill := bit w 9,
    lost := bit w 8, stalled := bit w 7, key0 := leAt b 4 4, key1 := leAt b 8 4, param := leAt b 12 4,
    fv0 := leAt b 16 8, fv1 := leAt b 24 8, aux := leAt b 32 4, okCnt := leAt b 36 6, failCnt := leAt b 42 4,
    lastFail := leAt b 46 1 }

/-- SECOC_VERIFY or SECOC_SIGN. -/
def Ctx.isSecoc (c : Ctx) : Bool := c.kind == 1 || c.kind == 2

def Ctx.dataId (c : Ctx) : Nat := bitsOf c.param 31 16
def Ctx.macBits (c : Ctx) : Nat := bitsOf c.param 15 8
def Ctx.fvBits (c : Ctx) : Nat := bitsOf c.param 7 0
def Ctx.acceptWin (c : Ctx) : Nat := bitsOf c.fv1 31 0
def Ctx.authLen (c : Ctx) : Nat := bitsOf c.fv1 39 32

/-- The checkpoint K from its two parts (R357). -/
def Ctx.ckpt (c : Ctx) : Nat := c.key1 % 2 ^ 22 * 2 ^ 42 + c.aux * 2 ^ 10

/-- Hold checkpoint k in its two parts (R357). -/
def Ctx.setCkpt (c : Ctx) (k : Nat) : Ctx := { c with key1 := k / 2 ^ 42 % 2 ^ 22, aux := k / 2 ^ 10 % 2 ^ 32 }

/-- The multiple of 1,024 at or below a value. -/
def ckptBelow (v : Nat) : Nat := v / 1024 * 1024

/-- The greatest checkpoint (R356). -/
def ckptMax : Nat := 2 ^ 64 - 1024

/-- Length of the trailer in bytes (R347). -/
def Ctx.trailerLen (c : Ctx) : Nat := (c.fvBits + c.macBits + 7) / 8

/-- Freshness of a SecOC flow after a restart (R358), cut at 2^64 - 1 (R356). -/
def Ctx.resume (c : Ctx) : Ctx :=
  if c.kind = 2 then { c with fv0 := min (c.ckpt + 1024) (2 ^ 64 - 1) }
  else if c.kind = 1 then { c with fv0 := min (c.ckpt + 1023) (2 ^ 64 - 1) }
  else c

/-- A context after a restart: SecOC freshness from the checkpoint, MACsec SAs cleared, counters at 0 (R345, R355). -/
def Ctx.restarted (c : Ctx) : Ctx :=
  let c := if c.isSecoc then c.resume
    else { c with param := bitsOf c.param 8 6 * 64, key0 := 0xFFFFFFFF, key1 := 0xFFFFFFFF, fv0 := 0, fv1 := 0 }
  { c with okCnt := 0, failCnt := 0, lastFail := 0, stalled := false }

/-! ### Placement (R162-R164, R337, R338) -/

/-- First ring-reserve entry (R163). -/
def reserveBase : Nat := 261120

/-- Queue numbers a partition's rings hold. -/
def PartSt.queues (q : PartSt) : List Nat :=
  q.sqs.map (·.queue) ++ q.cqs.map (·.queue) ++ (match q.evr with | some r => [r.queue] | none => [])

/-- Reserve entries held as rings (R167). -/
def State.ringQueues (s : State) : List Nat := s.parts.flatMap (fun c => c.2.queues)

/-- Handles of all flows. -/
def State.flowHandles (s : State) : List Nat := s.flows.map (·.1)

/-- Handle of spill index i (R337). -/
def spillHandle (i : Nat) : Nat := 262144 + i

def isSpill (h : Nat) : Bool := decide (262144 ≤ h)

/-- The lowest free spill index (R338), if the region has one. -/
def State.freeSpill (s : State) : Option Nat :=
  firstFree ((s.flowHandles.filter isSpill).map (· - 262144) ++ s.spill.retired) 0 s.spill.usable

/-- Where FLOW_CREATE places the next flow: the table, then the lent reserve, then the Spillway (R164, R338). -/
def State.placeFlow (s : State) : Option Nat :=
  match firstFree s.flowHandles 0 reserveBase with
  | some n => some n
  | none =>
    match firstFree (s.flowHandles ++ s.ringQueues) reserveBase 1024 with
    | some n => some n
    | none => s.freeSpill.map spillHandle

/-- Flows a partition holds. -/
def State.flowsOf (s : State) (p : Nat) : Nat := (s.flows.filter (fun c => c.2.ctx.part == p)).length

/-- The flow a partition names by handle (R337). -/
def State.ownFlow (s : State) (p h : Nat) : Option Flow :=
  match mapGet s.flows h with
  | some f => if f.ctx.part = p then some f else none
  | none => none

def State.updFlow (s : State) (h : Nat) (g : Flow → Flow) : State := { s with flows := mapUpd s.flows h g }

/-- Home half of a handle: even North, odd South (R28, R371). -/
def homeHalf (h : Nat) : Half := if h % 2 = 0 then .north else .south

/-! ### Sealed records (R369-R372) -/

/-- The current version of a spill index (R370). -/
def State.spillVersion (s : State) (i : Nat) : Nat := mapRead 0 s.spill.versions i

/-- Bits [31:0] of the epoch (R369). -/
def State.epoch32 (s : State) : Nat := s.fld Fd.HW_EPOCH_LO_EPOCH

/-- Nonce of a sealed record: spill index, VERSION, EPOCH (R369). -/
def sealNonce (i v e : Nat) : Bytes := leBytes 4 i ++ leBytes 4 v ++ leBytes 4 e

/-- The 128-byte record of a context at version v (R369). -/
def State.sealRecord (s : State) (i v : Nat) (c : Ctx) : Bytes :=
  let aad := leBytes 4 (spillHandle i) ++ leBytes 4 v ++ leBytes 4 s.epoch32
  let x := gcmSeal s.spill.key (sealNonce i v s.epoch32) aad c.bytes
  aad ++ x.1 ++ x.2 ++ List.replicate 52 0

/-- Address of the copy that holds version v of index i: A where v is even (R368, R369). -/
def State.copyAddr (s : State) (i v : Nat) : Nat := s.spill.base + 256 * i + 128 * (v % 2)

/-- Open a record read from host memory: TAG, HANDLE and VERSION must hold (R370). -/
def State.openRecord (s : State) (i : Nat) (r : Bytes) : Option Ctx :=
  let v := s.spillVersion i
  let aad := slice r 0 12
  if s.spill.key.isEmpty || leAt r 0 4 ≠ spillHandle i || leAt r 4 4 ≠ v then none
  else (gcmOpen s.spill.key (sealNonce i v (leAt r 8 4)) aad (slice r 12 48) (slice r 60 16)).map Ctx.ofBytes

/-- Seal context c of index i as the next version, write it to P0's memory and commit the version (R372). -/
def State.sealNext (s : State) (i : Nat) (c : Ctx) : State :=
  let v := s.spillVersion i + 1
  ({ s with spill := { s.spill with versions := mapSet 0 s.spill.versions i v } }).emit
    (.hostWrite 0 (s.copyAddr i v) (s.sealRecord i v c))

/-- A flow as it enters the Spillway at index i: sealed and not cached, or kept cached while P0 cannot be written. -/
def State.enterSpill (s : State) (i : Nat) (f : Flow) : State :=
  let c := { f.ctx with spill := true }
  let up := s.canMaster 0
  let s := if up then s.sealNext i c else s
  let f := { f with ctx := c, spill := some { cached := !up, changed := !up, loading := false, lastUse := s.spill.clock } }
  { s with flows := mapPut s.flows (spillHandle i) f }

/-- FLOW_SPILLED (R339). -/
def State.flowSpilled (s : State) (p old new cause : Nat) : State :=
  s.post p 0x0020 p (leBytes 4 old ++ leBytes 4 new ++ leBytes 1 cause)

/-- Frames of a moved flow keep reaching it (R339). -/
def Frame.rename (old new : Nat) (f : Frame) : Frame :=
  { f with msgs := f.msgs.map (fun m => if m.flow = some old then { m with flow := some new } else m) }

/-- Move a lent flow to the Spillway for a ring (R165); none where the Spillway has no room. -/
def State.spillFlow (s : State) (q : Nat) : Option State :=
  match mapGet s.flows q, s.freeSpill with
  | some f, some i =>
    let s := { s with flows := mapDel s.flows q, frames := s.frames.map (Frame.rename q (spillHandle i)) }
    some ((s.enterSpill i f).flowSpilled f.ctx.part q (spillHandle i) 1)
  | _, _ => none

/-! ### Failures (R359-R361) -/

/-- Reasons of R359. -/
inductive FlowFail
  | macFail | freshness | noSa | keyGone | keyExhausted | pnExhausted | format | oversize | spillLost | checkpoint
  | pnThreshold
  deriving DecidableEq, Repr

def FlowFail.code : FlowFail → Nat
  | .macFail => 1 | .freshness => 2 | .noSa => 3 | .keyGone => 4 | .keyExhausted => 5 | .pnExhausted => 6 | .format => 7
  | .oversize => 8 | .spillLost => 9 | .checkpoint => 10 | .pnThreshold => 11

/-- Post FLOW_FAILURE of flow h, which starts its millisecond (R361). -/
def State.postFailure (s : State) (h lane fv : Nat) (r : FlowFail) : State :=
  match mapGet s.flows h with
  | none => s
  | some f =>
    (s.updFlow h (fun f => { f with lastEvent := some s.deviceTime, suppressed := 0 })).post f.ctx.part 0x0021 f.ctx.part
      (leBytes 4 h ++ leBytes 1 r.code ++ leBytes 1 lane ++ leBytes 2 f.suppressed ++ leBytes 8 fv)

/-- Count a failure of flow h and report it with REPORT, unless a millisecond has not passed (R360, R361). -/
def State.countFailure (s : State) (h lane fv : Nat) (r : FlowFail) : State :=
  match mapGet s.flows h with
  | none => s
  | some f =>
    let s := s.updFlow h (fun f => { f with
      ctx := { f.ctx with failCnt := satTo (2 ^ 32 - 1) (f.ctx.failCnt + 1), lastFail := r.code },
      spill := f.spill.map (fun i => { i with changed := true }) })
    let s := (s.bump (Fd.FE_FAIL_COUNT r.code)).raise 0x031000 1
    if !f.ctx.report then s
    else if (match f.lastEvent with | some t => decide (s.deviceTime < t + 1000000) | none => false) then
      s.updFlow h (fun f => { f with suppressed := satTo 65535 (f.suppressed + 1) })
    else s.postFailure h lane fv r

/-- A message of flow h was processed without failure: OK_CNT and FE_OK (R342). -/
def State.countOk (s : State) (h : Nat) : State :=
  let s := s.updFlow h (fun f => { f with
    ctx := { f.ctx with okCnt := (f.ctx.okCnt + 1) % 2 ^ 48 }, spill := f.spill.map (fun i => { i with changed := true }) })
  let lo := s.fld Fd.FE_OK_LO_OK + 1
  let s := s.setFld Fd.FE_OK_LO_OK lo
  if lo = 2 ^ 32 then s.bump Fd.FE_OK_HI_OK else s

/-! ### Checkpoints (R356) -/

/-- Ask for a checkpoint k of flow h; a later target replaces an earlier one. K never exceeds 2^64 - 1,024. -/
def State.askCkpt (s : State) (h k : Nat) : State :=
  s.updFlow h (fun f =>
    let k := min k ckptMax
    if k ≤ f.ctx.ckpt then f else { f with ckptTo := some (max k (f.ckptTo.getD 0)) })

/-- When FV0 reaches K + 512, K + 1,024 is committed as the new checkpoint. -/
def State.checkCkpt (s : State) (h : Nat) : State :=
  match mapGet s.flows h with
  | some f => if f.ctx.isSecoc && decide (f.ctx.ckpt + 512 ≤ f.ctx.fv0) then s.askCkpt h (f.ctx.ckpt + 1024) else s
  | none => s

/-- Flow h enters STALLED. -/
def State.stall (s : State) (h : Nat) : State :=
  match mapGet s.flows h with
  | some f =>
    if f.ctx.stalled then s
    else (s.updFlow h (fun f => { f with ctx := { f.ctx with stalled := true } })).raise 0x031000 2
  | none => s

/-- The waiting checkpoint of flow h is committed: K takes its target and the flow's frames go on. A Spillway flow
whose bits [63:42] change is written back with it (R357), where P0's memory can be written (04 R120); its entry stays changed
otherwise. -/
def State.commitCkpt (s : State) (h : Nat) : State :=
  match mapGet s.flows h with
  | none => s
  | some f =>
    match f.ckptTo with
    | none => s
    | some k =>
      let high := decide (k / 2 ^ 42 ≠ f.ctx.ckpt / 2 ^ 42)
      let c := { f.ctx.setCkpt k with stalled := false }
      let s := s.updFlow h (fun f => { f with ctx := c, ckptTo := none,
                                              spill := f.spill.map (fun i => { i with changed := true }) })
      if isSpill h && high && s.canMaster 0 then
        (s.sealNext (h - 262144) c).updFlow h (fun f => { f with spill := f.spill.map (fun i => { i with changed := false }) })
      else s

end Sys2Proof.Machine
end

