-- ==== Sys2Proof/Machine/Lanes.lean ====
section
/-! DEFINITION. Lanes, the ingress buffer, PAUSE, and the classifier (09_traffic_protection.md R326-R336, R743). -/

namespace Sys2Proof.Machine

/-! ### Frames as bytes (R327, R329) -/

/-- One byte of the IEEE 802.3 CRC-32. -/
def crcByte (c : BitVec 32) (b : Byte) : BitVec 32 :=
  (List.range 8).foldl (fun c _ => if c.getLsbD 0 then (c >>> 1) ^^^ 0xEDB88320#32 else c >>> 1) (c ^^^ b.setWidth 32)

/-- The FCS of a frame, as its four bytes on the wire. -/
def fcs (f : Bytes) : Bytes := leBytes 4 ((f.foldl crcByte 0xFFFFFFFF#32) ^^^ 0xFFFFFFFF#32).toNat

/-- What stands behind the addresses: first VLAN ID if tagged, EtherType, offset of what follows it. At most two tags
are stripped (R327). -/
structure L2 where
  vlan : Option Nat
  etype : Nat
  off : Nat
  deriving DecidableEq, Repr

def isTag (t : Nat) : Bool := t == 0x8100 || t == 0x88A8

def parseL2 (f : Bytes) : L2 :=
  if isTag (beAt f 12 2) then
    if isTag (beAt f 16 2) then { vlan := some (beAt f 14 2 % 4096), etype := beAt f 20 2, off := 22 }
    else { vlan := some (beAt f 14 2 % 4096), etype := beAt f 16 2, off := 18 }
  else { vlan := none, etype := beAt f 12 2, off := 14 }

/-! ### Match keys (R334, R340, R743) -/

/-- A VLAN ID of a match key admits the frame's: 0xFFFF any. -/
def vlanOk (key : Nat) (v : Option Nat) : Bool := key == 0xFFFF || v == some key

/-- The key a frame or message presents to the classifier. -/
inductive Lookup
  | macsecRx (sci : Bytes) (vlan : Option Nat)
  | macsecTx (dst : Bytes) (vlan : Option Nat) (etype : Nat)
  | acf (stream : Bytes) (bus : Nat) (id : Nat)
  | someip (ver : Nat) (port : Nat) (msg : Nat) (dst : Bytes)
  | raw (etype : Nat) (vlan : Option Nat) (pdu : Nat)
  deriving DecidableEq, Repr

/-- Flow f matches lookup l on a lane; the number says how exact its key is (R743), 0 where it does not match. -/
def Flow.score (f : Flow) (lane : Nat) (l : Lookup) : Nat :=
  let c := f.ctx
  let k := f.key
  let onLane := f.lanes == 0 || bit f.lanes lane
  let verify := if c.kind = 1 then 1 else 0
  if !(onLane && c.enabled) then 0 else
  match l with
  | .macsecRx sci v =>
    if c.kind = 3 && slice k 0 8 = sci && vlanOk (leAt k 8 2) v then (if leAt k 8 2 = 0xFFFF then 2 else 4) else 0
  | .macsecTx d v t =>
    if c.kind = 4 && slice k 0 6 = d && vlanOk (leAt k 6 2) v && (leAt k 8 2 = 0 || leAt k 8 2 = t) then
      2 + (if leAt k 6 2 = 0xFFFF then 0 else 4) + (if leAt k 8 2 = 0 then 0 else 2)
    else 0
  | .acf st b i =>
    if c.isSecoc && c.carry = 2 && slice k 0 8 = st && leAt k 8 1 = b && leAt k 12 4 = i then 2 + verify else 0
  | .someip ver port msg dst =>
    if c.isSecoc && c.carry = 1 && leAt k 0 1 = ver && leAt k 2 2 = port && leAt k 4 4 = msg && slice k 8 dst.length = dst
    then 2 + verify else 0
  | .raw t v pdu =>
    if c.isSecoc && c.carry = 0 && leAt k 0 2 = t && vlanOk (leAt k 2 2) v && leAt k 4 4 = pdu then
      (if leAt k 2 2 = 0xFFFF then 2 else 4) + verify
    else 0

/-- The one flow a lookup reaches (R743). -/
def State.lookup (s : State) (lane : Nat) (l : Lookup) : Option Nat :=
  (s.flows.foldl (fun (b : Option Nat × Nat) c =>
    let x := c.2.score lane l
    if b.2 < x then (some c.1, x) else b) (none, 0)).1

/-! ### Parses (R334, R335) -/

def Msg.of (flow : Option Nat) (hdr body raw : Bytes) : Msg :=
  { flow := flow, hdr := hdr, body := body, raw := raw, cand := 0, done := flow.isNone, dropped := false, waitSince := none }

/-- SCI of a MACsec frame: explicit, or the source address and port 1 (R334). -/
def frameSci (f : Bytes) (off : Nat) : Bytes :=
  if bit (leAt f off 1) 5 then slice f (off + 6) 8 else slice f 6 6 ++ [0, 1]

/-- ACF messages of an AVTP payload: header of 16 bytes (CAN) or 8 (CAN_BRIEF), payload without quadlet padding. -/
def acfMsgs (find : Lookup → Option Nat) (stream : Bytes) : Nat → Bytes → Option (List Msg)
  | 0, _ => none
  | n + 1, b =>
    if b.isEmpty then some []
    else
      let size := 4 * (leAt b 0 1 % 2 * 256 + leAt b 1 1)
      let type := leAt b 0 1 / 2
      let h := if type = 1 then 16 else 8
      if b.length < 4 || size < 4 || b.length < size then none
      else
        let raw := b.take size
        let rest := acfMsgs find stream n (b.drop size)
        if (type = 1 || type = 2) && h ≤ size then
          let idAt := h - 4
          let id := beAt raw idAt 4 % 2 ^ 29 + b2n (bit (leAt raw 2 1) 3) * 2 ^ 31
          let pad := leAt raw 2 1 / 64
          let flow := find (.acf stream (leAt raw 3 1 % 32) id)
          rest.map (fun t => Msg.of flow (raw.take h) ((raw.drop h).take (size - h - pad)) raw :: t)
        else rest.map (fun t => Msg.of none raw [] raw :: t)

/-- SOME/IP messages of a UDP payload, which they fill exactly. -/
def someipMsgs (find : Lookup → Option Nat) (ver port : Nat) (dst : Bytes) : Nat → Bytes → Option (List Msg)
  | 0, _ => none
  | n + 1, b =>
    if b.isEmpty then some []
    else
      let size := 8 + beAt b 4 4
      if b.length < 16 || size < 16 || b.length < size then none
      else
        let raw := b.take size
        (someipMsgs find ver port dst n (b.drop size)).map
          (fun t => Msg.of (find (.someip ver port (beAt raw 0 4) dst)) (raw.take 16) (raw.drop 16) raw :: t)

/-- RAW PDUs for as long as 8 bytes remain, with what is left (R335). -/
def rawMsgs (find : Lookup → Option Nat) (t : Nat) (v : Option Nat) : Nat → Bytes → Option (List Msg × Bytes)
  | 0, _ => none
  | n + 1, b =>
    if b.length < 8 then some ([], b)
    else
      let size := 8 + beAt b 4 4
      if b.length < size then none
      else
        let raw := b.take size
        (rawMsgs find t v n (b.drop size)).map
          (fun x => (Msg.of (find (.raw t v (beAt raw 0 4))) (raw.take 8) (raw.drop 8) raw :: x.1, x.2))

/-- A parse of a frame: kind of its step, bytes before its messages, messages, bytes after them. -/
structure Parsed where
  parse : Parse
  pre : Bytes
  msgs : List Msg
  post : Bytes
  deriving DecidableEq, Repr

/-- Step 2: AVTP NTSCF (subtype 0x82, 12-byte header) or TSCF (0x05, 24-byte header). -/
def parseAcf (find : Lookup → Option Nat) (f : Bytes) (l : L2) : Option Parsed :=
  let sub := leAt f l.off 1
  let h := if sub = 0x82 then 12 else 24
  let len := if sub = 0x82 then leAt f (l.off + 1) 1 % 8 * 256 + leAt f (l.off + 2) 1 else beAt f (l.off + 20) 2
  if l.etype ≠ 0x22F0 || (sub ≠ 0x82 && sub ≠ 0x05) || f.length < l.off + h + len then none
  else
    let b := (f.drop (l.off + h)).take len
    (acfMsgs find (slice f (l.off + 4) 8) (b.length + 1) b).map
      (fun m => { parse := .acf, pre := f.take (l.off + h), msgs := m, post := f.drop (l.off + h + len) })

/-- Step 3: IPv4, or IPv6 without extension headers, not fragmented, UDP, whole SOME/IP messages. -/
def parseSomeip (find : Lookup → Option Nat) (f : Bytes) (l : L2) : Option Parsed :=
  let o := l.off
  let v4 := l.etype == 0x0800 && leAt f o 1 / 16 == 4 && decide (20 ≤ leAt f o 1 % 16 * 4) && leAt f (o + 9) 1 == 17 &&
    beAt f (o + 6) 2 % 0x4000 == 0
  let v6 := l.etype == 0x86DD && leAt f o 1 / 16 == 6 && leAt f (o + 6) 1 == 17
  let ip := if v4 then leAt f o 1 % 16 * 4 else 40
  let ipLen := if v4 then beAt f (o + 2) 2 else 40 + beAt f (o + 4) 2
  let udp := o + ip
  let udpLen := beAt f (udp + 4) 2
  if !(v4 || v6) || f.length < o + ipLen || ipLen ≠ ip + udpLen || udpLen ≤ 8 then none
  else
    let b := (f.drop (udp + 8)).take (udpLen - 8)
    let dst := if v4 then slice f (o + 16) 4 else slice f (o + 24) 16
    (someipMsgs find (if v4 then 4 else 6) (beAt f (udp + 2) 2) dst (b.length + 1) b).map
      (fun m => { parse := .someip, pre := f.take (udp + 8), msgs := m, post := f.drop (o + ipLen) })

/-- Step 4: an EtherType some RAW flow names. -/
def parseRaw (s : State) (find : Lookup → Option Nat) (f : Bytes) (l : L2) : Option Parsed :=
  if !s.flows.any (fun c => c.2.ctx.isSecoc && c.2.ctx.carry == 0 && leAt c.2.key 0 2 == l.etype) then none
  else
    let b := f.drop l.off
    (rawMsgs find l.etype l.vlan (b.length + 1) b).map
      (fun m => { parse := .raw, pre := f.take l.off, msgs := m.1, post := m.2 })

/-- The classifier (R334): the first step whose parse matches decides. -/
def State.classify (s : State) (lane : Nat) (f : Bytes) : Parsed :=
  let l := parseL2 f
  let find := s.lookup lane
  if l.etype = 0x88E5 then
    { parse := .macsecRx, pre := [], msgs := [Msg.of (find (.macsecRx (frameSci f l.off) l.vlan)) [] f f], post := [] }
  else
    match parseAcf find f l with
    | some p => p
    | none =>
    match parseSomeip find f l with
    | some p => p
    | none =>
    match parseRaw s find f l with
    | some p => p
    | none =>
      { parse := .macsecTx, pre := [], msgs := [Msg.of (find (.macsecTx (slice f 0 6) l.vlan l.etype)) [] f f], post := [] }

/-! ### The ingress buffer and PAUSE (R330, R331) -/

def State.lane (s : State) (n : Nat) : LaneSt := s.lanes.getD n { arriving := none, pausedUntil := none, pauseSent := 0 }

def State.setLane (s : State) (n : Nat) (l : LaneSt) : State := { s with lanes := s.lanes.set n l }

/-- Bytes taken by the frames of a lane (R330). -/
def State.occupancy (s : State) (n : Nat) : Nat := ((s.frames.filter (fun f => f.lane == n)).map (·.size)).sum

/-- The greatest frame (R327). -/
def maxFrame : Nat := 9216

/-- Bytes of the guaranteed share of lane n in use or reserved. -/
def State.ownUse (s : State) (n : Nat) : Nat :=
  ((s.frames.filter (fun f => f.lane == n && !f.shared)).map (·.size)).sum +
  (if (s.lane n).arriving = some false then maxFrame else 0)

/-- Bytes of the shared part of a lane's half in use or reserved. -/
def State.sharedUse (s : State) (n : Nat) : Nat :=
  ((s.frames.filter (fun f => f.lane / 4 == n / 4 && f.shared)).map (·.size)).sum +
  maxFrame * ((List.range 8).filter (fun m => m / 4 == n / 4 && (s.lane m).arriving == some true)).length

/-- Where a frame of lane n finds room for 9,216 bytes: its own share (false), the shared part (true), or nowhere. -/
def State.roomFor (s : State) (n : Nat) : Option Bool :=
  if s.ownUse n + maxFrame ≤ 262144 then some false
  else if s.sharedUse n + maxFrame ≤ 1048576 then some true
  else none

/-! ### Lanes going down (R329; 04 R155, R159; 01 R50) -/

/-- A lane goes down; a frame arriving on it is cut (R328, R329). -/
def State.laneDown (s : State) (n : Nat) : State :=
  if s.fld (Fd.LANE_STAT_UP n) = 0 then s else
  let s := (s.setFld (Fd.LANE_STAT_UP n) 0).raise 0x030000 1
  if (s.lane n).arriving.isSome then (s.setLane n { s.lane n with arriving := none }).bump (Fd.LANE_CNTA_LEN_ERR n) else s

def State.lanesDown (s : State) : State := (List.range 8).foldl State.laneDown s

/-- Nothing is in flight on the lanes of group r: no frame arrives on one, and the buffer holds none that came from them or goes to
them. -/
def State.groupIdle (s : State) (r : Nat) : Bool :=
  (List.range 4).all (fun i => (s.lane (4 * r + i)).arriving.isNone) &&
  s.frames.all (fun f => f.lane / 4 != r && (match f.egress with | some e => e / 4 != r | none => true))

/-- The power domains a resource mask keeps off: PD10 only with both lane groups, PD11 with LANES_B (04 R155; 01 R48). -/
def gatedDomains (g : Nat) : Nat :=
  (if bit g 0 && bit g 1 then 2 ^ 10 else 0) + (if bit g 1 then 2 ^ 11 else 0)

/-- Lane groups gated by votes go down, their domains with them, once their work in flight is done; the domains of the others are on
in Flow and Eddy (04 R155, R159; 01 R50). -/
def State.settleLanes (s : State) : State :=
  if s.parked || !s.gatesOpen then s else
  let idle := listMask ((List.range 2).filter (fun r => bit s.gated r && s.groupIdle r))
  let s := s.setDomains (maskDiff (s.domains ||| (2 ^ 10 + 2 ^ 11)) (gatedDomains idle))
  ((List.range 8).filter (fun n => bit idle (n / 4))).foldl State.laneDown s

/-- The lanes carry frames: ready, supplied, and not gated (R101, R155, 02 R60, R78). -/
def State.laneUp (s : State) (n : Nat) : Bool :=
  decide (n < 8) && s.gatesOpen && !s.supply.serdesLow && s.fld (Fd.LANE_STAT_UP n) == 1

/-- Send PAUSE 0xFFFF or 0 where the occupancy crossed a threshold (R331). -/
def State.checkPause (s : State) (n : Nat) : State :=
  let occ := s.occupancy n
  if s.fld (Fd.LANE_CFG_PAUSE_TX n) = 1 && s.fld (Fd.LANE_STAT_XOFF n) = 0 &&
     decide (s.fld (Fd.LANE_CFG_XOFF_4K n) * 4096 < occ) then
    (((s.setFld (Fd.LANE_STAT_XOFF n) 1).emit (.pause n 0xFFFF)).setLane n { s.lane n with pauseSent := s.deviceTime }).raise
      0x030000 4
  else if s.fld (Fd.LANE_STAT_XOFF n) = 1 && decide (occ ≤ s.fld (Fd.LANE_CFG_XON_4K n) * 4096) then
    (s.setFld (Fd.LANE_STAT_XOFF n) 0).emit (.pause n 0)
  else s

/-- FRAME_START: a frame's first byte; it is admitted with a reservation or dropped (R330). It leaves Eddy (18 R628). -/
def execFrameStart (n : Nat) (s : State) : Host.Outcome State Fault Refusal :=
  .next <| if !s.laneUp n || (s.lane n).arriving.isSome || bit s.gated (n / 4) || !s.pageAdmits 0x030000 then s else
  let s := s.eddyExit
  match s.roomFor n with
  | some sh => s.setLane n { s.lane n with arriving := some sh }
  | none => (s.bump (Fd.LANE_CNTB_BUF_DROP n)).raise 0x030000 2

/-- A frame of flow h counts as work of its home half, at the flow's class and check policy (R30, R398). -/
def State.frameJobs (s : State) (id : Nat) (ms : List Msg) : State :=
  ms.foldl (fun t m => match m.flow with
    | some h => (match mapGet t.flows h with
      | some f => t.newJob (.frame id) .hammer (homeHalf h) f.ctx.part f.ctx.cls (!f.ctx.invert)
          (if f.ctx.isSecoc then 0x10 else 0x01) f.ctx.key0 m.raw.length
      | none => t)
    | none => t) s

/-- An admitted frame joins the buffer with its messages, of which an unclassified one has none; its messages are work, and the
occupancy may call for PAUSE (R331, R334). -/
def State.addFrame (s : State) (n : Nat) (sh : Bool) (data : Bytes) (unknown : Bool) (p : Parsed) : State :=
  let fr : Frame := {
    id := s.nextFrame, lane := n, size := data.length, shared := sh, orig := data.take (data.length - 4),
    parse := if unknown then .none else p.parse, pre := p.pre, msgs := if unknown then [] else p.msgs,
    post := p.post, divert := false, changed := false, unknown := unknown, egress := none, since := s.deviceTime }
  let s := { s with frames := s.frames ++ [fr], nextFrame := s.nextFrame + 1 }
  (s.frameJobs fr.id fr.msgs).checkPause n

/-- FRAME_RECEIVE: the whole frame with its FCS has come, or block lock was lost during it (R329); it is classified
(R334, R743). -/
def execFrameReceive (n : Nat) (data : Bytes) (cut : Bool) (s : State) : Host.Outcome State Fault Refusal :=
  .next <| match (s.lane n).arriving with
  | none => s
  | some sh =>
    let s := s.setLane n { s.lane n with arriving := none }
    let body := data.take (data.length - 4)
    State.settleLanes <|
    if cut || data.length < 64 || maxFrame < data.length then s.bump (Fd.LANE_CNTA_LEN_ERR n)
    else if fcs body ≠ data.drop (data.length - 4) then s.bump (Fd.LANE_CNTA_FCS_ERR n)
    else
      let p := s.classify n body
      let unknown := p.msgs.all (fun m => m.flow.isNone)
      let s := if unknown then s.bump (Fd.LANE_CNTB_UNCLASSIFIED n) else s
      if unknown && s.fld (Fd.LANE_CFG_UNKNOWN n) == 1 then s else s.addFrame n sh data unknown p

/-- PAUSE_REPEAT: every 3.3 ms while the occupancy stays above XON (R331). -/
def execPauseRepeat (n : Nat) (s : State) : Host.Outcome State Fault Refusal :=
  .next <| if s.fld (Fd.LANE_STAT_XOFF n) = 1 && decide ((s.lane n).pauseSent + 3300000 ≤ s.deviceTime) &&
      decide (s.fld (Fd.LANE_CFG_XON_4K n) * 4096 < s.occupancy n) then
    (s.emit (.pause n 0xFFFF)).setLane n { s.lane n with pauseSent := s.deviceTime }
  else s

/-- PAUSE_RECEIVE: with PAUSE_RX the transmitter stops for quanta x 512 bit times, 51.2 ns each (R327, R331). -/
def execPauseReceive (n quanta : Nat) (s : State) : Host.Outcome State Fault Refusal :=
  .next <| if !s.laneUp n || s.fld (Fd.LANE_CFG_PAUSE_RX n) = 0 then s
  else if quanta = 0 then
    (s.setFld (Fd.LANE_STAT_PAUSED n) 0).setLane n { s.lane n with pausedUntil := none }
  else
    (s.setFld (Fd.LANE_STAT_PAUSED n) 1).setLane n
      { s.lane n with pausedUntil := some (s.deviceTime + quanta % 65536 * 512 / 10) }

/-- PAUSE_TIMER_EXPIRY: the pause time runs out (R327). -/
def execPauseTimerExpiry (n : Nat) (s : State) : Host.Outcome State Fault Refusal :=
  .next <| match (s.lane n).pausedUntil with
  | some t =>
    if t ≤ s.deviceTime then
      (s.setFld (Fd.LANE_STAT_PAUSED n) 0).setLane n { s.lane n with pausedUntil := none }
    else s
  | none => s

/-- Lane n may come up at all: enabled, ready, supplied, its resource not gated, its reference present. -/
def State.laneFree (s : State) (n : Nat) : Bool :=
  decide (n < 8) && s.fld (Fd.LANE_CFG_EN n) == 1 && s.gatesOpen && !s.supply.serdesLow && !s.supply.lostLane &&
  !bit s.gated (n / 4) && !s.parked

/-- LANE_LINK_CHANGE: block lock and link come or go, or the partner advertises another rate (R328, R329). -/
def execLaneLinkChange (n : Nat) (up mismatch : Bool) (s : State) : Host.Outcome State Fault Refusal :=
  .next <| if 8 ≤ n then s else
  let mm := mismatch && s.fld Fd.STRAP_STAT_USX_SEL == 1
  let now := up && s.laneFree n && !mm
  let was := s.fld (Fd.LANE_STAT_UP n) == 1
  let s := s.setFld (Fd.LANE_STAT_MISMATCH n) (b2n mm)
  if now = was then s else
  let s := (s.setFld (Fd.LANE_STAT_UP n) (b2n now)).raise 0x030000 1
  if !now && (s.lane n).arriving.isSome then
    (s.setLane n { s.lane n with arriving := none }).bump (Fd.LANE_CNTA_LEN_ERR n)
  else s

end Sys2Proof.Machine
end

