-- ==== Sys2Proof/Machine/Traffic.lean ====
section
/-! DEFINITION. Processing of frames by their flows: SecOC, MACsec, checkpoints, the Spillway's cold misses, and the way
out (09_traffic_protection.md R332, R333, R346-R374). -/

namespace Sys2Proof.Machine

/-! ### Rebuilding a frame (R348) -/

/-- Big-endian v in the n bytes at offset o. -/
def putBE (b : Bytes) (o n v : Nat) : Bytes := b.take o ++ beBytes n v ++ b.drop (o + n)

/-- One's complement sum of 16-bit words. -/
def onesSum : Bytes → Nat → Nat
  | [], a => a
  | [x], a => let t := a + x.toNat * 256; t % 65536 + t / 65536
  | x :: y :: r, a => let t := a + x.toNat * 256 + y.toNat; onesSum r (t % 65536 + t / 65536)

def inetSum (b : Bytes) : Nat := 65535 - onesSum b 0

/-- Lengths and checksums of an IP datagram that carries n bytes of SOME/IP: UDP length, IP length, IPv4 header
checksum, a non-zero IPv4 UDP checksum, the IPv6 UDP checksum always. -/
def fixIp (pre : Bytes) (data : Bytes) : Bytes :=
  let o := (parseL2 pre).off
  let v4 := (parseL2 pre).etype == 0x0800
  let ip := if v4 then leAt pre o 1 % 16 * 4 else 40
  let udp := o + ip
  let ul := 8 + data.length
  let p := putBE pre (udp + 4) 2 ul
  let p := if v4 then putBE p (o + 2) 2 (ip + ul) else putBE p (o + 4) 2 ul
  let p := if v4 then
      let q := putBE p (o + 10) 2 0
      putBE q (o + 10) 2 (inetSum (slice q o ip))
    else p
  if v4 && beAt p (udp + 6) 2 = 0 then p
  else
    let z := putBE p (udp + 6) 2 0
    let addrs := if v4 then slice z (o + 12) 8 else slice z (o + 8) 32
    let c := inetSum (addrs ++ beBytes 2 17 ++ beBytes 2 ul ++ slice z udp 8 ++ data)
    putBE z (udp + 6) 2 (if c = 0 then 65535 else c)

/-- The AVTP data length after its messages changed. -/
def fixAvtp (pre : Bytes) (n : Nat) : Bytes :=
  let o := (parseL2 pre).off
  if leAt pre o 1 = 0x82 then putBE pre (o + 1) 2 (beAt pre (o + 1) 2 / 2048 * 2048 + n) else putBE pre (o + 20) 2 n

/-- The bytes of a frame as it leaves, without FCS. -/
def Frame.build (f : Frame) : Bytes :=
  if f.divert || !f.changed then f.orig
  else
    let data := (f.msgs.filter (fun m => !m.dropped)).flatMap (·.raw)
    match f.parse with
    | .someip => fixIp f.pre data ++ data ++ f.post
    | .acf => fixAvtp f.pre data.length ++ data ++ f.post
    | _ => f.pre ++ data ++ f.post

/-- A RAW, SOME/IP or ACF message with a new payload: every length that encloses it in its own header. -/
def rebuildMsg (carry : Nat) (hdr body : Bytes) : Bytes :=
  match carry with
  | 0 => hdr.take 4 ++ beBytes 4 body.length ++ body
  | 1 => hdr.take 4 ++ beBytes 4 (8 + body.length) ++ hdr.drop 8 ++ body
  | _ =>
    let pad := (4 - (hdr.length + body.length) % 4) % 4
    let quads := (hdr.length + body.length + pad) / 4
    beBytes 2 (beAt hdr 0 2 / 512 * 512 + quads) ++ leBytes 1 (pad * 64 + leAt hdr 2 1 % 64) ++ hdr.drop 3 ++ body ++
      List.replicate pad 0

/-- The next CAN FD length (R348); none above 64. -/
def canFdLen (n : Nat) : Option Nat := [0, 1, 2, 3, 4, 5, 6, 7, 8, 12, 16, 20, 24, 32, 48, 64].find? (fun l => decide (n ≤ l))

/-! ### Cold misses and the caches (R371, R372) -/

/-- Own contexts cached in a half. -/
def State.cachedIn (s : State) (h : Half) : List (Nat × Flow) :=
  s.flows.filter (fun c => homeHalf c.1 = h && (match c.2.spill with | some i => i.cached | none => false))

/-- A frame in flight uses flow h. -/
def State.inFlight (s : State) (h : Nat) : Bool :=
  s.frames.any (fun f => f.msgs.any (fun m => m.flow == some h && !m.done))

/-- Move a flow whose version is spent to the lowest free spill index and retire the old one (R374). -/
def State.retireIndex (s : State) (h : Nat) (f : Flow) : State :=
  match s.freeSpill with
  | none => s
  | some j =>
    let s := { s with
      flows := mapDel s.flows h, frames := s.frames.map (Frame.rename h (spillHandle j)),
      spill := { s.spill with retired := (h - 262144) :: s.spill.retired } }
    (((s.enterSpill j f).bump Fd.SPILL_CNT1_COUNT).raise 0x021000 4).flowSpilled f.ctx.part h (spillHandle j) 2

/-- A changed context is sealed as version v + 1 and committed, and its entry freed; a spent version moves the flow (R372, R374). -/
def State.writeBack (s : State) (h : Nat) (f : Flow) (i : SpillInfo) : State :=
  if 0xFFFFFFFF ≤ s.spillVersion (h - 262144) then s.retireIndex h f
  else
    ((s.sealNext (h - 262144) f.ctx).bump Fd.SPILL_CNT1_COUNT).updFlow h
      (fun f => { f with spill := some { i with cached := false, changed := false } })

/-- A changed context can be written back now: no frame in flight, P0's memory can be written, and a commit runs (R372). -/
def State.canWriteBack (s : State) (h : Nat) : Bool := !s.inFlight h && s.canMaster 0 && s.canCommit

/-- Place of a flow's last use. -/
def Flow.age (f : Flow) : Nat := match f.spill with | some i => i.lastUse | none => 0

/-- The entry of half h to reuse: the least recently used one with no frame in flight (R371). -/
def State.oldestIdle (s : State) (h : Half) : Option (Nat × Flow) :=
  ((s.cachedIn h).filter (fun x => !s.inFlight x.1)).foldl (fun (b : Option (Nat × Flow)) x => match b with
    | some y => if x.2.age < y.2.age then some x else b
    | none => some x) none

/-- Room for one more own context in the cache of a half: free, or the chosen entry is freed, written back first if it has changed;
none while that cannot be done (R371, R372). -/
def State.cacheRoom (s : State) (h : Half) : Option State :=
  if (s.cachedIn h).length < 2048 then some s
  else match s.oldestIdle h with
  | none => none
  | some (n, f) =>
    match f.spill with
    | none => none
    | some i =>
      if !i.changed then some (s.updFlow n (fun f => { f with spill := some { i with cached := false } }))
      else if s.canWriteBack n then some (s.writeBack n f i) else none

/-- A frame of an uncached flow: a cold miss begins, its read goes out for P0 (R119, R371). -/
def State.coldMiss (s : State) (h : Nat) (i : SpillInfo) : State :=
  if i.loading || !s.canMaster 0 then s
  else match s.cacheRoom (homeHalf h) with
  | none => s
  | some s => ((s.emit (.hostRead 0 (s.copyAddr (h - 262144) (s.spillVersion (h - 262144))) 128)).bump Fd.SPILL_CNT0_COUNT).updFlow h (fun f => { f with spill := f.spill.map (fun i => { i with loading := true }) })

/-! ### One message of a frame (R333, R335, R360) -/

/-- How the processing of a message ends: passed with its new bytes and the freshness value or PN it used, failed, waiting for a checkpoint with a verified
value, or not begun. -/
inductive MsgEnd
  | ok (s : State) (raw : Bytes) (fv : Nat)
  | fail (s : State) (r : FlowFail) (fv : Nat)
  | wait (s : State) (cand : Nat)
  | hold (s : State)

def State.frame? (s : State) (id : Nat) : Option Frame := s.frames.find? (fun f => f.id == id)

def State.updFrame (s : State) (id : Nat) (g : Frame → Frame) : State :=
  { s with frames := s.frames.map (fun f => if f.id = id then g f else f) }

/-- Take a frame out of the buffer; its notes are freed (17 R617). -/
def State.endFrame (s : State) (f : Frame) : State :=
  ((State.dropJobs { s with
    frames := s.frames.filter (fun g => !(g.id == f.id)),
    halves := { s.halves with notes := s.halves.notes.filter (fun n => !(n.frame == f.id)) } } (.frame f.id)).checkPause f.lane).settleLanes

/-- With the replica of a flow context the home half writes a note of the frame, its outcome and the freshness value or PN used; in
solo duty there is no replica (17 R608, R617). -/
def State.noteFrame (s : State) (id outcome fv : Nat) : State :=
  if s.halfUp .north && s.halfUp .south then
    { s with halves := { s.halves with notes := s.halves.notes ++ [{ frame := id, outcome := outcome, fv := fv }] } }
  else s

/-- The message of frame id to process next: its first one not done, of a flow no earlier frame still has to meet. -/
def State.turn (s : State) (id : Nat) : Option (Frame × Nat × Msg × Nat × Flow) :=
  match s.frame? id with
  | none => none
  | some f =>
    (List.range f.msgs.length).findSome? (fun i =>
      match f.msgs[i]? with
      | some m =>
        if m.done then none else
        match m.flow with
        | some h =>
          if s.frames.any (fun g => decide (g.id < id) && g.msgs.any (fun o => o.flow == some h && !o.done)) then none
          else (mapGet s.flows h).map (fun fl => (f, i, m, h, fl))
        | none => none
      | none => none)

/-! ### The turns of the ingress buffer (04 R149-R151) -/

/-- A frame whose message could be served now, with the partition and class of its flow and the half that serves it: it neither waits
for a checkpoint nor for a record, and its class is admitted. -/
def State.laneOffer (s : State) (id : Nat) : Option (Nat × Nat × Half) :=
  match s.turn id with
  | none => none
  | some (_, _, m, h, fl) =>
    if m.waitSince.isSome || (match fl.spill with | some x => x.loading | none => false) ||
       s.units.waiting.any (fun j => j.owner == .frame id && s.jobHeld j) then none
    else some (fl.ctx.part, fl.ctx.cls, s.serving (homeHalf h))

/-- What the buffer offers. -/
def State.laneOffers (s : State) : List (Nat × Nat × Half) := s.frames.filterMap (fun f => s.laneOffer f.id)

/-- The place of a partition's turns in a half. -/
def turnKey (p : Nat) (h : Half) : Nat := 2 * p + halfNum h

/-- Partition p has had as many turns of the round as its LANE_SHARE. -/
def State.laneDone (s : State) (p : Nat) (h : Half) : Bool :=
  decide ((match s.part? p with | some q => q.cfg.laneShare | none => 1) ≤ mapRead 0 s.units.laneTurns (turnKey p h))

/-- Every partition of a class with frames for half h has had its turns. -/
def State.laneRound (s : State) (cls : Nat) (h : Half) : Bool :=
  s.laneOffers.all (fun o => o.2.1 != cls || o.2.2 != h || s.laneDone o.1 h)

/-- The flow engine may take the frame id now: no frame of a higher class waits for the half, and its partition has turns left, or a
round begins (04 R150, R151). A frame that is not on offer waits for something of its own. -/
def State.laneMay (s : State) (id : Nat) : Bool :=
  match s.laneOffer id with
  | none => true
  | some (p, cls, h) =>
    !s.laneOffers.any (fun o => o.2.2 == h && decide (o.2.1 < cls)) && (!s.laneDone p h || s.laneRound cls h)

/-- The partition of frame id has had one more turn. -/
def State.laneTake (s : State) (id : Nat) : State :=
  match s.laneOffer id with
  | none => s
  | some (p, cls, h) =>
    let l := if s.laneRound cls h then
        s.units.laneTurns.filter (fun x => !s.laneOffers.any (fun o => o.2.1 == cls && o.2.2 == h && turnKey o.1 h == x.1))
      else s.units.laneTurns
    { s with units := { s.units with laneTurns := mapSet 0 l (turnKey p h) (mapRead 0 l (turnKey p h) + 1) } }

/-- Egress lane of a flow's frame (R332). -/
def egressOf (c : Ctx) (lane : Nat) : Nat := if c.egress = 15 then lane else c.egress

/-- A message is done, an item of the epoch that runs (01 R33); a frame with nothing left of it is dropped (R335). -/
def State.doneMsg (s : State) (f : Frame) (i : Nat) (c : Ctx) (m : Msg) (changed divert : Bool) : State :=
  let f' := { f with
    msgs := f.msgs.set i { m with done := true, waitSince := none }, changed := f.changed || changed,
    epoch := s.halves.epoch, divert := f.divert || divert, egress := f.egress <|> some (egressOf c f.lane) }
  let s := s.updFrame f.id (fun _ => f')
  if f'.msgs.all (fun m => m.done && m.dropped) && !f'.divert then s.endFrame f' else s

/-- Apply a flow's ACTION to a failed message (R360): 0 DROP, 1 DIVERT, 2 PASS. -/
def State.failMsg (s : State) (f : Frame) (i h : Nat) (c : Ctx) (m : Msg) (r : FlowFail) (fv : Nat) : State :=
  ((s.countFailure h f.lane fv r).noteFrame f.id r.code fv).doneMsg f i c { m with dropped := c.action == 0 } (c.action == 0) (c.action == 1)

/-- The spill cache's clock moves on, and flow h is the entry used last (R371). -/
def State.touchFlow (s : State) (h : Nat) : State :=
  State.updFlow { s with spill := { s.spill with clock := s.spill.clock + 1 } } h (fun g => { g with
    spill := g.spill.map (fun x => { x with lastUse := s.spill.clock + 1 }) })

/-- A message passes with its new bytes (R335, R342). -/
def State.passMsg (s : State) (f : Frame) (i h : Nat) (c : Ctx) (m : Msg) (raw : Bytes) (fv : Nat) : State :=
  ((s.countOk h).noteFrame f.id 0 fv).doneMsg f i c { m with raw := raw } (raw != m.raw) false

/-- Process the message whose turn it is in frame id, if its flow is of this kind. -/
def State.process (s : State) (id kind : Nat) (body : State → Nat → Flow → Frame → Msg → MsgEnd) : State :=
  match s.turn id with
  | none => s
  | some (f, i, m, h, fl) =>
    if fl.ctx.kind ≠ kind || !s.gatesOpen || s.units.waiting.any (fun j => j.owner == .frame id && s.jobHeld j) || !s.laneMay id then s else
    let s := s.laneTake id
    let miss := match fl.spill with | some x => !x.cached && !fl.ctx.lost | none => false
    if miss then (match fl.spill with | some x => s.coldMiss h x | none => s) else
    let s := s.touchFlow h
    match (if fl.ctx.lost then MsgEnd.fail s .spillLost 0 else body s h fl f m) with
    | .ok t raw fv => t.passMsg f i h fl.ctx m raw fv
    | .fail t r fv => t.failMsg f i h fl.ctx m r fv
    | .wait t cand =>
      (t.stall h).updFrame id (fun g => { g with
        msgs := g.msgs.set i { m with cand := cand, waitSince := m.waitSince <|> some s.deviceTime } })
    | .hold t => t

/-! ### Keys of a flow (R354, R359, R363) -/

/-- The slot serves the flow now: held by its partition, of a type that fits, with TRAFFIC, its binding kept. -/
def State.trafficKey (s : State) (p slot : Nat) (fit : Nat → Bool) : Option KeySlot :=
  match s.ownSlot p slot with
  | some k => if fit k.ktype && bit k.attr atTraffic && s.bindOk slot k then some k else none
  | none => none

/-- Take the use of a message and go on with the key; KEY_GONE and KEY_EXHAUSTED otherwise (R363). -/
def State.withKey (s : State) (p slot fv : Nat) (fit : Nat → Bool) (f : State → KeySlot → MsgEnd) : MsgEnd :=
  match s.trafficKey p slot fit with
  | none => .fail s .keyGone fv
  | some k =>
    match s.takeUse slot false with
    | .ok t => f t k
    | .exhausted t => .fail t .keyExhausted fv
    | .wait t => .hold t

/-! ### SecOC (R346-R349) -/

/-- The truncated MAC as a number (R347). -/
def secocMac (c : Ctx) (key pdu : Bytes) (fv : Nat) : Nat :=
  beNat (Config.prim .cmac [key, beBytes 2 c.dataId ++ pdu ++ beBytes 8 fv] 16) / 2 ^ (128 - c.macBits)

/-- The trailer: low FV_BITS of the freshness value, the MAC, zero padding (R347). -/
def secocTrailer (c : Ctx) (fv mac : Nat) : Bytes :=
  let pad := 8 * c.trailerLen - c.fvBits - c.macBits
  beBytes c.trailerLen ((fv % 2 ^ c.fvBits * 2 ^ c.macBits + mac) * 2 ^ pad)

/-- The candidate freshness value, formed without wrapping (R349). -/
def candidate (w last t : Nat) : Nat :=
  if w = 64 then t
  else if w = 0 then last + 1
  else if last % 2 ^ w < t then last / 2 ^ w * 2 ^ w + t
  else (last / 2 ^ w + 1) * 2 ^ w + t

/-- A verified value is accepted: FV0 takes it (R349), unless it must wait for its checkpoint (R356). -/
def acceptFresh (s : State) (h cand : Nat) (raw : Bytes) : MsgEnd :=
  match mapGet s.flows h with
  | none => .hold s
  | some f =>
    if f.ctx.ckpt + 1024 ≤ cand then .wait (s.askCkpt h (ckptBelow cand)) cand
    else .ok ((s.updFlow h (fun f => { f with ctx := { f.ctx with fv0 := cand } })).checkCkpt h) raw cand

/-- R349 on one message. -/
def verifyMsg (s : State) (h : Nat) (fl : Flow) (_f : Frame) (m : Msg) : MsgEnd :=
  let c := fl.ctx
  if m.waitSince.isSome then acceptFresh s h m.cand m.raw else
  let n := c.trailerLen
  let cut := if c.carry = 2 && c.authLen ≠ 0 then c.authLen else m.body.length - n
  let v := beNat (slice m.body cut n)
  let pad := 8 * n - c.fvBits - c.macBits
  if m.body.length < cut + n || v % 2 ^ pad ≠ 0 then .fail s .format 0
  else
    let t := v / 2 ^ pad / 2 ^ c.macBits
    let rx := v / 2 ^ pad % 2 ^ c.macBits
    let last := c.fv0
    let cand := candidate c.fvBits last t
    if 2 ^ 64 ≤ cand then .fail s .freshness 0
    else if cand ≤ last || (c.acceptWin ≠ 0 && c.acceptWin < cand - last) then .fail s .freshness cand
    else s.withKey c.part c.key0 cand (· == 1) (fun s k =>
      if secocMac c k.aesKey (m.body.take cut) cand ≠ rx then .fail s .macFail cand
      else acceptFresh s h cand m.raw)

/-- SECOC_VERIFY (R349, R356, R360, R363). -/
def execSecocVerify (id : Nat) (s : State) : Host.Outcome State Fault Refusal := .next (s.process id 1 verifyMsg)

/-- R348 on one message. -/
def signMsg (s : State) (h : Nat) (fl : Flow) (f : Frame) (m : Msg) : MsgEnd :=
  let c := fl.ctx
  let len := m.body.length + c.trailerLen
  let out := fun (tr : Bytes) =>
    let b := m.body ++ tr
    rebuildMsg c.carry m.hdr (if c.carry = 2 then padTo ((canFdLen b.length).getD b.length) b else b)
  let room := (f.build.length + 4 + (out (List.replicate c.trailerLen 0)).length) - m.raw.length
  if (c.carry = 2 && (canFdLen len).isNone) || maxFrame < room then .fail s .oversize c.fv0
  else if 2 ^ 64 - 1 ≤ c.fv0 then .fail s .freshness c.fv0
  else if c.ckpt + 1024 ≤ c.fv0 then .wait (s.askCkpt h (ckptBelow c.fv0)) c.fv0
  else s.withKey c.part c.key0 c.fv0 (· == 1) (fun s k =>
    .ok ((s.updFlow h (fun g => { g with ctx := { g.ctx with fv0 := c.fv0 + 1 } })).checkCkpt h)
      (out (secocTrailer c c.fv0 (secocMac c k.aesKey m.body c.fv0))) c.fv0)

/-- SECOC_SIGN (R347, R348, R356, R360, R363). -/
def execSecocSign (id : Nat) (s : State) : Host.Outcome State Fault Refusal := .next (s.process id 2 signMsg)

/-! ### MACsec (R350-R353) -/

def Ctx.xpn (c : Ctx) : Bool := bit c.param 6
def Ctx.conf (c : Ctx) : Bool := bit c.param 7
def Ctx.sciExplicit (c : Ctx) : Bool := bit c.param 8
def Ctx.txSa (c : Ctx) : Nat := bitsOf c.param 9 9
def Ctx.an (c : Ctx) (i : Nat) : Nat := bitsOf c.param (2 * i + 1) (2 * i)
def Ctx.saValid (c : Ctx) (i : Nat) : Bool := bit c.param (4 + i)
def Ctx.saKey (c : Ctx) (i : Nat) : Nat := if i = 0 then c.key0 else c.key1
def Ctx.saFv (c : Ctx) (i : Nat) : Nat := if i = 0 then c.fv0 else c.fv1
def Ctx.setSaFv (c : Ctx) (i v : Nat) : Ctx := if i = 0 then { c with fv0 := v } else { c with fv1 := v }

/-- Key types a suite uses (R350). -/
def Ctx.suiteFits (c : Ctx) (t : Nat) : Bool := if c.xpn then isXpn t else isAes t

/-- The 96-bit IV: SCI and PN, or for an XPN suite SSCI and 64-bit PN combined with the salt (IEEE 802.1AE). -/
def macsecIv (c : Ctx) (k : KeySlot) (sci : Bytes) (pn : Nat) : Bytes :=
  if c.xpn then
    let n := k.aesKey.length
    xorBytes (slice k.material (n + 12) 4 ++ beBytes 8 pn) (slice k.material n 12)
  else sci ++ beBytes 4 pn

/-- The PN at which the threshold is said (R353). -/
def Ctx.pnThreshold (c : Ctx) : Nat := if c.xpn then 2 ^ 62 else 0xC0000000

/-- The last PN of an SA (R353). -/
def Ctx.pnLast (c : Ctx) : Nat := if c.xpn then 2 ^ 64 - 1 else 0xFFFFFFFF

/-- Move the FV of SA i to v; crossing the threshold is said once (R353). -/
def State.movePn (s : State) (h lane i v : Nat) : State :=
  match mapGet s.flows h with
  | none => s
  | some f =>
    let s := s.updFlow h (fun f => { f with ctx := f.ctx.setSaFv i v })
    if f.ctx.saFv i < f.ctx.pnThreshold && f.ctx.pnThreshold ≤ v then s.postFailure h lane v .pnThreshold else s

/-- A parsed SecTAG (IEEE 802.1AE): header length, AN, E, SC, SL, PN, SCI. -/
structure SecTag where
  len : Nat
  an : Nat
  e : Bool
  sl : Nat
  pn : Nat
  sci : Bytes
  deriving DecidableEq, Repr

/-- The SecTAG at offset off (behind its EtherType); none where it is malformed. -/
def parseSecTag (f : Bytes) (off : Nat) (xpn : Bool) : Option SecTag :=
  let tci := leAt f off 1
  let sc := bit tci 5
  let sl := leAt f (off + 1) 1
  let len := if sc then 14 else 6
  let pn := beAt f (off + 2) 4
  if bit tci 7 || (sc && (bit tci 6 || bit tci 4)) || bit tci 3 != bit tci 2 || 48 ≤ sl || (pn = 0 && !xpn) ||
     f.length < off + len + 16 then none
  else some { len := len, an := tci % 4, e := bit tci 3, sl := sl, pn := pn, sci := frameSci f off }

/-- The full PN for an XPN suite: the received low bits with the upper bits of the lowest acceptable PN, one more where
the low half has wrapped (IEEE 802.1AE). -/
def recoverPn (lowest pn : Nat) : Nat :=
  let hi := lowest / 2 ^ 32
  (if bit lowest 31 && !bit pn 31 then hi + 1 else hi) * 2 ^ 32 + pn

/-- R351 on one frame. -/
def macsecRxMsg (s : State) (h : Nat) (fl : Flow) (f : Frame) (m : Msg) : MsgEnd :=
  let c := fl.ctx
  let d := m.raw
  let off := (parseL2 d).off
  match parseSecTag d off c.xpn with
  | none => .fail s .format 0
  | some t =>
    let start := off + t.len
    let n := if t.sl = 0 then d.length - start - 16 else t.sl
    if d.length < start + n + 16 then .fail s .format 0
    else match (List.range 2).find? (fun i => c.saValid i && c.an i == t.an) with
    | none => .fail s .noSa 0
    | some i =>
      let lowest := c.saFv i - c.aux
      let pn := if c.xpn then recoverPn lowest t.pn else t.pn
      if pn < lowest then .fail s .freshness pn
      else s.withKey c.part (c.saKey i) pn c.suiteFits (fun s k =>
        let iv := macsecIv c k t.sci pn
        let head := d.take start
        let body := slice d start n
        let icv := slice d (start + n) 16
        let plain := if t.e then gcmOpen k.aesKey iv head body icv
          else (gcmOpen k.aesKey iv (head ++ body) [] icv).map (fun _ => body)
        match plain with
        | none => .fail s .macFail pn
        | some p => .ok (s.movePn h f.lane i (max (c.saFv i) (pn + 1))) (d.take (off - 2) ++ p) pn)

/-- MACSEC_RX (R351, R353, R360, R363). -/
def execMacsecRx (id : Nat) (s : State) : Host.Outcome State Fault Refusal := .next (s.process id 3 macsecRxMsg)

/-- R352 on one frame. -/
def macsecTxMsg (s : State) (h : Nat) (fl : Flow) (f : Frame) (m : Msg) : MsgEnd :=
  let c := fl.ctx
  let d := m.raw
  let i := c.txSa
  let tag := if c.sciExplicit then 16 else 8
  if !c.saValid i then .fail s .noSa 0
  else if c.pnLast ≤ c.saFv i then .fail s .pnExhausted (c.saFv i)
  else if maxFrame < d.length + 4 + 16 + tag then .fail s .oversize (c.saFv i)
  else s.withKey c.part (c.saKey i) (c.saFv i) c.suiteFits (fun s k =>
    let pn := c.saFv i
    let sci := if c.sciExplicit then slice fl.key 16 8 else slice d 6 6 ++ [0, 1]
    let body := d.drop 12
    let tci := b2n c.sciExplicit * 32 + b2n c.conf * 12 + c.an i
    let sec := [0x88, 0xE5] ++ leBytes 1 tci ++ leBytes 1 (if body.length < 48 then body.length else 0) ++
      beBytes 4 (pn % 2 ^ 32) ++ (if c.sciExplicit then sci else [])
    let head := d.take 12 ++ sec
    let iv := macsecIv c k sci pn
    let x := if c.conf then gcmSeal k.aesKey iv head body
      else (body, (gcmSeal k.aesKey iv (head ++ body) []).2)
    .ok (s.movePn h f.lane i (pn + 1)) (head ++ x.1 ++ x.2) pn)

/-- MACSEC_TX (R352, R353, R360, R363). -/
def execMacsecTx (id : Nat) (s : State) : Host.Outcome State Fault Refusal := .next (s.process id 4 macsecTxMsg)

/-! ### Leaving (R326, R329, R332, R333) -/

/-- No earlier frame shares a flow with f. -/
def State.inOrder (s : State) (f : Frame) : Bool :=
  !s.frames.any (fun g => decide (g.id < f.id) && g.msgs.any (fun m => m.flow.isSome && f.msgs.any (fun o => o.flow == m.flow)))

/-- The lane a frame leaves on. -/
def State.outLane (s : State) (f : Frame) : Nat :=
  if f.divert then s.fld (Fd.LANE_CFG_DIVERT f.lane) else (f.egress.getD f.lane)

/-- The longest latency of a forwarded frame is kept (22 R741). -/
def State.noteLatency (s : State) (f : Frame) : State :=
  s.setFld Fd.TM_LAT_MAX_NS (max (s.fld Fd.TM_LAT_MAX_NS) (min (2 ^ 32 - 1) (s.deviceTime - f.since)))

/-- A frame made by a half that was fenced is discarded at its gate and made again (01 R33; 17 R601, R618): with a note of each of its
messages it keeps their outcomes, and otherwise the survivor processes it from its own copy of the contexts. -/
def State.remakeFrame (s : State) (f : Frame) : State :=
  let s := s.discardItem
  let known := (f.msgs.filter (fun m => m.flow.isSome)).length
  if known ≤ (s.halves.notes.filter (fun n => n.frame == f.id)).length then
    s.updFrame f.id (fun g => { g with epoch := s.halves.epoch })
  else
    let p := s.classify f.lane f.orig
    let g : Frame := { f with
      parse := p.parse, pre := p.pre, msgs := p.msgs, post := p.post, divert := false, changed := false, egress := none,
      epoch := s.halves.epoch }
    let s := State.updFrame { s with halves := { s.halves with notes := s.halves.notes.filter (fun n => !(n.frame == f.id)) } } f.id
      (fun _ => g)
    s.frameJobs f.id p.msgs

/-- FRAME_TRANSMIT: a finished frame leaves on its egress lane with a new FCS, padded to the least length, or is lost
with a lane that is down; a paused transmitter keeps it (R326, R327, R329, R332, R333). The gate passes those of the current epoch
alone (01 R33). -/
def execFrameTransmit (id : Nat) (s : State) : Host.Outcome State Fault Refusal :=
  .next <| match s.frame? id with
  | none => s
  | some f =>
    let n := s.outLane f
    if !f.msgs.all (·.done) || !s.inOrder f || !s.gatesOpen || s.fld (Fd.LANE_STAT_PAUSED n) = 1 then s
    else if !f.unknown && f.epoch ≠ s.halves.epoch then s.remakeFrame f
    else
      let b := f.build
      let b := if b.length < 60 then padTo 60 b else b
      (if s.laneUp n then (s.emit (.laneTx n (b ++ fcs b))).noteLatency f else s).endFrame f

/-! ### Checkpoints (R356, R357, R359) -/

/-- CHECKPOINT_COMMIT: the checkpoint a flow waits for is committed (R356). -/
def execCheckpointCommit (h : Nat) (s : State) : Host.Outcome State Fault Refusal :=
  .next <| if s.canCommit then s.commitCkpt h else s

/-- CHECKPOINT_TIMEOUT: a message that has waited 1 ms fails with CHECKPOINT (R359). -/
def execCheckpointTimeout (id : Nat) (s : State) : Host.Outcome State Fault Refusal :=
  .next <| match s.turn id with
  | none => s
  | some (f, i, m, h, fl) =>
    match m.waitSince with
    | some t => if t + 1000000 ≤ s.deviceTime then s.failMsg f i h fl.ctx m .checkpoint m.cand else s
    | none => s

/-! ### Spill records (R370-R374) -/

/-- A flow whose record is not to be had becomes LOST: one FLOW_FAILURE whatever REPORT holds (R373). -/
def State.loseFlow (s : State) (h : Nat) : State :=
  let s := s.updFlow h (fun f => { f with
    ctx := { f.ctx with lost := true }, spill := f.spill.map (fun i => { i with loading := false, cached := false }) })
  ((s.bump Fd.SPILL_CNT2_LOST).raise 0x021000 2).postFailure h 0 0 .spillLost

/-- SPILL_RECORD_READ: the 128 bytes of the current copy arrive, or the read fails; a sound record is installed, with
its freshness set from the checkpoint after a restart (R357, R358, R370, R371, R373). -/
def execSpillRecordRead (h : Nat) (rec : Option Bytes) (s : State) : Host.Outcome State Fault Refusal :=
  .next <| match mapGet s.flows h with
  | none => s
  | some f =>
    match f.spill with
    | none => s
    | some i =>
      if !i.loading || !s.canMaster 0 then s else
      match rec with
      | none => s.loseFlow h
      | some r =>
        match s.openRecord (h - 262144) r with
        | none => ((s.bump Fd.SPILL_CNT2_REJECTED).raise 0x021000 1).loseFlow h
        | some c =>
          let c := if c.isSecoc then { c with aux := f.ctx.aux } else c
          let c := if f.restart then c.restarted else c
          let s := s.updFlow h (fun f => { f with
            ctx := { c with stalled := false }, restart := false,
            spill := some { i with cached := true, loading := false, changed := f.restart } })
          if f.restart && c.isSecoc then s.askCkpt h (c.ckpt + 1024) else s

/-- WRITE_BACK: a changed context goes back to host memory (R372, R374). -/
def execWriteBack (h : Nat) (s : State) : Host.Outcome State Fault Refusal :=
  .next <| match mapGet s.flows h with
  | none => s
  | some f =>
    match f.spill with
    | none => s
    | some i => if i.cached && i.changed && s.canWriteBack h then s.writeBack h f i else s

end Sys2Proof.Machine
end

