-- ==== Sys2Proof/Machine/LedgerOps.lean ====
section
/-! DEFINITION. Booking charge in the Reservoir and latching wakes (18_power_and_reservoir.md R641-R643, R648, R649). -/

namespace Sys2Proof.Machine

/-- What the Reservoir books (R648): a handle measurement; an LF frame by drive current and duration; a ranging round run
to its end or cut short; a UHF window; a backup-coil session. -/
inductive Booking
  | scan | lf (ma us : Nat) | uwbFull | uwbShort | uhf (us : Nat) | backup (ma us : Nat)
  deriving DecidableEq, Repr

/-- The frugality level (R652). -/
def State.level (s : State) : Nat := s.fld Fd.RV_STAT_LEVEL

/-- B stands for no limit (R650). -/
def noLimit : Nat := 0xFFFFFFFF

/-- Show the store (R650, R661). -/
def State.showStore (s : State) : State :=
  s.setFld Fd.RV_STORE_NAH (if s.ledger.budget = noLimit then 0x7FFFFFFF else (s.ledger.store % 2 ^ 32).toNat)

/-- Access sessions, excursions and backup-coil sessions make the demand (R651). -/
def State.demanding (s : State) : Bool := s.acc.session.isSome || s.bc.isSome || s.fld Fd.PW_STAT_EXCURSION == 1

/-- Book a charge in nC: whole nAh leave the store, and are counted as spent (R650). -/
def State.spend (s : State) (nc : Nat) : State :=
  let n := (s.ledger.debt + nc) / 3600
  let was := s.ledger.store
  let spent := s.fld Fd.RV_SPENT_LO_NAH + 2 ^ 32 * s.fld Fd.RV_SPENT_HI_NAH + n
  let s := { s with ledger := { s.ledger with
    debt := (s.ledger.debt + nc) % 3600,
    store := if s.ledger.budget = noLimit then was else was - n,
    demand := if s.demanding then (s.deviceTime, nc) :: s.ledger.demand else s.ledger.demand } }
  let s := ((s.setFld Fd.RV_SPENT_LO_NAH (spent % 2 ^ 32)).setFld Fd.RV_SPENT_HI_NAH (spent / 2 ^ 32)).showStore
  if 0 < was && s.ledger.store ≤ 0 && s.ledger.budget != noLimit then s.raise 0x0E1000 2 else s

/-- Book an event of the front end. The measured charge is free (notes/assumptions 35). Pond, Tarn and Dry book VAON by
the charge meter instead, at RESERVOIR_CREDIT (R648, R649). -/
def State.book (s : State) (b : Booking) : State :=
  let (q, t) := s.free
  match b with
  | .lf _ _ | .backup _ _ => t.spend q
  | .scan | .uwbFull | .uwbShort | .uhf _ => if s.parked then s else t.spend q

/-- The wake sources (R641). -/
inductive WakeSrc
  | touch | pin (k : Nat) | alarm | welcome | perst | pwrgd | tamper
  deriving DecidableEq, Repr

/-- Source codes (R641). -/
def WakeSrc.code : WakeSrc → Nat
  | .touch => 1 | .pin k => 2 + k % 8 | .alarm => 10 | .welcome => 11 | .perst => 12 | .pwrgd => 13 | .tamper => 14

/-- The source drives PCIE_WAKE_N (R643, 19 R677). -/
def State.wakesHost (s : State) : WakeSrc → Bool
  | .pin k => s.fld (Fd.PW_WAKE_HOST (k % 8)) == 1
  | .alarm => s.fld Fd.PW_MISC_ALARM_HOST == 1
  | .tamper => s.fld Fd.TP_CFG_WAKE_HOST == 1
  | _ => false

/-- PD00 latches a wake: its bit, the time of the first latch, the latest code, PCIE_WAKE_N where it is configured
(R641, R643, R660). Eddy ends (R628), an excursion lingers anew (R637), and a return given up may be tried again (21 R725). -/
def State.latchWake (s : State) (w : WakeSrc) : State :=
  let old := s.fld Fd.PW_WAKE_STAT_SRC
  let s := if old = 0 then
      (s.setFld Fd.PW_WAKE_TIME_LO_TIME (s.deviceTime % 2 ^ 32)).setFld Fd.PW_WAKE_TIME_HI_TIME (s.deviceTime / 2 ^ 32)
    else s
  let s := (s.setFld Fd.PW_WAKE_STAT_SRC (setBit old w.code)).setFld Fd.PW_STAT_LAST_WAKE w.code
  let s := { s with power := { s.power with
    lingerAt := s.deviceTime, railFails := if s.power.railFails = 3 then 0 else s.power.railFails,
    wakeLow := s.power.wakeLow || (s.wakesHost w && s.parked && s.power.perstLow) } }
  (s.raise 0x0E0000 2).eddyExit

end Sys2Proof.Machine
end

