-- ==== Sys2Proof/Machine/Rounds.lean ====
section
/-! DEFINITION. What a ranging round uses and shows: the plan of ports, outcomes, the ranging page, and the end of a round that
something cuts short (07_ranging.md R247, R248, R255, R266, R275). -/

namespace Sys2Proof.Machine

def pgRng : Nat := 0x051000

/-- A field of the configuration page as the running request read it (R283). -/
def State.uwbFld (s : State) (f : Fld) : Nat := cfgFld s.uwb.cfg f

/-- Ports of plan entry r: transmit in the upper two bits, receive in the lower two (R255). -/
def State.planPorts (s : State) (r : Nat) : Nat × Nat :=
  let v := s.uwbFld Fd.UWB_PLAN_PORTS / 2 ^ (4 * r) % 16
  (v / 4, v % 4)

/-- The next plan entry from r on whose ports bear no FAULT mark (R255). -/
def State.planEntry (s : State) (r : Nat) : Option Nat :=
  (List.range 4).find? (fun i => decide (r ≤ i) && !bit (s.fld Fd.RNG_PORT_FAULT) (s.planPorts i).1 &&
    !bit (s.fld Fd.RNG_PORT_FAULT) (s.planPorts i).2)

/-- Outcome codes of R275. -/
inductive RngOutcome
  | valid | noResponse | sfdFail | stsFail | fpMismatch | edlcSuspect | lowKeyScore | reportFail | replyWindow | clock
  | negative | tooFar | aborted
  deriving DecidableEq, Repr

def RngOutcome.code : RngOutcome → Nat
  | .valid => 0 | .noResponse => 1 | .sfdFail => 2 | .stsFail => 3 | .fpMismatch => 4 | .edlcSuspect => 5
  | .lowKeyScore => 6 | .reportFail => 7 | .replyWindow => 8 | .clock => 9 | .negative => 10 | .tooFar => 11
  | .aborted => 12

/-- What a round reports (R247, R268-R272). -/
structure RngResult where
  outcome : RngOutcome
  comps : Comps := ⟨0, 0, 0, 0, 0⟩
  keyScore : Nat := 0
  dist : Int := 0
  ppm10 : Int := 0
  score : Nat := 0
  rxPower : Nat := 0
  fpPower : Nat := 0
  deriving DecidableEq, Repr

/-- The distance bound of a VALID round (R248). -/
def State.bound (s : State) (r : RngResult) : Nat := (max 0 r.dist).toNat + s.uwbFld Fd.UWB_POLICY_MARGIN_CM

/-- Show a round's result in the ranging page and count it (07, Ranging results page). A clock offset beyond what PPM holds shows modulo
2^16: the model's choice (notes/assumptions 114). -/
def State.showRound (s : State) (x : Round) (fob : Nat) (r : RngResult) : State :=
  let ok := r.outcome == .valid
  let s := (((((s.setFld Fd.RNG_LAST_OUTCOME r.outcome.code).setFld Fd.RNG_LAST_TX_PORT x.txPort).setFld
    Fd.RNG_LAST_RX_PORT x.rxPort).setFld Fd.RNG_LAST_ROUND x.idx).setFld Fd.RNG_LAST_SCORE
    (if ok then r.score else 0)).setFld Fd.RNG_LAST_FOB fob
  let s := (s.setFld Fd.RNG_DIST_BOUND_CM (if ok then s.bound r else 0xFFFF)).setFld Fd.RNG_DIST_DIST_CM
    (if ok then (r.dist + 512).toNat else 0xFFFF)
  let s := ((((s.setFld Fd.RNG_COMP0_C1 r.comps.c1).setFld Fd.RNG_COMP0_C2 r.comps.c2).setFld Fd.RNG_COMP0_C3
    r.comps.c3).setFld Fd.RNG_COMP0_C4 r.comps.c4).setFld Fd.RNG_COMP1_C5 r.comps.c5
  let s := (((s.setFld Fd.RNG_COMP1_KEY_SCORE r.keyScore).setFld Fd.RNG_COMP1_PPM (r.ppm10 % 65536).toNat).setFld
    Fd.RNG_RSSI_RX_POWER r.rxPower).setFld Fd.RNG_RSSI_FP_POWER r.fpPower
  let s := (s.setFld Fd.RNG_STAMP_LO_STAMP (s.deviceTime % 2 ^ 32)).setFld Fd.RNG_STAMP_HI_STAMP (s.deviceTime / 2 ^ 32)
  let s := s.bump (if ok then Fd.RNG_CNT0_VALID else Fd.RNG_CNT0_REJECTED)
  let s := match r.outcome with
    | .noResponse => s.bump Fd.RNG_CNT1_NO_RESPONSE
    | .aborted => s.bump Fd.RNG_CNT1_ABORTED
    | .stsFail => s.bump Fd.RNG_CNT2_STS_FAIL
    | .fpMismatch => s.bump Fd.RNG_CNT2_FP_MISMATCH
    | .edlcSuspect => s.bump Fd.RNG_CNT3_EDLC_SUSPECT
    | .reportFail => s.bump Fd.RNG_CNT3_REPORT_FAIL
    | _ => s
  s.raise pgRng (if ok then 1 else 3)

/-! ### Rounds that are cut short (R266) -/

/-- The round in progress ends ABORTED; the request that made it goes on (R247, R265, R266). -/
def State.abortRound (s : State) : State :=
  match s.uwb.round, s.uwb.fob with
  | some x, some fob =>
    let s := (s.showRound x fob { outcome := .aborted }).book .uwbShort
    { s with
      uwb := { s.uwb with round := none, roundsRun := s.uwb.roundsRun + 1, stsHeld := [] },
      acc := { s.acc with session := s.acc.session.map (fun y => { y with rounds := y.rounds + 1 }) } }
  | _, _ => s

/-- The port domains PD06 and PD07 that ports need, as bits 0 and 1. -/
def portMask (l : List Nat) : Nat := listMask (l.map (· / 2)).eraseDups

/-- The port domains that go on are those of the ports in use alone, and PD05 with them; in Flow and Eddy PD00 to PD13 are on
whatever a round needs (R255, R263; 18 R627; notes/assumptions 107). -/
def State.portsPower (s : State) (m : Nat) : State :=
  let d := if s.parked then maskDiff s.domains 224 ||| (if m = 0 then 0 else 32 + 64 * m) else s.domains
  State.setDomains { s with uwb := { s.uwb with portsOn := m } } d

end Sys2Proof.Machine
end

