-- ==== Sys2Proof/Machine/Access.lean ====
section
/-! DEFINITION. Access sessions: opening, classifying answers, deciding (08_access_protocol_and_release.md R287-R316). -/

namespace Sys2Proof.Machine

def pgHs : Nat := 0x040000
def pgLf : Nat := 0x041000
def pgUhf : Nat := 0x042000
def pgBc : Nat := 0x043000
def pgAc : Nat := 0x060000
def pgIm : Nat := 0x061000

/-! ### The policy record (R304) -/

def polVid (b : Bytes) : Nat := leAt b 0 2
def polWelcome (b : Bytes) : Bool := bit (leAt b 2 1) 0
def polNoUwb (b : Bytes) : Bool := bit (leAt b 2 1) 1
def polRetries (b : Bytes) : Nat := leAt b 3 1
def polRecentS (b : Bytes) : Nat := leAt b 4 1
def polWelcomeZones (b : Bytes) : Nat := leAt b 5 1
def polSessionMs (b : Bytes) : Nat := leAt b 6 2

/-- The 8-byte entry of a target: START at 8, T0-T7 from 16 on (R304). -/
def polTarget (b : Bytes) (t : Nat) : Bytes := if t = 16 then slice b 8 8 else slice b (16 + 8 * t) 8

def tgtTrigger (e : Bytes) : Nat := leAt e 0 1
def tgtZones (e : Bytes) : Nat := leAt e 1 1
def tgtBound (e : Bytes) : Nat := leAt e 2 2
def tgtGpio (e : Bytes) : Nat := leAt e 4 2 % 4096
def tgtPulse (e : Bytes) : Nat := leAt e 6 1
def tgtEnabled (e : Bytes) : Bool := bit (leAt e 7 1) 0
def tgtHostRelease (e : Bytes) : Bool := bit (leAt e 7 1) 1
def tgtCan (e : Bytes) : Bool := bit (leAt e 7 1) 2

/-- The policy in force; before the first ACCESS_POLICY_SET every target is disabled (R304). -/
def State.policy (s : State) : Bytes := s.acc.policy.getD (List.replicate 80 0)

/-- The door target that handle channel ch triggers. -/
def touchTarget (b : Bytes) (ch : Nat) : Option Nat :=
  (List.range 8).find? (fun t => tgtEnabled (polTarget b t) && bit (tgtTrigger (polTarget b t)) ch)

/-- The vehicle identifier as it goes on air, most significant byte first (R291). -/
def State.vidBytes (s : State) : Bytes := beBytes 2 (polVid s.policy)

/-! ### Small updates -/

def State.setAcc (s : State) (f : AccessSt → AccessSt) : State := { s with acc := f s.acc }

/-- PD02-PD08, on in the parked states during access work alone (18 R627). -/
def accessDomains : Nat := 508

/-- Of these a session has on as it opens: PD02-PD04 and PD08. A round adds PD05 and its ports (18 R627; 07 R255). -/
def sessionDomains : Nat := 284

def State.setSession (s : State) (x : Option Session) : State :=
  let d := if !s.parked then s.domains else if x.isSome then s.domains ||| sessionDomains else maskDiff s.domains accessDomains
  State.setFld { s.setDomains d with acc := { s.acc with session := x } } Fd.AC_STAT_SESSION (b2n x.isSome)

def State.updSession (s : State) (f : Session → Session) : State :=
  { s with acc := { s.acc with session := s.acc.session.map f } }

def State.fob? (s : State) (i : Nat) : Option FobRec := s.acc.fobs.find? (fun r => r.id == i)

/-- The numeric SOURCE of R314. -/
def Source.code : Source → Nat
  | .touch => 0 | .start => 1 | .welcome => 2 | .backupCoil => 3 | .command => 4

/-- UWB is required for the release at this level (R311). -/
def uwbRequired (level : Nat) : Bool := decide (level < 3)

/-- The level forbids the target for the source (R311). -/
def levelForbids (level target : Nat) (src : Source) (noUwb : Bool) : Bool :=
  if target = 32 then level ≠ 1
  else if target = 16 then decide (3 ≤ level) && src ≠ .backupCoil
  else level == 4 || (level == 3 && !noUwb)

/-- The window of the running session is open. -/
def State.windowOn (s : State) : Bool := match s.uhf with | some w => w.past.isNone | none => false

/-- Ask for an LF frame; a touch frame goes before welcome frames not yet started (R226). -/
def State.requestLf (s : State) (r : LfReq) : State :=
  let w := if r.kind = LfKind.welcome then s.lf.waiting ++ [r] else s.lf.waiting.filter (fun x => x.kind != LfKind.welcome) ++ [r]
  { s with lf := { s.lf with waiting := w } }

/-- The burst list of LF_CHn (R224). -/
def State.burstSet (s : State) : Nat :=
  listMask ((List.range 8).filter (fun n => s.fld (Fd.LF_CH_EN n) == 1 && s.fld (Fd.LF_CH_BURST n) == 1))

/-- CHALLENGE or WELCOME of session x, with a NONCE_V fresh from the Lead's Bellows (R287, R292, R303). BURSTS names the burst list,
which the frame reads at its start (06 R207, R224; notes/assumptions 94). -/
def State.sendChallenge (s : State) (x : Session) : State :=
  let nonce := s.drawn 8
  let cmd := if x.source = .welcome then 0x15 else 0x11
  let s := (s.draw 8).updSession (fun x => { x with nonceV := nonce, cmd := cmd, bursts := 0, sent := 0, polling := true, drawDue := false })
  s.requestLf { kind := if x.source = .welcome then .welcome else .challenge,
                data := leBytes 1 cmd ++ s.vidBytes ++ nonce ++ [0], bursts := 255 }

/-- The running session challenges; while Bellows is at its limit it waits for the reseed (R292, R303; 15 R553). -/
def State.challenge (s : State) : State :=
  match s.acc.session with
  | none => s
  | some x =>
    if s.drawWaits (s.fld Fd.HW_ROLE_LEAD) then s.updSession (fun x => { x with polling := true, drawDue := true })
    else s.sendChallenge x

/-- A challenge that waited for Bellows goes out once it serves again (15 R553). -/
def State.challengeDue (s : State) : State :=
  match s.acc.session with
  | some x => if x.drawDue then s.challenge else s
  | none => s

/-! ### Decisions (R311-R316) -/

/-- What a decision says (R314). -/
structure Decision where
  target : Nat
  fob : Nat
  status : Status
  reason : Nat
  zone : Nat
  bound : Nat
  score : Nat
  rng : Nat
  source : Source
  deriving DecidableEq, Repr

/-- Post ACCESS_DECISION and show it in the registers (R314). -/
def State.postDecision (s : State) (d : Decision) : State :=
  let n := s.acc.decisionSeq
  let s := s.postAccess 0x0040 (leBytes 1 d.target ++ leBytes 1 d.fob ++ leBytes 2 d.status.code ++ leBytes 1 d.reason ++
    leBytes 1 d.zone ++ leBytes 2 d.bound ++ leBytes 1 d.score ++ leBytes 1 d.rng ++ leBytes 1 s.level ++
    leBytes 1 d.source.code ++ leBytes 4 n)
  let s := ((((s.setFld Fd.AC_LAST_TARGET d.target).setFld Fd.AC_LAST_REASON d.reason).setFld Fd.AC_LAST_FOB
    (if d.fob = 0xFF then 0x1F else d.fob)).setFld Fd.AC_LAST_ZONE d.zone).setFld Fd.AC_SEQ_SEQ n
  let s := if d.status = .ok then s.bump Fd.AC_CNT1_RELEASES else s.bump Fd.AC_CNT2_REFUSED
  let s := s.setAcc (fun a => { a with decisionSeq := n + 1 })
  s.raise pgAc (1 + if d.status = .outOfBudget then 4 else 0)

/-- Pulse the GPIOs of a door target: active until PULSE x 10 ms from now; a new release restarts the pulse (R315). -/
def State.pulse (s : State) (e : Bytes) : State :=
  let till := s.deviceTime + tgtPulse e * 10000000
  s.setAcc (fun a => { a with pulses := (maskList (tgtGpio e) 12).foldl (fun m g => mapPut m g till) a.pulses })

/-- Queue a token for composition (R318, R320). -/
def State.queueToken (s : State) (t : Token) : State :=
  { s with immo := { s.immo with queue := s.immo.queue ++ [t] } }

/-- Open a token stream: REPEAT tokens from now (R320). -/
def State.openStream (s : State) (fob : Nat) (backup : Bool) : State :=
  match s.immo.config with
  | none => s
  | some c =>
    let s := { s with immo := { s.immo with
      remain := leAt c 12 2, fob := fob, backup := backup, seq := 0, nextAt := s.deviceTime, streaming := true } }
    ((s.setFld Fd.IM_STAT_STREAMING 1).setFld Fd.IM_STAT_REMAIN (leAt c 12 2)).raise pgIm 1

/-- The outputs of a door or start decision with STATUS OK (R315, R320). -/
def State.releaseOutputs (s : State) (target fob : Nat) (backup : Bool) : State :=
  if target = 16 then s.openStream fob backup
  else
    let e := polTarget s.policy target
    let s := s.pulse e
    if tgtCan e then s.queueToken { kind := 2, target := target, fob := fob, backup := false, seq := 0 } else s

/-- A session may open: entropy present (15 R544), a policy names its target as enabled (R304), a half that serves (17 R601), and
the access page takes work (04 R124). -/
def State.sessionAllowed (s : State) (src : Source) (target : Nat) : Bool :=
  !s.noEntropy && (src = .welcome || tgtEnabled (polTarget s.policy target)) && s.gatesOpen && !s.halves.lost && s.pageAdmits pgAc

/-- The session a source opens on a target (R288). -/
def Session.start (src : Source) (target now retries : Nat) : Session :=
  { source := src, target := target, openedAt := now, nonceV := [], cmd := 0, bursts := 0, candidates := [],
    answers := [], decided := [], ranged := [], retriesLeft := retries, repolls := [], polled := [], polling := false,
    rounds := 0, lastStatus := 0x0300, lastReason := 1, lastFob := 0xFF, lastZone := 0xFF, lastRng := 0xFF,
    lastBound := 0xFFFF, lastScore := 0 }

/-- The key that stands for the access service where the comparators compare its decisions (R287; 17 R602-R606). -/
def ownKey : CmdKey := { part := ownPart, sq := 0, idx := 0 }

/-- No decision is taken now: the copies of the last one disagreed (06 R206; 17 R604-R606), or the Lead's lease does not allow a
commit (17 R597). -/
def State.decisionHeld (s : State) : Bool := s.disagrees ownKey || s.halves.lost || s.halves.stopped

/-- Ranging stops, and a round in progress ends ABORTED (07 R247, R266); its port domains and PD05 go off (07 R263). -/
def State.stopRanging (s : State) : State :=
  let s := s.abortRound.portsPower 0
  { s with uwb := { s.uwb with fob := none, round := none, roundsRun := 0, planIdx := 0, twinClaimed := false, stsHeld := [] } }

/-- Post FOB_COLLISION for a slot whose re-polls are over (06 R243). -/
def State.postCollision (s : State) (x : Session) (slot : Nat) : State :=
  let l := x.repolls.filter (fun p => p.slot == slot)
  let fobs := listMask ((s.acc.fobs.filter (fun r => r.slot == slot)).map (·.id))
  let ans := listMask ((l.filter (·.answered)).map (·.fob))
  let first := l.head?
  s.postAccess 0x0042 (leBytes 1 slot ++ leBytes 1 (b2n (!l.all (·.answered))) ++ leBytes 2 fobs ++ leBytes 2 ans ++
    leBytes 1 ((l.map (·.count)).sum) ++ leBytes 1 ((first.map (·.hyps)).getD 0) ++ leBytes 1 ((first.map (·.rssi)).getD 0))

/-- The slots whose re-polls the end of the session cuts short (06 R243). -/
def Session.openSlots (x : Session) : List Nat :=
  let l := x.repolls.filter (fun p => !p.done)
  ((x.repolls.filter (fun p => p.count != 0 && l.any (fun q => q.slot == p.slot))).map (·.slot)).eraseDups

/-- Currents of late, with one more: those that a second of R227 may still hold. -/
def State.drew (s : State) (l : List LfDraw) : List LfDraw :=
  l ++ s.lf.charge.filter (fun d => decide (s.deviceTime < d.till + 2000000000))

/-- The field of the backup coil goes off, and its session shows the state given (06 R231). -/
def State.bcOff (s : State) (st : Nat) : State :=
  match s.bc with
  | none => s
  | some b =>
    let ma := cfgFld b.cfg Fd.BC_CFG_I_MA
    let s := s.book (.backup ma ((s.deviceTime - b.startedAt) / 1000))
    let s := { s with bc := none, lf := { s.lf with lastEnd := s.deviceTime, charge := s.drew [⟨b.startedAt, s.deviceTime, ma⟩] } }
    (s.setFld Fd.BC_STAT_STATE st).raise pgBc 1

/-- A frame, if it is one of the session x that ends, is no more the frame of a running session. -/
def LfAir.orphan (x : Option Session) (a : LfAir) : LfAir :=
  if a.req.kind = LfKind.pair || a.past.isSome then a else { a with past := x }

/-- A window of the session x that ends goes on as that of a session that is over. -/
def UhfWindow.orphan (x : Option Session) (w : UhfWindow) : UhfWindow := if w.past.isSome then w else { w with past := x }

/-- Close the session machinery: no frames of the session not yet on air, no ranging, no field of the backup coil; re-polls are over
(06 R231, R243; 07 R266). A frame on air and a window end as they would (06 R226, R240). -/
def State.closeSession (s : State) : State :=
  let x := s.acc.session
  let s := s.stopRanging.bcOff 3
  let s := match x with | some y => y.openSlots.foldl (fun (t : State) k => t.postCollision y k) s | none => s
  let s := { s with
    halves := { s.halves with compares := s.halves.compares.filter (fun c => !(c.key == ownKey)) },
    uhf := s.uhf.map (UhfWindow.orphan x),
    lf := { s.lf with
      waiting := s.lf.waiting.filter (fun r => r.kind == LfKind.pair), air := s.lf.air.map (LfAir.orphan x),
      ended := s.lf.ended.map (LfAir.orphan x) },
    power := { s.power with lingerAt := s.deviceTime } }
  s.setSession none

/-- Open a session now and challenge (R288, R292); a level that forbids the target decides at once (R311, R312). -/
def State.openSession (s : State) (src : Source) (target : Nat) : State :=
  if !s.sessionAllowed src target then s else
  let s := (s.setSession (some (Session.start src target s.deviceTime (polRetries s.policy)))).setFld Fd.AC_STAT_SOURCE src.code
  if levelForbids s.level target src (polNoUwb s.policy) then
    if src = .welcome then s.closeSession
    else ((s.bump Fd.AC_CNT2_SESSIONS).postDecision {
      target := target, fob := 0xFF, status := .outOfBudget, reason := 6, zone := 0xFF, bound := 0xFFFF, score := 0,
      rng := 0xFF, source := src }).closeSession
  else
    let s := if src = .welcome then s else s.bump Fd.AC_CNT2_SESSIONS
    if src = .backupCoil then s else s.challenge

/-- Serve the queued touches and starts in the order of their stamps once no session runs (R289). -/
def State.serveQueue (s : State) : Nat → State
  | 0 => s
  | n + 1 =>
    match s.acc.session, s.acc.queued with
    | none, q :: t =>
      let s := (s.setAcc (fun a => { a with queued := t })).setFld Fd.AC_STAT_QUEUED t.length
      (s.openSession q.source q.target).serveQueue n
    | _, _ => s

/-- End the running session and serve what waits (R288, R289). -/
def State.endSession (s : State) : State := s.closeSession.serveQueue 10

/-- End the session with a decision, its outputs and its event (R312-R315). -/
def State.settle (s : State) (d : Decision) : State :=
  let s := (if d.target = 32 then s.bump Fd.AC_CNT2_SESSIONS else s).postDecision d
  let s := if d.status = .ok && d.target ≠ 32 then s.releaseOutputs d.target d.fob (d.source = .backupCoil) else s
  s.endSession

/-- A decision at its commit point: a level that forbids the target now turns it into OUT_OF_BUDGET; a welcome session then ends in
silence (R311-R313). -/
def State.decision (s : State) (d : Decision) : State :=
  if !levelForbids s.level d.target d.source (polNoUwb s.policy) then s.settle d
  else if d.target = 32 then s.endSession
  else s.settle { d with fob := 0xFF, status := .outOfBudget, reason := 6, zone := 0xFF }

/-- Insert a request by its stamp, at most one per target (R289). -/
def queueInsert (q : Queued) (l : List Queued) : List Queued :=
  if l.any (fun x => x.target == q.target) then l
  else l.takeWhile (fun x => decide (x.stamp ≤ q.stamp)) ++ [q] ++ l.dropWhile (fun x => decide (x.stamp ≤ q.stamp))

/-- A touch or start request arrives: it opens a session, is absorbed by a session on its target, abandons a welcome
session, or waits (R288, R289). -/
def State.request (s : State) (src : Source) (target stamp : Nat) : State :=
  if s.noEntropy then s else
  if !s.gatesOpen then s.setAcc (fun a => { a with queued := queueInsert ⟨src, target, stamp⟩ a.queued }) else
  match s.acc.session with
  | none => if s.acc.pairing.isSome then s.setAcc (fun a => { a with queued := queueInsert ⟨src, target, stamp⟩ a.queued })
            else s.openSession src target
  | some x =>
    if x.target = target then s
    else
      let q := queueInsert { source := src, target := target, stamp := stamp } s.acc.queued
      let s := (s.setAcc (fun a => { a with queued := q })).setFld Fd.AC_STAT_QUEUED q.length
      if x.source = .welcome then s.endSession else s

/-! ### Zones (06 R230), by the configuration of the last frame (06 R207) -/

/-- Score of a zone: the largest reported value among its channels whose bursts were sent; none with no channel sent. -/
def State.zoneScore (s : State) (st : List (Nat × Nat)) (z : Nat) : Option Nat :=
  ((st.filter (fun c => cfgFld s.lf.cfg (Fd.LF_CH_ZONE c.1) == z)).map (·.2)).max?

/-- The LF zone of an answer: 0-7, 0xF0 NONE, 0xF1 UNDECIDED (R230, R314). -/
def State.lfZone (s : State) (st : List (Nat × Nat)) : Nat :=
  let sc := (List.range 8).filterMap (fun z => (s.zoneScore st z).map (fun v => (z, v)))
  match sc.foldl (fun (b : Option (Nat × Nat)) c => match b with
      | none => some c | some x => if x.2 < c.2 then some c else b) none with
  | none => 0xF0
  | some (z, v) =>
    if v < cfgFld s.lf.cfg Fd.LF_ZONE_MIN then 0xF0
    else match ((sc.filter (fun c => c.1 != z)).map (·.2)).max? with
      | some w => if v < w + cfgFld s.lf.cfg Fd.LF_ZONE_MARGIN then 0xF1 else z
      | none => z

/-! ### The decision rule (R312) -/

/-- Rights bit of a target: T0-T7 bits 0-7, START bit 8, WELCOME bit 9 (R306). -/
def rightsBit (target : Nat) : Nat := if target = 16 then 8 else if target = 32 then 9 else target

def State.entitled (s : State) (fob target : Nat) : Bool :=
  match s.fob? fob with
  | some r => bit r.rights (rightsBit target)
  | none => false

/-- Record the reason of the last check a candidate failed. -/
def Session.failWith (x : Session) (fob : Nat) (st : Status) (reason zone : Nat) : Session :=
  { x with decided := x.decided ++ [fob], lastStatus := st.code, lastReason := reason, lastFob := fob, lastZone := zone }

/-- The decision a session's last failed check gives (R288, R312). -/
def Session.failure (x : Session) : Decision :=
  { target := x.target, fob := x.lastFob, reason := x.lastReason, zone := x.lastZone, bound := x.lastBound,
    score := x.lastScore, rng := x.lastRng, source := x.source,
    status := if x.lastReason = 2 then .notPermitted else if x.lastReason = 6 then .outOfBudget
      else if x.lastReason = 1 then .authFail else .rangeReject }

/-- Ask for ranging of a key, with the configuration page as it stands now (R283); at level 3 or 4 the request ends ABORTED at once (R265, R282, R312). -/
def State.requestRanging (s : State) (fob : Nat) : State :=
  let s := s.claimTwin31
  ({ s with uwb := { s.uwb with fob := some fob, roundsRun := 0, planIdx := 0, twinClaimed := true, cfg := s.pageCfg 0x050000 } }).updSession
    (fun x => { x with ranged := x.ranged ++ [fob] })

/-- Try the candidates not yet decided, in the order of their answers, until one needs a ranging result (R312). -/
def State.tryCandidates (s : State) : Nat → State
  | 0 => s
  | n + 1 =>
    match s.acc.session with
    | none => s
    | some x =>
      if s.uwb.fob.isSome then s else
      match x.candidates.find? (fun c => !x.decided.contains c.fob) with
      | none => s
      | some c =>
        if !s.entitled c.fob x.target then (s.updSession (fun x => x.failWith c.fob .notPermitted 2 0xFF)).tryCandidates n
        else
          let z := s.lfZone c.strengths
          let zones := tgtZones (polTarget s.policy x.target)
          if 8 ≤ z || !bit zones z then (s.updSession (fun x => x.failWith c.fob .rangeReject 3 z)).tryCandidates n
          else if !uwbRequired s.level then
            s.decision {
              target := x.target, fob := c.fob, status := .ok, reason := 0, zone := z, bound := 0xFFFF, score := 0,
              rng := 0xFF, source := x.source }
          else if 2 ≤ x.ranged.length then (s.updSession (fun x => { x with decided := x.decided ++ [c.fob] })).tryCandidates n
          else s.requestRanging c.fob

/-- A welcome session: a VALID answer of an entitled key in a welcome zone gives the one event it may give (R313). -/
def State.tryWelcome (s : State) (x : Session) : State :=
  match x.candidates.find? (fun c => s.entitled c.fob 32 &&
      decide (s.lfZone c.strengths < 8) && bit (polWelcomeZones s.policy) (s.lfZone c.strengths)) with
  | some c => s.decision {
      target := 32, fob := c.fob, status := .ok, reason := 0, zone := s.lfZone c.strengths, bound := 0xFFFF, score := 0,
      rng := 0xFF, source := .welcome }
  | none => s

/-- A backup-coil session with a valid reply decides by the rights of its key (R312). -/
def State.tryBackup (s : State) (x : Session) : State :=
  match x.bcFob with
  | none => s
  | some f => s.decision {
      target := 16, fob := f, status := if s.entitled f 16 then .ok else .authFail, reason := if s.entitled f 16 then 0 else 1,
      zone := 0xFF, bound := 0xFFFF, score := 0, rng := 0xFF, source := .backupCoil }

/-- Go on with the running session after an answer, a window, or a verdict. Once polling is over and every candidate is
decided, it ends with the last failure; a welcome session ends in silence (R303, R312-R314). Nothing is decided while a comparison or
the lease stands in the way. -/
def State.advance (s : State) : State :=
  if s.decisionHeld then s else
  match s.acc.session with
  | none => s
  | some x =>
    if x.source = .backupCoil then s.tryBackup x
    else if x.source = .welcome then
      let s := s.tryWelcome x
      match s.acc.session with
      | some y => if y.source = .welcome && !y.polling && !s.windowOn && y.repolls.all (·.done) then s.endSession else s
      | none => s
    else
      let s := s.tryCandidates 16
      match s.acc.session with
      | none => s
      | some y =>
        if y.polling || s.windowOn || s.uwb.fob.isSome || !y.repolls.all (·.done) || y.openedAt ≠ x.openedAt ||
           y.candidates.any (fun c => !y.decided.contains c.fob) then s
        else if y.candidates.any (fun c => s.entitled c.fob y.target) then s.decision y.failure
        else if 0 < y.retriesLeft then (s.updSession (fun x => { x with retriesLeft := x.retriesLeft - 1 })).challenge
        else s.decision y.failure

/-- The session as its limit finds it: a ranging under way, or not yet begun, for a candidate that passed the checks before it has
failed by its outcome, and a round cut off is ABORTED (R288, R312; 07 R266; notes/assumptions 115). -/
def State.cutOff (s : State) (x : Session) : Session :=
  match x.candidates.find? (fun c => !x.decided.contains c.fob) with
  | none => x
  | some c =>
    let x := if s.uwb.round.isSome then { x with lastRng := 12 } else x
    x.failWith c.fob .rangeReject 4 (s.lfZone c.strengths)

/-- SESSION_TIMEOUT: SESSION_MS after it opened a session ends with the reason of the last check it failed (R288). -/
def execSessionTimeout (s : State) : Host.Outcome State Fault Refusal :=
  .next <| match s.acc.session with
  | none => s
  | some x =>
    if s.deviceTime < x.openedAt + polSessionMs s.policy * 1000000 || s.decisionHeld then s
    else if x.source = .welcome then s.endSession
    else s.settle (s.cutOff x).failure

/-- RELEASE_PULSE_END: a release GPIO whose pulse is over returns to its inactive level (R315). -/
def execReleasePulseEnd (g : Nat) (s : State) : Host.Outcome State Fault Refusal :=
  .next <| match mapGet s.acc.pulses g with
  | some t => if t ≤ s.deviceTime then s.setAcc (fun a => { a with pulses := mapDel a.pulses g }) else s
  | none => s

/-! ### Session keys and answers (R294-R302) -/

/-- The session keys k_mac, k_sts, k_rpt of R296: block i of the SP 800-108 counter KDF. -/
def sessionKey (kFob vid : Bytes) (fob : Nat) (nonceV nonceK : Bytes) (i : Nat) : Bytes :=
  Config.prim .cmac [kFob, leBytes 1 i ++ [0x50, 0x41, 0x50, 0x31, 0x00] ++ vid ++ leBytes 1 fob ++ nonceV ++ nonceK ++
    [0x01, 0x80]] 16

/-- The 6-byte MAC of an answer over payload without the MAC (R296). -/
def answerMac (kMac vid : Bytes) (cmd : Nat) (nonceV payload : Bytes) : Bytes :=
  Config.prim .cmac [kMac, [0x01] ++ vid ++ leBytes 1 cmd ++ nonceV ++ payload] 6

/-- Post REPLAY_SUSPECT and count it (R302). -/
def State.suspect (s : State) (fob kind slot rng rssi ref : Nat) : State :=
  ((s.postAccess 0x0041 (leBytes 1 fob ++ leBytes 1 kind ++ leBytes 1 slot ++ leBytes 1 rng ++ leBytes 1 rssi ++
    [0, 0, 0] ++ leBytes 8 ref)).bump Fd.AC_CNT1_SUSPECT).raise pgAc 2

/-- The nonces kept for a key (R301). -/
def State.keyNonces (s : State) (fob : Nat) : List (Bytes × Nat) :=
  match s.acc.nonceLog.find? (fun l => l.fob == fob) with
  | some l => l.nonces
  | none => []

/-- Remember a valid NONCE_K: the last 8 per key (R301). -/
def State.logNonce (s : State) (fob : Nat) (nonce : Bytes) : State :=
  s.setAcc (fun a => { a with nonceLog :=
    { fob := fob, nonces := ((nonce, s.deviceTime) :: s.keyNonces fob).take 8 } :: a.nonceLog.filter (fun l => !(l.fob == fob)) })

/-- An INVALID answer in session x is counted and correlated with recent valid ones (R300, R301). -/
def State.invalidAnswer (s : State) (x : Session) (fob slot rssi : Nat) (nonceK : Bytes) (correlate : Bool) : State :=
  let s := s.bump Fd.AC_CNT0_INVALID
  if !correlate then s else
  match x.candidates.find? (fun c => c.fob == fob) with
  | some c => s.suspect fob 1 slot 0 rssi c.time
  | none =>
    match (s.keyNonces fob).find? (fun n => n.1 == nonceK && decide (s.deviceTime ≤ n.2 + polRecentS s.policy * 1000000000)) with
    | some n => s.suspect fob 2 slot 0 rssi n.2
    | none => s

/-- The class of an answer (R300). -/
inductive AnswerClass
  | invalid | badMac | duplicate | offSlot | conflict | valid
  deriving DecidableEq, Repr

/-- Classify the RESPONSE payload of key fob heard in a slot (R300). `slotOk`: the slot is the key's, or the re-poll slot
after a REPOLL to it. -/
def State.classifyAnswer (s : State) (x : Session) (rec : Option FobRec) (payload : Bytes) (cmd nBursts : Nat) (slotOk : Bool) :
    AnswerClass :=
  match rec with
  | none => .invalid
  | some r =>
    if leAt payload 0 1 / 16 ≠ 1 then .invalid
    else
      let kMac := sessionKey r.key s.vidBytes r.id x.nonceV (slice payload 1 5) 1
      if payload.length ≠ 12 + nBursts ||
         answerMac kMac s.vidBytes cmd x.nonceV (payload.take (6 + nBursts)) ≠ payload.drop (6 + nBursts) then .badMac
      else if x.answers.any (fun a => a.2 == payload) then .duplicate
      else if !slotOk then .offSlot
      else if x.answers.any (fun a => a.1 == r.id) then .conflict
      else .valid

/-- Field strengths by channel, one for each burst named, of those that were sent (06 R229, R230; R294). -/
def Session.strengths (x : Session) (payload : Bytes) : List (Nat × Nat) :=
  let chans := maskList x.bursts 8
  ((List.range chans.length).map (fun i => (chans.getD i 0, leAt payload (6 + i) 1))).filter (fun c => bit x.sent c.1)

/-- A VALID answer of key r: the key becomes a candidate, with its session keys and field strengths (R296, R300). -/
def Session.accept (x : Session) (r : FobRec) (vid payload : Bytes) (now : Nat) : Session :=
  let nonceK := slice payload 1 5
  let c : Candidate :=
    { fob := r.id, strengths := x.strengths payload, kSts := sessionKey r.key vid r.id x.nonceV nonceK 2,
      kRpt := sessionKey r.key vid r.id x.nonceV nonceK 3, payload := payload, time := now, nonceV := x.nonceV }
  { x with
    candidates := x.candidates ++ [c], answers := x.answers ++ [(r.id, payload)],
    repolls := x.repolls.map (fun p => if p.fob = r.id && p.count ≠ 0 then { p with answered := true } else p) }

/-- A VALID answer is counted, its key nonce is kept, and the running session takes it (R300, R301). -/
def State.acceptAnswer (s : State) (r : FobRec) (payload : Bytes) : State :=
  ((s.bump Fd.AC_CNT0_VALID).logNonce r.id (slice payload 1 5)).updSession (fun x => x.accept r s.vidBytes payload s.deviceTime)

/-- A VALID answer to a session that is over: it is counted and its key nonce kept (R300, R301). -/
def State.acceptLate (s : State) (r : FobRec) (payload : Bytes) : State :=
  let s := { s with uhf := s.uhf.map (fun (w : UhfWindow) => { w with past := w.past.map (fun (x : Session) => x.accept r s.vidBytes payload s.deviceTime) }) }
  (s.bump Fd.AC_CNT0_VALID).logNonce r.id (slice payload 1 5)

/-- Bytes of the CMACs that an answer takes: three blocks of session keys and the MAC (R296). -/
def answerCmacBytes (payload : Bytes) : Nat := 84 + payload.length

/-- What an answer that is not VALID does (R300, R302). -/
def State.rejectAnswer (s : State) (x : Session) (c : AnswerClass) (fob slot rssi : Nat) (nonceK : Bytes) : State :=
  match c with
  | .invalid => s.invalidAnswer x fob slot rssi nonceK false
  | .badMac => s.invalidAnswer x fob slot rssi nonceK true
  | .offSlot => (s.bump Fd.AC_CNT0_INVALID).suspect fob 3 slot 0 rssi 0
  | .conflict => (s.bump Fd.AC_CNT0_INVALID).suspect fob 1 slot 0 rssi
      ((x.candidates.find? (fun c => c.fob == fob)).map (·.time) |>.getD 0)
  | .duplicate | .valid => s

/-- A RESPONSE heard on UHF in answer to session x, which runs or is over (R300, R302; 06 R240). -/
def State.answer (s : State) (x : Session) (late : Bool) (payload : Bytes) (slot rssi : Nat) (repoll : Option Nat) : State :=
  let s := s.askOwn (answerCmacBytes payload)
  let fob := leAt payload 0 1 % 16
  let rec? := s.fob? fob
  let slotOk := match repoll, rec? with
    | some f, _ => f == fob
    | none, some r => r.slot == slot
    | none, none => false
  let c := s.classifyAnswer x rec? payload x.cmd (maskList x.bursts 8).length slotOk
  match c, rec? with
  | .valid, some r => if late then s.acceptLate r payload else (s.acceptAnswer r payload).advance
  | _, _ => s.rejectAnswer x c fob slot rssi (slice payload 1 5)

end Sys2Proof.Machine
end

