-- ==== Sys2Proof/Machine/Hammers.lean ====
section
/-! DEFINITION. The Hammer and digest commands (10_hammers.md R376-R390, R404). -/

namespace Sys2Proof.Machine

/-! ### Parameters (R376, R378, R381) -/

/-- MODE, TAG_LEN, NONCE_LEN, NONCE, AAD_LEN of PARAM. -/
def Inflight.mode (c : Inflight) : Nat := c.p8 4
def Inflight.tagLen (c : Inflight) : Nat := c.p8 5
def Inflight.nonceLen (c : Inflight) : Nat := c.p8 6
def Inflight.aadLen (c : Inflight) : Nat := c.p32 24

/-- Nonce length of a mode when Frexus draws it (R379). -/
def drawnLen (mode : Nat) : Nat := if mode = 0x02 || mode = 0x03 then 13 else 12

/-- Nonce and tag lengths of a mode (R378); `drawn` where NONCE_LEN 0 asks Frexus to draw. -/
def modeOk (mode nonce tag : Nat) (drawn : Bool) : Bool :=
  match mode with
  | 0x01 => (nonce == 12 || (nonce == 0 && drawn)) && decide (12 ≤ tag ∧ tag ≤ 16)
  | 0x02 => (decide (7 ≤ nonce ∧ nonce ≤ 13) || (nonce == 0 && drawn)) && [4, 6, 8, 10, 12, 14, 16].contains tag
  | 0x03 => (nonce == 13 || (nonce == 0 && drawn)) && [4, 8, 16].contains tag
  | 0x10 => nonce == 0 && decide (4 ≤ tag ∧ tag ≤ 16)
  | 0x11 => (nonce == 12 || (nonce == 0 && drawn)) && decide (12 ≤ tag ∧ tag ≤ 16)
  | _ => false

/-- Text length allowed by a CCM nonce (R378). -/
def textOk (mode nonce n : Nat) : Bool :=
  let l := if nonce = 0 then drawnLen mode else nonce
  if mode = 0x01 then true else decide (n < 2 ^ (8 * (15 - l)))

def isAead (mode : Nat) : Bool := mode == 1 || mode == 2 || mode == 3
def isMac (mode : Nat) : Bool := mode == 0x10 || mode == 0x11

/-- The command draws its nonce (R379). -/
def Inflight.drawsNonce (c : Inflight) : Bool := c.nonceLen == 0 && c.mode != 0x10

/-- The nonce: PARAM's, or drawn. -/
def State.nonceOf (s : State) (c : Inflight) : Bytes :=
  if c.drawsNonce then s.drawn (drawnLen c.mode) else slice c.param 8 c.nonceLen

/-- The nonce in RESULT where it was drawn (R379). -/
def State.nonceResult (s : State) (c : Inflight) : Bytes := if c.drawsNonce then s.nonceOf c else []

/-- The state after the draw of a nonce. -/
def State.drewNonce (s : State) (c : Inflight) : State := if c.drawsNonce then s.drawAt (s.drawHalf c) (drawnLen c.mode) else s

/-- The use draws a GCM or GMAC nonce (R380). -/
def Inflight.countsDraw (c : Inflight) : Bool := c.drawsNonce && (c.mode == 1 || c.mode == 0x11)

/-! ### The modes (R376, R382) -/

/-- Ciphertext or plaintext: the mode's counter keystream combined with the text. -/
def aeadText (mode : Nat) (key nonce text : Bytes) : Bytes :=
  xorBytes text (Config.prim .ctr (if mode = 1 then [key, nonce] else [key, nonce, [0x02]]) text.length)

/-- The tag of an AEAD mode over additional data and text. -/
def aeadTag (mode tag : Nat) (key nonce aad pt ct : Bytes) : Bytes :=
  if mode = 1 then (Config.prim .gcmTag [key, nonce, aad, ct] 16).take tag
  else Config.prim .ccmTag [key, nonce, aad, pt, leBytes 1 tag] tag

/-- CMAC or GMAC of a message, cut to TAG_LEN. -/
def macTag (mode tag : Nat) (key nonce msg : Bytes) : Bytes :=
  if mode = 0x10 then (Config.prim .cmac [key, msg] 16).take tag else (Config.prim .gmac [key, nonce, msg] 16).take tag

/-- The key fits the mode: AEAD for AES, and for XPN types in GCM only; MAC for AES (R377, R483). -/
def fitsMode (mode : Nat) (k : KeySlot) : Bool :=
  if isAead mode then bit k.attr atAead && (isAes k.ktype || (isXpn k.ktype && mode == 1))
  else bit k.attr atMac && isAes k.ktype

/-- How a failed tag or integrity check ends (R384, R385): zeros over the whole output area, or nothing with COMPAT. -/
def State.authFail (s : State) (c : Inflight) : Work :=
  .finish (s.bump Fd.HM_CNT_AUTHFAIL_COUNT)
    { status := .authFail, out := if c.compat then [] else List.replicate c.outLen 0 }

/-! ### AEAD (R378-R385) -/

/-- PARAM bytes of AEAD_ENCRYPT and AEAD_DECRYPT. -/
def aeadUsed : List (Nat × Nat) := [(0, 4), (4, 1), (5, 1), (6, 1), (8, 16), (24, 4)]

def encryptParams (c : Inflight) : Bool :=
  let n := c.inLen - c.aadLen
  slotFmt (c.p32 0) && isAead c.mode && modeOk c.mode c.nonceLen c.tagLen true && decide (c.aadLen ≤ c.inLen) &&
  textOk c.mode c.nonceLen n && decide (n + c.tagLen ≤ c.outLen)

/-- AEAD_ENCRYPT once its format holds. -/
def encryptWork (s : State) (c : Inflight) : Work :=
  match s.useSlot c.key.part (c.p32 0) (fitsMode c.mode) with
  | .bad r => s.refuse r
  | .ok k =>
    (s.takeUse (c.p32 0) c.countsDraw).andThen (fun s =>
      let nonce := s.nonceOf c
      let aad := c.input.take c.aadLen
      let pt := c.input.drop c.aadLen
      let ct := aeadText c.mode k.aesKey nonce pt
      .finish (s.drewNonce c)
        { status := .ok, result := s.nonceResult c, out := ct ++ aeadTag c.mode c.tagLen k.aesKey nonce aad pt ct })

def aeadEncryptInfo : OpInfo :=
  { code := 0x0201, used := aeadUsed, params := encryptParams, draws := Inflight.drawsNonce }

/-- AEAD_ENCRYPT (R376-R381, R387-R389). -/
def execAeadEncrypt (k : CmdKey) (s : State) : Host.Outcome State Fault Refusal :=
  .next (s.runCmd aeadEncryptInfo true encryptWork k)

def decryptParams (c : Inflight) : Bool :=
  let n := c.inLen - c.aadLen - c.tagLen
  slotFmt (c.p32 0) && isAead c.mode && modeOk c.mode c.nonceLen c.tagLen false &&
  decide (c.aadLen + c.tagLen ≤ c.inLen ∧ n ≤ 65536) && textOk c.mode c.nonceLen n && decide (n ≤ c.outLen)

/-- AEAD_DECRYPT once its format holds: nothing of the text is written unless the tag holds (R383-R386). -/
def decryptWork (s : State) (c : Inflight) : Work :=
  match s.useSlot c.key.part (c.p32 0) (fitsMode c.mode) with
  | .bad r => s.refuse r
  | .ok k =>
    (s.takeUse (c.p32 0) false).andThen (fun s =>
      let n := c.inLen - c.aadLen - c.tagLen
      let nonce := slice c.param 8 c.nonceLen
      let aad := c.input.take c.aadLen
      let ct := slice c.input c.aadLen n
      let pt := aeadText c.mode k.aesKey nonce ct
      if aeadTag c.mode c.tagLen k.aesKey nonce aad pt ct = slice c.input (c.aadLen + n) c.tagLen then
        .finish s { status := .ok, out := pt }
      else s.authFail c)

def aeadDecryptInfo : OpInfo := { code := 0x0202, used := aeadUsed, params := decryptParams }

/-- AEAD_DECRYPT (R376-R378, R381, R383-R389). -/
def execAeadDecrypt (k : CmdKey) (s : State) : Host.Outcome State Fault Refusal :=
  .next (s.runCmd aeadDecryptInfo true decryptWork k)

/-! ### MACs -/

/-- PARAM bytes of MAC_GENERATE and MAC_VERIFY. -/
def macUsed : List (Nat × Nat) := [(0, 4), (4, 1), (5, 1), (6, 1), (8, 16)]

def macGenParams (c : Inflight) : Bool :=
  slotFmt (c.p32 0) && isMac c.mode && modeOk c.mode c.nonceLen c.tagLen true && decide (c.tagLen ≤ c.outLen)

def macGenWork (s : State) (c : Inflight) : Work :=
  match s.useSlot c.key.part (c.p32 0) (fitsMode c.mode) with
  | .bad r => s.refuse r
  | .ok k =>
    (s.takeUse (c.p32 0) c.countsDraw).andThen (fun s =>
      .finish (s.drewNonce c)
        { status := .ok, result := s.nonceResult c, out := macTag c.mode c.tagLen k.aesKey (s.nonceOf c) c.input })

def macGenerateInfo : OpInfo := { code := 0x0203, used := macUsed, params := macGenParams, draws := Inflight.drawsNonce }

/-- MAC_GENERATE (R376-R381, R387-R389). -/
def execMacGenerate (k : CmdKey) (s : State) : Host.Outcome State Fault Refusal :=
  .next (s.runCmd macGenerateInfo true macGenWork k)

def macVerParams (c : Inflight) : Bool :=
  slotFmt (c.p32 0) && isMac c.mode && modeOk c.mode c.nonceLen c.tagLen false && decide (c.tagLen ≤ c.inLen) && c.outLen == 0

def macVerWork (s : State) (c : Inflight) : Work :=
  match s.useSlot c.key.part (c.p32 0) (fitsMode c.mode) with
  | .bad r => s.refuse r
  | .ok k =>
    (s.takeUse (c.p32 0) false).andThen (fun s =>
      let n := c.inLen - c.tagLen
      if macTag c.mode c.tagLen k.aesKey (slice c.param 8 c.nonceLen) (c.input.take n) = slice c.input n c.tagLen then
        .finish s .done
      else .finish (s.bump Fd.HM_CNT_AUTHFAIL_COUNT) (.fail .authFail))

def macVerifyInfo : OpInfo := { code := 0x0204, used := macUsed, params := macVerParams }

/-- MAC_VERIFY (R376-R378, R381, R386-R389). -/
def execMacVerify (k : CmdKey) (s : State) : Host.Outcome State Fault Refusal :=
  .next (s.runCmd macVerifyInfo true macVerWork k)

/-! ### AES-KW (R376, R378, R381, R383-R386) -/

def wrapParams (c : Inflight) : Bool :=
  slotFmt (c.p32 0) && decide (16 ≤ c.inLen ∧ c.inLen ≤ 65536 ∧ c.inLen + 8 ≤ c.outLen) && c.inLen % 8 == 0

def wrapWork (s : State) (c : Inflight) : Work :=
  match s.useSlot c.key.part (c.p32 0) (fun k => isAes k.ktype && bit k.attr atWrap) with
  | .bad r => s.refuse r
  | .ok k =>
    (s.takeUse (c.p32 0) false).andThen (fun s =>
      .finish s { status := .ok, out := Config.prim .kwWrap [k.aesKey, c.input] (c.inLen + 8) })

def dataWrapInfo : OpInfo := { code := 0x0205, used := [(0, 4)], params := wrapParams }

/-- DATA_WRAP (R378, R381, R387). -/
def execDataWrap (k : CmdKey) (s : State) : Host.Outcome State Fault Refusal :=
  .next (s.runCmd dataWrapInfo true wrapWork k)

def unwrapParams (c : Inflight) : Bool :=
  slotFmt (c.p32 0) && decide (24 ≤ c.inLen ∧ c.inLen ≤ 65544 ∧ c.inLen ≤ c.outLen + 8) && c.inLen % 8 == 0

def unwrapWork (s : State) (c : Inflight) : Work :=
  match s.useSlot c.key.part (c.p32 0) (fun k => isAes k.ktype && bit k.attr atUnwrap) with
  | .bad r => s.refuse r
  | .ok k =>
    (s.takeUse (c.p32 0) false).andThen (fun s =>
      if Config.primOk .kwCheck [k.aesKey, c.input] then
        .finish s { status := .ok, out := Config.prim .kwUnwrap [k.aesKey, c.input] (c.inLen - 8) }
      else s.authFail c)

def dataUnwrapInfo : OpInfo := { code := 0x0206, used := [(0, 4)], params := unwrapParams }

/-- DATA_UNWRAP (R378, R381, R383-R387). -/
def execDataUnwrap (k : CmdKey) (s : State) : Host.Outcome State Fault Refusal :=
  .next (s.runCmd dataUnwrapInfo true unwrapWork k)

/-! ### Digests (R404) -/

/-- Length of a fixed-length digest; 0 for SHAKE; none for an ALG not in the table. -/
def digestLen (alg : Nat) : Option Nat :=
  match alg with
  | 0x01 => some 32 | 0x02 => some 48 | 0x03 => some 64 | 0x11 => some 32 | 0x12 => some 48 | 0x13 => some 64
  | 0x21 => some 0 | 0x22 => some 0 | _ => none

/-- The digest of a message. -/
def digest (alg : Nat) (msg : Bytes) (n : Nat) : Bytes :=
  if alg < 0x10 then Config.prim .sha2 [leBytes 1 alg, msg] n
  else if alg < 0x20 then Config.prim .sha3 [leBytes 1 alg, msg] n
  else Config.prim .shake [leBytes 1 alg, msg] n

def sha384 (m : Bytes) : Bytes := digest 0x02 m 48

def digestParams (c : Inflight) : Bool :=
  match digestLen (c.p8 0) with
  | none => false
  | some 0 => decide (1 ≤ c.outLen ∧ c.outLen ≤ 65536)
  | some n => decide (n ≤ c.outLen)

def digestWork (s : State) (c : Inflight) : Work :=
  let n := match digestLen (c.p8 0) with | some 0 => c.outLen | some n => n | none => 0
  .finish s { status := .ok, out := digest (c.p8 0) c.input n }

def digestInfo : OpInfo := { code := 0x0207, used := [(0, 1)], params := digestParams }

/-- DIGEST (R404). -/
def execDigest (k : CmdKey) (s : State) : Host.Outcome State Fault Refusal :=
  .next (s.runCmd digestInfo true digestWork k)

end Sys2Proof.Machine
end

