-- ==== Sys2Proof/Machine/Crucible.lean ====
section
/-! DEFINITION. The Crucible's commands: creating, importing, deriving, destroying and exporting keys, counters, sealed
objects (13_crucible.md R486-R508). -/

namespace Sys2Proof.Machine

/-! ### The measurement and the root keys (R486-R488, R507) -/

/-- m from the component digests in tag order; an absent component counts as 48 zero bytes (R486). -/
def measure (digests : List (Nat × Bytes)) : Bytes :=
  [1, 2, 3, 4, 5, 6].foldl (fun m t => sha384 (m ++ leBytes 1 t ++ (mapGet digests t).getD (List.replicate 48 0)))
    (List.replicate 48 0)

/-- The component digests with an accepted debug grant as component 6 (R487). -/
def State.components (s : State) : List (Nat × Bytes) :=
  match s.keys.grant with
  | some g => mapPut s.keys.images 6 (sha384 g)
  | none => mapDel s.keys.images 6

/-- CDI (R486). -/
def State.cdi (s : State) : Bytes := kdf udsValue (ascii "FXCDI") s.keys.m 256

/-- Storage key of a binding (R488). -/
def State.storageKey (s : State) (b : Nat) : Bytes :=
  let seed := s.keys.seed.getD (List.replicate 32 0)
  if b = 0 then kdf udsValue (ascii "FXSK-U") seed 256
  else if b = 1 then kdf udsValue (ascii "FXSK-S") (seed ++ s.keys.signerId) 256
  else kdf s.cdi (ascii "FXSK-E") seed 256

/-- The words of m or signer_id in their registers (R510). -/
def State.showWords (s : State) (f : Nat → Fld) (b : Bytes) : State :=
  (List.range 12).foldl (fun t k => t.setFld (f k) (leAt b (4 * k) 4)) s

/-- Form m anew and show it, and with it the alias certificate (R486, R487, R510; 14 R532). -/
def State.remeasure (s : State) : State :=
  let s := State.draw { s with keys := { s.keys with m := measure s.components, aliasRnd := s.drawn 128 } } 128
  let s := s.showWords Fd.CR_MEAS_M s.keys.m
  (s.setFld Fd.CR_STAT_EXACT_OK (b2n s.keys.grant.isNone)).setFld Fd.CR_STAT_DEBUG (b2n s.keys.grant.isSome)

/-! ### Filling a slot (R491, R492, R496, R744) -/

/-- What a creating command puts into its slot. -/
structure KeySpec where
  ktype : Nat
  binding : Nat
  attr : Nat
  limit : Nat
  deriving DecidableEq, Repr

/-- SLOT, KEYTYPE, BINDING, ATTR and LIMIT of PARAM. -/
def Inflight.keySpec (c : Inflight) : KeySpec :=
  { ktype := c.p16 4, binding := c.p8 6, attr := c.p32 8, limit := c.p64 12 }

/-- Step 4 of R491 for the target: the index in range or 0xFFFF. -/
def targetFmt (n : Nat) : Bool := slotFmt n && (slotIndex n == 0xFFFF || slotInRange n)

/-- Step 4 of R491: type known, binding, attributes and limit in range. -/
def KeySpec.ok (k : KeySpec) : Bool :=
  (materialLen k.ktype).isSome && decide (k.binding < 3) && attrOk k.ktype k.attr && decide (k.limit < 2 ^ 48)

/-- Base of the kind of slot n. -/
def slotBase (n : Nat) : Nat := if slotVolatile n then 2 ^ 31 else 0

/-- Steps 6 and 7 of R491: the slot a creation fills, or how it is refused. -/
inductive Target
  | slot (n : Nat)
  | refused (r : Reply)
  deriving DecidableEq, Repr

/-- The slot that a SLOT value with an index names, if it is held. -/
def State.namedSlot (s : State) (n : Nat) : Option KeySlot := if slotIndex n = 0xFFFF then none else s.slot? n

/-- Step 6 of R491 for the target: a named index that is held must be this partition's, REPLACEABLE and no counter. -/
def State.targetHeld (s : State) (p n : Nat) : Option Reply :=
  match s.namedSlot n with
  | some k =>
    if k.owner ≠ p then some { status := .badParam, detail := 0x0D02 }
    else if !bit k.attr atReplaceable || k.ktype = 0x20 then some { status := .badParam, detail := 0x0D03 }
    else none
  | none => none

/-- Steps 6 and 7 of R491 for the target of partition p. -/
def State.target (s : State) (p n : Nat) : Target :=
  let vol := slotVolatile n
  match s.targetHeld p n, s.namedSlot n with
  | some r, _ => .refused r
  | none, some _ => .slot n
  | none, none =>
    let quota := match s.part? p with | some q => (if vol then q.cfg.vslotQuota else q.cfg.pslotQuota) | none => 0
    let used := (s.keys.slots.filter (fun c => slotVolatile c.1 == vol)).map (fun c => slotIndex c.1) ++
      (if vol then [] else s.keys.withheld)
    if quota ≤ s.slotsHeld p vol then .refused (.fail .noSlot)
    else if slotIndex n = 0xFFFF then
      match firstFree used 0 (if vol then 32768 else 8192) with
      | some i => .slot (slotBase n + i)
      | none => .refused (.fail .noSlot)
    else if used.contains (slotIndex n) then .refused (.fail .noSlot)
    else .slot n

/-- Generation of the next record of a slot: one above its record or tombstone; 0 for a volatile slot (R490, R508). -/
def State.nextGen (s : State) (n : Nat) : Nat :=
  if slotVolatile n then 0
  else match s.slot? n with
    | some k => k.gen + 1
    | none => mapRead 0 s.keys.tombs n + 1

/-- A slot filled or replaced: USES and DN start at 0, the marks at their first values (R489, R493, R494, R499). -/
def State.fillSlot (s : State) (p n : Nat) (k : KeySpec) (material : Bytes) : State :=
  let s' := s.writeSlot n {
    owner := p, ktype := k.ktype, binding := k.binding, attr := k.attr,
    svnFloor := if k.binding = 1 then s.keys.svn else 0, limit := if k.limit = 0 then 2 ^ 48 - 1 else k.limit, uses := 0,
    useMark := 65536, dn := 0, dnMark := 131072, gen := s.nextGen n, bindHash := s.bindNow k.binding,
    material := material, limitSaid := false, drawnSaid := false }
  { s' with keys := { s'.keys with tombs := mapDel s'.keys.tombs n } }

/-- A change of slot n commits durably where the slot is persistent (R496), else at once (R498). -/
def commitSlot (n : Nat) (s : State) (r : Reply) : Work := if slotVolatile n then .finish s r else .commit s r

/-- RESULT of a creating command (R744). -/
def slotResult (n : Nat) : Reply := { status := .ok, result := leBytes 4 n }

/-- Life cycle of R491. -/
def State.lifeKeys (s : State) : Bool := s.life == 4 || s.life == 5

/-- PARAM of KEY_GENERATE and of the commands that add a second slot. -/
def genUsed : List (Nat × Nat) := [(0, 4), (4, 2), (6, 1), (8, 4), (12, 8)]

/-- KEY_GENERATE: drawn material for a symmetric key (R492). -/
def generateWork (s : State) (c : Inflight) : Work :=
  match s.target c.key.part (c.p32 0) with
  | .refused r => .finish s r
  | .slot n =>
    let len := (materialLen c.keySpec.ktype).getD 0
    commitSlot n ((s.draw len).fillSlot c.key.part n c.keySpec (s.drawn len)) (slotResult n)

def keyGenerateInfo : OpInfo :=
  { code := 0x0101, used := genUsed, slotAt := some 0, draws := fun _ => true,
    params := fun c => targetFmt (c.p32 0) && c.keySpec.ok && isSymmetric c.keySpec.ktype }

/-- KEY_GENERATE (R491, R492, R744). -/
def execKeyGenerate (k : CmdKey) (s : State) : Host.Outcome State Fault Refusal :=
  .next (s.runCmd keyGenerateInfo s.lifeKeys generateWork k)

/-- KEY_IMPORT: the input unwrapped under the wrapping slot (R492). -/
def importWork (s : State) (c : Inflight) : Work :=
  match s.targetHeld c.key.part (c.p32 0), s.useSlot c.key.part (c.p32 20) (fun k => isAes k.ktype && bit k.attr atUnwrap) with
  | some r, _ => .finish s r
  | _, .bad r => s.refuse r
  | _, .ok w =>
    match s.target c.key.part (c.p32 0) with
    | .refused r => .finish s r
    | .slot n =>
      (s.takeUse (c.p32 20) false).andThen (fun s =>
        if Config.primOk .kwCheck [w.aesKey, c.input] then
          commitSlot n (s.fillSlot c.key.part n c.keySpec (Config.prim .kwUnwrap [w.aesKey, c.input] (c.inLen - 8)))
            (slotResult n)
        else .finish (s.bump Fd.HM_CNT_AUTHFAIL_COUNT) (.fail .authFail))

def keyImportInfo : OpInfo :=
  { code := 0x0102, used := (20, 4) :: genUsed, slotAt := some 0,
    params := fun c => targetFmt (c.p32 0) && slotFmt (c.p32 20) && c.keySpec.ok && c.keySpec.ktype != 0x20 &&
      c.inLen == (materialLen c.keySpec.ktype).getD 0 + 8 }

/-- KEY_IMPORT (R491, R492, R744). -/
def execKeyImport (k : CmdKey) (s : State) : Host.Outcome State Fault Refusal :=
  .next (s.runCmd keyImportInfo s.lifeKeys importWork k)

/-- The child's material (R495). -/
def childMaterial (p : Nat) (k : KeySpec) (parent context : Bytes) : Bytes :=
  kdf parent (ascii "FXKD") (beBytes 1 p ++ beBytes 2 k.ktype ++ beBytes 1 k.binding ++ beBytes 4 k.attr ++ context)
    (8 * (materialLen k.ktype).getD 0)

/-- KEY_DERIVE (R495). -/
def deriveWork (s : State) (c : Inflight) : Work :=
  match s.targetHeld c.key.part (c.p32 0), s.useSlot c.key.part (c.p32 20) (fun k => bit k.attr atDerive) with
  | some r, _ => .finish s r
  | _, .bad r => s.refuse r
  | _, .ok w =>
    if c.keySpec.binding < w.binding || (bit c.keySpec.attr atExportable && !bit w.attr atExportable) then
      .finish s { status := .badParam, detail := 0x0D04 }
    else match s.target c.key.part (c.p32 0) with
    | .refused r => .finish s r
    | .slot n =>
      (s.takeUse (c.p32 20) false).andThen (fun s =>
        commitSlot n (s.fillSlot c.key.part n c.keySpec (childMaterial c.key.part c.keySpec w.material c.input))
          (slotResult n))

def keyDeriveInfo : OpInfo :=
  { code := 0x0103, used := (20, 4) :: genUsed, slotAt := some 0, maxIn := 256,
    params := fun c => targetFmt (c.p32 0) && slotFmt (c.p32 20) && c.keySpec.ok && c.keySpec.ktype != 0x20 }

/-- KEY_DERIVE (R491, R495, R744). -/
def execKeyDerive (k : CmdKey) (s : State) : Host.Outcome State Fault Refusal :=
  .next (s.runCmd keyDeriveInfo s.lifeKeys deriveWork k)

/-! ### Destruction, export, information (R500, R501, R508) -/

/-- Destroy slot n: material gone; for a persistent slot a tombstone of the next generation, and the position that held
the key is erased (R500; 16 R582). -/
def State.destroySlot (s : State) (n : Nat) : State :=
  let g := s.nextGen n
  let t := { s with keys := { s.keys with
      slots := mapDel s.keys.slots n, tombs := if slotVolatile n then s.keys.tombs else mapPut s.keys.tombs n g } }
  if slotVolatile n then t
  else (t.writePage (slotPage n g)).markPages [slotPage n (g + 1)]

def destroyWork (s : State) (c : Inflight) : Work :=
  match s.ownSlot c.key.part (c.p32 0) with
  | none => .finish s { status := .badParam, detail := 0x0D02 }
  | some _ => commitSlot (c.p32 0) (s.destroySlot (c.p32 0)) .done

def keyDestroyInfo : OpInfo :=
  { code := 0x0104, used := [(0, 4)], slotAt := some 0, params := fun c => slotFmt (c.p32 0) }

/-- KEY_DESTROY (R499, R500). -/
def execKeyDestroy (k : CmdKey) (s : State) : Host.Outcome State Fault Refusal :=
  .next (s.runCmd keyDestroyInfo true destroyWork k)

def exportWork (s : State) (c : Inflight) : Work :=
  match s.useSlot c.key.part (c.p32 0) (fun k => bit k.attr atExportable),
        s.useSlot c.key.part (c.p32 4) (fun k => isAes k.ktype && bit k.attr atWrap) with
  | .bad r, _ => s.refuse r
  | _, .bad r => s.refuse r
  | .ok k, .ok w =>
    if c.outLen < k.material.length + 8 then .finish s (.fail .badParam)
    else (s.takeUse (c.p32 4) false).andThen (fun s =>
      .finish s { status := .ok, out := Config.prim .kwWrap [w.aesKey, k.material] (k.material.length + 8) })

def keyExportInfo : OpInfo :=
  { code := 0x0105, used := [(0, 4), (4, 4)], params := fun c => slotFmt (c.p32 0) && slotFmt (c.p32 4) }

/-- KEY_EXPORT (R501). -/
def execKeyExport (k : CmdKey) (s : State) : Host.Outcome State Fault Refusal :=
  .next (s.runCmd keyExportInfo true exportWork k)

/-- Size of a type's public key (14 R512). -/
def pubLen (t : Nat) : Nat :=
  match t with
  | 0x0101 => 65 | 0x0102 => 97 | 0x0103 => 32 | 0x0104 => 32 | 0x0201 => 1184 | 0x0202 => 1568 | 0x0211 => 1952
  | 0x0212 => 2592 | _ => 0

/-- The public key of a private key's material. -/
def publicKey (t : Nat) (material : Bytes) : Bytes := Config.prim .pubKey [leBytes 2 t, material] (pubLen t)

/-- CHECK of KEY_INFO (R508). -/
def KeySlot.check (k : KeySlot) : Bytes :=
  if k.ktype = 0x20 then k.material ++ List.replicate 8 0
  else if isSymmetric k.ktype then (Config.prim .cmac [k.aesKey, List.replicate 16 0] 16).take 8 ++ List.replicate 8 0
  else (digest 0x01 (publicKey k.ktype k.material) 32).take 16

/-- The 64 bytes of KEY_INFO (R508). -/
def State.keyInfo (s : State) (n : Nat) (k : KeySlot) : Bytes :=
  let ok := s.bindOk n k
  let st := if !ok then 1 else if k.ktype ≠ 0x20 && (k.limit ≤ k.uses || 2 ^ 32 ≤ k.dn) then 2 else 0
  leBytes 4 n ++ leBytes 2 k.ktype ++ leBytes 1 k.binding ++ leBytes 1 st ++ leBytes 4 k.attr ++ leBytes 4 k.svnFloor ++
  leBytes 8 k.limit ++ leBytes 8 k.uses ++ leBytes 4 k.gen ++ leBytes 4 (satTo (2 ^ 32 - 1) k.dn) ++ List.replicate 8 0 ++
  (if ok then k.check else List.replicate 16 0)

def infoWork (s : State) (c : Inflight) : Work :=
  match s.ownSlot c.key.part (c.p32 0) with
  | none => .finish s { status := .badParam, detail := 0x0D02 }
  | some k => .finish s { status := .ok, out := s.keyInfo (c.p32 0) k }

def keyInfoInfo : OpInfo :=
  { code := 0x0106, used := [(0, 4)], minOut := 64, params := fun c => slotFmt (c.p32 0) }

/-- KEY_INFO (R508). -/
def execKeyInfo (k : CmdKey) (s : State) : Host.Outcome State Fault Refusal :=
  .next (s.runCmd keyInfoInfo true infoWork k)

/-! ### Counters (R502) -/

/-- COUNTER_CREATE: a counter with value 0 (R491, R492). -/
def counterCreateWork (s : State) (c : Inflight) : Work :=
  match s.target c.key.part (c.p16 0) with
  | .refused r => .finish s r
  | .slot n =>
    .commit (s.fillSlot c.key.part n { ktype := 0x20, binding := 0, attr := 0, limit := 0 } (List.replicate 8 0))
      (slotResult n)

def counterCreateInfo : OpInfo :=
  { code := 0x0107, used := [(0, 2)], durable := true, params := fun c => targetFmt (c.p16 0) }

def execCounterCreate (k : CmdKey) (s : State) : Host.Outcome State Fault Refusal :=
  .next (s.runCmd counterCreateInfo s.lifeKeys counterCreateWork k)

/-- The counter a command names (R485). -/
def State.useCounter (s : State) (p n : Nat) : SlotUse :=
  match s.ownSlot p n with
  | none => .bad { status := .badParam, detail := 0x0D02 }
  | some k => if k.ktype = 0x20 then .ok k else .bad { status := .badParam, detail := 0x0D01 }

def counterIncWork (s : State) (c : Inflight) : Work :=
  match s.useCounter c.key.part (c.p16 0) with
  | .bad r => .finish s r
  | .ok k =>
    let v := leNat k.material + c.p32 4
    if 2 ^ 64 ≤ v then .finish s { status := .badParam, detail := 0x0D05 }
    else .commit (s.writeSlot (c.p16 0) { k with material := leBytes 8 v, gen := k.gen + 1 })
      { status := .ok, result := leBytes 8 v }

def counterIncrementInfo : OpInfo :=
  { code := 0x0108, used := [(0, 2), (4, 4)], durable := true, params := fun c => c.p32 4 != 0 }

/-- COUNTER_INCREMENT (R485, R502). -/
def execCounterIncrement (k : CmdKey) (s : State) : Host.Outcome State Fault Refusal :=
  .next (s.runCmd counterIncrementInfo true counterIncWork k)

def counterReadWork (s : State) (c : Inflight) : Work :=
  match s.useCounter c.key.part (c.p16 0) with
  | .bad r => .finish s r
  | .ok k => .finish s { status := .ok, result := k.material }

def counterReadInfo : OpInfo := { code := 0x0109, used := [(0, 2)] }

/-- COUNTER_READ (R485, R502). -/
def execCounterRead (k : CmdKey) (s : State) : Host.Outcome State Fault Refusal :=
  .next (s.runCmd counterReadInfo true counterReadWork k)

/-! ### Sealed objects (R503, R504) -/

/-- seal_key under binding b and floor (R503). -/
def State.sealKey (s : State) (material : Bytes) (b floor : Nat) : Bytes :=
  let v := if b = 2 then s.keys.m else if b = 1 then s.keys.signerId else []
  kdf material (ascii "FXSEAL") (leBytes 1 b ++ v ++ beBytes 4 floor) 256

/-- The 44-byte header of a sealed object. -/
def State.sealHeader (s : State) (b floor : Nat) (nonce : Bytes) (len : Nat) : Bytes :=
  ascii "FXSL" ++ [1] ++ leBytes 1 b ++ [0, 0] ++ leBytes 4 floor ++ nonce ++ leBytes 4 len ++ s.bindNow b

def sealFits (k : KeySlot) : Bool := k.ktype == 2 && bit k.attr atSeal

/-- EXACT binding is refused under a debug grant (R487). -/
def State.exactRefused (s : State) (b : Nat) : Bool := b == 2 && s.keys.grant.isSome

def sealWork (s : State) (c : Inflight) : Work :=
  match s.useSlot c.key.part (c.p32 0) sealFits with
  | .bad r => s.refuse r
  | .ok k =>
    let b := if c.p8 4 = 0xFF then k.binding else c.p8 4
    if b < k.binding then .finish s (.fail .badParam)
    else if s.exactRefused b then s.refuse (.fail .keyBoundMismatch)
    else (s.takeUse (c.p32 0) false).andThen (fun s =>
      let nonce := s.drawn 12
      let floor := if b = 1 then s.keys.svn else 0
      let h := s.sealHeader b floor nonce c.inLen
      let x := gcmSeal (s.sealKey k.material b floor) nonce h c.input
      .finish (s.drawAt (s.drawHalf c) 12) { status := .ok, out := h ++ x.1 ++ x.2 })

def sealInfo : OpInfo :=
  { code := 0x010A, used := [(0, 4), (4, 1)], maxIn := 65536, draws := fun _ => true,
    params := fun c => slotFmt (c.p32 0) && (decide (c.p8 4 < 3) || c.p8 4 == 0xFF) && decide (c.inLen + 60 ≤ c.outLen) }

/-- SEAL (R503). -/
def execSeal (k : CmdKey) (s : State) : Host.Outcome State Fault Refusal := .next (s.runCmd sealInfo true sealWork k)

/-- A well-formed header (R504). -/
def sealedOk (c : Inflight) : Bool :=
  let b := c.input
  decide (60 ≤ c.inLen) && b.take 4 == ascii "FXSL" && leAt b 4 1 == 1 && decide (leAt b 5 1 < 3) && leAt b 6 2 == 0 &&
  leAt b 24 4 + 60 == c.inLen && (leAt b 5 1 == 1 || leAt b 8 4 == 0)

def unsealWork (s : State) (c : Inflight) : Work :=
  match s.useSlot c.key.part (c.p32 0) sealFits with
  | .bad r => s.refuse r
  | .ok k =>
    let b := leAt c.input 5 1
    let floor := leAt c.input 8 4
    let n := leAt c.input 24 4
    if slice c.input 28 16 ≠ s.bindNow b || s.keys.svn < floor || s.exactRefused b then s.refuse (.fail .keyBoundMismatch)
    else (s.takeUse (c.p32 0) false).andThen (fun s =>
      match gcmOpen (s.sealKey k.material b floor) (slice c.input 12 12) (c.input.take 44) (slice c.input 44 n)
          (slice c.input (44 + n) 16) with
      | some pt => .finish s { status := .ok, out := pt }
      | none => s.authFail c)

def unsealInfo : OpInfo :=
  { code := 0x010B, used := [(0, 4)], maxIn := 65596,
    params := fun c => slotFmt (c.p32 0) && sealedOk c && decide (c.inLen ≤ c.outLen + 60) }

/-- UNSEAL (R504, with R383-R385). -/
def execUnseal (k : CmdKey) (s : State) : Host.Outcome State Fault Refusal := .next (s.runCmd unsealInfo true unsealWork k)

/-! ### Quench levels (R505, R506) -/

/-- Every slot with this property is destroyed, without tombstones for volatile ones. -/
def State.dropSlots (s : State) (p : Nat → KeySlot → Bool) : State :=
  { s with keys := { s.keys with slots := s.keys.slots.filter (fun c => !p c.1 c.2) } }

/-- A Quench level commits: QUENCH keeps the highest, its interrupt occurs (R505, R510). -/
def State.noteQuench (s : State) (level : Nat) : State :=
  (s.setFld Fd.CR_STAT_QUENCH (max level (s.fld Fd.CR_STAT_QUENCH))).raise 0x090000 2

/-- Q1 of partition p (R505). -/
def State.quench1 (s : State) (p : Nat) : State :=
  (s.dropSlots (fun n k => slotVolatile n && k.owner == p)).noteQuench 1

/-- Q2: every volatile slot, session key and save record; access sessions end (R505). -/
def State.quench2 (s : State) : State :=
  let s := s.dropSlots (fun n _ => slotVolatile n)
  { s with
    acc := { s.acc with session := none, queued := [] }, uwb := { s.uwb with fob := none, round := none, stsHeld := [] },
    units := { s.units with running := [], waiting := [], started := [], staged := [], owed := [] } }

/-- Q3: the storage seed and every persistent slot, counters and fob records included; SPILL_KEY is erased (R505). -/
def State.quench3 (s : State) : State :=
  let s := s.quench2
  let pages := ((s.keys.slots.filter (fun c => !slotVolatile c.1)).map (·.1) ++ s.keys.tombs.map (·.1)).flatMap
    (fun n => [slotPage n 0, slotPage n 1])
  let s := s.markPages pages
  { s with
    keys := { s.keys with slots := [], tombs := [], withheld := [], seed := none },
    acc := { s.acc with fobs := [] },
    spill := { s.spill with key := [] } }

/-- Q4: the UDS cells are programmed; the life cycle is SCRAP (R505). -/
def State.quench4 (s : State) : State :=
  let s := s.quench3
  { s with keys := { s.keys with udsGone := true }, life := 7 }

end Sys2Proof.Machine
end

