-- ==== Sys2Proof/Machine/Anvils.lean ====
section
/-! DEFINITION. The public-key commands, signed images and attestation (14_anvils.md R511-R533). -/

namespace Sys2Proof.Machine

/-! ### Algorithms and sizes (R511, R512) -/

/-- KEYTYPE of a signing algorithm's private key; the first of two for a hybrid. -/
def signType (alg : Nat) : Option Nat :=
  match alg with
  | 0x01 => some 0x101 | 0x02 => some 0x102 | 0x03 => some 0x103 | 0x30 => some 0x211 | 0x31 => some 0x212
  | 0x40 => some 0x102 | 0x41 => some 0x101 | _ => none

def isHybrid (alg : Nat) : Bool := alg == 0x40 || alg == 0x41

/-- The classical component of a hybrid. -/
def hybridClassic (alg : Nat) : Nat := if alg = 0x40 then 0x02 else 0x01

/-- Signature size of a non-RSA algorithm. -/
def sigLen (alg : Nat) : Nat :=
  match alg with
  | 0x01 => 64 | 0x02 => 96 | 0x03 => 64 | 0x30 => 3309 | 0x31 => 4627 | 0x40 => 3405 | 0x41 => 3373 | _ => 0

/-- Public key size of a signing algorithm. -/
def sigPubLen (alg : Nat) : Nat :=
  match alg with
  | 0x01 => 65 | 0x02 => 97 | 0x03 => 32 | 0x30 => 1952 | 0x31 => 2592 | 0x40 => 2049 | 0x41 => 2017 | _ => 0

def isRsa (alg : Nat) : Bool := decide (0x10 ≤ alg ∧ alg ≤ 0x13)

/-- KEYTYPE and secret size of an agreement algorithm. -/
def agreeType (alg : Nat) : Option (Nat × Nat) :=
  match alg with
  | 0x04 => some (0x101, 32) | 0x05 => some (0x102, 48) | 0x06 => some (0x104, 32) | _ => none

/-- Key type, encapsulation key and ciphertext sizes of a KEM algorithm. -/
def kemSizes (alg : Nat) : Option (Nat × Nat × Nat) :=
  match alg with
  | 0x20 => some (0x201, 1184, 1088) | 0x21 => some (0x202, 1568, 1568) | _ => none

/-! ### Public inputs (R513) -/

/-- A point of ALG on its curve, well encoded. -/
def pointGood (alg : Nat) (pub : Bytes) : Bool :=
  (alg == 0x03 || pub.take 1 == [0x04]) && Config.primOk .pointOk [leBytes 1 alg, pub]

/-- The key checks of R513 for a verification. -/
def verifyKeyGood (alg : Nat) (pub : Bytes) : Bool :=
  if isRsa alg then
    bit (beNat (pub.drop 4)) 0 && pub.getD 4 0 != 0 && bit (beAt pub 0 4) 0 && decide (3 ≤ beAt pub 0 4)
  else if isHybrid alg then pointGood (hybridClassic alg) (pub.take (sigPubLen (hybridClassic alg)))
  else if alg = 0x30 || alg = 0x31 then true
  else pointGood alg pub

/-- One signature verifies; hybrids need both parts (R518). -/
def sigVerifies (alg : Nat) (pub msg sig : Bytes) : Bool :=
  if isHybrid alg then
    let k := sigPubLen (hybridClassic alg)
    let n := sigLen (hybridClassic alg)
    let a := Config.primOk .verify [leBytes 1 (hybridClassic alg), pub.take k, msg, sig.take n]
    let b := Config.primOk .verify [leBytes 1 0x30, pub.drop k, msg, sig.drop n]
    a && b
  else if isRsa alg then
    decide (beNat sig < beNat (pub.drop 4)) && Config.primOk .verify [leBytes 1 alg, pub, msg, sig]
  else Config.primOk .verify [leBytes 1 alg, pub, msg, sig]

/-- One signature with its randomness (R517). -/
def signOne (alg : Nat) (material msg rnd : Bytes) : Bytes :=
  Config.prim .sign [leBytes 1 alg, material, msg, rnd] (sigLen alg)

/-- Random bytes a signature draws: k or rnd, and blinding (R517). -/
def signDraw : Nat := 64

/-- A signature under one or two keys (R516, R518). -/
def signWith (alg : Nat) (m1 m2 msg rnd : Bytes) : Bytes :=
  if isHybrid alg then signOne (hybridClassic alg) m1 msg (rnd.take signDraw) ++ signOne 0x30 m2 msg (rnd.drop signDraw)
  else signOne alg m1 msg (rnd.take signDraw)

/-- An Anvil operation is counted when it completes (R534). -/
def State.countOp (s : State) : State := s.bump Fd.AV_CNT_OPS_COUNT

/-! ### PK_KEYGEN (R492, R512) -/

/-- A private slot for ALG: held, its type matching (0x0E04), with the attribute, its binding kept (R485, R513). -/
def State.usePrivate (s : State) (p n t attr : Nat) : SlotUse :=
  match s.ownSlot p n with
  | none => .bad { status := .badParam, detail := 0x0D02 }
  | some k =>
    if k.ktype ≠ t then .bad { status := .badParam, detail := 0x0E04 }
    else s.useSlot p n (fun k => bit k.attr attr)

def keygenSpec (c : Inflight) : KeySpec := { ktype := c.p16 4, binding := c.p8 6, attr := c.p32 8, limit := 0 }

def keygenWork (s : State) (c : Inflight) : Work :=
  match s.target c.key.part (c.p32 0) with
  | .refused r => .finish s r
  | .slot n =>
    let k := keygenSpec c
    let len := (materialLen k.ktype).getD 0
    let m := s.drawn len
    commitSlot n (((s.draw len).fillSlot c.key.part n k m).countOp) { slotResult n with out := publicKey k.ktype m }

def pkKeygenInfo : OpInfo :=
  { code := 0x0301, used := [(0, 4), (4, 2), (6, 1), (8, 4)], slotAt := some 0, draws := fun _ => true,
    params := fun c => targetFmt (c.p32 0) && decide (0x100 ≤ c.p16 4) && (keygenSpec c).ok &&
      decide (pubLen (c.p16 4) ≤ c.outLen) }

/-- PK_KEYGEN (R491, R492, R511, R512, R744). -/
def execPkKeygen (k : CmdKey) (s : State) : Host.Outcome State Fault Refusal :=
  .next (s.runCmd pkKeygenInfo s.lifeKeys keygenWork k)

/-! ### Signatures (R515-R519) -/

def signParams (c : Inflight) : Bool :=
  let a := c.p8 8
  (signType a).isSome && slotFmt (c.p32 0) && (if isHybrid a then slotFmt (c.p32 4) else c.p32 4 == 0) &&
  (a != 0x03 || decide (c.inLen ≤ 65536)) && decide (sigLen a ≤ c.outLen)

def signWork (s : State) (c : Inflight) : Work :=
  let a := c.p8 8
  let p := c.key.part
  match s.usePrivate p (c.p32 0) ((signType a).getD 0) atSign with
  | .bad r => s.refuse r
  | .ok k1 =>
    if isHybrid a then
      match s.usePrivate p (c.p32 4) 0x211 atSign with
      | .bad r => s.refuse r
      | .ok k2 =>
        (s.takeUses [c.p32 0, c.p32 4]).andThen (fun s =>
          .finish ((s.drawAt (s.drawHalf c) (2 * signDraw)).countOp)
            { status := .ok, out := signWith a k1.material k2.material c.input (s.drawn (2 * signDraw)) })
    else (s.takeUse (c.p32 0) false).andThen (fun s =>
      .finish ((s.drawAt (s.drawHalf c) signDraw).countOp) { status := .ok, out := signWith a k1.material [] c.input (s.drawn signDraw) })

def pkSignInfo : OpInfo :=
  { code := 0x0302, used := [(0, 4), (4, 4), (8, 1)], params := signParams, draws := fun _ => true }

/-- PK_SIGN (R511, R515-R518). -/
def execPkSign (k : CmdKey) (s : State) : Host.Outcome State Fault Refusal := .next (s.runCmd pkSignInfo true signWork k)

/-- ALG of PK_VERIFY is listed (R511). -/
def verifyAlg (a : Nat) : Bool := isRsa a || sigPubLen a != 0

/-- The lengths of R513. -/
def verifyLens (c : Inflight) : Bool :=
  let a := c.p8 0
  let pub := c.p32 4
  let rest := c.inLen - pub - c.p32 8
  decide (pub + c.p32 8 ≤ c.inLen) &&
  (if isRsa a then decide (260 ≤ pub ∧ pub ≤ 516) && rest == pub - 4 else pub == sigPubLen a && rest == sigLen a)

def verifyWork (s : State) (c : Inflight) : Work :=
  let a := c.p8 0
  let n := c.p32 4
  let pub := c.input.take n
  if !verifyKeyGood a pub then .finish s { status := .badParam, detail := 0x0E02 }
  else if sigVerifies a pub (slice c.input n (c.p32 8)) (c.input.drop (n + c.p32 8)) then .finish s.countOp .done
  else .finish (s.countOp.bump Fd.AV_CNT_CHECK_VERIFY_FAIL) (.fail .authFail)

def pkVerifyInfo : OpInfo :=
  { code := 0x0303, used := [(0, 1), (4, 4), (8, 4)],
    params := fun c => verifyAlg (c.p8 0) && verifyLens c && (c.p8 0 != 0x03 || decide (c.p32 8 ≤ 65536)),
    paramDetail := fun c => if verifyAlg (c.p8 0) && !verifyLens c then 0x0E01 else 0 }

/-- PK_VERIFY (R511, R513, R515, R518). -/
def execPkVerify (k : CmdKey) (s : State) : Host.Outcome State Fault Refusal :=
  .next (s.runCmd pkVerifyInfo true verifyWork k)

/-! ### Agreement and encapsulation (R514, R520, R521) -/

/-- The key derivation key that result slot n holds, into which a secret is combined (R521). -/
def State.combined (s : State) (p n : Nat) : Option KeySlot := if slotIndex n = 0xFFFF then none else s.ownSlot p n

/-- Steps 6 and 7 of R202 for result slot n: what it holds takes a secret and its binding holds, the public input passes its own
checks, and then a creation finds room (R513, R520, R521). -/
def State.secretCheck (s : State) (p n : Nat) (input : Option Reply) : Option Reply :=
  match s.combined p n with
  | some k =>
    if k.ktype ≠ 0x10 || !bit k.attr atDerive || !bit k.attr atReplaceable then some { status := .badParam, detail := 0x0D03 }
    else if !s.bindOk n k then some (.fail .keyBoundMismatch)
    else input
  | none => match s.target p n with
    | .refused r => if r.status = .noSlot then input <|> some r else some r
    | .slot _ => input

/-- The uses that storing a secret in slot n takes: one of the key it is combined into (R521; 10 R387). -/
def State.secretUses (s : State) (p n : Nat) : List Nat := if (s.combined p n).isSome then [n] else []

/-- Put a raw secret into the result slot, which secretCheck has passed: a fresh key derivation key, or combined into the one held
(R520, R521). -/
def State.storeSecret (s : State) (c : Inflight) (n alg binding : Nat) (secret out : Bytes) : Work :=
  let p := c.key.part
  match s.combined p n with
  | some k =>
    let m := kdf k.material (ascii "FXHYB") (leBytes 1 alg ++ secret) 256
    commitSlot n ((s.fillSlot p n { ktype := 0x10, binding := max k.binding binding, attr := k.attr, limit := 0 } m).countOp)
      { slotResult n with out := out }
  | none =>
    match s.target p n with
    | .refused r => .finish s r
    | .slot n =>
      let m := (sha384 (ascii "FXSS" ++ leBytes 1 alg ++ secret)).take 32
      commitSlot n ((s.fillSlot p n { ktype := 0x10, binding := binding, attr := 0x420, limit := 0 } m).countOp)
        { slotResult n with out := out }

/-- The checks of a peer's public key and of the secret z it gives (R513). -/
def peerCheck (alg : Nat) (peer z : Bytes) : Option Reply :=
  if alg ≠ 0x06 && !(peer.take 1 == [0x04] && Config.primOk .pointOk [leBytes 1 alg, peer]) then
    some { status := .badParam, detail := 0x0E02 }
  else if alg = 0x06 && allZero z then some { status := .badParam, detail := 0x0E03 }
  else none

def agreeWork (s : State) (c : Inflight) : Work :=
  let a := c.p8 8
  match agreeType a with
  | none => .finish s (.fail .badParam)
  | some (t, n) =>
    match s.usePrivate c.key.part (c.p32 0) t atAgree with
    | .bad r => s.refuse r
    | .ok k =>
    let z := Config.prim .agree [leBytes 1 a, k.material, c.input] n
    match s.secretCheck c.key.part (c.p32 4) (peerCheck a c.input z) with
    | some r => s.refuse r
    | none =>
      (s.takeUses (c.p32 0 :: s.secretUses c.key.part (c.p32 4))).andThen (fun s =>
        s.storeSecret c (c.p32 4) a k.binding z [])

def agreeLenOk (c : Inflight) : Bool := match agreeType (c.p8 8) with | some (t, _) => c.inLen == pubLen t | none => false

def pkAgreeInfo : OpInfo :=
  { code := 0x0304, used := [(0, 4), (4, 4), (8, 1)], slotAt := some 4,
    params := fun c => slotFmt (c.p32 0) && targetFmt (c.p32 4) && agreeLenOk c,
    paramDetail := fun c => if (agreeType (c.p8 8)).isSome && !agreeLenOk c then 0x0E01 else 0 }

/-- PK_AGREE (R511, R513, R520, R521, R744). -/
def execPkAgree (k : CmdKey) (s : State) : Host.Outcome State Fault Refusal :=
  .next (s.runCmd pkAgreeInfo s.lifeKeys agreeWork k)

def encapsWork (s : State) (c : Inflight) : Work :=
  match kemSizes (c.p8 4) with
  | none => .finish s (.fail .badParam)
  | some (_, _, ct) =>
    let alg := leBytes 1 (c.p8 4)
    let bad : Option Reply :=
      if Config.primOk .pointOk [alg, c.input] then none else some { status := .badParam, detail := 0x0E02 }
    match s.secretCheck c.key.part (c.p32 0) bad with
    | some r => s.refuse r
    | none =>
    (s.takeUses (s.secretUses c.key.part (c.p32 0))).andThen (fun s =>
      let r := s.drawn 32
      (s.draw 32).storeSecret c (c.p32 0) (c.p8 4) 0 (Config.prim .kemSecret [alg, c.input, r] 32)
        (Config.prim .kemCipher [alg, c.input, r] ct))

def encapsLenOk (c : Inflight) : Bool := match kemSizes (c.p8 4) with | some (_, ek, _) => c.inLen == ek | none => false
def encapsOutOk (c : Inflight) : Bool := match kemSizes (c.p8 4) with | some (_, _, ct) => decide (ct ≤ c.outLen) | none => false

def kemEncapsInfo : OpInfo :=
  { code := 0x0305, used := [(0, 4), (4, 1)], slotAt := some 0, draws := fun _ => true,
    params := fun c => targetFmt (c.p32 0) && encapsLenOk c && encapsOutOk c,
    paramDetail := fun c => if (kemSizes (c.p8 4)).isSome && !encapsLenOk c then 0x0E01 else 0 }

/-- KEM_ENCAPS (R511, R513, R520, R521, R744). -/
def execKemEncaps (k : CmdKey) (s : State) : Host.Outcome State Fault Refusal :=
  .next (s.runCmd kemEncapsInfo s.lifeKeys encapsWork k)

/-- KEM algorithm of a private key type (R511). -/
def kemAlg (t : Nat) : Option Nat := if t = 0x201 then some 0x20 else if t = 0x202 then some 0x21 else none

def decapsWork (s : State) (c : Inflight) : Work :=
  match s.ownSlot c.key.part (c.p32 0) with
  | none => .finish s { status := .badParam, detail := 0x0D02 }
  | some k0 =>
    match kemAlg k0.ktype with
    | none => .finish s { status := .badParam, detail := 0x0E04 }
    | some alg =>
      if c.inLen ≠ (match kemSizes alg with | some (_, _, ct) => ct | none => 0) then
        .finish s { status := .badParam, detail := 0x0E01 }
      else match s.useSlot c.key.part (c.p32 0) (fun k => bit k.attr atAgree) with
      | .bad r => s.refuse r
      | .ok k =>
      match s.secretCheck c.key.part (c.p32 4) none with
      | some r => s.refuse r
      | none =>
        (s.takeUses (c.p32 0 :: s.secretUses c.key.part (c.p32 4))).andThen (fun s =>
          s.storeSecret c (c.p32 4) alg k.binding (Config.prim .kemDecap [leBytes 1 alg, k.material, c.input] 32) [])

def kemDecapsInfo : OpInfo :=
  { code := 0x0306, used := [(0, 4), (4, 4)], slotAt := some 4,
    params := fun c => slotFmt (c.p32 0) && targetFmt (c.p32 4) && (c.inLen == 1088 || c.inLen == 1568),
    paramDetail := fun c => if c.inLen == 1088 || c.inLen == 1568 then 0 else 0x0E01 }

/-- KEM_DECAPS (R511, R513, R514, R520, R521, R744). -/
def execKemDecaps (k : CmdKey) (s : State) : Host.Outcome State Fault Refusal :=
  .next (s.runCmd kemDecapsInfo s.lifeKeys decapsWork k)

/-! ### Signed images (R525-R528) -/

/-- Length of a signature block (R525). -/
def blockLen : Nat := 5469

/-- A signature block is laid out as R525. -/
def blockFormat (block : Bytes) : Bool :=
  block.length == blockLen && block.take 4 == ascii "KSIG" && leAt block 4 1 == 0x40 && allZero (slice block 5 3) &&
  allZero (slice block 2057 7)

/-- A signature block over a message with this label holds: laid out as R525, its signer's hash one of those fused,
both components verifying (R526, R527). -/
def State.blockOk (s : State) (label : String) (body block : Bytes) (admitted : List Nat) : Bool :=
  let pub := slice block 8 2049
  blockFormat block && admitted.any (fun i => mapGet s.keys.fuses i == some (sha384 pub)) &&
  verifyKeyGood 0x40 pub && sigVerifies 0x40 pub (ascii label ++ [0] ++ body) (slice block 2064 3405)

/-! ### Device identity and attestation (R507, R529-R533) -/

/-- An EC P-384 and ML-DSA-65 key pair's private parts (R507). -/
def deviceKeys : Bytes × Bytes :=
  (kdf udsValue (ascii "FXID-EC") [0] 384, kdf udsValue (ascii "FXID-ML") [0] 256)

def State.aliasKeys (s : State) : Bytes × Bytes := (kdf s.cdi (ascii "FXAL-EC") [0] 384, kdf s.cdi (ascii "FXAL-ML") [0] 256)

/-- The 2,049-byte hybrid public key (R512). -/
def hybridPub (k : Bytes × Bytes) : Bytes := publicKey 0x102 k.1 ++ publicKey 0x211 k.2

/-- A hybrid signature with a label. -/
def hybridSign (k : Bytes × Bytes) (label : String) (body rnd : Bytes) : Bytes :=
  signWith 0x40 k.1 k.2 (ascii label ++ [0] ++ body) rnd

/-- The alias certificate's first 2,216 bytes (R532). -/
def State.aliasBody (s : State) : Bytes :=
  ascii "FXAC" ++ [1, 0, 0, 0] ++ hybridPub s.aliasKeys ++ List.replicate 7 0 ++ s.keys.m ++ s.keys.signerId ++
  leBytes 4 s.keys.svn ++ List.replicate 4 0 ++ sha384 (hybridPub deviceKeys)

/-- The 240-byte header of a statement (R530). -/
def State.statement (s : State) (c : Inflight) : Bytes :=
  let flags := b2n s.keys.grant.isSome + 2 * b2n c.compat + 4 * b2n c.secure +
    8 * b2n (s.halfUp .north && s.halfUp .south)
  ascii "FXAT" ++ [1] ++ leBytes 1 (c.p32 0) ++ leBytes 1 s.life ++ leBytes 1 flags ++ leBytes 1 c.key.part ++
  leBytes 1 c.inLen ++ [0, 0] ++ leBytes 4 s.keys.svn ++ leBytes 8 s.deviceTime ++
  leBytes 4 (s.fld Fd.HW_EPOCH_LO_EPOCH) ++ leBytes 4 (s.fld Fd.HW_EPOCH_HI_EPOCH) ++ s.keys.m ++ s.keys.signerId ++
  padTo 64 c.input ++ sha384 (hybridPub s.aliasKeys)

/-- The configuration record of partition p (R135). -/
def State.partRecord (s : State) (p : Nat) : Bytes :=
  match s.part? p with
  | none => List.replicate 32 0
  | some q =>
    leBytes 1 p ++ leBytes 1 (b2n q.cfg.secure + 2 * b2n q.compat + 4 * b2n q.cfg.access) ++ leBytes 1 q.cfg.cls ++
    leBytes 1 q.cfg.voteMask ++ leBytes 2 q.cfg.ringQuota ++ [0, 0] ++ leBytes 4 q.cfg.flowQuota ++
    leBytes 2 q.cfg.pslotQuota ++ leBytes 2 q.cfg.vslotQuota ++ leBytes 1 q.cfg.hammerShare ++
    leBytes 1 q.cfg.engineShare ++ leBytes 1 q.cfg.laneShare ++ List.replicate 13 0

/-- The sections SCOPE selects (R531). -/
def State.sections (s : State) (c : Inflight) : Bytes :=
  let sc := c.p32 0
  (if bit sc 0 then
    [1, 2, 3, 4, 5, 6].flatMap (fun t => (mapGet s.components t).getD (List.replicate 48 0)) else []) ++
  (if bit sc 1 then s.partRecord c.key.part else []) ++
  (if bit sc 2 then s.aliasBody ++ hybridSign deviceKeys "FXV-ALC" s.aliasBody s.keys.aliasRnd else []) ++
  (if bit sc 3 then padTo 5517 (s.keys.devCert.getD []) else [])

/-- Length of a statement (R531). -/
def statementLen (sc : Nat) : Nat :=
  3645 + (if bit sc 0 then 288 else 0) + (if bit sc 1 then 32 else 0) + (if bit sc 2 then 5621 else 0) +
  (if bit sc 3 then 5517 else 0)

/-- The stored device certificate can be read and names this device's key (R529, R533; 16 R558, R577). -/
def State.devCertOk (s : State) : Bool :=
  !s.ee.lostPages.any (fun c => decide (1024 ≤ c.1 ∧ c.1 < 1088)) &&
  match s.keys.devCert with
  | some d => slice d 8 2049 == hybridPub deviceKeys
  | none => false

def attestWork (s : State) (c : Inflight) : Work :=
  if bit (c.p32 0) 3 && !s.devCertOk then .finish s (.fail .storeFault)
  else
    let rnd := s.drawn (2 * signDraw)
    let body := s.statement c ++ s.sections c
    .finish ((s.draw (2 * signDraw)).countOp)
      { status := .ok, result := leBytes 4 (statementLen (c.p32 0)),
        out := body ++ hybridSign s.aliasKeys "FXV-ATT" body rnd }

def attestInfo : OpInfo :=
  { code := 0x0307, used := [(0, 4)], maxIn := 64, draws := fun _ => true,
    params := fun c => decide (c.p32 0 < 16 ∧ statementLen (c.p32 0) ≤ c.outLen) }

/-- ATTEST (R529-R531). -/
def execAttest (k : CmdKey) (s : State) : Host.Outcome State Fault Refusal :=
  .next (s.runCmd attestInfo (s.life != 1) attestWork k)

end Sys2Proof.Machine
end

