-- ==== Sys2Proof/Machine/Slow.lean ====
section
/-! DEFINITION. What other units do to slow I/O: CAN controllers and their frames, the card's activation, and the rollback
of a card transaction (21_card_port_and_can.md R705-R723). -/

namespace Sys2Proof.Machine

/-- VHOLD and the supplies allow a journal write (16 R569). -/
def State.storeReady (s : State) : Bool := decide (2850 ≤ s.supply.vholdMv) && !s.supply.brownout

/-! ### CAN (R719-R723) -/

def pgCan : Nat := 0x062000
def pgCard : Nat := 0x100000
def pgPmic : Nat := 0x101000

def State.canOf (s : State) (n : Nat) : CanSt := s.can.getD n { waiting := [], readyAt := 0 }

def State.updCan (s : State) (n : Nat) (f : CanSt → CanSt) : State := { s with can := s.can.modify n f }

/-- Controller n runs without a token to send: enabled, served, in Flow or Eddy, not gated (R101, R155, R721, 02 R79). -/
def State.canOnBus (s : State) (n : Nat) : Bool :=
  s.fld (Fd.CAN_CFG_EN n) == 1 && s.gatesOpen && !s.parked && !bit s.gated (2 + n) && !s.supply.lostRef38

/-- Start controller n: CANn_STB goes to its normal level, and T_MODE_US pass before its first frame (R721). -/
def State.canStart (s : State) (n : Nat) : State :=
  if s.fld (Fd.CAN_STAT_STATE n) = 0 then
    (s.updCan n (fun c => { c with readyAt := s.deviceTime + s.fld (Fd.CAN_CFG_T_MODE_US n) * 1000 })).setFld
      (Fd.CAN_STAT_STATE n) 1
  else s

/-- Count k tokens withdrawn (R720). -/
def State.canWithdraw (s : State) (n k : Nat) : State :=
  if k = 0 then s else (s.bump (Fd.CAN_STAT_WITHDRAWN n) k).raise pgCan 2

/-- Withdraw every waiting token of controller n. -/
def State.canFlush (s : State) (n : Nat) : State :=
  let k := (s.canOf n).waiting.length
  (s.updCan n (fun c => { c with waiting := [] })).canWithdraw n k

/-- Controller n stops: CANn_TX recessive, CANn_STB at its standby level. -/
def State.canStop (s : State) (n : Nat) : State :=
  ((s.setFld (Fd.CAN_STAT_STATE n) 0).setFld (Fd.CAN_STAT_TEC n) 0).setFld (Fd.CAN_STAT_REC n) 0

/-- More tokens of the stream or door tokens are to come for controller n, which the token configuration names (R721; 08 R317). -/
def State.tokensDue (s : State) (n : Nat) : Bool :=
  (s.immo.streaming || !s.immo.queue.isEmpty) && (match s.immo.config with | some b => leAt b 4 1 == n | none => false)

/-- Start or stop controller n as votes, power and configuration now say; EN 0 withdraws what waits (R721); bus-off stays
until it recovers or EN is 0 (R723). -/
def State.canSettle (s : State) (n : Nat) : State :=
  if s.fld (Fd.CAN_CFG_EN n) = 0 || s.supply.lostRef38 then (s.canFlush n).canStop n
  else if s.canOnBus n then s.canStart n
  else if s.fld (Fd.CAN_STAT_STATE n) = 3 then s
  else if (s.canOf n).waiting.isEmpty && !s.tokensDue n then s.canStop n
  else s

def State.canSettleAll (s : State) : State := (s.canSettle 0).canSettle 1

/-- A composed token goes to controller n: one it cannot send is withdrawn, one that finds an older token of its
identifier takes its place (R720). -/
def State.canSend (s : State) (n : Nat) (f : CanFrame) : State :=
  if s.fld (Fd.CAN_CFG_EN n) = 0 || s.supply.lostRef38 || s.fld (Fd.CAN_STAT_STATE n) = 3 ||
     (f.fd && s.fld (Fd.CAN_CFG_FD n) == 0) then s.canWithdraw n 1
  else
    let w := (s.canOf n).waiting
    if w.any (fun o => o.ident == f.ident) then
      (s.updCan n (fun c => { c with waiting := w.map (fun o => if o.ident == f.ident then f else o) })).canWithdraw n 1
    else (s.updCan n (fun c => { c with waiting := w ++ [f] })).canStart n

/-! ### The card (R706, R710, R714-R717) -/

def State.updCard (s : State) (f : CardSt → CardSt) : State := { s with card := f s.card }

/-- RST low, clock stopped, IO low, VCC off; the port shows the state given (R706). -/
def State.cardOff (s : State) (st : Nat) : State :=
  ((((s.setFld Fd.CD_STAT_STATE st).setFld Fd.CD_STAT_CLASS 0).setFld Fd.CD_STAT_PROTO 0).setFld Fd.CD_STAT_CLK 0).setFld
    Fd.CD_STAT_ETU 0

/-- Begin an activation at class C or B, with Fd and Dd alone or not; CARD_SSC takes effect (R706, R708; 02 R72). -/
def State.cardActivate (s : State) (classB noPps : Bool) : State :=
  let s := s.updCard (fun c => {
    c with classB := classB, noPps := noPps, stopOk := false, cardId := 0, ssc := s.fld Fd.SSC_CTL_CARD_SSC })
  ((s.cardOff 1).setFld Fd.CD_STAT_CLASS (b2n classB)).setFld Fd.CD_STAT_ETU 372

/-- The card may be activated: present, enabled, served, in Flow or Eddy, not gated (R95, R627, R706, R710). -/
def State.cardWanted (s : State) : Bool :=
  s.fld Fd.CD_STAT_PRESENT == 1 && s.fld Fd.CD_CFG_EN == 1 && s.gatesOpen && !s.parked && !bit s.gated 4 && !s.supply.lostRef38

/-- The vote alone gates the card, and an exchange with it is in flight: its gating waits for the end of that (04 R159; 01 R50). -/
def State.cardInUse (s : State) : Bool :=
  s.card.busy.isSome && bit s.gated 4 && s.fld Fd.CD_STAT_PRESENT == 1 && s.fld Fd.CD_CFG_EN == 1 && s.gatesOpen && !s.parked &&
  !s.supply.lostRef38

/-- The CARD vote, EN or the power state changed: the clock stops where the card allows it, otherwise the card is
deactivated; it is activated again when nothing holds it back (R627, R710). -/
def State.cardSettle (s : State) : State :=
  let st := s.fld Fd.CD_STAT_STATE
  if s.cardInUse then s
  else if s.cardWanted then
    let s := s.updCard (fun c => { c with gated := false })
    if st = 0 then s.cardActivate false false
    else if st = 5 then s.setFld Fd.CD_STAT_STATE 3
    else s
  else if bit s.gated 4 && s.card.stopOk && (st = 3 || st = 5) && s.fld Fd.CD_CFG_EN = 1 && !s.parked then
    (s.updCard (fun c => { c with gated := true })).setFld Fd.CD_STAT_STATE 5
  else if st = 4 then s
  else s.cardOff 0

/-- The pages an open card transaction has written (R716). -/
def State.cardPages (s : State) : List Nat :=
  match s.card.txn with
  | some t => (t.images.map (·.1)).eraseDups
  | none => []

/-- An open card transaction has written one of the pages (R716). -/
def State.cardHolds (s : State) (pages : List Nat) : Bool := s.cardPages.any pages.contains

/-- Write the before-images back, newest first (R717). -/
def State.restoreImages (s : State) (l : List (Nat × Bytes)) : State :=
  l.foldl (fun (t : State) (c : Nat × Bytes) =>
    let t := t.writePage c.1
    { t with ee := { t.ee with mem := putBytes t.ee.mem (128 * c.1) c.2 } }) s

/-- Roll the open transaction back: its pages are restored, the command in flight ends, and CARD_REMOVED goes to the
owner, with cause 0 standing for a partition reset, which posts nothing (R717). -/
def State.cardRestore (s : State) (cause : Nat) (waits : Option CmdKey) : State :=
  let s := match s.card.txn with
    | none => s
    | some t =>
      let n := s.cardPages.length
      let s := (s.restoreImages t.images).updCard (fun c => { c with txn := none })
      let s := (s.bump Fd.CD_CNT_ROLLBACKS).raise pgCard 4
      if cause = 0 then s
      else s.post t.part 0x0090 t.part (leBytes 1 cause ++ [0] ++ leBytes 2 n ++ leBytes 4 s.card.cardId)
  match waits.bind s.cmd? with
  | some c => s.finish c false (.fail .abortedRemoval)
  | none => s

/-- Roll back now, or once VHOLD allows it: the transaction is Frexus's own (02 R67, R717). -/
def State.cardRollback (s : State) (cause : Nat) (waits : Option CmdKey) : State :=
  if s.card.txn.isNone || s.storeReady then s.cardRestore cause waits
  else if s.txns.any (fun x => match x with | .own (.rollback _ _) => true | _ => false) then s
  else { s with txns := s.txns ++ [.own (.rollback cause waits)] }

end Sys2Proof.Machine
end

