-- ==== Sys2Proof/Machine/HalvesOps.lean ====
section
/-! DEFINITION. What the warden does: retirement and probation of units, strikes, charges, the fence
(17_halves_and_consistency.md R595-R612, R621; 01_architecture.md R41, R42). -/

namespace Sys2Proof.Machine

def otherHalf : Half → Half
  | .north => .south | .south => .north

/-- The Lead (R594). -/
def State.lead (s : State) : Half := if s.fld Fd.HW_ROLE_LEAD = 0 then .north else .south

def roleField : Half → Fld
  | .north => Fd.HW_ROLE_N_STATE | .south => Fd.HW_ROLE_S_STATE

/-- KIND of R625. -/
def retCode : RetKind → Nat
  | .engine => 1 | .hammer => 2 | .digest => 3 | .anvil => 4 | .bank => 5 | .path => 6

/-! ### Units in and out of service -/

/-- The field and bit that show unit u in service. -/
def svcBit (u : UnitRef) : Fld × Nat :=
  match u.kind, u.half with
  | .engine, .north => if u.idx < 32 then (Fd.EN_SVC_N_SVC, u.idx) else (Fd.EN_SPARES_SVC_N, u.idx - 32)
  | .engine, .south => if u.idx < 32 then (Fd.EN_SVC_S_SVC, u.idx) else (Fd.EN_SPARES_SVC_S, u.idx - 32)
  | .hammer, .north => (Fd.HM_AVAIL_NORTH, u.idx)
  | .hammer, .south => (Fd.HM_AVAIL_SOUTH, u.idx)
  | .digest, h => (Fd.DG_STAT_AVAIL, 2 * halfNum h + u.idx)
  | .anvil, h => (Fd.AV_AVAIL_AVAIL, 2 * halfNum h + u.idx)
  | .bank, h => (Fd.HW_PATHS_BANKS, 2 * halfNum h + u.idx)
  | .path, h => (Fd.HW_PATHS_PATHS, 2 * halfNum h + u.idx)

/-- The field and bit that show unit u on probation, where there is one. -/
def probBit (u : UnitRef) : Option (Fld × Nat) :=
  match u.kind, u.half with
  | .engine, .north => some (if u.idx < 32 then (Fd.EN_PROB_N_PROB, u.idx) else (Fd.EN_SPARES_PROB_N, u.idx - 32))
  | .engine, .south => some (if u.idx < 32 then (Fd.EN_PROB_S_PROB, u.idx) else (Fd.EN_SPARES_PROB_S, u.idx - 32))
  | .hammer, .north => some (Fd.HM_PROB_NORTH, u.idx)
  | .hammer, .south => some (Fd.HM_PROB_SOUTH, u.idx)
  | .digest, h => some (Fd.DG_STAT_PROB, 2 * halfNum h + u.idx)
  | .anvil, h => some (Fd.AV_AVAIL_PROB, 2 * halfNum h + u.idx)
  | _, _ => none

def State.setMaskBit (s : State) (f : Fld × Nat) (b : Bool) : State :=
  s.setFld f.1 (if b then setBit (s.fld f.1) f.2 else clrBit (s.fld f.1) f.2)

/-- Unit u is in service. -/
def State.inService (s : State) (u : UnitRef) : Bool := bit (s.fld (svcBit u).1) (svcBit u).2

/-- Interrupt of a unit's change: UNIT_CHANGE of Hammers and digest units, of Anvils; RETIRED or PROBATION of engines
(10 R408, 14 R534, 11 R450). -/
def State.unitChange (s : State) (u : UnitRef) (enters : Bool) : State :=
  match u.kind with
  | .engine => if enters then s else s.raise 0x080000 1
  | .hammer | .digest => s.raise 0x070000 2
  | .anvil => s.raise 0x0A0000 2
  | .bank | .path => s

def State.setService (s : State) (u : UnitRef) (b : Bool) : State := (s.setMaskBit (svcBit u) b).unitChange u b

def State.setProbation (s : State) (u : UnitRef) (b : Bool) : State :=
  match probBit u with
  | some f =>
    let s := s.setMaskBit f b
    if b && u.kind = .engine then s.raise 0x080000 2 else s
  | none => s

/-! ### Engine slots (R41, R42) -/

/-- Index of a slot in the slot list. -/
def slotAt (h : Half) (j : Nat) : Nat := 32 * halfNum h + j

/-- The physical engine in a slot. -/
def State.physOf (s : State) (h : Half) (j : Nat) : Nat := s.halves.slots.getD (slotAt h j) j

/-- The slot a physical engine holds. -/
def State.slotOfEngine (s : State) (h : Half) (i : Nat) : Option Nat := (List.range 32).find? (fun j => s.physOf h j == i)

/-- The lowest healthy spare of a half that holds no slot (R42). -/
def State.freeSpare (s : State) (h : Half) : Option Nat :=
  (List.range 36).find? (fun i => s.inService ⟨.engine, h, i⟩ && (s.slotOfEngine h i).isNone)

/-- A slot's engine is gone: the lowest healthy spare takes it, or its work runs in the other half (R42). -/
def State.refillSlot (s : State) (h : Half) (j : Nat) : State :=
  match s.freeSpare h with
  | some i =>
    let s := { s with halves := { s.halves with slots := s.halves.slots.set (slotAt h j) i } }
    match h with
    | .north => (s.setFld (Fd.EN_MAP_N_PHYS j) i).setFld (Fd.EN_MAP_N_REMOTE j) 0
    | .south => (s.setFld (Fd.EN_MAP_S_PHYS j) i).setFld (Fd.EN_MAP_S_REMOTE j) 0
  | none =>
    match h with
    | .north => s.setFld (Fd.EN_MAP_N_REMOTE j) 1
    | .south => s.setFld (Fd.EN_MAP_S_REMOTE j) 1

/-! ### Work of a lost unit or half (R393, R405, R620) -/

/-- Jobs that run on unit u of a half go back to the head of their queue, from their last segment boundary, on another
unit; a half with no unit of the kind left hands them to the other half (R405, R620). -/
def State.evict (s : State) (k : UnitKind) (h : Half) (i : Nat) : State :=
  let hit := fun (r : Running) => r.job.unit = k && r.job.half = h && r.occupies.contains i
  let jobs := (s.units.running.filter hit).map (fun r => { r.job with done := r.job.saved })
  let us := { s.units with running := s.units.running.filter (fun r => !hit r), waiting := jobs ++ s.units.waiting }
  State.serve { s with units := us } (jobs.length + 1)

/-- Move every job of a half to the other (R618, R620). -/
def State.moveJobs (s : State) (k : UnitKind) (h : Half) : State :=
  let hit := fun (j : Job) => j.unit = k && j.half = h
  let jobs := (s.units.running.filter (fun r => hit r.job)).map (fun r => { r.job with done := r.job.saved })
  let us := { s.units with
    running := s.units.running.filter (fun r => !hit r.job),
    waiting := (jobs ++ s.units.waiting).map (fun j => if hit j then { j with half := otherHalf h } else j) }
  State.serve { s with units := us } 16

def retUnits : RetKind → Option UnitKind
  | .hammer => some .hammer | .digest => some .digest | .anvil => some .anvil | _ => none

/-! ### Retirement (R610, R611, R612) -/

def countOf (l : List (UnitRef × Nat)) (u : UnitRef) : Nat :=
  match l.find? (fun c => c.1 == u) with | some c => c.2 | none => 0

def putCount (l : List (UnitRef × Nat)) (u : UnitRef) (n : Nat) : List (UnitRef × Nat) :=
  (u, n) :: l.filter (fun c => !(c.1 == u))

/-- UNIT_PROBATION (R625). -/
def State.unitProbation (s : State) (u : UnitRef) (stage late gen : Nat) : State :=
  s.post 0 0x0033 srcDevice (leBytes 1 (retCode u.kind) ++ leBytes 1 (halfNum u.half) ++ leBytes 1 u.idx ++ leBytes 1 stage ++
    leBytes 2 late ++ leBytes 2 gen)

/-- Retire unit u for a cause (R610, R611): its port closes, its work moves, a spare takes an engine's slot; it goes on
probation, or is BAD at its third retirement (R612). -/
def State.retire (s : State) (u : UnitRef) (cause : Nat) : State :=
  if !s.inService u then s else
  let slot := if u.kind = .engine then s.slotOfEngine u.half u.idx else none
  let s := s.setService u false
  let s := match slot with | some j => ((s.refillSlot u.half j).engineLost ⟨u.half, j⟩).setSpares | none => s
  let s := match retUnits u.kind with | some k => s.evict k u.half u.idx | none => s
  let s := if u.kind = .digest then s.moveJobs .digest u.half else s
  let s := if u.kind = .engine then s.bump Fd.HW_CNT_FAILOVER_ENGINE
    else if u.kind = .hammer then s.bump Fd.HW_CNT_FAILOVER_HAMMER else s
  let n := countOf s.halves.retireCount u + 1
  let bad := decide (3 ≤ n)
  let r : Retired := { unit := u, passes := 0, late := 0, testAt := s.deviceTime + 100000000, bad := bad }
  let s := { s with halves := { s.halves with
    retired := r :: s.halves.retired, retireCount := putCount s.halves.retireCount u n } }
  let spare := match slot with | some j => (if s.physOf u.half j = u.idx then 0xFF else s.physOf u.half j) | none => 0xFF
  let s := (s.post 0 0x0032 srcDevice (leBytes 1 (retCode u.kind) ++ leBytes 1 (halfNum u.half) ++ leBytes 1 u.idx ++
    leBytes 1 cause ++ leBytes 1 (slot.getD 0xFF) ++ leBytes 1 spare)).raise 0x0D0000 4
  if u.kind = .bank || u.kind = .path then s
  else if bad then s.unitProbation u 4 0 0
  else (s.setProbation u true).unitProbation u 1 0 0

/-- A strike: two within 10 s of device time retire the unit (R610). -/
def State.strike (s : State) (u : UnitRef) : State :=
  let recent := s.halves.strikes.filter (fun c => decide (s.deviceTime < c.2 + 10000000000))
  if recent.any (fun c => c.1 == u) then
    State.retire { s with halves := { s.halves with strikes := recent.filter (fun c => !(c.1 == u)) } } u 1
  else { s with halves := { s.halves with strikes := (u, s.deviceTime) :: recent } }

/-! ### The lease and the fence (R594-R601) -/

/-- Cause numbers of R599. -/
def fenceCode : FenceCause → Nat
  | .silent => 1 | .stale => 2 | .beyondRepair => 3 | .halfMismatch => 4 | .infra => 5 | .resyncFail => 6

/-- Show an epoch in its registers (R626). -/
def State.showEpoch (s : State) (e : Nat) : State :=
  (s.setFld Fd.HW_EPOCH_LO_EPOCH (e % 2 ^ 32)).setFld Fd.HW_EPOCH_HI_EPOCH (e / 2 ^ 32)

/-- Grant the lease to half h for 2 ms (R595). -/
def State.grantLease (s : State) (h : Half) : State :=
  ({ s with halves := { s.halves with leaseEnd := s.deviceTime + 2000000, stopped := false } }.setFld Fd.HW_ROLE_LEASE 1).setFld
    Fd.HW_ROLE_LEAD (halfNum h)

/-- Wellhead and Bellows of half n start again: STARTUP, an empty pool, not instantiated (15 R539, R542). -/
def State.wellStartup (s : State) (n : Nat) : State :=
  let s := s.updWell n (fun _ => {
    pool := 0, fails := [], since := 0, reseedAt := s.deviceTime, stretched := false, testNext := false, raw := [], rawPart := [] })
  ((s.setFld (Fd.WH_STAT_STATE n) 1).setFld (Fd.WH_STAT_FAILS n) 0).setFld (Fd.BW_STAT_INST n) 0

/-- Services of half h go out with it: its units, banks, paths and EE store (R598, R608). -/
def State.halfUnitsOff (s : State) (h : Half) : State :=
  let s := match h with
    | .north => (((s.setFld Fd.HM_AVAIL_NORTH 0).setFld Fd.EN_SVC_N_SVC 0).setFld Fd.EN_SPARES_SVC_N 0).setFld Fd.EE_STAT_N_OK 0
    | .south => (((s.setFld Fd.HM_AVAIL_SOUTH 0).setFld Fd.EN_SVC_S_SVC 0).setFld Fd.EN_SPARES_SVC_S 0).setFld Fd.EE_STAT_S_OK 0
  let keep := fun (f : Fld) (t : State) => t.setFld f (s.fld f &&& (if h = .north then 12 else 3))
  keep Fd.DG_STAT_AVAIL (keep Fd.AV_AVAIL_AVAIL (keep Fd.HW_PATHS_BANKS (keep Fd.HW_PATHS_PATHS s)))

/-- Half h comes into service with the units that are not retired; an engine marked bad in fuse stays out, and a spare takes its
slot (R622, 01 R41, R42). -/
def State.halfUnitsOn (s : State) (h : Half) : State :=
  let on := fun (t : State) (u : UnitRef) =>
    if t.halves.retired.any (fun r => r.unit == u) || (u.kind = .engine && t.halves.badFuse.contains (u.half, u.idx)) then t.setMaskBit (svcBit u) false else t.setMaskBit (svcBit u) true
  let s := (List.range 36).foldl (fun t i => on t ⟨.engine, h, i⟩) s
  let s := (List.range 16).foldl (fun t i => on t ⟨.hammer, h, i⟩) s
  let s := (List.range 2).foldl (fun t i => on (on (on (on t ⟨.digest, h, i⟩) ⟨.anvil, h, i⟩) ⟨.bank, h, i⟩) ⟨.path, h, i⟩) s
  let s := (List.range 32).foldl (fun t j =>
    if t.inService ⟨.engine, h, t.physOf h j⟩ then t else t.refillSlot h j) s
  s.setFld (match h with | .north => Fd.EE_STAT_N_OK | .south => Fd.EE_STAT_S_OK) 1

/-- Both halves are silent: no lease, every page shows FAULT (R601). -/
def State.loseBoth (s : State) : State :=
  ({ s with halves := { s.halves with lost := true, stopped := true } }.setFld Fd.HW_ROLE_LEASE 0)

/-- The new epoch is journalled in the survivor's store, then the survivor is granted the lease (R598 steps 4 and 5). -/
def State.journalEpoch (s : State) : State :=
  let s := { s with halves := { s.halves with epochJ := s.halves.epoch } }
  if s.halfUp .north then s.grantLease .north else if s.halfUp .south then s.grantLease .south else s

/-- An item that comes late: from a fenced half it is discarded (R601); a result of a unit that runs nothing carries a generation or an
attempt that is no longer current and is discarded and counted, and from a retired unit it is said with STAGE 2 (R609). -/
def State.lateItem (s : State) (u : UnitRef) : State :=
  if !s.halfUp u.half then s.discardItem
  else if s.inService u then (s.bump Fd.HW_CNT_STALE_STALE_GEN).raise 0x0D0000 16
  else
    let s := (s.bump Fd.HW_CNT_STALE_STALE_GEN).raise 0x0D0000 16
    match s.halves.retired.find? (fun r => r.unit == u) with
    | none => s
    | some r =>
      let (g, s) := s.free
      let late := satTo 65535 (r.late + 1)
      let s := { s with halves := { s.halves with
        retired := s.halves.retired.map (fun (x : Retired) => if x.unit == u then { x with late := late } else x) } }
      s.unitProbation u 2 late (g % 65536)

/-- The link key of half h's bridge is v; none is the interim key (01 R25). -/
def State.setLink (s : State) (h : Half) (v : Option Bytes) : State :=
  match h with
  | .north => { s with halves := { s.halves with linkN := v } }
  | .south => { s with halves := { s.halves with linkS := v } }

/-- Half h draws a fresh link key of 128 bits for its bridge (01 R25). -/
def State.drawLink (s : State) (h : Half) : State := (s.setLink h (some (s.drawn 16))).drawAt (halfNum h) 16

/-- The check key of the result records is drawn (R602, R622). -/
def State.drawCheck (s : State) : State := State.draw { s with halves := { s.halves with checkKey := s.drawn 32 } } 32

/-- The mesh key of 128 bits, which PD00 keeps (19 R667). -/
def State.drawMesh (s : State) : State := State.draw { s with tamper := { s.tamper with meshKey := s.drawn 16 } } 16

/-- The key of half h's bridge: its link key, or the interim key made of the fused base key and the bring-up count (01 R25). -/
def State.bridgeKey (s : State) (h : Half) : Bytes :=
  match (match h with | .north => s.halves.linkN | .south => s.halves.linkS) with
  | some k => k
  | none => Config.prim .cmac [s.halves.baseKey, leBytes 4 s.halves.bringUps] 16

/-- Half `other` is the home of ring i of partition q (01 R28). -/
def PartSt.homedAt (q : PartSt) (i : Nat) (other : Half) : Bool :=
  match q.sq? i with | some w => w.queue % 2 == halfNum other | none => true

/-- What half `other` holds for the gates when the epoch rises carries the new one: the frames it processed, and the completions it waits
to post (R600, R618). -/
def State.restamp (s : State) (other : Half) (e : Nat) : State :=
  let mine := fun (f : Frame) => match f.msgs.findSome? (fun m => m.flow) with
    | some h => h % 2 == halfNum other
    | none => true
  { s with
    frames := s.frames.map (fun f => if mine f then { f with epoch := e } else f),
    parts := s.parts.map (fun (c : Nat × PartSt) => (c.1, { c.2 with
      heldCompl := c.2.heldCompl.map (fun m => if c.2.homedAt m.sq other then { m with epoch := e } else m) })) }

/-- Commands in flight go on, or run again, in solo duty and finish in it (R618, R623). -/
def State.soloCmds (s : State) : State := { s with inflight := s.inflight.map (fun c => { c with solo := true }) }

/-- A half internal reset (03 R103, R106): every engine of h is reset and its slot's generation advances; a task whose copy ran in
h is aborted, to be run again in solo duty (R618). -/
def State.halfReset (s : State) (h : Half) : State :=
  ((slotsOf h).foldl State.engineReset s).abortTasks (fun t => match t.follower with | some d => d.half == h | none => false)

/-- Fence half h (R598): the epoch rises by 1 at the fence instant and is journalled, the survivor holds the lease in
solo duty, h is reset and resyncs, a ranging round ends (07 R266), HALF_FENCED is posted; the work of h goes to the survivor (R618). A half fenced for
the third time since power-on stays out of service (R622). -/
def State.fence (s : State) (h : Half) (cause : FenceCause) : State :=
  let o := otherHalf h
  let wasLead := s.lead = h
  let e := s.halves.epoch + 1
  let third := decide (2 ≤ (s.halves.fences.filter (· == h)).length)
  let s := s.abortRound
  let s := { s with halves := { s.halves with
    epoch := e, stopped := true, fences := h :: s.halves.fences, fenceNoted := false,
    staleTxns := if wasLead then s.txns.length else s.halves.staleTxns } }
  let s := ((s.showEpoch e).halfUnitsOff h).setLink h none
  let s := ((s.moveJobs .hammer h).moveJobs .digest h).moveJobs .anvil h
  let s := (s.halfReset h).restamp o e
  let s := s.wellStartup (halfNum h)
  let s := (s.bump Fd.HW_CNT_FAILOVER_HALF).setFld (match h with | .north => Fd.RESET_CAUSE_HALF_N | .south => Fd.RESET_CAUSE_HALF_S) 1
  let s := s.setFld (roleField h) (if third then 0 else 3)
  let s := { s with halves := { s.halves with resyncAt := if third then none else some (h, s.deviceTime) } }
  let s := (s.post 0 0x0030 srcDevice (leBytes 1 (halfNum h) ++ leBytes 1 (fenceCode cause) ++ leBytes 1 (b2n wasLead) ++
    [0, 0, 0, 0, 0] ++ leBytes 8 e)).raise 0x0D0000 1
  let s := if third then (s.post 0 0x0031 srcDevice (leBytes 1 (halfNum h) ++ [1, 0, 0] ++ leBytes 4 0 ++ leBytes 8 e)).raise 0x0D0000 2
    else s
  if !s.halfUp o then s.loseBoth
  else
    let s := (s.setFld Fd.HW_ROLE_SOLO 1).soloCmds
    if s.storeReady then s.journalEpoch
    else { s.setFld Fd.HW_ROLE_LEASE 0 with txns := .own .epoch :: s.txns }

end Sys2Proof.Machine
end

