-- ==== Sys2Proof/Machine/EeStore.lean ====
section
/-! DEFINITION. The EE store's commands and its background work: user regions, SANITIZE, clearing, the patrol and column
repair (16_ee_store.md R559-R581). -/

namespace Sys2Proof.Machine

/-! ### Checks of R565 -/

/-- PARAM fields of the STORE commands (R197, R559). -/
def Inflight.regionNo (c : Inflight) : Nat := c.p8 0 % 32
def Inflight.ctl (c : Inflight) : Bool := bit (c.p8 0) 7
def Inflight.cred (c : Inflight) : Bytes := slice c.param 16 16

/-- Reserved REGION bits are 0, and offset and length stay within the region (R559, R565). -/
def State.storeFmt (s : State) (c : Inflight) (len : Nat) : Bool :=
  bitsOf (c.p8 0) 6 5 == 0 && decide (c.p32 4 + len ≤ 128 * (s.region c.regionNo).pages)

/-- What is kept of a password of region k (R562). -/
def pwKept (k : Nat) (pw : Bytes) : Bytes :=
  if allZero pw then List.replicate 16 0
  else Config.prim .cmac [kdf udsValue (ascii "FXPW") [0] 256, ascii "FXPW" ++ leBytes 1 k ++ pw] 16

/-- CRED equals the password kept (R562). -/
def credOk (k : Nat) (kept cred : Bytes) : Bool :=
  if allZero kept then allZero cred else !allZero cred && pwKept k cred == kept

/-- End of the refusal that a mismatch begins: from the 8th on 1 s, doubling up to 64 s (R563). -/
def refusalEnd (now misses : Nat) : Nat := if misses < 8 then 0 else now + min 64 (2 ^ (misses - 8)) * 1000000000

/-- How the checks of step 6 end. -/
inductive StoreCheck
  | ok (s : State)
  | refused (s : State) (r : Reply)

/-- Step 6 of R565 against the password that `pw` picks. A mismatch is counted (R563, R588). -/
def State.storeCheck (s : State) (c : Inflight) (pw : Region → Bytes) : StoreCheck :=
  let k := c.regionNo
  let r := s.region k
  if !r.en || !(r.owner == c.key.part || r.shared) then .refused s { status := .badParam, detail := 0x0C02 }
  else if c.ctl && r.owner != c.key.part then .refused s { status := .notPermitted, detail := 0x0C04 }
  else if s.deviceTime < r.refuseUntil then .refused s { status := .notPermitted, detail := 0x0C03 }
  else if credOk k (pw r) c.cred then .ok (s.setRegion k { r with misses := 0, refuseUntil := 0 })
  else
    let s := s.setRegion k { r with misses := r.misses + 1, refuseUntil := refusalEnd s.deviceTime (r.misses + 1) }
    .refused ((s.bump Fd.EE_CREDFAIL_COUNT).raise 0x0C0000 4) { status := .notPermitted, detail := 0x0C01 }

/-- Logical address of offset o of region r. -/
def Region.addr (r : Region) (o : Nat) : Nat := 128 * (userPage0 + r.base) + o

/-- A STORE_READ that may take effect reads one of the pages: no write, clear or mark takes effect in them (R571). -/
def State.readHolds (s : State) (pages : List Nat) : Bool :=
  s.inflight.any (fun o =>
    o.opcode == 0x0501 && s.admissible o &&
    (pagesOf ((s.region o.regionNo).addr (o.p32 4)) o.outLen).any pages.contains)

/-! ### The commands -/

/-- STORE_READ: the content of the pages, or STORE_FAULT where one is lost (R571, R577). Like the commands below it
completes with BUSY_RETRY on pages of an open card transaction (21 R716). -/
def storeReadWork (s : State) (c : Inflight) : Work :=
  match s.storeCheck c (·.rdPw) with
  | .refused t r => .finish t r
  | .ok t =>
    let a := (s.region c.regionNo).addr (c.p32 4)
    if s.cardHolds (pagesOf a c.outLen) then .finish t (.fail .busyRetry)
    else if (pagesOf a c.outLen).any (fun p => !(s.lostWords p).isEmpty) then .finish t (.fail .storeFault)
    else .finish t { status := .ok, out := s.eeBytes a c.outLen }

def storeUsed : List (Nat × Nat) := [(0, 1), (4, 4), (16, 16)]

def State.storeReadInfo (s : State) : OpInfo :=
  { code := 0x0501, used := storeUsed,
    params := fun c => !c.ctl && decide (1 ≤ c.outLen ∧ c.outLen ≤ 65536) && s.storeFmt c c.outLen }

/-- STORE_READ (R565, R571). -/
def execStoreRead (k : CmdKey) (s : State) : Host.Outcome State Fault Refusal :=
  .next (s.runCmd s.storeReadInfo true storeReadWork k)

/-- Write bytes at address a: marked pages are cleared out of turn, then every covered page is written (R568, R581). -/
def State.storeBytes (s : State) (a : Nat) (bs : Bytes) : State :=
  let s := (pagesOf a bs.length).foldl (fun t p => t.writePage p) s
  State.coverLost { s with ee := { s.ee with mem := putBytes s.ee.mem a bs } } a bs.length

/-- STORE_WRITE: the bytes in one transaction, or with CTL the new passwords (R564, R568). -/
def storeWriteWork (s : State) (c : Inflight) : Work :=
  match s.storeCheck c (·.wrPw) with
  | .refused t r => .finish t r
  | .ok t =>
    let k := c.regionNo
    let r := s.region k
    if c.ctl then
      .commit (t.setRegion k { r with
        rdPw := pwKept k (c.input.take 16), wrPw := pwKept k (c.input.drop 16), misses := 0, refuseUntil := 0 }) .done
    else
      let a := r.addr (c.p32 4)
      if s.cardHolds (pagesOf a c.inLen) then .finish t (.fail .busyRetry)
      else if s.readHolds (pagesOf a c.inLen) then .more s else .commit (t.storeBytes a c.input) .done

def State.storeWriteInfo (s : State) : OpInfo :=
  { code := 0x0502, used := storeUsed, durable := true, maxIn := 1024,
    params := fun c => decide (1 ≤ c.inLen) && (!c.ctl || c.inLen == 32) && s.storeFmt c c.inLen }

/-- STORE_WRITE (R564, R565, R568, R581). -/
def execStoreWrite (k : CmdKey) (s : State) : Host.Outcome State Fault Refusal :=
  .next (s.runCmd s.storeWriteInfo true storeWriteWork k)

/-- STORE_SANITIZE: every page of the range not yet marked is marked; RESULT is their number (R578, R581). -/
def storeSanitizeWork (s : State) (c : Inflight) : Work :=
  match s.storeCheck c (·.wrPw) with
  | .refused t r => .finish t r
  | .ok t =>
    let ps := pagesOf ((s.region c.regionNo).addr (c.p32 4)) (c.p32 8)
    if s.cardHolds ps then .finish t (.fail .busyRetry)
    else if s.readHolds ps then .more s
    else .commit (t.markPages ps) { status := .ok, result := leBytes 4 (ps.filter (fun p => !s.marked p)).length }

def State.storeSanitizeInfo (s : State) : OpInfo :=
  { code := 0x0503, used := (8, 4) :: storeUsed, durable := true,
    params := fun c => !c.ctl && c.p32 4 % 128 == 0 && c.p32 8 % 128 == 0 && c.p32 8 != 0 && s.storeFmt c (c.p32 8) }

/-- STORE_SANITIZE (R565, R578, R581). -/
def execStoreSanitize (k : CmdKey) (s : State) : Host.Outcome State Fault Refusal :=
  .next (s.runCmd s.storeSanitizeInfo true storeSanitizeWork k)

/-! ### Background work -/

/-- Page p has failed its margin reads three times: it stays marked, and its array's columns are to be tested (R579). -/
def State.failClear (s : State) (p : Nat) : State :=
  { s with ee := { s.ee with failing := (p, false) :: s.ee.failing.filter (fun x => x.1 != p) } }

/-- PAGE_CLEAR: the next CLEARING page is cleared, or fails its margin reads three times (R578-R580). Power domains that are off
suspend clearing, and no write starts with VHOLD low (02 R63). -/
def State.pageClear (s : State) (ok : Bool) : State :=
  match s.nextClear with
  | none => s
  | some p =>
    if !(s.storePower && s.halvesOn && s.storeReady) then s
    else if ok then s.clearPage p else s.failClear p

def execPageClear (ok : Bool) (s : State) : Host.Outcome State Fault Refusal := .next (s.pageClear ok)

/-- Rewrite page p with the same content as a transaction of Frexus's own (R557, R573). -/
def State.refreshPage (s : State) (p : Nat) : State :=
  if s.canCommit then s.raiseGen p
  else if s.txns.any (fun x => match x with | .own (.refresh q _) => q == p | _ => false) then s
  else { s with txns := s.txns ++ [.own (.refresh p (mapRead 0 s.ee.gens p))] }

def eccField : Half → Fld
  | .north => Fd.EE_ECC_NORTH | .south => Fd.EE_ECC_SOUTH
def refreshField : Half → Fld
  | .north => Fd.EE_REFRESH_NORTH | .south => Fd.EE_REFRESH_SOUTH

/-- The patrol reads one copy: corrections are counted and recorded, weak cells refreshed (R572, R573). -/
def State.patrolCopy (s : State) (h : Half) (p : Nat) (f : CopyFind) : State :=
  if !s.halfUp h then s else
  let s := s.bump (eccField h) f.corrected.length
  let cs := f.corrected.map (fun c =>
    ({ half := h, array := p / 2048, word := c.1, bitNo := c.2, row := p % 2048 } : Correction))
  let s := { s with ee := { s.ee with corrections := s.ee.corrections ++ cs } }
  if f.weak || !f.corrected.isEmpty then (s.refreshPage p).bump (refreshField h) else s

/-- A slot whose KEY page is lost is freed, its index withheld (R577; 13 R497). -/
def State.loseSlot (s : State) (p : Nat) : State :=
  let i := (p - keyPage0) / 2
  if keyPage0 ≤ p ∧ p < keyPage0 + 16384 ∧ (s.slot? i).isSome then
    (State.setFld { s with keys := { s.keys with slots := mapDel s.keys.slots i, withheld := i :: s.keys.withheld } }
      Fd.CR_STAT_LOSTSLOT 1).storeRepair 0 5 (p / 2048) 0xFFFF 0xFFFF i
  else s

/-- Codewords that ECC cannot correct: the page is taken from the other copy, or is lost in both (R557, R577). -/
def State.patrolBad (s : State) (p : Nat) (n so : List Nat) : State :=
  if n.isEmpty && so.isEmpty then s
  else if n.isEmpty || so.isEmpty then
    (s.refreshPage p).storeRepair (if so.isEmpty then 0 else 1) 3 (p / 2048) 0xFFFF 0xFFFF p
  else
    let lost := (n ++ so).eraseDups
    (State.storeRepair { s with ee := { s.ee with lostPages := mapPut s.ee.lostPages p lost } }
      0 4 (p / 2048) 0xFFFF 0xFFFF p).loseSlot p

/-- A column is tested: corrections at its bit recurred in three rows of the array, or a codeword of it failed (R574), or a page of the
array failed its clearing (R579). -/
def State.testDue (s : State) (t : ColTest) (array : Nat) (bad : List Nat) : Bool :=
  let rows := (s.ee.corrections.filter (fun (c : Correction) =>
    c.half = t.half && c.array == array && 72 * c.word + c.bitNo == t.column)).map (·.row)
  decide (3 ≤ rows.eraseDups.length) || bad.contains (t.column / 72) ||
  s.ee.failing.any (fun x => x.1 / 2048 == array && !x.2)

/-- The verdict of R574: a broken column waits for its remap, weak cells are refreshed. -/
def State.columnTest (s : State) (array : Nat) (t : ColTest) : State :=
  if t.refWrong || decide (8 ≤ t.rowsWrong) || decide (3 ≤ t.stillWeak) then
    let e := (t.half, array, t.column)
    if s.ee.broken.contains e || s.ee.remaps.any (fun (r : Remap) => r.half = t.half && r.array == array && r.column == t.column)
    then s else { s with ee := { s.ee with broken := s.ee.broken ++ [e] } }
  else t.weakRows.foldl (fun u r => (u.refreshPage (2048 * array + r)).bump (refreshField t.half)) s

/-- The pass that PROGRESS 0 would begin waits until EE_PATROL.HOURS after the one before it began; 0 acts as 1 (R572, R588). -/
def State.passWaits (s : State) : Bool :=
  s.fld Fd.EE_PATROL_PROGRESS == 0 && (match s.ee.passStart with
    | none => false
    | some t => decide (s.deviceTime < t + max 1 (s.fld Fd.EE_PATROL_HOURS) * 3600000000000))

/-- A pass that begins notes when. -/
def State.beginPass (s : State) : State :=
  if s.fld Fd.EE_PATROL_PROGRESS = 0 then { s with ee := { s.ee with passStart := some s.deviceTime } } else s

/-- PATROL_PAGE: the next page of the pass is read in both stores (R572-R574, R577). -/
def State.patrolPage (s : State) (north south : CopyFind) (tests : List ColTest) : State :=
  if !s.storePower || !s.halvesOn || s.passWaits then s else
  let p := s.fld Fd.EE_PATROL_PROGRESS
  let s := s.beginPass
  let s := (s.patrolCopy .north p north).patrolCopy .south p south
  let s := match s.halfUp .north, s.halfUp .south with
    | true, true => s.patrolBad p north.bad south.bad
    | true, false => s.patrolBad p north.bad north.bad
    | false, true => s.patrolBad p south.bad south.bad
    | false, false => s
  let s := tests.foldl (fun u t =>
    if u.testDue t (p / 2048) (match t.half with | .north => north.bad | .south => south.bad) then u.columnTest (p / 2048) t
    else u) s
  let s := if tests.isEmpty then s else s.tested (p / 2048)
  let s := if p = 32767 then { s with ee := { s.ee with corrections := [] } } else s
  s.setFld Fd.EE_PATROL_PROGRESS ((p + 1) % 32768)

def execPatrolPage (north south : CopyFind) (tests : List ColTest) (s : State) : Host.Outcome State Fault Refusal :=
  .next (s.patrolPage north south tests)

def sparesField : Half → Fld
  | .north => Fd.EE_SPARES_NORTH | .south => Fd.EE_SPARES_SOUTH

/-- The lowest free spare column of an array (R575). -/
def State.freeColumn (s : State) (h : Half) (array : Nat) : Option Nat :=
  firstFree ((s.ee.remaps.filter (fun (r : Remap) => r.half = h && r.array == array)).map (·.spare)) 0 16

/-- The rebuild of a half goes on by n rows; its end posts STORE_REPAIR of kind 1 (R575). -/
def State.rebuildRows (s : State) (r : Remap) (n : Nat) : State :=
  let next := r.row.getD 0 + n
  let r' := { r with row := if next < 2048 then some next else none }
  let s := { s with ee := { s.ee with remaps := s.ee.remaps.map (fun x => if x = r then r' else x) } }
  if next < 2048 then s else s.storeRepair (halfNum r.half) 1 r.array r.column r.spare (2048 * r.array)

/-- The EE store of half h has power (R572; 01 R49). -/
def State.storeOn (s : State) (h : Half) : Bool := match h with | .north => bit s.domains 28 | .south => bit s.domains 46

/-- COLUMN_REBUILD: the rebuild of a half goes on by some rows, or the remap of its next broken column is written; an
array with no free spare is beyond repair; no write starts with VHOLD low (R575, R576; 17 R599; 02 R63). -/
def State.columnRebuild (s : State) (h : Half) (rows : Nat) : State :=
  if !s.halfUp h || !s.storeOn h || !s.storeReady then s else
  match s.ee.remaps.find? (fun (r : Remap) => r.half = h && r.row.isSome) with
  | some r => s.rebuildRows r rows
  | none =>
    match s.ee.broken.find? (fun b => b.1 = h) with
    | none => s
    | some (_, array, column) =>
      let s := { s with ee := { s.ee with broken := s.ee.broken.filter (· != (h, array, column)) } }
      match s.freeColumn h array with
      | some spare =>
        let r : Remap := { half := h, array := array, column := column, spare := spare, row := some 0 }
        State.rebuildRows (State.bump { s with ee := { s.ee with remaps := s.ee.remaps ++ [r] } } (sparesField h)) r rows
      | none => (s.storeRepair (halfNum h) 2 array column 0xFFFF (2048 * array)).fence h .beyondRepair

def execColumnRebuild (h : Half) (rows : Nat) (s : State) : Host.Outcome State Fault Refusal :=
  .next (s.columnRebuild h rows)

end Sys2Proof.Machine
end

