-- ==== Sys2Proof/Machine/Rings.lean ====
section
/-! DEFINITION. Doorbells, the ring mailbox, fetching, and the plain barrier (05_command_rings.md R162-R199). -/

namespace Sys2Proof.Machine

/-- Reserve entries lent to flows (R164). -/
def State.lentQueues (s : State) : List Nat := (s.flowHandles.filter (fun h => decide (reserveBase ≤ h ∧ h < 262144)))

/-- Take a reserve entry for a ring: the lowest free one, else the highest lent one whose flow moves to the Spillway
(R163, R165). -/
def State.takeReserve (s : State) : Option (Nat × State) :=
  match firstFree (s.ringQueues ++ s.lentQueues) reserveBase 1024 with
  | some n => some (n, s)
  | none =>
    match s.lentQueues.foldl (fun m q => max m q) 0 with
    | 0 => none
    | q => (s.spillFlow q).map (fun t => (q, t))

/-- Offset of an access within its page. -/
def pageOff (a : Nat) : Nat := a % 0x1000

/-- SQ_TAIL: a doorbell write records new entries; out of range it stops the ring (R173); it leaves Eddy (18 R628). That SQ_TAILi
then keeps the value it held, and that INDEX of the RING_ERROR is the value out of range, are the model's choices (notes/assumptions
101). -/
def execSqTail (p i : Nat) (data : Word) (s : State) : Host.Outcome State Fault Refusal :=
  let a := Reg.SQ_TAIL p i
  let v := data.toNat % 4096
  .next <| match s.part? p with
  | none => s
  | some q =>
    if q.inReset.isSome || !s.windowOpen p then s else
    match q.sq? i with
    | none => s.errCap (pageOf a) p 0x80 (pageOff a) data.toNat
    | some r =>
      if r.size ≤ v then (s.errCap (pageOf a) p 0x82 (pageOff a) data.toNat).stopRing p (.sq i) 5 v
      else ((s.setReg a (BitVec.ofNat 32 v)).updPart p
        (fun q => { q with sqs := updSq i (fun w => { w with tail := v }) q.sqs })).eddyExit

/-- CQ_HEAD: the host consumes completions; a CQ left non-empty sends one more message (R173, R174). A value out of range is dealt
with as SQ_TAIL's (notes/assumptions 101). -/
def execCqHead (p i : Nat) (data : Word) (s : State) : Host.Outcome State Fault Refusal :=
  let a := Reg.CQ_HEAD p i
  let v := data.toNat % 4096
  .next <| match s.part? p with
  | none => s
  | some q =>
    if q.inReset.isSome || !s.windowOpen p then s else
    match q.cq? i with
    | none => s.errCap (pageOf a) p 0x80 (pageOff a) data.toNat
    | some r =>
      if r.size ≤ v then (s.errCap (pageOf a) p 0x82 (pageOff a) data.toNat).stopRing p (.cq i) 5 v
      else
        let s := (s.setReg a (BitVec.ofNat 32 v)).updPart p
          (fun q => { q with cqs := updCq i (fun w => { w with rd := v }) q.cqs })
        if r.wr == v then s else s.sendMsg p r.vec

/-- Record the outcome of a mailbox operation (R169, R170). -/
def State.rcResult (s : State) (p : Nat) (st : Status) : State :=
  (s.setFld (Fd.RC_STAT_BUSY p) 0).setFld (Fd.RC_STAT_RESULT p) st.code

/-- The RING_RESUME detail of SQ i (R194-R196, R205). -/
def resumeDetail (i : Nat) (l : List Resume) : Bytes :=
  match l.find? (fun r => r.sq == i) with
  | none => leBytes 1 i ++ leBytes 1 0
  | some r =>
    if r.hasAll then leBytes 1 i ++ leBytes 1 1 ++ leBytes 2 r.index ++ leBytes 4 r.tag ++ leBytes 8 r.missing
    else if r.hasDur then leBytes 1 i ++ leBytes 1 3 ++ leBytes 2 r.durIndex ++ leBytes 4 r.durTag ++ leBytes 8 r.durMissing
    else leBytes 1 i ++ leBytes 1 0

/-- Rings held by a partition, event ring included (R146, R166). -/
def PartSt.ringCount (q : PartSt) : Nat := q.queues.length

/-- A mailbox operation that finds another one running is ignored and recorded (R169). -/
def State.rcBusy (s : State) (p : Nat) (data : Word) : State :=
  s.errCap (pageOf (Reg.RC_CMD p)) p 0x81 (pageOff (Reg.RC_CMD p)) data.toNat

/-- RING_CREATE: the checks of R170, then an entry from the reserve; a new SQ's first event is RING_RESUME (R196). -/
def execRingCreate (p : Nat) (s : State) : Host.Outcome State Fault Refusal :=
  .next <| match s.part? p with
  | none => s
  | some q =>
    if !s.windowOpen p then s else
    if s.fld (Fd.RC_STAT_BUSY p) == 1 then s.rcBusy p 1 else
    let isCq := s.fld (Fd.RC_CFG_TYPE p) == 1
    let id := s.fld (Fd.RC_CFG_ID p)
    let cq := s.fld (Fd.RC_CFG_CQ_ID p)
    let lg := s.fld (Fd.RC_CFG_SIZE_LOG2 p)
    let base := s.fld (Fd.RC_BASE_LO_ADDR p) * 0x1000 + s.fld (Fd.RC_BASE_HI_ADDR p) * 2 ^ 32
    if lg < 6 || 12 < lg || (if isCq then (q.cq? id).isSome else (q.sq? id).isSome || (q.cq? cq).isNone) then
      s.rcResult p .badParam
    else if q.cfg.ringQuota ≤ q.ringCount then s.rcResult p .queueFull
    else match s.takeReserve with
      | none => s.rcResult p .queueFull
      | some (n, s) =>
        let s := (s.rcResult p .ok).setFld (Fd.RC_QUEUE_QUEUE p) (n - reserveBase)
        if isCq then
          (s.setReg (Reg.CQ_HEAD p id) 0).updPart p (fun q => { q with cqs := q.cqs ++ [{
            id := id, base := base, sizeLog2 := lg, vec := s.fld (Fd.RC_CFG_VEC p), queue := n, wr := 0, rd := 0, reserved := 0, phase := true,
            stopped := false }] })
        else
          let s := (s.setReg (Reg.SQ_TAIL p id) 0).updPart p (fun q => { q with
            resume := q.resume.map (fun r => if r.sq = id then { r with ordinal := none, durOrdinal := none } else r),
            sqs := q.sqs ++ [{
              id := id, base := base, sizeLog2 := lg, cq := cq, queue := n, head := 0, tail := 0, fetched := 0,
              stopped := false, draining := false }] })
          s.post p 2 p (resumeDetail id q.resume)

/-- Commands fetched from a ring and not ended. -/
def State.ringInflight (s : State) (p i : Nat) : List Inflight :=
  s.inflight.filter (fun c => c.key.part == p && c.key.sq == i)

/-- Every command fetched from SQ i has ended and its completion has been posted (R171). -/
def State.sqIdle (s : State) (p i : Nat) : Bool :=
  (s.ringInflight p i).isEmpty && (s.part? p).all (fun q => q.heldCompl.all (fun m => !(m.sq == i)))

/-- Free an SQ's entry and report (R171). -/
def State.freeSq (s : State) (p i : Nat) : State :=
  (s.updPart p (fun q => { q with sqs := q.sqs.filter (fun r => !(r.id == i)) })).rcResult p .ok

/-- RING_DESTROY: a CQ is freed at once; an SQ stops fetching and waits for its fetched commands (R170, R171). -/
def execRingDestroy (p : Nat) (s : State) : Host.Outcome State Fault Refusal :=
  .next <| match s.part? p with
  | none => s
  | some q =>
    if !s.windowOpen p then s else
    if s.fld (Fd.RC_STAT_BUSY p) == 1 then s.rcBusy p 2 else
    let id := s.fld (Fd.RC_CFG_ID p)
    if s.fld (Fd.RC_CFG_TYPE p) == 1 then
      if (q.cq? id).isNone || q.sqs.any (fun r => r.cq == id) then s.rcResult p .badParam
      else (s.updPart p (fun q => { q with cqs := q.cqs.filter (fun r => !(r.id == id)) })).rcResult p .ok
    else match q.sq? id with
      | none => s.rcResult p .badParam
      | some _ =>
        let s := s.updPart p (fun q => { q with sqs := updSq id (fun w => { w with draining := true }) q.sqs })
        if s.sqIdle p id then s.freeSq p id else s.setFld (Fd.RC_STAT_BUSY p) 1

/-- SQ_DRAINED: the last fetched command of a destroyed SQ has posted its completion (R171). -/
def execSqDrained (p i : Nat) (s : State) : Host.Outcome State Fault Refusal :=
  .next <| match s.part? p with
  | none => s
  | some q =>
    match q.sq? i with
    | none => s
    | some r =>
      if r.draining && s.sqIdle p i then s.freeSq p i else s

/-- RING_QUERY: fill RC_QUEUE and RC_INFO for the ring named (R170). -/
def execRingQuery (p : Nat) (s : State) : Host.Outcome State Fault Refusal :=
  .next <| match s.part? p with
  | none => s
  | some q =>
    if !s.windowOpen p then s else
    if s.fld (Fd.RC_STAT_BUSY p) == 1 then s.rcBusy p 3 else
    let id := s.fld (Fd.RC_CFG_ID p)
    let info := fun (st : Bool) (infl head : Nat) (queue : Nat) (s : State) =>
      ((((s.setFld (Fd.RC_INFO_ACTIVE p) 1).setFld (Fd.RC_INFO_STOPPED p) (b2n st)).setFld (Fd.RC_INFO_INFLIGHT p)
        infl).setFld (Fd.RC_INFO_HEAD p) head).setFld (Fd.RC_QUEUE_QUEUE p) (queue - reserveBase)
    let s := s.rcResult p .ok
    if s.fld (Fd.RC_CFG_TYPE p) == 1 then
      match q.cq? id with
      | some r => info r.stopped 0 r.wr r.queue s
      | none => s.setReg (Reg.RC_INFO p) 0
    else match q.sq? id with
      | some r => info r.stopped (s.ringInflight p id).length r.head r.queue s
      | none => s.setReg (Reg.RC_INFO p) 0

/-! ### Fetching (R183, R184) -/

/-- Entries written and not consumed, with those reserved (R183). -/
def Cq.occupied (r : Cq) : Nat := r.reserved + (r.wr + r.size - r.rd) % r.size

/-- SQ r of partition p may be fetched from now (R183). A linked CQ that is STOPPED can take no completion, and is read as one in
which no entry can be reserved (notes/assumptions 101). -/
def State.canFetch (s : State) (p : Nat) (q : PartSt) (r : Sq) : Bool :=
  q.inReset.isNone && !r.stopped && !r.draining && r.head != r.tail && s.gatesOpen &&
  !s.hdrQuiesce p && s.hdrEnable p && s.canMaster p &&
  (s.ringInflight p r.id).all (fun c => decide (r.fetched < c.ordinal + 64)) &&
  (match q.cq? r.cq with | some w => !w.stopped && decide (w.occupied < w.size - 1) | none => false)

/-- The SQ the dispatcher takes next: rotation by ascending number after the last one taken (R184). -/
def State.nextSq (s : State) (p : Nat) (q : PartSt) : Option Nat :=
  let ready := (q.sqs.filter (s.canFetch p q)).map (·.id)
  match (ready.filter (fun i => decide (q.lastSq < i))).min? with
  | some i => some i
  | none => ready.min?

/-! ### Admission among partitions (R150, R151, R184) -/

/-- The dispatcher could take an entry of partition p: one of its SQs can be fetched from, and its class is admitted (18 R656). -/
def State.offers (s : State) (p : Nat) (q : PartSt) : Bool := !s.classHeld q.cfg.cls && q.sqs.any (s.canFetch p q)

/-- The partitions of the class of q that offer entries. -/
def State.rivals (s : State) (q : PartSt) : List (Nat × PartSt) :=
  s.parts.filter (fun x => x.2.cfg.cls == q.cfg.cls && s.offers x.1 x.2)

/-- Partition p has had its turns of the present round: as many as its ENGINE_SHARE (R151). -/
def State.turnsDone (s : State) (p : Nat) (q : PartSt) : Bool := decide (q.cfg.engineShare ≤ mapRead 0 s.units.turns p)

/-- Every partition of the class that offers entries has had its turns: a new round begins. -/
def State.roundDone (s : State) (q : PartSt) : Bool := (s.rivals q).all (fun x => s.turnsDone x.1 x.2)

/-- The dispatcher may take an entry of partition p now: no partition of a higher class offers one, and p has turns left in the round
of its class, or a round begins (R150, R151). In which order a round takes its partitions is open (notes/assumptions 102). -/
def State.mayAdmit (s : State) (p : Nat) (q : PartSt) : Bool :=
  !s.parts.any (fun x => decide (x.2.cfg.cls < q.cfg.cls) && s.offers x.1 x.2) && (!s.turnsDone p q || s.roundDone q)

/-- Partition p has had one more turn. -/
def State.takeTurn (s : State) (p : Nat) (q : PartSt) : State :=
  let l := if s.roundDone q then s.units.turns.filter (fun x => !(s.rivals q).any (fun y => y.1 == x.1)) else s.units.turns
  { s with units := { s.units with turns := mapSet 0 l p (mapRead 0 l p + 1) } }

/-- The command an entry spells, with what the dispatcher fixes at admission (R139, R149, R175, R178). -/
def Inflight.ofEntry (k : CmdKey) (ordinal seq : Nat) (q : PartSt) (f : Fetch) : Inflight :=
  { key := k, ordinal := ordinal, seq := seq, opcode := leAt f.entry 0 2, flags := leAt f.entry 2 2,
    tag := leAt f.entry 4 4, param := slice f.entry 8 32, inLen := leAt f.entry 40 4, outLen := leAt f.entry 44 4,
    inAddr := leAt f.entry 48 8, outAddr := leAt f.entry 56 8, inList := cutLast f.inList, outList := cutLast f.outList,
    input := padTo (leAt f.entry 40 4) f.input, readFail := f.readFail, cls := q.cfg.cls, compat := q.compat,
    secure := q.cfg.secure, share := q.cfg.hammerShare }

/-- An invocation as admitted runs the image its applet has then (11 R442). -/
def State.withImage (s : State) (c : Inflight) : Inflight :=
  if c.opcode = 0x0702 then { c with image := (mapGet s.kalmel.applets (c.p16 0)).map (fun (a : Applet) => a.image) } else c

/-! ### What a fetch reads (R119, R178) -/

/-- The reads of a scatter list, element by element. -/
def listReads : Nat → List Sgl → List (Nat × Nat)
  | _, [] => []
  | a, e :: t => (a, 16) :: listReads (if bit e.flags 1 then e.addr else a + 16) t

/-- The reads of host memory for command c whose entry stands at address a: the entry, the lists, the input, each once. -/
def Inflight.reads (c : Inflight) (a : Nat) : List (Nat × Nat) :=
  (a, 64) :: (if bit c.flags 6 then listReads c.inAddr c.inList else []) ++
  (if bit c.flags 7 then listReads c.outAddr c.outList else []) ++
  (if c.inLen = 0 then [] else if bit c.flags 6 then
    (c.inList.filter (fun e => !bit e.flags 1)).map (fun e => (e.addr, e.len)) else [(c.inAddr, c.inLen)])

/-- The reads go out in the name of partition p (R119). -/
def State.emitReads (s : State) (p : Nat) (l : List (Nat × Nat)) : State :=
  l.foldl (fun t x => t.emit (.hostRead p x.1 x.2)) s

/-- Units a command asks for by its opcode: Hammers for the AES modes, wraps and derivations, digest units for DIGEST,
Anvils for public-key work (10 R397, R406, 14 R519). -/
def unitsOf (op : Nat) : List UnitKind :=
  if [0x0102, 0x0103, 0x0105, 0x010A, 0x010B, 0x0201, 0x0202, 0x0203, 0x0204, 0x0205, 0x0206].contains op then [.hammer]
  else if op = 0x0207 then [.digest]
  else if [0x0301, 0x0302, 0x0303, 0x0304, 0x0305, 0x0306, 0x0307].contains op then [.anvil]
  else []

/-- Halves on whose units a command works: both in paired duty, one copy in each, else the home half of its ring (01 R28, R44). -/
def Inflight.unitHalves (c : Inflight) (queue : Nat) : List Half :=
  if c.pairedOp then [.north, .south] else [if queue % 2 = 0 then .north else .south]

/-- The mode of a command's Hammer requests, or the algorithm of its digest: MODE, CMAC for a derivation, GCM for sealing, else AES-KW
(10 R376, R400; 13 R486, R496). -/
def Inflight.jobMode (c : Inflight) : Nat :=
  if [0x0201, 0x0202, 0x0203, 0x0204].contains c.opcode then c.p8 4
  else if c.opcode = 0x0207 then c.p8 0
  else if c.opcode = 0x0103 then 0x10
  else if c.opcode = 0x010A || c.opcode = 0x010B then 0x01
  else 0x20

/-- Bytes of a command's stream; AES-KW passes six times over its data (10 R397, R399). -/
def Inflight.streamLen (c : Inflight) : Nat :=
  if c.jobMode = 0x20 then 6 * (if c.opcode = 0x0205 then c.inLen else c.inLen - 8) else c.inLen

/-- A fetched command's streams join the queues of their units (R28, R44, R398). -/
def State.admitJobs (s : State) (c : Inflight) (queue : Nat) : State :=
  ((unitsOf c.opcode).flatMap (fun u => (c.unitHalves queue).map (fun h => (u, h)))).foldl (fun t (u, h) =>
    t.newJob (.cmd c.key) u h c.key.part c.runClass true c.jobMode (c.p32 0) c.streamLen) s

/-- Bytes of command input in the input store: held from the read until the completion (17 R616). -/
def State.inputUsed (s : State) : Nat := (s.inflight.map (fun c => min c.inLen 16777216)).sum

/-- A reorder entry of half h is reserved for command c: its home half's, each half's in paired duty, the survivor's in solo duty
(17 R608, R615). -/
def State.reserves (s : State) (h : Half) (c : Inflight) : Bool :=
  c.pairedOp || s.fld Fd.HW_ROLE_SOLO == 1 || s.cmdHome c == halfNum h

/-- Each half that command c needs has one of its 2,048 reorder entries free (17 R615). -/
def State.canReserve (s : State) (c : Inflight) : Bool :=
  [Half.north, Half.south].all (fun h => !s.reserves h c || decide ((s.inflight.filter (s.reserves h)).length < 2048))

/-- The Follower begins its copy of a command in paired duty with its skew (01 R31); an invocation's task has its own (01 R43). -/
def State.followCmd (s : State) (c : Inflight) : State :=
  if !c.pairedOp then s
  else
    let (n, s) := s.skew
    { s with inflight := s.inflight.map (fun o => if o.key = c.key then { o with follower := s.deviceTime + n } else o) }

/-- SQ_FETCH: read the next entry of the ring whose turn it is, reserving a completion entry; an opcode outside the
catalogue ends at once with BAD_OPCODE, and one whose input does not fit the input store, or for which no reorder entry is free, is
not admitted yet (R183, R184, R199; 17 R615, R616). -/
def execSqFetch (p i : Nat) (f : Fetch) (s : State) : Host.Outcome State Fault Refusal :=
  .next <| match s.part? p with
  | none => s
  | some q =>
    if s.nextSq p q ≠ some i || !s.mayAdmit p q then s else
    match q.sq? i with
    | none => s
    | some r =>
      let c := s.withImage (Inflight.ofEntry { part := p, sq := i, idx := r.head } r.fetched s.admitted q f)
      let c := { c with solo := s.fld Fd.HW_ROLE_SOLO == 1 }
      if 16777216 < s.inputUsed + min c.inLen 16777216 || !s.canReserve c || s.classHeld c.runClass ||
         s.inflight.any (fun o => o.opcode == 0x0901) then s else
      let s := (s.takeTurn p q).emitReads p (c.reads (r.base + 64 * r.head))
      let s := { s with inflight := s.inflight ++ [c], admitted := s.admitted + 1 }
      let s := s.updPart p (fun q => { q with
        lastSq := i,
        sqs := updSq i (fun w => { w with head := (w.head + 1) % w.size, fetched := w.fetched + 1 }) q.sqs,
        cqs := updCq r.cq (fun w => { w with reserved := w.reserved + 1 }) q.cqs })
      ((s.followCmd c).admitJobs c r.queue).sweepBad 1

/-- The code RING_ERROR carries for a failed read (R205). -/
def hostErrCode : HostErr → Nat
  | .unsupported => 1 | .abort => 2 | .poisoned => 3 | .timeout => 4

/-- AER's uncorrectable error status bit for a failed read: Poisoned TLP 12, Completion Timeout 14 (PCI Express layout, R113;
notes/assumptions 93); a completion with UR or CA is the completer's to report. -/
def aerBit : HostErr → Option Nat
  | .poisoned => some 12 | .timeout => some 14 | _ => none

/-- AER of function p records the error; the first one's header, which the spec does not fix, is logged (R113). -/
def State.aerLog (s : State) (p : Nat) (e : HostErr) : State :=
  match aerBit e with
  | none => s
  | some b =>
    let f := s.fn p
    let hdr := if f.aer = 0 then (List.range 4).map (fun i => Config.freeNat (s.draws + i) % 2 ^ 32) else f.aerHdr
    State.setFn { s with draws := s.draws + 4 } p { f with aer := setBit f.aer b, aerHdr := hdr }

/-- HOST_READ_ERROR: a read for a ring ends with an error; that ring alone stops, and AER logs the error (R113, R121, R746). -/
def execHostReadError (p : Nat) (r : RingRef) (e : HostErr) (idx : Nat) (s : State) : Host.Outcome State Fault Refusal :=
  .next <| match s.part? p with
  | none => s
  | some q =>
    let alive := match r with
      | .sq i => (match q.sq? i with | some w => !w.stopped | none => false)
      | .cq i => (match q.cq? i with | some w => !w.stopped | none => false)
      | .evr => q.evr.isSome
    if alive then (s.aerLog p e).stopRing p r (hostErrCode e) idx else s

def nopInfo : OpInfo := { code := 0x0001 }

def nopWork (s : State) (_ : Inflight) : Work := .finish s .done

/-- NOP (R188, R197): nothing, or with FENCE the plain barrier. -/
def execNop (k : CmdKey) (s : State) : Host.Outcome State Fault Refusal :=
  .next (s.runCmd nopInfo true nopWork k)

end Sys2Proof.Machine
end

