-- ==== Sys2Proof/Machine/HostLink.lean ====
section
/-! DEFINITION. The host link: configuration requests, page headers, interrupts, event rings, partition
configurations and power votes (04_host_link_and_partitions.md). -/

namespace Sys2Proof.Machine

/-! ### What was withheld (R118, R120, R747) -/

/-- What may go out for function p now that something allows it: completions, then events, then at most one message per vector. The
messages that fall due meanwhile set their Pending Bits (R118, R747). -/
def State.release (s : State) (p : Nat) : State :=
  let m := (s.fn p).fnMask
  let s := ((s.setFn p { s.fn p with fnMask := true }).flushCompl p).drainEvents p
  (s.setFn p { s.fn p with fnMask := m }).flushMsgs p

/-- Apply release to the functions of a list. -/
def State.releaseAll (s : State) (l : List Nat) : State := l.foldl (fun t p => t.release p) s

/-- Drop the rings, doorbells and uncommitted commands of partition p without completions (R106, link reset). -/
def State.dropRings (s : State) (p : Nat) : State :=
  let s := { s with inflight := s.inflight.filter (fun c => !(c.key.part == p)),
                    txns := s.txns.filter (fun t => match t with | .cmd k _ => !(k.part == p) | .own _ => true) }
  let s := s.updPart p (fun q => { q with sqs := [], cqs := [], evr := none, heldCompl := [] })
  s.resetRegs (fun a => (decide (winBase p + 0x1000 ≤ a) && decide (a < winBase p + 0x3800)))

/-! ### Page headers (R124-R127) -/

/-- Device window pages that hold registers, with whether they have interrupt sources. -/
def devPages : List (Nat × Bool) :=
  [(0x000000, false), (0x001000, true), (0x010000, false), (0x020000, false), (0x021000, true), (0x030000, true),
   (0x031000, true), (0x040000, true), (0x041000, true), (0x042000, true), (0x043000, true), (0x050000, false),
   (0x051000, true), (0x060000, true), (0x061000, true), (0x062000, true), (0x070000, true), (0x080000, true),
   (0x090000, true), (0x0A0000, true), (0x0B0000, true), (0x0C0000, true), (0x0D0000, true), (0x0E0000, true),
   (0x0E1000, true), (0x0F0000, true), (0x100000, true), (0x101000, true), (0x102000, false), (0x10F000, false),
   (0x110000, false)]

/-- The flat page exists for the partition whose window it lies in (R127, R129, R130). -/
def State.pageExists (s : State) (pg : Nat) : Bool :=
  match addrPart pg with
  | none => devPages.any (fun c => c.1 == pg)
  | some p => decide (addrOff pg < 0x7000) || (addrOff pg == 0x7000 && s.accessPart == some p)

/-- Partition src reaches the window of a flat address (R128, R133). -/
def srcReaches (src a : Nat) : Bool :=
  match addrPart a with
  | none => src == 0
  | some p => src == p

/-- A page which src may write now: its partition exists and is reached over the link after ready, and the page exists. The
debug port reaches the device window (20 R702). -/
def State.pageOpen (s : State) (src pg : Nat) : Bool :=
  if src = dbgSrc then (addrPart pg).isNone && s.pageExists pg && (s.boot = .up || s.boot = .failed)
  else s.reachable src && !s.retry && (s.boot != .failed || (addrPart pg).isNone) && srcReaches src pg && s.pageExists pg &&
  (s.part? src).isSome

/-- RWL fields of a page are frozen (R17). -/
def State.locked (s : State) (pg : Nat) : Bool := s.fld (Fd.PG_LOCK_LOCK pg) == 1

/-- INT_STAT_CLEAR: 1s clear INT_RAW and INT_STAT bits; a non-zero rest sends one more message (R124, R125). -/
def execIntStatClear (src pg : Nat) (data : Word) (s : State) : Host.Outcome State Fault Refusal :=
  .next <| if !s.pageOpen src pg then s else
  let s := s.setFld (Fd.INT_RAW_RAW pg) (maskDiff (s.fld (Fd.INT_RAW_RAW pg)) data.toNat)
  if s.intStat pg = 0 || s.fld (Fd.INT_VEC_EVT pg) == 1 then s
  else s.sendMsg (s.receiver pg) (s.fld (Fd.INT_VEC_VEC pg))

/-- FORCE: INT_RAW bits are set as if their sources had occurred (R124). -/
def execForce (src pg : Nat) (data : Word) (s : State) : Host.Outcome State Fault Refusal :=
  .next <| if s.pageOpen src pg then s.raise pg data.toNat else s

/-- The four capture registers of a page. -/
def captureRegs (pg a : Nat) : Bool := decide (pg + 0x40 ≤ a) && decide (a < pg + 0x50)

/-- ERR_CAP_CLEAR: 1 in ERR_CAP0.VALID clears all four capture registers (R124). -/
def execErrCapClear (src pg : Nat) (data : Word) (s : State) : Host.Outcome State Fault Refusal :=
  .next <| if s.pageOpen src pg && bit data.toNat 31 then s.resetRegs (captureRegs pg) else s

/-- The fields of a register's word that a page reset returns: RW, and RWL unless locked (R124). -/
def resetFields (locked : Bool) (fs : List FieldDesc) (w : Word) : Word :=
  fs.foldl (fun w f => if f.acc = .rw || (f.acc = .rwl && !locked) then insertBits w f.hi f.lo f.reset else w) w

/-- Return the RW fields of page pg, and its RWL fields unless locked, to reset, and clear INT_RAW, INT_STAT and
ERR_CAP0 (R124). Durable state and admitted work are not touched. The pad page is returned as any other, although R80 gives its
fields their reset values at power-on alone: the model's reading (notes/assumptions 99). -/
def State.pageReset (s : State) (pg : Nat) : State :=
  let l := s.locked pg
  let s := s.regs.foldl (fun t c =>
    if pageOf c.1 = pg then
      match regDesc c.1 with
      | some d => t.setReg c.1 (resetFields l d.fields c.2)
      | none => t
    else t) s
  (s.setReg (Reg.INT_RAW pg) 0).setReg (Reg.ERR_CAP0 pg) 0

/-- QUIESCE: PG_CTL.QUIESCE takes the value written; on a partition header it stops or resumes fetching, on another page the block
takes no new work (R124; `State.pageAdmits`). -/
def execQuiesce (src pg : Nat) (data : Word) (s : State) : Host.Outcome State Fault Refusal :=
  .next <| if s.pageOpen src pg then s.setFld (Fd.PG_CTL_QUIESCE pg) (bitsOf data.toNat 1 1) else s

/-- ENABLE: PG_CTL.ENABLE takes the value written; READY follows it; on a partition header 1 lets out what was
withheld (R124, R747). -/
def execEnable (src pg : Nat) (data : Word) (s : State) : Host.Outcome State Fault Refusal :=
  .next <| if !s.pageOpen src pg then s else
  let b := bitsOf data.toNat 0 0
  let s := s.setFld (Fd.PG_CTL_ENABLE pg) b
  match addrPart pg with
  | some p => if addrOff pg = 0 && b = 1 then s.release p else s
  | none => s

/-! ### Event rings (R146-R148) -/

/-- Put the ring of p in place afresh (R146) and post what was held (R147). -/
def State.startEvr (s : State) (p n : Nat) : State :=
  let base := s.fld (Fd.EVR_BASE_LO_ADDR p) * 0x1000 + s.fld (Fd.EVR_BASE_HI_ADDR p) * 2 ^ 32
  let r : Evr := { base := base, sizeLog2 := s.fld (Fd.EVR_CFG_SIZE_LOG2 p), vec := s.fld (Fd.EVR_CFG_VEC p),
                   queue := n, head := 0, tail := 0, seq := 0, phase := true }
  ((s.setFld (Fd.EVR_HEAD_HEAD p) 0).updPart p (fun q => { q with evr := some r })).drainEvents p

/-- EVR_ENABLE: a write of EVR_CFG with ENABLE 1 allocates the event ring, or sets NOQ or BADCFG (R146, R148). That SIZE_LOG2 is
judged before the quota, where both fail, is the model's choice (notes/assumptions 103). -/
def execEvrEnable (p : Nat) (data : Word) (s : State) : Host.Outcome State Fault Refusal :=
  let a := Reg.EVR_CFG p
  let d := data.toNat
  .next <| match s.part? p with
  | none => s
  | some q =>
    if !s.pageOpen p (pageOf a) then s else
    match q.evr with
    | some r =>
      let s := (s.setFld (Fd.EVR_CFG_VEC p) (bitsOf d 20 16)).updPart p
        (fun q => { q with evr := some { r with vec := bitsOf d 20 16 } })
      if bitsOf d 3 0 = s.fld (Fd.EVR_CFG_SIZE_LOG2 p) then s else s.errCap (pageOf a) p 0x05 (pageOff a) d
    | none =>
      let s := (s.setFld (Fd.EVR_CFG_VEC p) (bitsOf d 20 16)).setFld (Fd.EVR_CFG_SIZE_LOG2 p) (bitsOf d 3 0)
      if bitsOf d 3 0 < 6 || 12 < bitsOf d 3 0 then s.setFld (Fd.EVR_STAT_BADCFG p) 1
      else if q.cfg.ringQuota ≤ q.ringCount then s.setFld (Fd.EVR_STAT_NOQ p) 1
      else match s.takeReserve with
        | none => s.setFld (Fd.EVR_STAT_NOQ p) 1
        | some (n, s) => s.startEvr p n

/-- EVR_DISABLE: a write of EVR_CFG with ENABLE 0 releases the ring's entry (R146). -/
def execEvrDisable (p : Nat) (data : Word) (s : State) : Host.Outcome State Fault Refusal :=
  let a := Reg.EVR_CFG p
  let d := data.toNat
  .next <| match s.part? p with
  | none => s
  | some q =>
    if !s.pageOpen p (pageOf a) then s else
    let s' := if q.evr.isSome && bitsOf d 3 0 ≠ s.fld (Fd.EVR_CFG_SIZE_LOG2 p) then
        s.errCap (pageOf a) p 0x05 (pageOff a) d
      else s.setFld (Fd.EVR_CFG_SIZE_LOG2 p) (bitsOf d 3 0)
    (s'.setFld (Fd.EVR_CFG_VEC p) (bitsOf d 20 16)).updPart p (fun q => { q with evr := none })

/-- EVR_HEAD: the host consumes events; space lets the overflow event and held events go; a ring left non-empty sends
one more message (R147, R148). A value beyond the ring is ignored and recorded. -/
def execEvrHead (p : Nat) (data : Word) (s : State) : Host.Outcome State Fault Refusal :=
  let a := Reg.EVR_HEAD p
  let v := data.toNat % 4096
  .next <| match s.part? p with
  | none => s
  | some q =>
    if !s.pageOpen p (pageOf a) then s else
    match q.evr with
    | none => s.setFld (Fd.EVR_HEAD_HEAD p) v
    | some r =>
      if r.size ≤ v then s.errCap (pageOf a) p 0x80 (pageOff a) data.toNat
      else
        let s := (s.setFld (Fd.EVR_HEAD_HEAD p) v).updPart p (fun q => { q with evr := some { r with head := v } })
        let s := s.drainEvents p
        match (s.part? p).bind (·.evr) with
        | some r' => if r'.head == r'.tail || v == r.tail then s else s.sendMsg p r'.vec
        | none => s

/-! ### Partition configuration (R135-R142) -/

/-- The configuration record's fields but PART, COMPAT and the reserved ones (R135). -/
def PartCfg.ofRecord (b : Bytes) : PartCfg :=
  { secure := bit (leAt b 1 1) 0, access := bit (leAt b 1 1) 2, cls := leAt b 2 1, voteMask := leAt b 3 1,
    ringQuota := leAt b 4 2, flowQuota := leAt b 8 4, pslotQuota := leAt b 12 2, vslotQuota := leAt b 14 2,
    hammerShare := leAt b 16 1, engineShare := leAt b 17 1, laneShare := leAt b 18 1 }

/-- No reserved field set, class and shares and quotas in range (R136, order 3). -/
def recordOk (b : Bytes) : Bool :=
  let c := PartCfg.ofRecord b
  decide (leAt b 1 1 < 8) && decide (c.cls < 4) && decide (c.voteMask < 32) && decide (c.ringQuota ≤ 1024) &&
  leAt b 6 2 == 0 && decide (c.flowQuota ≤ 327680) && decide (c.pslotQuota ≤ 8192) && decide (c.vslotQuota ≤ 32768) &&
  c.hammerShare != 0 && c.engineShare != 0 && c.laneShare != 0 && allZero (slice b 19 13)

/-- Order 7 of R136 for a configuration of partition p. -/
def State.cfgDenied (s : State) (p : Nat) (c : PartCfg) (p0World : Bool) : Bool :=
  (c.secure && !p0World) || (c.access && !c.secure) ||
  (c.access && (match s.accessPart with | some a => a != p | none => false)) || (c.cls == 0 && !c.access)

/-- The number PART_CREATE assigns: the one named, or the lowest free from 1 on (R135). -/
def State.partNumber (s : State) (n : Nat) : Option Nat :=
  if n = 255 then firstFree (s.parts.map (·.1)) 1 63 else if n < 64 then some n else none

def lifeMakerField (s : State) : Bool := s.life == 4 || s.life == 5

/-- Orders 3 to 7 of R136. -/
def partCreateCheck (s : State) (c : Inflight) : Option Status :=
  if !recordOk c.param then some .badParam
  else if c.p8 0 = 0 then some .notPermitted
  else match s.partNumber (c.p8 0) with
  | none => some .noPartition
  | some n =>
    if (s.part? n).isSome then some .badParam
    else if s.cfgDenied n (PartCfg.ofRecord c.param) (s.secure 0) then some .notPermitted
    else none

/-- PART_CREATE once its checks hold: the partition exists from the commit on (R123, R137). -/
def partCreateWork (s : State) (c : Inflight) : Work :=
  match s.partNumber (c.p8 0) with
  | none => .finish s (.fail .noPartition)
  | some n =>
    .commit { s with parts := mapPut s.parts n (PartSt.new (PartCfg.ofRecord c.param) (bit (c.p8 1) 1)) }
      { status := .ok, result := leBytes 1 n }

def partRecordUsed : List (Nat × Nat) := [(0, 32)]

def partCreateInfo : OpInfo :=
  { code := 0x0002, issuer := .p0, used := partRecordUsed, durable := true, first := partCreateCheck }

/-- PART_CREATE (R136, R137). -/
def execPartCreate (k : CmdKey) (s : State) : Host.Outcome State Fault Refusal :=
  .next (s.runCmd partCreateInfo (lifeMakerField s) partCreateWork k)

/-- The WORLD of the record of c differs from that of partition n. -/
def State.worldChange (s : State) (n : Nat) (c : Inflight) : Bool :=
  (s.part? n).any (fun q => q.cfg.secure != (PartCfg.ofRecord c.param).secure)

/-- Orders 3 to 7 of R136 as R139 changes them. A change of WORLD is P0's own (R132). -/
def partSetCheck (s : State) (c : Inflight) : Option Status :=
  let n := c.p8 0
  if !recordOk c.param then some .badParam
  else if (s.part? n).isNone then some (if n < 64 || n = 255 then .badParam else .noPartition)
  else if s.worldChange n c && n ≠ 0 then some .notPermitted
  else if s.cfgDenied n (PartCfg.ofRecord c.param) (s.worldChange n c || s.secure 0) then some .notPermitted
  else none

/-- PART_SET once its checks hold (R139, R140). -/
def partSetWork (s : State) (c : Inflight) : Work :=
  .commit (s.updPart (c.p8 0) (fun q => { q with cfg := PartCfg.ofRecord c.param, compat := bit (c.p8 1) 1 })) .done

/-- The partition that byte 0 of PARAM names is being reset: the command is admitted after step 6 (R154). -/
def targetInReset (s : State) (c : Inflight) : Bool := (s.part? (c.p8 0)).any (fun q => q.inReset.isSome)

/-- Order 2 admits MAKER alone for a change of P0's own world (R132, R139). -/
def partSetLife (s : State) (c : Inflight) : Bool := c.p8 0 != 0 || !s.worldChange 0 c || s.life == 4

def partSetInfo : OpInfo :=
  { code := 0x0003, issuer := .p0, used := partRecordUsed, durable := true, first := partSetCheck, waits := targetInReset,
    lifeAlso := partSetLife }

/-- PART_SET (R139, R140, R154). -/
def execPartSet (k : CmdKey) (s : State) : Host.Outcome State Fault Refusal :=
  .next (s.runCmd partSetInfo (lifeMakerField s) partSetWork k)

/-! ### Power votes (R155-R161) -/

/-- Resources gated by votes: voted by some partition and held by no SECURE-world one (R156). -/
def State.gatedNow (s : State) : Nat :=
  listMask ((List.range 5).filter (fun r =>
    s.parts.any (fun c => bit c.2.gate r) && !s.parts.any (fun c => c.2.cfg.secure && bit c.2.hold r)))

/-- Evaluate every resource after a vote, a withdrawal or a reset; partitions with a vote on a changed resource get a
POWER_VOTE event, and gated lanes go down once nothing of theirs is in flight (R155, R156, R159; 01 R50). -/
def State.evalVotes (s : State) : State :=
  let g := s.gatedNow
  let changed := s.gated ^^^ g
  if changed = 0 then s else
  let s := (State.settleLanes { s with gated := g }).canSettleAll.cardSettle
  s.parts.foldl (fun t c =>
    let m := changed &&& (c.2.hold ||| c.2.gate)
    if m = 0 then t else t.post c.1 6 c.1 (leBytes 1 m ++ leBytes 1 g)) s

/-- A NORMAL-world request for a parked state waits for SECURE-world holds (18 R629, R630). -/
def State.deferred (s : State) : Bool :=
  s.fld Fd.PW_REQ_TARGET != 0 && s.power.reqNormal && s.parts.any (fun (c : Nat × PartSt) => c.2.cfg.secure && c.2.hold != 0)

/-- DEFER occurs where the request was not held before (18 R660). -/
def State.noteDefer (s : State) (was : Bool) : State := if s.deferred && !was then s.raise 0x0E0000 8 else s

/-- POWER_VOTE: HOLD, RELEASE, GATE or UNGATE on a mask of resources (R155, R157). -/
def powerVoteWork (s : State) (c : Inflight) : Work :=
  let act := c.p8 0
  let m := c.p8 1
  match s.part? c.key.part with
  | none => .finish s (.fail .notPermitted)
  | some q =>
    if maskDiff m q.cfg.voteMask ≠ 0 then .finish s (.fail .notPermitted)
    else
      let t := (s.updPart c.key.part (fun q =>
        match act with
        | 0 => { q with hold := q.hold ||| m, gate := maskDiff q.gate m }
        | 1 => { q with hold := maskDiff q.hold m }
        | 2 => { q with gate := q.gate ||| m, hold := maskDiff q.hold m }
        | _ => { q with gate := maskDiff q.gate m })).evalVotes
      let t := t.noteDefer s.deferred
      let deferred := (act = 0 && m &&& t.gated ≠ 0) || (act = 2 && maskDiff m t.gated ≠ 0)
      .finish t (if deferred then { status := .deferred } else .done)

def powerVoteInfo : OpInfo := { code := 0x0006, used := [(0, 2)], params := fun c => decide (c.p8 0 < 4 ∧ c.p8 1 < 32) }

/-- POWER_VOTE (R155-R158). -/
def execPowerVote (k : CmdKey) (s : State) : Host.Outcome State Fault Refusal :=
  .next (s.runCmd powerVoteInfo true powerVoteWork k)

end Sys2Proof.Machine
end

