-- ==== Sys2Proof/Machine/Weir.lean ====
section
/-! DEFINITION. The collector of each half: its 64 ports, the rotating token, and results that wait at their units
(17_halves_and_consistency.md R609, R613, R614). -/

namespace Sys2Proof.Machine

/-- First port of a kind of unit: engines 0-35, Hammers 36-51, digest units 52 and 53, Anvils 54 and 55, context banks 60 and 61.
A comparator path has none; 62 and 63 are reserved (R613). -/
def unitPort (u : UnitRef) : Option Nat :=
  match u.kind with
  | .engine => if u.idx < 36 then some u.idx else none
  | .hammer => if u.idx < 16 then some (36 + u.idx) else none
  | .digest => if u.idx < 2 then some (52 + u.idx) else none
  | .anvil => if u.idx < 2 then some (54 + u.idx) else none
  | .bank => if u.idx < 2 then some (60 + u.idx) else none
  | .path => none

/-- The single ports of Crucible, EE store, Bellows and bridge endpoint (R613). -/
def portCrucible : Nat := 56
def portStore : Nat := 57
def portBellows : Nat := 58
def portBridge : Nat := 59

/-- Ports on from the one after the token, so that a port just served comes last (R614). -/
def tokenOrder (token p : Nat) : Nat := (p + 63 - token) % 64

/-- The waiting arrival that the token reaches first. -/
def nextPort (token : Nat) (l : List (Nat × Nat)) : Option (Nat × Nat) :=
  l.foldl (fun (best : Option (Nat × Nat)) c => match best with
    | none => some c
    | some b => if tokenOrder token c.1 < tokenOrder token b.1 then some c else some b) none

/-- One acceptance: the result leaves its port, its wait counts, and the Weir is taken for `gap` ns. -/
def WeirSt.accept (w : WeirSt) (c : Nat × Nat) (gap : Nat) : WeirSt :=
  let at' := max w.freeAt c.2
  { waiting := w.waiting.erase c, token := c.1, freeAt := at' + gap, longest := max w.longest (min (2 ^ 32 - 1) (at' - c.2)) }

/-- The Weir accepts what waits while it is free by `now`. The time it takes a result is anything from 0 to 11 ns, and free
(R614, 00 R742). -/
def WeirSt.runTo (w : WeirSt) (now : Nat) : Nat → WeirSt
  | 0 => w
  | n + 1 =>
    if now < w.freeAt then w
    else match nextPort w.token w.waiting with
      | none => w
      | some c => (w.accept c (Config.weirGap w.freeAt c.1 % 12)).runTo now n

/-- A result arrives at a port. -/
def WeirSt.arrive (w : WeirSt) (now p : Nat) : WeirSt :=
  let w := w.runTo now w.waiting.length
  WeirSt.runTo { w with waiting := w.waiting ++ [(p, now)] } now 1

/-- A result of half h arrives at port p (R614). -/
def State.portArrive (s : State) (h : Half) (p : Nat) : State :=
  { s with halves := { s.halves with weirs := s.halves.weirs.modify (halfNum h) (fun w => w.arrive s.deviceTime p) } }

/-- A result of unit u arrives at its port (R609, R614). -/
def State.arrive (s : State) (u : UnitRef) : State :=
  match unitPort u with
  | some p => s.portArrive u.half p
  | none => s

/-- The longest wait of an arrival in half n (R626). -/
def State.weirLongest (s : State) (n : Nat) : Nat := match s.halves.weirs[n]? with | some w => w.longest | none => 0

end Sys2Proof.Machine
end

