-- ==== Sys2Proof/Machine/Halves.lean ====
section
/-! DEFINITION. Events of the halves, the warden and the Weirs, and HALF_TEST (17_halves_and_consistency.md R595-R626). -/

namespace Sys2Proof.Machine

/-! ### Heartbeats and the lease (R595-R597) -/

/-- HALF_SILENT: no heartbeat from a half in service for 32 us; it is fenced (R596, R599). -/
def execHalfSilent (h : Half) (s : State) : Host.Outcome State Fault Refusal :=
  .next <| if s.halfUp h && s.halvesOn then s.fence h .silent else s

/-- LEASE_RENEWAL: the warden renews the Lead's lease for 2 ms from now, with the same epoch; an access session that waited for it
goes on (R595, R597). -/
def execLeaseRenewal (s : State) : Host.Outcome State Fault Refusal :=
  .next <| if s.halves.lost || !s.halvesOn || !s.halfUp s.lead || s.txns.contains (.own .epoch) then s
  else ((s.grantLease s.lead).bump Fd.HW_LEASE_RENEWALS).advance

/-- LEASE_EXPIRY: with 0.5 ms or less left no commit starts; an expired lease is held no more (R597). -/
def execLeaseExpiry (s : State) : Host.Outcome State Fault Refusal :=
  .next <|
    if s.deviceTime + 500000 < s.halves.leaseEnd || !s.halvesOn then s else
    let s := { s with halves := { s.halves with stopped := true } }
    if s.halves.leaseEnd ≤ s.deviceTime then s.setFld Fd.HW_ROLE_LEASE 0 else s

/-! ### Comparator paths (R603-R605) -/

/-- Index of a path or bank in HW_PATHS (R626). -/
def pathBit (h : Half) (i : Nat) : Nat := 2 * halfNum h + i

/-- A path charged three times is disabled; a half with both paths disabled is beyond repair (R599, R605). -/
def State.disablePath (s : State) (h : Half) (i : Nat) : State :=
  let s := (s.setFld Fd.HW_PATHS_PATHS (clrBit (s.fld Fd.HW_PATHS_PATHS) (pathBit h i)))
  let s := (s.post 0 0x0032 srcDevice (leBytes 1 (retCode .path) ++ leBytes 1 (halfNum h) ++ leBytes 1 i ++ [6, 0xFF, 0xFF])).raise
    0x0D0000 4
  if bit (s.fld Fd.HW_PATHS_PATHS) (pathBit h 0) || bit (s.fld Fd.HW_PATHS_PATHS) (pathBit h 1) then s
  else s.fence h .beyondRepair

/-- Charges of a path within the last 10 s (R605). -/
def State.chargesOf (s : State) (i : Nat) : Nat :=
  (s.halves.charges.filter (fun (c : Nat × Nat) => c.1 == i && decide (s.deviceTime < c.2 + 10000000000))).length

/-- Charge half h on path i; the third charge within 10 s is true (R605). -/
def State.charge (s : State) (h : Half) (i : Nat) : State × Bool :=
  let s := { s with halves := { s.halves with charges := (pathBit h i, s.deviceTime) :: s.halves.charges } }
  (s, decide (3 ≤ s.chargesOf (pathBit h i)))

/-- Half h is charged now (R599 cause 3, R605). -/
def State.isCharged (s : State) (h : Half) : Bool := decide (0 < s.chargesOf (pathBit h 0) + s.chargesOf (pathBit h 1))

/-! ### Units (R607-R612) -/

/-- A task that the debugger holds at unit u: the time limits of its work do not apply (20 R703). -/
def State.heldByDebug (s : State) (u : UnitRef) : Bool :=
  u.kind = .engine && (match (s.slotOfEngine u.half u.idx).bind (fun j => s.task? ⟨u.half, j⟩) with
    | some t => t.halted
    | none => false)

/-- LATE_RECORD: a hard fault of the Follower's unit (R607, R610). -/
def execLateRecord (u : UnitRef) (s : State) : Host.Outcome State Fault Refusal :=
  .next <| if s.halfUp u.half && u.half ≠ s.lead && !s.heldByDebug u then s.retire u 4 else s

/-- UNIT_WATCHDOG: a hard fault of a unit, by its watchdog or by an uncorrectable parity or ECC error inside it; it is retired (R610,
R611, R625). -/
def execUnitWatchdog (u : UnitRef) (parity : Bool) (s : State) : Host.Outcome State Fault Refusal :=
  .next <| if s.halfUp u.half && (parity || !s.heldByDebug u) then s.retire u (if parity then 2 else 3) else s

def State.updRetired (s : State) (u : UnitRef) (f : Retired → Option Retired) : State :=
  { s with halves := { s.halves with
      retired := s.halves.retired.filterMap (fun (x : Retired) => if x.unit == u then f x else some x) } }

/-- PROBATION_TEST: the unit's part of HALF_TEST once it is due; three passes return it,
an engine as a spare that takes a slot without one (01 R42); a failure makes it BAD (R612). -/
def State.probationTest (s : State) (u : UnitRef) (pass : Bool) : State :=
  match s.halves.retired.find? (fun r => r.unit == u) with
  | none => s
  | some r =>
    if r.bad || decide (s.deviceTime < r.testAt) || !s.halfUp u.half then s
    else if !pass then
      ((s.updRetired u (fun x => some { x with bad := true })).setProbation u false).unitProbation u 4 r.late 0
    else if r.passes < 2 then
      s.updRetired u (fun x => some { x with passes := x.passes + 1, testAt := s.deviceTime + 1000000000 })
    else
      let s := (((s.updRetired u (fun _ => none)).setProbation u false).setService u true).unitProbation u 3 r.late 0
      let remote := if u.kind = .engine then (List.range 32).find? (fun j => s.fld (match u.half with
        | .north => Fd.EN_MAP_N_REMOTE j | .south => Fd.EN_MAP_S_REMOTE j) == 1) else none
      match remote with
      | some j => (s.refillSlot u.half j).setSpares
      | none => s.setSpares.serve 16

def execProbationTest (u : UnitRef) (pass : Bool) (s : State) : Host.Outcome State Fault Refusal :=
  .next (s.probationTest u pass)

/-! ### Context banks (R621) -/

/-- A bank is taken out of service: its queues run in the other half; it is tested and its rebuild begins, or the half is
beyond repair (R599, R621). -/
def State.bankFail (s : State) (h : Half) (i : Nat) (testOk : Bool) (cause : Nat) : State :=
  let b := pathBit h i
  if !bit (s.fld Fd.HW_PATHS_BANKS) b then s else
  let s := (s.setFld Fd.HW_PATHS_BANKS (clrBit (s.fld Fd.HW_PATHS_BANKS) b)).bump Fd.HW_CNT_FAILOVER_BANK
  let ev := fun (t : State) (c : Nat) => (t.post 0 0x0032 srcDevice (leBytes 1 (retCode .bank) ++ leBytes 1 (halfNum h) ++ leBytes 1 i ++
    leBytes 1 c ++ [0xFF, 0xFF])).raise 0x0D0000 4
  let s := ev s cause
  let s := if i = halfNum h && s.halfUp (otherHalf h) then
      ((s.moveJobs .hammer h).moveJobs .digest h).moveJobs .anvil h
    else s
  if testOk then s.setFld Fd.HW_PATHS_REBUILD (setBit (s.fld Fd.HW_PATHS_REBUILD) b)
  else (ev s 7).fence h .beyondRepair

/-- BANK_FAIL (R621). -/
def execBankFail (h : Half) (i : Nat) (testOk : Bool) (s : State) : Host.Outcome State Fault Refusal :=
  .next <| if s.halfUp h && i < 2 then s.bankFail h i testOk 2 else s

/-- BANK_REBUILT: the bank takes its queues back (R621). -/
def execBankRebuilt (h : Half) (i : Nat) (s : State) : Host.Outcome State Fault Refusal :=
  .next <|
    let b := pathBit h i
    if i < 2 && bit (s.fld Fd.HW_PATHS_REBUILD) b then
      (s.setFld Fd.HW_PATHS_REBUILD (clrBit (s.fld Fd.HW_PATHS_REBUILD) b)).setFld Fd.HW_PATHS_BANKS
        (setBit (s.fld Fd.HW_PATHS_BANKS) b)
    else s

/-! ### HALF_TEST (R624) -/

/-- A unit that fails HALF_TEST: a bank fails over, others are retired; a charged half is beyond repair (R599, R610). -/
def State.testFailed (s : State) (u : UnitRef) : State :=
  let charged := s.isCharged u.half
  let s := if u.kind = .bank then s.bankFail u.half u.idx true 5 else s.retire u 5
  let dead := !bit (s.fld Fd.HW_PATHS_PATHS) (pathBit u.half 0) && !bit (s.fld Fd.HW_PATHS_PATHS) (pathBit u.half 1)
  if (charged || dead) && s.halfUp u.half then s.fence u.half .beyondRepair else s

/-- Both units of a kind of the half are in service and pass. -/
def State.bothPass (s : State) (k : RetKind) (h : Half) (fails : List UnitRef) : Bool :=
  s.inService ⟨k, h, 0⟩ && s.inService ⟨k, h, 1⟩ && !fails.any (fun u => u.kind = k)

/-- The test word. -/
def State.testWord (s : State) (h : Half) (f : TestFind) (fails : List UnitRef) : Nat :=
  let n := fun k => (fails.filter (fun u => u.kind = k)).length
  b2n (n .engine == 0) + 2 * b2n (n .hammer == 0) + 4 * b2n (s.bothPass .digest h fails) + 8 * b2n (s.bothPass .anvil h fails) +
  16 * b2n f.crucible + 32 * b2n (s.fld (Fd.WH_STAT_STATE (halfNum h)) == 2) + 64 * b2n (s.bothPass .path h fails) +
  128 * b2n (s.bothPass .bank h fails) + 256 * (n .engine % 256) + 65536 * (n .hammer % 256)

def halfTestWork (f : TestFind) (s : State) (c : Inflight) : Work :=
  let h : Half := if c.p8 0 = 0 then .north else .south
  if !s.halfUp h then .finish s (.fail .fenced) else
  let fails := (f.fails.filter (fun u => u.half = h && s.inService u)).eraseDups
  .finish (fails.foldl State.testFailed s) { status := .ok, result := leBytes 4 (s.testWord h f fails) }

def halfTestInfo : OpInfo :=
  { code := 0x0A01, issuer := .p0, used := [(0, 1)], params := fun c => decide (c.p8 0 < 2) }

/-- HALF_TEST, with what its tests find (R624). -/
def execHalfTest (k : CmdKey) (f : TestFind) (s : State) : Host.Outcome State Fault Refusal :=
  .next (s.runCmd halfTestInfo true (halfTestWork f) k)

/-! ### Resync and rejoin (R622, R623) -/

/-- HALF_REJOINED (R625). -/
def State.rejoinEvent (s : State) (h : Half) (result us : Nat) : State :=
  (s.post 0 0x0031 srcDevice (leBytes 1 (halfNum h) ++ leBytes 1 result ++ [0, 0] ++ leBytes 4 us ++
    leBytes 8 s.halves.epoch)).raise 0x0D0000 2

/-- REJOIN: resync ends. The half enters service as Follower, its units with it and its Wellhead in SERVICE, and the check
key and the mesh key are redrawn, its mirror is up to date (19 R667); or resync failed: it is fenced for that cause and left out of service (R599, R602, R622). -/
def State.rejoin (s : State) (h : Half) (ok : Bool) : State :=
  match s.halves.resyncAt with
  | none => s
  | some (h', since) =>
    if h ≠ h' then s else
    let us := (s.deviceTime - since) / 1000
    if !ok || s.fld (Fd.WH_STAT_STATE (halfNum h)) = 6 then
      let s := s.fence h .resyncFail
      let s := State.setFld { s with halves := { s.halves with resyncAt := none } } (roleField h) 0
      s.rejoinEvent h 1 us
    else
      let s := { s with halves := { s.halves with resyncAt := none } }
      let s := (s.halfUnitsOn h).setFld (roleField h) 1
      let s := (s.setFld (Fd.WH_STAT_STATE (halfNum h)) 2).setFld (Fd.BW_STAT_INST (halfNum h)) 1
      let s := s.setFld Fd.HW_ROLE_SOLO 0
      (((s.catchUp h).drawLink h).drawCheck.drawMesh.rejoinEvent h 0 us).serve 16

def execRejoin (h : Half) (ok : Bool) (s : State) : Host.Outcome State Fault Refusal := .next (s.rejoin h ok)

/-- HW_CLR_WAIT: HW_CTL.CLR_WAIT clears the Weir waits (R626). -/
def execHwClrWait (src : Nat) (data : Word) (s : State) : Host.Outcome State Fault Refusal :=
  .next <| if s.pageOpen src 0x0D0000 && bit data.toNat 0 then
    { s with halves := { s.halves with weirs := s.halves.weirs.map (fun w => { w with longest := 0 }) } }
  else s

end Sys2Proof.Machine
end

