-- ==== Sys2Proof/Machine/Wellhead.lean ====
section
/-! DEFINITION. Wellhead and Bellows: health tests, states and failures, raw-sample mode, reseeds, RANDOM
(15_wellhead_and_bellows.md R535-R555). -/

namespace Sys2Proof.Machine

/-! ### States and failures (R539-R544) -/

/-- STATE of WH_STATn (R555). -/
def State.whState (s : State) (n : Nat) : Nat := s.fld (Fd.WH_STAT_STATE n)
def State.setWhState (s : State) (n v : Nat) : State := s.setFld (Fd.WH_STAT_STATE n) v
def whStartup : Nat := 1
def whService : Nat := 2
def whRecovery : Nat := 3
def whTest : Nat := 4
def whRaw : Nat := 5
def whHalted : Nat := 6

def halfOf (n : Nat) : Half := if n = 0 then .north else .south

/-- ENTROPY_ALARM (R545). -/
def State.entropyAlarm (s : State) (n cause st action : Nat) : State :=
  s.post 0 0x0070 srcDevice (leBytes 1 n ++ leBytes 1 cause ++ leBytes 1 st ++ leBytes 1 action ++
    leBytes 4 (s.fld (Fd.WH_STAT_FAILS n)))

/-- Halted or without power, half n runs no TEST that was asked for. -/
def State.cannotTest (s : State) (n : Nat) : Bool := s.whState n == whHalted || s.whState n == 0

/-- Start the TESTs that may start: North first, none while the other half is in TEST or RECOVERY (R541). -/
def State.startTest (s : State) : State :=
  let busy := fun (n : Nat) => s.whState n == whTest || s.whState n == whRecovery
  if busy 0 || busy 1 then s
  else if (s.well 0).testNext && s.whState 0 == whService then
    (s.updWell 0 (fun w => { w with testNext := false })).setWhState 0 whTest
  else if (!(s.well 0).testNext || s.cannotTest 0) && (s.well 1).testNext && s.whState 1 == whService then
    (s.updWell 1 (fun w => { w with testNext := false })).setWhState 1 whTest
  else s

/-- A Wellhead halts: its half is fenced while the other is in service and not HALTED; otherwise Frexus is without
entropy (R542-R544). -/
def State.whHalt (s : State) (n cause : Nat) : State :=
  let st := s.whState n
  let s := ((s.setWhState n whHalted).setFld (Fd.WH_STAT_CAUSE n) cause).raise 0x0B0000 2
  let h := halfOf n
  if !s.halfUp h then s.entropyAlarm n cause st 1
  else if s.halfUp (otherHalf h) && s.whState (1 - n) != whHalted then
    (s.entropyAlarm n cause st 1).fence h .beyondRepair
  else { s.entropyAlarm n cause st 3 with noEntropy := true }

/-- A Wellhead halts, and a TEST that waited for it may start (R541, R542). -/
def State.whHaltNext (s : State) (n cause : Nat) : State := (s.whHalt n cause).startTest

/-- A counted failure: FAILS, the times of the last second, the interrupt (R539, R555). -/
def State.countFail (s : State) (n cause : Nat) : State :=
  let recent := (s.well n).fails.filter (fun t => decide (s.deviceTime < t + 1000000000))
  (((s.updWell n (fun w => { w with fails := s.deviceTime :: recent })).bumpSat (Fd.WH_STAT_FAILS n)).setFld
    (Fd.WH_STAT_CAUSE n) cause).raise 0x0B0000 1

/-- A health test fails: what follows depends on the state alone (R539). -/
def State.whFail (s : State) (n cause : Nat) : State :=
  let st := s.whState n
  if st = whService then
    let s := s.countFail n cause
    if 4 ≤ (s.well n).fails.length then s.whHaltNext n 8 else s.setWhState n whRecovery
  else if st = whRaw then s.countFail n cause
  else if st = whStartup ∨ st = whRecovery ∨ st = whTest then s.whHaltNext n cause
  else s

/-- The tests run: every state but OFF and HALTED (R538). -/
def State.whRuns (s : State) (n : Nat) : Bool := decide (1 ≤ s.whState n ∧ s.whState n ≤ 5)

/-! ### Samples (R536-R538, R548) -/

/-- x of the two sample streams (R536). -/
def xSamples (a b : List Bool) : List Bool := List.zipWith (fun p q => p != q) a b

/-- Von Neumann output of x: 0 for 0b01, 1 for 0b10 (R536). -/
def vonNeumann : List Bool → List Bool
  | p :: q :: t => if p = q then vonNeumann t else p :: vonNeumann t
  | _ => []

/-- The adaptive proportion test fails: the first sample's value occurs 800 times or more (R538). -/
def proportionFails (x : List Bool) : Bool :=
  match x with
  | [] => false
  | p :: _ => decide (800 ≤ (x.filter (· == p)).length)

/-- The longest run of equal samples is 41 or more, the last run being n samples of value p (R538). -/
def longRun (p : Bool) (n : Nat) : List Bool → Bool
  | [] => decide (41 ≤ n)
  | q :: t => decide (41 ≤ n) || (if q = p then longRun p (n + 1) t else longRun q 1 t)

/-- The repetition count test that a window of samples fails, if any: 1 on a, 2 on b, 3 on x (R538, R545). -/
def repetition (a b : List Bool) : Option Nat :=
  if longRun true 0 a then some 1
  else if longRun true 0 b then some 2
  else if longRun true 0 (xSamples a b) then some 3
  else none

/-- The samples RAW_SEL takes of a window (R548, R555). -/
def rawSamples (sel : Nat) (a b : List Bool) : List Bool :=
  match sel with
  | 0 => (List.zipWith (fun p q => [p, q]) a b).flatten
  | 1 => xSamples a b
  | 2 => vonNeumann (xSamples a b)
  | _ => []

/-- A word of 32 samples, bit 0 first. -/
def sampleWord (l : List Bool) : Word := BitVec.ofNat 32 (l.foldr (fun p v => b2n p + 2 * v) 0)

/-- Samples enter the raw FIFO; on a full FIFO collection pauses and OVERRUN is set; RAW_READY occurs as the level reaches
2,048 words (R548, R555). -/
def State.rawPush (s : State) (n : Nat) : Nat → List Bool → State
  | 0, bits => s.updWell n (fun w => { w with rawPart := bits })
  | k + 1, bits =>
    if bits.length < 32 then s.updWell n (fun w => { w with rawPart := bits })
    else if 4096 ≤ (s.well n).raw.length then
      (s.updWell n (fun w => { w with rawPart := [] })).setFld Fd.WH_RAWSTAT_OVERRUN 1
    else
      let s := s.updWell n (fun w => { w with raw := w.raw ++ [sampleWord (bits.take 32)] })
      let s := if (s.well n).raw.length = 2048 then s.raise 0x0B0000 8 else s
      s.rawPush n k (bits.drop 32)

/-- HEALTH_WINDOW: a window of 1,024 samples of a and b ends (R537, R538). A window that passes both tests in SERVICE adds its von
Neumann output to the pool; in RAW the samples go to the raw FIFO, whether it passes or not, and the repetition counts that fail
within it are those of REPETITION_COUNT_FAIL. -/
def State.healthWindow (s : State) (n : Nat) (a b : List Bool) : State :=
  if !s.whRuns n then s else
  let x := xSamples a b
  let s := if s.whState n = whRaw then
      s.rawPush n 64 ((s.well n).rawPart ++ rawSamples (s.fld Fd.WH_CTL_RAW_SEL) a b)
    else s
  match (if s.whState n = whRaw then none else repetition a b) with
  | some cause => s.whFail n cause
  | none =>
  if proportionFails x then s.whFail n 4
  else if s.whState n = whService then
    (s.updWell n (fun w => { w with pool := min 1024 (w.pool + (vonNeumann x).length) })).bellows n
  else s

def execHealthWindow (h : Half) (a b : List Bool) (s : State) : Host.Outcome State Fault Refusal :=
  .next <| if a.length = 1024 ∧ b.length = 1024 then s.healthWindow (halfNum h) a b else s

/-- REPETITION_COUNT_FAIL: 41 equal samples on a, b or x (cause 1, 2 or 3), mid-window (R538). -/
def execRepetitionCountFail (h : Half) (cause : Nat) (s : State) : Host.Outcome State Fault Refusal :=
  .next <| if s.whRuns (halfNum h) && 1 ≤ cause && cause ≤ 3 then s.whFail (halfNum h) cause else s

/-- OSCILLATOR_CHECK: the frequencies in kHz, whether the phase stayed locked, and the von Neumann bits of the last 100 us,
which RATE shows in 0.1 Mbit/s (R538, R555). -/
def execOscillatorCheck (h : Half) (aKhz bKhz : Nat) (isLocked : Bool) (vnBits : Nat) (s : State) :
    Host.Outcome State Fault Refusal :=
  .next <|
    let n := halfNum h
    if !s.whRuns n then s else
    let s := s.setFld (Fd.WH_STAT_RATE n) (satTo 255 (vnBits / 10))
    let alive := fun f => decide (10000 ≤ f ∧ f ≤ 150000)
    if !alive aKhz || !alive bKhz then s.whFail n 5
    else if isLocked then s.whFail n 6
    else s

/-- WELLHEAD_PHASE_END: STARTUP, RECOVERY or TEST has run its 4,096 samples; STARTUP also its known-answer test
(R539, R540). -/
def execWellheadPhaseEnd (h : Half) (knownAnswer : Bool) (s : State) : Host.Outcome State Fault Refusal :=
  .next <|
    let n := halfNum h
    if s.whState n = whStartup then
      if knownAnswer then ((s.setWhState n whService).bellows n).startTest else s.whFail n 7
    else if s.whState n = whRecovery then ((s.setWhState n whService).bump Fd.WH_CNT_RECOVERED).startTest
    else if s.whState n = whTest then (s.setWhState n whService).startTest
    else s

/-! ### WH_CTL and the raw FIFO (R541, R546-R548) -/

/-- Life cycle codes (20 R683). -/
def lifeTested : Nat := 2
def lifeMaker : Nat := 4

/-- A write that sets RAW_EN, or changes RAW_HALF or RAW_SEL while it is 1, is ignored and recorded (R546). -/
def State.rawRefused (s : State) (src d : Nat) : Bool :=
  let target := bitsOf d 4 4
  if s.fld Fd.WH_CTL_RAW_EN = 1 then
    bitsOf d 4 4 != s.fld Fd.WH_CTL_RAW_HALF || bitsOf d 3 2 != s.fld Fd.WH_CTL_RAW_SEL
  else
    bit d 0 && !(s.secure src && (s.life == lifeTested || s.life == lifeMaker) &&
      s.halfUp (halfOf (1 - target)) && s.whState (1 - target) == whService)

/-- The half named enters RAW: its pool is cleared and its Bellows is no longer instantiated (R547). A source that is HALTED or off
stays so (R542). -/
def State.enterRaw (s : State) (n : Nat) : State :=
  if s.cannotTest n then s else
  ((s.updWell n (fun w => { w with pool := 0, since := 0, stretched := false, testNext := false, rawPart := [] })).setWhState n whRaw).setFld
    (Fd.BW_STAT_INST n) 0

/-- The half in raw mode goes to STARTUP (R547, R539). -/
def State.leaveRaw (s : State) (n : Nat) : State :=
  (((s.updWell n (fun w => { w with pool := 0, fails := [], rawPart := [] })).setWhState n whStartup).setFld
    (Fd.WH_STAT_FAILS n) 0)

/-- The write of the RAW fields of WH_CTL, which a NORMAL-world partition does not change (R18, R546, R547). -/
def State.writeRaw (s : State) (src d : Nat) : State :=
  let was := s.fld Fd.WH_CTL_RAW_EN
  if !s.secure src then s.errCap 0x0B0000 src 3 0x100 d
  else
    let s := ((s.setFld Fd.WH_CTL_RAW_HALF (bitsOf d 4 4)).setFld Fd.WH_CTL_RAW_SEL (bitsOf d 3 2)).setFld Fd.WH_CTL_RAW_EN
      (bitsOf d 0 0)
    let n := bitsOf d 4 4
    if was = 0 && bit d 0 then s.enterRaw n
    else if was = 1 && !bit d 0 && s.whState n = whRaw then s.leaveRaw n
    else s

/-- A write of WH_CTL: ignored and recorded under R546, else the RAW fields, then TEST on each half in service (R541). -/
def State.writeWhCtl (s : State) (src d : Nat) : State :=
  if s.rawRefused src d then s.errCap 0x0B0000 src 0x80 0x100 d
  else
    let s := s.writeRaw src d
    if bit d 7 then
      let flag := fun (t : State) (n : Nat) =>
        if t.halfUp (halfOf n) && (t.whState n == whService || t.whState n == whRecovery || t.whState n == whTest) then
          t.updWell n (fun w => { w with testNext := true })
        else t
      (flag (flag s 0) 1).startTest
    else s

/-- TEST: a write of WH_CTL with TEST set (R541). -/
def execTest (src : Nat) (data : Word) (s : State) : Host.Outcome State Fault Refusal :=
  .next <| if s.pageOpen src 0x0B0000 && bit data.toNat 7 then s.writeWhCtl src data.toNat else s

/-- RAW_EN: a write of WH_CTL that enters or leaves raw-sample mode (R546, R547). -/
def execRawEn (src : Nat) (data : Word) (s : State) : Host.Outcome State Fault Refusal :=
  .next <| if s.pageOpen src 0x0B0000 && !bit data.toNat 7 then s.writeWhCtl src data.toNat else s

/-- WH_RAW_READ: the next FIFO word leaves the FIFO and is read; 0 while it is empty (R548, R555). -/
def execWhRawRead (src : Nat) (s : State) : Host.Outcome State Fault Refusal :=
  .next <|
    if !s.pageOpen src 0x0B0000 then s else
    let n := s.fld Fd.WH_CTL_RAW_HALF
    match (s.well n).raw with
    | [] => s.emit (.regRead src 0)
    | w :: t => (s.updWell n (fun x => { x with raw := t })).emit (.regRead src w)

/-! ### Bellows (R551-R554, R545) -/

/-- BELLOWS_RESEED: a reseed that is due is done, or a stretch begins (R552, R553). -/
def execBellowsReseed (h : Half) (s : State) : Host.Outcome State Fault Refusal := .next (s.bellows (halfNum h)).challengeDue

/-- DEFENCE_RESEED: after 4,096 blocks the defence generator of a Hammer takes 128 bits of its half's Bellows; while that
cannot serve, the generator keys itself and the reseed stays due (R545; 10 R396). -/
def execDefenceReseed (h : Half) (i : Nat) (s : State) : Host.Outcome State Fault Refusal :=
  .next <|
    let key := 16 * halfNum h + i
    if 16 ≤ i || mapRead 0 s.units.blocks key < 4096 || s.drawWaits (halfNum h) || s.noEntropy then s
    else State.drawAt { s with units := { s.units with blocks := mapSet 0 s.units.blocks key 0 } } (halfNum h) 16

/-- RANDOM: OUT_LEN bytes of one generate request (R554). -/
def randomWork (s : State) (c : Inflight) : Work :=
  .finish (s.drawAt (s.drawHalf c) c.outLen) { status := .ok, out := s.drawn c.outLen }

def randomInfo : OpInfo :=
  { code := 0x0401, fixedIn := some 0, minOut := 1, params := fun c => decide (c.outLen ≤ 65536), draws := fun _ => true }

def execRandom (k : CmdKey) (s : State) : Host.Outcome State Fault Refusal := .next (s.runCmd randomInfo true randomWork k)

end Sys2Proof.Machine
end

