-- ==== Sys2Proof/Machine/UnitRows.lean ====
section
/-! DEFINITION. How work goes on Hammers, digest units and Anvils: segments, requests, preemption and failed checks
(10_hammers.md R393, R397-R408; 14_anvils.md R519). -/

namespace Sys2Proof.Machine

/-- The job that unit i of a kind and half runs. -/
def State.runningOn (s : State) (u : UnitKind) (h : Half) (i : Nat) : Option Running :=
  s.units.running.find? (fun (r : Running) => r.job.unit = u && r.job.half = h && r.unit == i)

/-- Take a running job off its unit. -/
def State.stopRun (s : State) (r : Running) : State :=
  { s with units := { s.units with running := s.units.running.filter (· != r) } }

/-- Change the job that a unit runs. -/
def State.setRun (s : State) (r : Running) (j : Job) : State :=
  { s with units := { s.units with running := s.units.running.map (fun (x : Running) => if x = r then { r with job := j } else x) } }

/-- A waiting request of a higher class finds no free unit, and would find one if this work left (R399). -/
def State.preempts (s : State) (r : Running) : Bool :=
  let t := s.stopRun r
  (List.range s.units.waiting.length).any (fun i =>
    match s.units.waiting[i]? with
    | some (j : Job) => j.cls < r.job.cls && j.unit = r.job.unit && j.half = r.job.half && s.eligible i j &&
        (s.freeUnit j).isNone && (t.freeUnit j).isSome
    | none => false)

/-- The preempted request goes to the head of its class queue, and the units are served (R399). -/
def State.preempt (s : State) (r : Running) : State :=
  let s := s.stopRun r
  let s := { s with units := { s.units with waiting := r.job :: s.units.waiting } }
  ((if r.job.unit = .hammer then s.bump Fd.HM_CNT_PREEMPT_COUNT else s)).serve 4

/-- A boundary is reached: the save record stands there, and a waiting request of a higher class takes the unit (R399,
R400). -/
def State.boundary (s : State) (r : Running) (n : Nat) : State :=
  let j := { r.job with
    done := min r.job.total (r.job.done + n), saved := min r.job.total (r.job.done + n), inReq := r.job.inReq + n }
  let t := s.setRun r j
  if t.preempts { r with job := j } then t.preempt { r with job := j } else t

/-- The present request has bytes left (R397). -/
def Job.inRequest (j : Job) : Bool := decide (j.done < j.total) && decide (j.inReq < reqBytes j.mode)

/-- The present request ends: the stream is complete and leaves, or its next request joins afresh behind the others
(R397, R398). -/
def State.endRequest (s : State) (r : Running) : State :=
  let d := min r.job.total (r.job.done + (reqBytes r.job.mode - r.job.inReq))
  let s := s.stopRun r
  if r.job.total ≤ d then s.serve 4
  else s.addJob { r.job with done := d, saved := d, inReq := 0, since := s.deviceTime, avoid := none }

/-- A check fails: the request goes back to its last boundary and restarts on another unit (R393). -/
def State.restart (s : State) (r : Running) (h : Half) : State :=
  let j := { r.job with done := r.job.saved, half := h, avoid := if h = r.job.half then some r.unit else none }
  let s := s.stopRun r
  State.serve { s with units := { s.units with waiting := j :: s.units.waiting } } 4

/-- n blocks more on the Hammers of a job (R396). -/
def State.countBlocks (s : State) (h : Half) (l : List Nat) (n : Nat) : State :=
  { s with units := { s.units with
      blocks := l.foldl (fun m i => mapSet 0 m (16 * halfNum h + i) (mapRead 0 m (16 * halfNum h + i) + n)) s.units.blocks } }

/-- Blocks from the last boundary of a request to its end. -/
def Job.lastBlocks (j : Job) : Nat :=
  (min (j.total - j.done) (reqBytes j.mode - j.inReq) + (if j.mode = 0x20 then 7 else 15)) / (if j.mode = 0x20 then 8 else 16)

/-- HAMMER_SEGMENT_END: the segment's check passes or fails; a result of a unit that runs nothing is late (R393, R399,
R400; 17 R601, R609). -/
def execHammerSegmentEnd (h : Half) (i : Nat) (ok : Bool) (s : State) : Host.Outcome State Fault Refusal :=
  .next <|
    match s.runningOn .hammer h i with
    | none => s.lateItem ⟨.hammer, h, i⟩
    | some r =>
      if !r.job.inRequest then s
      else if ok then ((s.arrive ⟨.hammer, h, i⟩).countBlocks h r.occupies 16).boundary r r.job.seg
      else
        let s := ((s.bump Fd.HM_CNT_MISMATCH_COUNT).raise 0x070000 1).restart r h
        r.occupies.foldl (fun t u => t.strike ⟨.hammer, h, u⟩) s

/-- HAMMER_REQUEST_END: the request completes and the next waiting one takes the unit (R397, R398). -/
def execHammerRequestEnd (h : Half) (i : Nat) (s : State) : Host.Outcome State Fault Refusal :=
  .next <|
    match s.runningOn .hammer h i with
    | none => s.lateItem ⟨.hammer, h, i⟩
    | some r => (((s.arrive ⟨.hammer, h, i⟩).countBlocks h r.occupies r.job.lastBlocks).endRequest r).ownNext h

/-- DIGEST_BLOCK_END: the two units of a half end a block with equal states, or restart on the other half's (R405, R406). -/
def execDigestBlockEnd (h : Half) (ok : Bool) (s : State) : Host.Outcome State Fault Refusal :=
  .next <|
    match s.runningOn .digest h 0 with
    | none => s.lateItem ⟨.digest, h, 0⟩
    | some r =>
      if ok then
        let j := { r.job with done := r.job.done + r.job.seg, inReq := r.job.inReq + r.job.seg }
        let s := s.arrive ⟨.digest, h, 0⟩
        if j.inRequest then s.boundary r r.job.seg
        else (s.setRun r j).endRequest { r with job := j }
      else
        let s := ((s.bump Fd.DG_STAT_MISMATCH).raise 0x070000 1).restart r (otherHalf h)
        [0, 1].foldl (fun t u => t.strike ⟨.digest, h, u⟩) s

/-- ANVIL_OP_END: the operation completes and the next request is served; a signature that another Anvil does not verify is
computed again on another one, and both units are reported (14 R519). -/
def execAnvilOpEnd (h : Half) (i : Nat) (failedBy : Option (Half × Nat)) (s : State) : Host.Outcome State Fault Refusal :=
  .next <|
    match s.runningOn .anvil h i with
    | none => s.lateItem ⟨.anvil, h, i⟩
    | some r =>
      match failedBy with
      | none => ((s.arrive ⟨.anvil, h, i⟩).stopRun r).serve 4
      | some (vh, vi) =>
        let s := ((s.bump Fd.AV_CNT_CHECK_SELFCHECK).raise 0x0A0000 1).restart r h
        (s.strike ⟨.anvil, h, i⟩).strike ⟨.anvil, vh, vi⟩

/-- HM_CLR_WAIT: HM_CTL.CLR_WAIT clears every HM_WAITMAX (R408). -/
def execHmClrWait (src : Nat) (data : Word) (s : State) : Host.Outcome State Fault Refusal :=
  .next <| if s.pageOpen src 0x070000 && bit data.toNat 0 then
    (List.range 4).foldl (fun t c => t.setFld (Fd.HM_WAITMAX_NS c) 0) s
  else s

end Sys2Proof.Machine
end

