-- ==== Sys2Proof/Machine/Kalmel.lean ====
section
/-! DEFINITION. How a Kalmel instruction runs: its budget and fetch, its effect or its fault, the next PC; computations,
memory, control transfer and stack (11_kalmel_engines.md R410-R428, R448; 12_kalmel_instruction_set.md R452-R475). -/

namespace Sys2Proof.Machine

/-- How an instruction ends: it goes on in sequence or at a target, or faults without effect. -/
inductive KOut
  | go (k : KCtx)
  | goto (k : KCtx) (pc : Nat)
  | fault (f : KFault)

/-! ### Faults (R448) -/

/-- Status and DETAIL of a fault at privilege A (R448). -/
def KFault.reply : KFault → Reply
  | .illegal => { status := .badParam, detail := 0x0A01 }
  | .protect => { status := .notPermitted, detail := 0x0A02 }
  | .stack => { status := .badParam, detail := 0x0A03 }
  | .steps => { status := .badParam, detail := 0x0A04 }
  | .result => { status := .badParam, detail := 0x0A05 }

/-- End the command of a task, if it serves one that has not ended. -/
def State.endCmd (s : State) (b : TaskStart) (r : Reply) : State :=
  match b.cmd with
  | some k => (match s.cmd? k with | some c => s.finish c false r | none => s)
  | none => s

/-- A second fault of a frame's task: the frame's message fails with FORMAT (R448). -/
def State.failFrame (s : State) (b : TaskStart) : State :=
  match b.frame with
  | some id => (match s.turn id with | some (f, i, m, h, fl) => s.failMsg f i h fl.ctx m .format 0 | none => s)
  | none => s

/-- A slot for a second run on another engine: of the same half, else of the other. -/
def State.otherSlot (s : State) (e : EngRef) : Option EngRef :=
  (slotsOf e.half ++ slotsOf (otherHalf e.half)).find? (fun d =>
    d != e && s.slotFree d && s.halfUp d.half && !s.claimed d)

/-- A fault ends the task in slot e. At privilege A its invocation completes without effect; at P or F the engine fault is
reported, the engine is reset (03 R103), the task is run once more on another engine, and a second fault is charged to the
input (R448). -/
def State.kFault (s : State) (e : EngRef) (t : Task) (f : KFault) : State :=
  let s := (s.bump Fd.EN_CNT_FAULT_COUNT).raise 0x080000 4
  let s := if t.start.priv = .a then s.updEng e (fun x => { x with task := none }) else s.engineReset e
  if t.start.priv = .a then s.endCmd t.start f.reply
  else if t.start.again then (s.failFrame t.start).endCmd t.start { status := .badParam, detail := 0x0A0F }
  else
    let s := s.strike ⟨.engine, e.half, s.physOf e.half (e.slot % 32)⟩
    match s.otherSlot e with
    | some d => s.startTask d { t.start with again := true }
    | none => s

/-! ### One instruction (R416, R452, R454) -/

/-- What an instruction of slot e works on. -/
def State.kCtx (s : State) (e : EngRef) (t : Task) : KCtx :=
  { t := t, dm := (s.eng e).dm, pool := s.kalmel.pools, org := poolOrg e.half }

/-- The state after an instruction: its effect, the PC, one step less, and the product one instruction older (R416,
R454). `old` is the task before it. -/
def State.kCommit (s : State) (e : EngRef) (old : Task) (k : KCtx) (pc : Nat) : State :=
  let t := { k.t with pc := pc, steps := old.steps.map (· - 1), p2 := old.p1, p3 := old.p2 }
  State.updEng { s with kalmel := { s.kalmel with pools := k.pool } } e (fun x => { x with task := some t, dm := k.dm })

/-- The checks before any effect: a budget that is spent, words that may not be fetched (R452, R454). -/
def kCheck (t : Task) (words : Nat) : Option KFault :=
  if t.steps = some 0 then some .steps else if canFetch t.start.priv t.pc words then none else some .protect

/-- Run an instruction of so many words on task t of slot e. -/
def State.runInstr (s : State) (e : EngRef) (t : Task) (words : Nat) (f : KCtx → KOut) : State :=
  match kCheck t words with
  | some x => s.kFault e t x
  | none =>
    match f (s.kCtx e t) with
    | .go k => s.kCommit e t k (t.pc + words)
    | .goto k pc => s.kCommit e t k pc
    | .fault x => s.kFault e t x

/-- The task of slot e that may take an instruction now: it waits for nothing, is not halted, and no GUARD runs (R410; 19
R668). -/
def State.ready (s : State) (e : EngRef) : Option Task :=
  match s.task? e with
  | some t => if t.wait = .none && !t.halted && s.gatesOpen then some t else none
  | none => none

/-- Run an instruction on the task of slot e, if it may take one now. -/
def State.instr (s : State) (e : EngRef) (words : Nat) (f : KCtx → KOut) : State :=
  match s.ready e with
  | some t => s.runInstr e t words f
  | none => s

/-- An instruction that changes its task alone. -/
def compute (g : Task → Task) (k : KCtx) : KOut := .go { k with t := g k.t }

/-! ### Memory (R418-R420, R466) -/

def kLd (r b off : Nat) (k : KCtx) : KOut :=
  let a := (k.t.reg b).toNat + off
  if dmRead k.priv a then .go { k with t := k.t.setReg r (k.dmAt a) } else .fault .protect

def kSt (r b off : Nat) (k : KCtx) : KOut :=
  let a := (k.t.reg b).toNat + off
  if dmWrite k.priv a then .go (k.setDm a [k.t.reg r]) else .fault .protect

/-- LDP: the word of the pool window, zero-extended (R419). -/
def kLdp (r b off : Nat) (k : KCtx) : KOut :=
  let a := (k.t.reg b).toNat + 4 * off
  if poolOk k.t a then .go { k with t := k.t.setReg r (BitVec.ofNat 36 (leNat (k.poolBytes a 4))) } else .fault .protect

/-- STP: bits [31:0] to the pool window (R419). -/
def kStp (r b off : Nat) (k : KCtx) : KOut :=
  let a := (k.t.reg b).toNat + 4 * off
  if poolOk k.t a then .go (k.setPool a (leBytes 4 (k.t.reg r).toNat)) else .fault .protect

/-! ### Stack (R421, R424-R428, R464) -/

/-- k14, the stack pointer. -/
def Task.sp (t : Task) : Nat := (t.reg 14).toNat
def Task.setSp (t : Task) (a : Nat) : Task := t.setReg 14 (BitVec.ofNat 36 a)

/-- PUSH ks: the value before the decrement. -/
def kPush (r : Nat) (k : KCtx) : KOut :=
  let a := k.t.sp - 1
  if k.t.sp < 0x801 then .fault .stack
  else if dmWrite k.priv a then .go ({ k with t := k.t.setSp a }.setDm a [k.t.reg r]) else .fault .protect

/-- POP kd: POP k14 leaves k14 at the loaded value. -/
def kPop (r : Nat) (k : KCtx) : KOut :=
  let a := k.t.sp
  if 0xC00 < a + 1 then .fault .stack
  else if dmRead k.priv a then .go { k with t := (k.t.setSp (a + 1)).setReg r (k.dmAt a) } else .fault .protect

/-- The registers a CALLM mask names, rising: bit i is k(4 + i) (R424). -/
def maskRegs (m : Nat) : List Nat := (maskList m 8).map (· + 4)

/-- The frame header (R425). -/
def frameHeader (m retpc : Nat) : EWord := BitVec.ofNat 36 (m % 256 * 2 ^ 28 + retpc % 2 ^ 13)

/-- CALLM kt with mask m: kt is read first, then the registers, the header, k14 and the jump (R424, R468). -/
def kCallm (m kt : Nat) (k : KCtx) : KOut :=
  let target := (k.t.reg kt).toNat
  let rs := maskRegs m
  let base := k.t.sp - (rs.length + 1)
  if !canExec k.priv target then .fault .protect
  else if k.t.sp < 0x800 + (rs.length + 1) then .fault .stack
  else if !((List.range (rs.length + 1)).all (fun i => dmWrite k.priv (base + i))) then .fault .protect
  else
    .goto ({ k with t := k.t.setSp base }.setDm base (frameHeader m (k.t.pc + 1) :: rs.map k.t.reg)) target

/-- RETM: the header decides; nothing is restored where it fails (R421, R426, R428). -/
def kRetm (k : KCtx) : KOut :=
  let a := k.t.sp
  let h := (k.dmAt a).toNat
  let rs := maskRegs (bitsOf h 35 28)
  if 0xC00 < a + 1 then .fault .stack
  else if !dmRead k.priv a then .fault .protect
  else if 0xC00 < a + 1 + rs.length || bitsOf h 27 13 != 0 || !canExec k.priv (bitsOf h 12 0) then .fault .stack
  else
    let t := (List.range rs.length).foldl (fun t i => t.setReg (rs.getD i 4) (k.dmAt (a + 1 + i))) k.t
    .goto { k with t := t.setSp (a + 1 + rs.length) } (bitsOf h 12 0)

/-! ### Control transfer (R461, R467) -/

/-- Go to a target in the X regions, or PROTECT. -/
def jumpTo (target : Nat) (k : KCtx) : KOut := if canExec k.priv target then .goto k target else .fault .protect

def kJr (r : Nat) (k : KCtx) : KOut := jumpTo (k.t.reg r).toNat k

/-- JMPcc: bit 13 of the extension word must be 0 (R453, R461). -/
def kJmpcc (c target : Nat) (k : KCtx) : KOut :=
  if 0x2000 ≤ target then .fault .illegal
  else if condHolds c k.t.fl then jumpTo target k else .go k

/-- A short branch: disp is seven bits, sign-extended, from the next instruction. -/
def kBranch (c disp : Nat) (k : KCtx) : KOut :=
  if condHolds c k.t.fl then jumpTo ((k.t.pc + 1 + (if disp % 128 < 64 then disp % 128 else 8192 + disp % 128 - 128)) % 8192) k
  else .go k

/-! ### Special registers (R412, R465) -/

def kMfs (n d info gen : Nat) (k : KCtx) : KOut := .go { k with t := k.t.setReg d (special n (BitVec.ofNat 36 info) gen k.t) }

def kMts (n s : Nat) (k : KCtx) : KOut :=
  match mtsTo n (k.t.reg s) k.t with
  | some t => .go { k with t := t }
  | none => .fault .illegal

/-! ### Profile group (R423, R430-R432, R470-R472) -/

/-- An instruction of the SHAPE or TIME group runs the other group's instruction in the other profile. -/
def byProfile (shape time : KCtx → KOut) (k : KCtx) : KOut := if k.t.start.profile then time k else shape k

def shapeBfi (d s p w : Nat) (k : KCtx) : KOut := if fieldOk p w then compute (kBfi d s p w) k else .fault .illegal
def shapeBfx (d s p w : Nat) (k : KCtx) : KOut := if fieldOk p w then compute (kBfx d s p w) k else .fault .illegal

/-- WFE kd: pending events within the mask are taken, or the task waits. -/
def timeWfe (d : Nat) (k : KCtx) : KOut :=
  let m := k.t.wfeMask d
  .go { k with t := if k.t.evpend &&& m = 0 then { k.t with wait := .wfe d } else k.t.takeEvents d m }

/-- WAITC ks: the deadline is reached, an event in WMASK is pending, or the task waits. -/
def timeWaitc (now : EWord) (r : Nat) (k : KCtx) : KOut :=
  let d := k.t.reg r
  let t :=
    if reached now d then { k.t with fl := { k.t.fl with c := true } }
    else if k.t.evpend &&& k.t.wmask = 0 then { k.t with wait := .waitc d }
    else { k.t with fl := { k.t.fl with c := false } }
  .go { k with t := t }

/-- RDT kd: bits [35:0] of device time, and bits [63:36] to DTHI. -/
def timeRdt (now : Nat) (d : Nat) (k : KCtx) : KOut :=
  .go { k with t := { k.t.setReg d (BitVec.ofNat 36 now) with dthi := BitVec.ofNat 28 (now / 2 ^ 36) } }

/-- Slot that SEV names in bits [8:4], and its line. -/
def sevSlot (v : EWord) : Nat := bitsOf v.toNat 8 4
def sevLine (v : EWord) : Nat := 8 + bitsOf v.toNat 2 0

/-- SEV ks: at P or A only the task's own slot may be named (R431). -/
def timeSev (own r : Nat) (k : KCtx) : KOut :=
  if k.priv ≠ .f && sevSlot (k.t.reg r) != own then .fault .protect else .go k

/-- The state after SEV: the event is set on the slot named, within the half. -/
def State.sev (s : State) (e : EngRef) (r : Nat) : State :=
  match s.ready e with
  | none => s
  | some t =>
    let v := t.reg r
    let f := timeSev (e.slot % 32) r
    match kCheck t 2, f (s.kCtx e t) with
    | none, .go _ => (s.runInstr e t 2 f).setEvent ⟨e.half, sevSlot v⟩ (sevLine v)
    | _, _ => s.runInstr e t 2 f

/-! ### User opcodes (R473, R474) -/

/-- The computation of a micro-step on registers relative to d, none for a word of no such form. NOP, STOP and SKIP are
handled by the run. -/
def microStep (w d : Nat) (t : Task) : Option Task :=
  let a := d + bitsOf w 7 4
  let b := d + bitsOf w 3 0
  if 0x2000 ≤ w ∧ w < 0x3000 then
    some (match bitsOf w 11 8 with
      | 0 => kMov a b t | 1 => kAdd a b t | 2 => kAdc a b t | 3 => kSub a b t | 4 => kSbc a b t | 5 => kCmp a b t
      | 6 => kAnd a b t | 7 => kOr a b t | 8 => kXor a b t | 9 => kShl a (.reg b) t | 10 => kShr a (.reg b) t
      | 11 => kSar a (.reg b) t | 12 => kMul a b t | 13 => kMulu a b t | 14 => kMac a b t | _ => kMsb a b t)
  else if 0x1000 ≤ w ∧ w < 0x1800 then
    some (if bit w 10 then kAddi b (bitsOf w 9 4) t else kMovi b (bitsOf w 9 4) t)
  else if 0x0800 ≤ w ∧ w < 0x1000 then
    some (match bitsOf w 10 9 with
      | 0 => kShl b (.imm (bitsOf w 8 4)) t | 1 => kShr b (.imm (bitsOf w 8 4)) t
      | 2 => kSar b (.imm (bitsOf w 8 4)) t | _ => kRor b (bitsOf w 8 4) t)
  else if w = 0 then some t
  else if 0x0030 ≤ w ∧ w < 0x0080 then
    some (match bitsOf w 7 4 with
      | 3 => kNot b t | 4 => kNeg b t | 5 => kAbs b t | 6 => kTst b t | _ => kPmv b t)
  else if 0x0100 ≤ w ∧ w < 0x0140 then some (t.setReg b (special (bitsOf w 7 4) 0 0 t))
  else none

/-- A STOP step. -/
def isStop (w : Nat) : Bool := w == 0x1800

/-- A SKIP step: its condition and count. -/
def skipOf (w : Nat) : Option (Nat × Nat) :=
  if 0x1800 < w ∧ w < 0x2000 ∧ 1 ≤ w % 128 ∧ w % 128 ≤ 7 then some (bitsOf w 10 7, w % 128) else none

/-- Run micro-steps until STOP, the end, or past a SKIP; `skip` steps are still to be passed over. -/
def microRun (d : Nat) : List Nat → Nat → Task → Task
  | [], _, t => t
  | w :: ws, skip, t =>
    if skip ≠ 0 then microRun d ws (skip - 1) t
    else if isStop w then t
    else match skipOf w with
      | some (c, n) => microRun d ws (if condHolds c t.fl then n else 0) t
      | none => microRun d ws 0 ((microStep w d t).getD t)

/-- UOPn kd: ILLEGAL while no table is active or the first step is STOP (R473). -/
def kUop (table : Option (List Nat)) (n d : Nat) (k : KCtx) : KOut :=
  match table with
  | none => .fault .illegal
  | some l =>
    let ws := (l.drop (8 * (n % 16))).take 8
    if isStop (ws.headD 0x1800) then .fault .illegal else .go { k with t := microRun d ws 0 k.t }

end Sys2Proof.Machine
end

