-- ==== Sys2Proof/Machine/KalmelRows.lean ====
section
/-! DEFINITION. The Kalmel instructions, one command each, on the task of an engine slot
(12_kalmel_instruction_set.md R457-R473). -/

namespace Sys2Proof.Machine

/-- MOV kd, ks (R457). -/
def execMov (e : EngRef) (d r : Nat) (s : State) : Host.Outcome State Fault Refusal := .next (s.instr e 1 (compute (kMov d r)))

/-- ADD kd, ks (R456, R457, R459). -/
def execAdd (e : EngRef) (d r : Nat) (s : State) : Host.Outcome State Fault Refusal := .next (s.instr e 1 (compute (kAdd d r)))

/-- ADC kd, ks (R456, R457). -/
def execAdc (e : EngRef) (d r : Nat) (s : State) : Host.Outcome State Fault Refusal := .next (s.instr e 1 (compute (kAdc d r)))

/-- SUB kd, ks (R456, R457, R459). -/
def execSub (e : EngRef) (d r : Nat) (s : State) : Host.Outcome State Fault Refusal := .next (s.instr e 1 (compute (kSub d r)))

/-- SBC kd, ks (R456, R457). -/
def execSbc (e : EngRef) (d r : Nat) (s : State) : Host.Outcome State Fault Refusal := .next (s.instr e 1 (compute (kSbc d r)))

/-- CMP kd, ks (R456, R457). -/
def execCmp (e : EngRef) (d r : Nat) (s : State) : Host.Outcome State Fault Refusal := .next (s.instr e 1 (compute (kCmp d r)))

/-- AND kd, ks (R457). -/
def execAnd (e : EngRef) (d r : Nat) (s : State) : Host.Outcome State Fault Refusal := .next (s.instr e 1 (compute (kAnd d r)))

/-- OR kd, ks (R457). -/
def execOr (e : EngRef) (d r : Nat) (s : State) : Host.Outcome State Fault Refusal := .next (s.instr e 1 (compute (kOr d r)))

/-- XOR kd, ks (R457). -/
def execXor (e : EngRef) (d r : Nat) (s : State) : Host.Outcome State Fault Refusal := .next (s.instr e 1 (compute (kXor d r)))

/-- MUL kd, ks (R457, R463). -/
def execMul (e : EngRef) (d r : Nat) (s : State) : Host.Outcome State Fault Refusal := .next (s.instr e 1 (compute (kMul d r)))

/-- MULU kd, ks (R457, R463). -/
def execMulu (e : EngRef) (d r : Nat) (s : State) : Host.Outcome State Fault Refusal := .next (s.instr e 1 (compute (kMulu d r)))

/-- MAC kd, ks (R457, R463). -/
def execMac (e : EngRef) (d r : Nat) (s : State) : Host.Outcome State Fault Refusal := .next (s.instr e 1 (compute (kMac d r)))

/-- MSB kd, ks (R457, R463). -/
def execMsb (e : EngRef) (d r : Nat) (s : State) : Host.Outcome State Fault Refusal := .next (s.instr e 1 (compute (kMsb d r)))

/-- SHL kd, kd by a register or an immediate (R456-R459). -/
def execShl (e : EngRef) (d : Nat) (n : ShiftBy) (s : State) : Host.Outcome State Fault Refusal :=
  .next (s.instr e 1 (compute (kShl d n)))

/-- SHR kd, kd by a register or an immediate (R456-R459). -/
def execShr (e : EngRef) (d : Nat) (n : ShiftBy) (s : State) : Host.Outcome State Fault Refusal :=
  .next (s.instr e 1 (compute (kShr d n)))

/-- SAR kd, kd by a register or an immediate (R456-R459). -/
def execSar (e : EngRef) (d : Nat) (n : ShiftBy) (s : State) : Host.Outcome State Fault Refusal :=
  .next (s.instr e 1 (compute (kSar d n)))

/-- ROR kd, kd, n by an immediate (R456, R458). -/
def execRor (e : EngRef) (d a : Nat) (s : State) : Host.Outcome State Fault Refusal := .next (s.instr e 1 (compute (kRor d a)))

/-- MOVI kd, imm6 (R460). -/
def execMovi (e : EngRef) (d imm : Nat) (s : State) : Host.Outcome State Fault Refusal := .next (s.instr e 1 (compute (kMovi d imm)))

/-- ADDI kd, imm6 (R456, R459, R460). -/
def execAddi (e : EngRef) (d imm : Nat) (s : State) : Host.Outcome State Fault Refusal := .next (s.instr e 1 (compute (kAddi d imm)))

/-- MOVW kd, imm14 (R461). -/
def execMovw (e : EngRef) (d imm : Nat) (s : State) : Host.Outcome State Fault Refusal := .next (s.instr e 2 (compute (kMovw d imm)))

/-- ADDW kd, imm14 (R456, R459, R461). -/
def execAddw (e : EngRef) (d imm : Nat) (s : State) : Host.Outcome State Fault Refusal := .next (s.instr e 2 (compute (kAddw d imm)))

/-- CMPW kd, imm14 (R456, R461). -/
def execCmpw (e : EngRef) (d imm : Nat) (s : State) : Host.Outcome State Fault Refusal := .next (s.instr e 2 (compute (kCmpw d imm)))

/-- ANDW kd, imm14 (R461). -/
def execAndw (e : EngRef) (d imm : Nat) (s : State) : Host.Outcome State Fault Refusal := .next (s.instr e 2 (compute (kAndw d imm)))

/-- ORW kd, imm14 (R461). -/
def execOrw (e : EngRef) (d imm : Nat) (s : State) : Host.Outcome State Fault Refusal := .next (s.instr e 2 (compute (kOrw d imm)))

/-- XORW kd, imm14 (R461). -/
def execXorw (e : EngRef) (d imm : Nat) (s : State) : Host.Outcome State Fault Refusal := .next (s.instr e 2 (compute (kXorw d imm)))

/-- MOVL kd, imm36 (R461). -/
def execMovl (e : EngRef) (d : Nat) (imm : EWord) (s : State) : Host.Outcome State Fault Refusal :=
  .next (s.instr e 4 (compute (kMovl d imm)))

/-- JMPcc target (R455, R461, R467). -/
def execJmpcc (e : EngRef) (c target : Nat) (s : State) : Host.Outcome State Fault Refusal := .next (s.instr e 2 (kJmpcc c target))

/-- A short branch (R455, R467). -/
def execShortBranch (e : EngRef) (c disp : Nat) (s : State) : Host.Outcome State Fault Refusal := .next (s.instr e 1 (kBranch c disp))

/-- JR ks (R467). -/
def execJr (e : EngRef) (r : Nat) (s : State) : Host.Outcome State Fault Refusal := .next (s.instr e 1 (kJr r))

/-- CALLM kt, mask (R424, R425, R468). -/
def execCallm (e : EngRef) (m kt : Nat) (s : State) : Host.Outcome State Fault Refusal := .next (s.instr e 1 (kCallm m kt))

/-- RETM (R426, R428). -/
def execRetm (e : EngRef) (s : State) : Host.Outcome State Fault Refusal := .next (s.instr e 1 kRetm)

/-- NOP of the engines (R464). -/
def execNopInstruction (e : EngRef) (s : State) : Host.Outcome State Fault Refusal := .next (s.instr e 1 (compute (fun t => t)))

/-- PUSH ks (R421, R464). -/
def execPush (e : EngRef) (r : Nat) (s : State) : Host.Outcome State Fault Refusal := .next (s.instr e 1 (kPush r))

/-- POP kd (R421, R464). -/
def execPop (e : EngRef) (r : Nat) (s : State) : Host.Outcome State Fault Refusal := .next (s.instr e 1 (kPop r))

/-- NOT kd (R464). -/
def execNot (e : EngRef) (d : Nat) (s : State) : Host.Outcome State Fault Refusal := .next (s.instr e 1 (compute (kNot d)))

/-- NEG kd (R456, R459, R464). -/
def execNeg (e : EngRef) (d : Nat) (s : State) : Host.Outcome State Fault Refusal := .next (s.instr e 1 (compute (kNeg d)))

/-- ABS kd (R456, R459, R464). -/
def execAbs (e : EngRef) (d : Nat) (s : State) : Host.Outcome State Fault Refusal := .next (s.instr e 1 (compute (kAbs d)))

/-- TST kd (R464). -/
def execTst (e : EngRef) (d : Nat) (s : State) : Host.Outcome State Fault Refusal := .next (s.instr e 1 (compute (kTst d)))

/-- PMV kd (R416, R459, R462). -/
def execPmv (e : EngRef) (d : Nat) (s : State) : Host.Outcome State Fault Refusal := .next (s.instr e 1 (compute (kPmv d)))

/-- A task of nothing, where EINFO is asked of an empty slot. -/
def idleTask : Task := initTask
  { priv := .f, profile := false, entry := 0, args := [], argWords := [], data := [], fmode := 0, steps := none,
    poolBase := 0, poolLim := 0, paired := false, part := 0, cmd := none, frame := none, applet := none, again := false }

/-- MFS kd from special register n (R412, R416, R465). -/
def State.mfs (s : State) (e : EngRef) (n d : Nat) : KCtx → KOut :=
  kMfs n d (einfo (logicalEng e) (s.engHalf e) (((s.task? e).getD idleTask))).toNat (s.eng e).gen

def execMfs (e : EngRef) (n d : Nat) (s : State) : Host.Outcome State Fault Refusal := .next (s.instr e 1 (s.mfs e n d))

/-- MTS of special register n from ks (R412, R465). -/
def execMts (e : EngRef) (n r : Nat) (s : State) : Host.Outcome State Fault Refusal := .next (s.instr e 1 (kMts n r))

/-- UOPn kd (R473, R474). -/
def execUop (e : EngRef) (n d : Nat) (s : State) : Host.Outcome State Fault Refusal :=
  .next (s.instr e 1 (kUop s.kalmel.decode n d))

/-- LD kr, [kb + off] (R466). -/
def execLd (e : EngRef) (r b off : Nat) (s : State) : Host.Outcome State Fault Refusal := .next (s.instr e 2 (kLd r b off))

/-- ST kr, [kb + off] (R466). -/
def execSt (e : EngRef) (r b off : Nat) (s : State) : Host.Outcome State Fault Refusal := .next (s.instr e 2 (kSt r b off))

/-- LDP kr, [kb + 4 off] (R419, R466). -/
def execLdp (e : EngRef) (r b off : Nat) (s : State) : Host.Outcome State Fault Refusal := .next (s.instr e 2 (kLdp r b off))

/-- STP kr, [kb + 4 off] (R419, R466). -/
def execStp (e : EngRef) (r b off : Nat) (s : State) : Host.Outcome State Fault Refusal := .next (s.instr e 2 (kStp r b off))

/-! ### Profile group (R423, R470-R472) -/

/-- A profile-group instruction by the position and fields of its words: SEV apart. A field that must be 0 and is not
causes ILLEGAL (R453). -/
def profOp (now pos ks kd x : Nat) (own : Nat) (k : KCtx) : KOut :=
  match pos, k.t.start.profile with
  | 0, false => shapeBfi kd ks (bitsOf x 11 6) (bitsOf x 5 0) k
  | 1, false => shapeBfx kd ks (bitsOf x 11 6) (bitsOf x 5 0) k
  | 2, false => if x = 0 then compute (kClz kd ks) k else .fault .illegal
  | _, false => compute (kBperm kd ks (bitsOf x 7 0) (bitsOf x 11 8)) k
  | 0, true => if ks = 0 ∧ x = 0 then timeWfe kd k else .fault .illegal
  | 1, true => if kd = 0 ∧ x = 0 then timeSev own ks k else .fault .illegal
  | 2, true => if kd = 0 ∧ x = 0 then timeWaitc (BitVec.ofNat 36 now) ks k else .fault .illegal
  | _, true => if ks = 0 ∧ x = 0 then timeRdt now kd k else .fault .illegal

/-- A profile-group instruction of slot e; SEV also sets its event (R431). -/
def State.prof (s : State) (e : EngRef) (pos ks kd x : Nat) : State :=
  let isSev := match s.ready e with
    | some t => t.start.profile && pos == 1 && kd == 0 && x == 0
    | none => false
  if isSev then s.sev e ks else s.instr e 2 (profOp s.deviceTime pos ks kd x (e.slot % 32))

/-- BFI kd, ks, p, w (R471). -/
def execBfi (e : EngRef) (d r p w : Nat) (s : State) : Host.Outcome State Fault Refusal := .next (s.prof e 0 r d (p % 64 * 64 + w % 64))

/-- BFX kd, ks, p, w (R471). -/
def execBfx (e : EngRef) (d r p w : Nat) (s : State) : Host.Outcome State Fault Refusal := .next (s.prof e 1 r d (p % 64 * 64 + w % 64))

/-- CLZ kd, ks (R471). -/
def execClz (e : EngRef) (d r : Nat) (s : State) : Host.Outcome State Fault Refusal := .next (s.prof e 2 r d 0)

/-- BPERM kd, ks, sel, zm (R471). -/
def execBperm (e : EngRef) (d r sel zm : Nat) (s : State) : Host.Outcome State Fault Refusal :=
  .next (s.prof e 3 r d (zm % 16 * 256 + sel % 256))

/-- WFE kd (R430, R472). -/
def execWfe (e : EngRef) (d : Nat) (s : State) : Host.Outcome State Fault Refusal := .next (s.prof e 0 0 d 0)

/-- SEV ks (R431, R472). -/
def execSev (e : EngRef) (r : Nat) (s : State) : Host.Outcome State Fault Refusal := .next (s.prof e 1 r 0 0)

/-- WAITC ks (R432, R472). -/
def execWaitc (e : EngRef) (r : Nat) (s : State) : Host.Outcome State Fault Refusal := .next (s.prof e 2 r 0 0)

/-- RDT kd (R432, R472). -/
def execRdt (e : EngRef) (d : Nat) (s : State) : Host.Outcome State Fault Refusal := .next (s.prof e 3 0 d 0)

end Sys2Proof.Machine
end

