-- ==== Sys2Proof/Machine/Applets.lean ====
section
/-! DEFINITION. Signed images, applets, their invocations and service requests, and the end of a task
(11_kalmel_engines.md R436, R441-R448; 12_kalmel_instruction_set.md R469). -/

namespace Sys2Proof.Machine

/-! ### Signed images (R441) -/

/-- Image numbers and the TYPE each requires (R442): 0-31 applets, 0xFFF0-0xFFF2 firmware, parse, decode. -/
def imageType (n : Nat) : Option Nat :=
  if n < 32 then some 3 else if n = 0xFFF0 then some 1 else if n = 0xFFF1 then some 2 else if n = 0xFFF2 then some 4 else none

/-- CODE_WORDS in range for a TYPE. -/
def codeWordsOk (ty n : Nat) : Bool :=
  match ty with
  | 1 => decide (1 ≤ n ∧ n ≤ 4096)
  | 4 => n == 128
  | _ => decide (1 ≤ n ∧ n ≤ 2048)

/-- Length of the part of an image before its signature block. -/
def imageBody (b : Bytes) : Nat := 64 + 2 * leAt b 6 2 + 5 * leAt b 8 2

/-- The 16 entry words. -/
def entryWords (b : Bytes) : List Nat := (List.range 16).map (fun i => leAt b (32 + 2 * i) 2)

/-- Every field of the header is in range and every reserved bit 0 (R441, R442). -/
def headerOk (ty : Nat) (b : Bytes) : Bool :=
  let flags := leAt b 5 1
  let n := leAt b 14 1
  b.take 4 == ascii "KLML" && leAt b 4 1 == ty && decide (flags < 64) && !(ty == 1 && bit flags 0) &&
  codeWordsOk ty (leAt b 6 2) && decide (leAt b 8 2 ≤ 2048) &&
  (ty != 3 || (decide (leAt b 10 2 ≤ 16384) && leAt b 10 2 % 64 == 0 && decide (leAt b 12 2 ≤ 4096) &&
    (bit flags 1 || leAt b 12 2 == 0) && leAt b 24 4 != 0)) &&
  decide (1 ≤ n ∧ n ≤ 16) && leAt b 15 1 == 0 &&
  (List.range 16).all (fun i =>
    let w := (entryWords b).getD i 0
    if n ≤ i then w == 0
    else (if ty = 1 then bitsOf w 14 13 == 0 else bitsOf w 15 13 == 0) && decide (w % 8192 < leAt b 6 2))

/-- The code and data words with their upper bits 0, and the length R441 gives. -/
def imageFmt (ty : Nat) (b : Bytes) : Bool :=
  headerOk ty b && b.length == imageBody b + blockLen &&
  (List.range (leAt b 6 2)).all (fun i => decide (leAt b (64 + 2 * i) 2 < 2 ^ 14)) &&
  (List.range (leAt b 8 2)).all (fun i => decide (leAt b (64 + 2 * leAt b 6 2 + 5 * i) 5 < 2 ^ 36))

/-- The image that bytes of good format spell. -/
def readImage (b : Bytes) : Image :=
  let flags := leAt b 5 1
  { kind := leAt b 4 1, profile := bit flags 0, state := bit flags 1, share := bit flags 2,
    fmode := BitVec.ofNat 3 (flags / 8), code := (List.range (leAt b 6 2)).map (fun i => leAt b (64 + 2 * i) 2),
    data := (List.range (leAt b 8 2)).map (fun i => BitVec.ofNat 36 (leAt b (64 + 2 * leAt b 6 2 + 5 * i) 5)),
    poolBytes := leAt b 10 2, stateBytes := leAt b 12 2, entries := (entryWords b).take (leAt b 14 1), svn := leAt b 20 4,
    steps := leAt b 24 4, digest := digest 0x01 b 32 }

/-- The signature of an image and its signer's admission (14 R526, R527). -/
def State.imageSigned (s : State) (ty : Nat) (b : Bytes) : Bool :=
  s.blockOk "FXV-IMG" (b.take (imageBody b)) (b.drop (imageBody b)) (if ty = 3 then [2, 3] else [0, 1])

/-! ### APPLET_LOAD and APPLET_UNLOAD (R442, R445) -/

def State.applet? (s : State) (n : Nat) : Option Applet := mapGet s.kalmel.applets n

def State.setApplets (s : State) (l : List (Nat × Applet)) : State := { s with kalmel := { s.kalmel with applets := l } }

def appletLoadWork (s : State) (c : Inflight) : Work :=
  let n := c.p16 0
  let ty := (imageType n).getD 0
  if !s.imageSigned ty c.input then .finish s (.fail .authFail)
  else if 32 ≤ n then
    .commit { s with kalmel := { s.kalmel with staged := mapPut s.kalmel.staged (n - 0xFFF0) c.input } } .done
  else
    let i := readImage c.input
    match s.applet? n with
    | some a =>
      if a.owner ≠ c.key.part || i.svn < a.image.svn then .finish s (.fail .notPermitted)
      else .commit (s.setApplets (mapPut s.kalmel.applets n { a with image := i })) .done
    | none =>
      .commit (s.setApplets (mapPut s.kalmel.applets n { owner := c.key.part, image := i, state := List.replicate 4096 0 })) .done

/-- A staged image needs P0 (step 2 of R442). -/
def appletLoadInfo (staged : Bool) : OpInfo :=
  { code := 0x0701, issuer := if staged then .p0Secure else .secure, used := [(0, 2)], durable := true,
    params := fun c => match imageType (c.p16 0) with | some ty => imageFmt ty c.input | none => false }

/-- APPLET_LOAD (R441, R442): applets 0-31 in MAKER and FIELD only (20 R686). -/
def execAppletLoad (k : CmdKey) (s : State) : Host.Outcome State Fault Refusal :=
  .next (s.runCmd (appletLoadInfo (match s.cmd? k with | some c => decide (0xFFF0 ≤ c.p16 0 ∧ c.p16 0 ≤ 0xFFF2) | none => false))
    (s.lifeKeys || (match s.cmd? k with | some c => decide (32 ≤ c.p16 0) | none => false)) appletLoadWork k)

/-- Some invocation of applet n runs, or one admitted before command c has not ended. -/
def State.appletBusy (s : State) (n : Nat) (c : Inflight) : Bool :=
  allSlots.any (fun e => match s.task? e with | some t => t.start.applet == some n | none => false) ||
  s.inflight.any (fun o => o.opcode == 0x0702 && o.p16 0 == n && decide (o.seq < c.seq))

def appletUnloadWork (s : State) (c : Inflight) : Work :=
  match s.applet? (c.p16 0) with
  | none => .finish s { status := .badParam, detail := 0x0A10 }
  | some a =>
    if a.owner ≠ c.key.part then .finish s (.fail .notPermitted)
    else if s.appletBusy (c.p16 0) c then .more s
    else .commit (s.setApplets (mapDel s.kalmel.applets (c.p16 0))) .done

def appletUnloadInfo : OpInfo := { code := 0x0703, issuer := .secure, used := [(0, 2)], durable := true }

/-- APPLET_UNLOAD (R445). -/
def execAppletUnload (k : CmdKey) (s : State) : Host.Outcome State Fault Refusal :=
  .next (s.runCmd appletUnloadInfo true appletUnloadWork k)

/-! ### Invocations (R443, R444, R447) -/

/-- The slot that runs a command's invocation. -/
def State.invocation (s : State) (k : CmdKey) : Option (EngRef × Task) :=
  allSlots.findSome? (fun e => match s.task? e with
    | some t => if t.start.cmd == some k then some (e, t) else none
    | none => none)

/-- The words that R443 passes. -/
def invokeStart (i : Image) (n : Nat) (c : Inflight) (base : Nat) : TaskStart :=
  { priv := .a, profile := i.profile, entry := 0x1800 + i.entries.getD (c.p16 2) 0 % 8192,
    args := [BitVec.ofNat 36 c.inLen, BitVec.ofNat 36 c.outLen, BitVec.ofNat 36 c.key.part, BitVec.ofNat 36 (c.p16 2)],
    argWords := (List.range 7).map (fun j => BitVec.ofNat 36 (c.p32 (4 + 4 * j))), data := i.data,
    fmode := i.fmode, steps := some i.steps, poolBase := base, poolLim := i.poolBytes,
    paired := i.state, part := c.key.part, cmd := some c.key, frame := none, applet := some n, again := false }

/-- A pool window overlaps no other window of the half and lies in the 96 KiB left to programs (R401, R418). -/
def State.windowFree (s : State) (h : Half) (base n : Nat) : Bool :=
  decide (base + n ≤ 98304) && (slotsOf h).all (fun e => match s.task? e with
    | some t => decide (base + n ≤ t.start.poolBase) || decide (t.start.poolBase + t.start.poolLim ≤ base)
    | none => true)

/-- Slot e's applet area holds applet n with image i. -/
def State.holdsApplet (s : State) (e : EngRef) (n : Nat) (i : Image) : Bool := (s.eng e).applet == some (n, i)

/-- The dispatcher may start image i of applet n in slot e: the slot is free, in the half that serves the command, not on twin 31
while it is claimed, and holds the image where a free one does (R444). -/
def State.placeOk (s : State) (e : EngRef) (n : Nat) (i : Image) (home : Nat) : Bool :=
  let free := fun (d : EngRef) => s.slotFree d && !s.claimed d
  decide (e.slot < 32) && free e && e.half = s.serving (if home = 0 then .north else .south) &&
  (s.holdsApplet e n i || !(slotsOf e.half).any (fun d => free d && s.holdsApplet d n i))

/-- Status of R447 that an applet may end with. -/
def endStatus (n : Nat) : Option Status :=
  if n = 0 then some .ok else if n = 0x0300 then some .authFail else if n = 0x0101 then some .badParam
  else if n = 0x0102 then some .notPermitted else none

/-- The status in k0[15:0]. -/
def Task.status (t : Task) : Nat := (t.reg 0).toNat % 65536

/-- RESULT: bits [31:0] of k1 to k4 (R447). -/
def Task.result (t : Task) : Bytes := [1, 2, 3, 4].flatMap (fun r => leBytes 4 (t.reg r).toNat)

/-- Put bytes into a byte string from an offset on. -/
def overlay (b : Bytes) (o : Nat) (d : Bytes) : Bytes := b.take o ++ d ++ b.drop (o + d.length)

/-- Apply a staged effect at the commit point (R438, R447). -/
def State.applyStaged (s : State) (t : Task) (g : Staged) : State :=
  match g with
  | .out _ _ => s
  | .state o d =>
    s.setApplets (mapUpd s.kalmel.applets (t.start.applet.getD 32) (fun a => { a with state := overlay a.state o d }))
  | .counter n v => (match s.slot? n with
    | some k => s.writeSlot n { k with material := leBytes 8 (leNat k.material + v), gen := k.gen + 1 }
    | none => s)
  | .key n owner ty b at' floor lim hash m =>
    s.putSlot n { owner := owner, ktype := ty, binding := b, attr := at', svnFloor := floor, limit := lim, uses := 0,
                  useMark := 65536, dn := 0, dnMark := 131072, gen := 0, bindHash := hash, material := m, limitSaid := false,
                  drawnSaid := false }

/-- The parts of the output area that OUT_WRITE staged. -/
def Task.outParts (t : Task) : List (Nat × Bytes) := t.staged.filterMap (fun g => match g with | .out o d => some (o, d) | _ => none)

/-- The invocation in slot e ends with an allowed status: on OK its staged effects are applied at the commit point, which
waits where the image declares state access and the journal may not be written, or where an earlier run disagreed and no
verdict has come since (R447, R438; 16 R569; 01 R32). One that ends otherwise has no durable effect (R447; 05 R195). -/
def State.endApplet (s : State) (e : EngRef) (t : Task) (st : Status) : State :=
  let free := s.updEng e (fun x => { x with task := none })
  match t.start.cmd.bind s.cmd? with
  | none => free
  | some c =>
    if st ≠ .ok then free.finish c false { status := st, result := t.result }
    else if t.start.paired && s.disagrees c.key then s.setTask e { t with wait := .ended }
    else if t.start.paired && !s.canCommit then
      (s.setTask e { t with wait := .ended }).waitCommit c.key
    else
      let u := t.staged.foldl (fun u g => u.applyStaged t g) free
      (u.dropWait c.key).finish c t.start.paired { status := .ok, result := t.result, parts := t.outParts }

/-- END: an applet's invocation completes, or faults with RESULT; another task ends (R436, R447, R448). -/
def State.kEnd (s : State) (e : EngRef) (t : Task) : State :=
  match kCheck t 1 with
  | some f => s.kFault e t f
  | none =>
    if t.start.priv ≠ .a then s.updEng e (fun x => { x with task := none })
    else match endStatus t.status with
      | some st => s.endApplet e t st
      | none => s.kFault e t .result

/-- END: the engine's result reaches its port of the Weir (R436, R447, R464; 17 R613). -/
def execEnd (e : EngRef) (s : State) : Host.Outcome State Fault Refusal :=
  .next (match s.ready e with | some t => (s.arrive ⟨.engine, e.half, s.physOf e.half e.slot⟩).kEnd e t | none => s)

/-- A page of applet n's image is lost: its digest fails (R444; 16 R577). -/
def State.appletLost (s : State) (n : Nat) : Bool :=
  s.ee.lostPages.any (fun c => decide (22528 + 160 * n ≤ c.1) && decide (c.1 < 22528 + 160 * (n + 1)))

def invokeWork (e : EngRef) (base : Nat) (s : State) (c : Inflight) : Work :=
  match s.invocation c.key with
  | some (d, t) =>
    .more (if t.wait = .ended then (match endStatus t.status with | some st => s.endApplet d t st | none => s) else s)
  | none =>
    let n := c.p16 0
    match s.applet? n, c.image with
    | some a, some i =>
      if i.entries.length ≤ c.p16 2 then .finish s { status := .badParam, detail := 0x0A10 }
      else if a.owner ≠ c.key.part && !i.share then .finish s (.fail .notPermitted)
      else if s.placeOk e n i (if i.state then s.fld Fd.HW_ROLE_LEAD else s.cmdHome c) && s.windowFree e.half base i.poolBytes &&
          (!i.state || s.slotFree (s.copySlot e)) then
        if s.appletLost n && !s.holdsApplet e n i then .finish s (.fail .storeFault)
        else .more (s.startTask e (invokeStart i n c base) (some i))
      else .more s
    | _, _ => .finish s { status := .badParam, detail := 0x0A10 }

/-- The image's declaration of state access makes the invocation durable (R197). -/
def invokeInfo (declared : Bool) : OpInfo := { code := 0x0702, used := [(0, 2), (2, 2), (4, 28)], durable := declared }

/-- The applet a command names declares state access. -/
def State.declares (s : State) (k : CmdKey) : Bool :=
  match s.cmd? k with
  | some c => (match c.image with | some i => i.state | none => false)
  | none => false

/-- APPLET_INVOKE, started in the slot and pool window the dispatcher chooses (R443, R444). -/
def execAppletInvoke (k : CmdKey) (e : EngRef) (base : Nat) (s : State) : Host.Outcome State Fault Refusal :=
  .next (s.runCmd (invokeInfo (s.declares k)) true (invokeWork e base) k)

/-! ### Service requests (R446, R469) -/

/-- The operations a request may name, as the command runs them (R446). -/
def serviceOp : Nat → Option (OpInfo × (State → Inflight → Work))
  | 0x0201 => some (aeadEncryptInfo, encryptWork)
  | 0x0202 => some (aeadDecryptInfo, decryptWork)
  | 0x0203 => some (macGenerateInfo, macGenWork)
  | 0x0204 => some (macVerifyInfo, macVerWork)
  | 0x0205 => some (dataWrapInfo, wrapWork)
  | 0x0206 => some (dataUnwrapInfo, unwrapWork)
  | 0x0207 => some (digestInfo, digestWork)
  | 0x0302 => some (pkSignInfo, signWork)
  | 0x0303 => some (pkVerifyInfo, verifyWork)
  | 0x0103 => some (keyDeriveInfo, deriveWork)
  | 0x0109 => some (counterReadInfo, counterReadWork)
  | 0x0401 => some (randomInfo, randomWork)
  | _ => none

/-- The command whose invocation the task serves. -/
def State.taskCmd (s : State) (t : Task) : Option Inflight := t.start.cmd.bind s.cmd?

/-- A request as a submission entry of the invoking partition, which runs as the command would (R175, R446; 00 R4). -/
def State.reqEntry (s : State) (t : Task) (req input : Bytes) : Inflight :=
  let own := s.taskCmd t
  let cls := match own with | some c => c.runClass | none => 0
  { key := match t.start.cmd with | some k => k | none => { part := t.start.part, sq := 0, idx := 0 },
    ordinal := 0, seq := 0, opcode := leAt req 0 2, flags := leAt req 2 2, tag := leAt req 4 4, param := slice req 8 32,
    inLen := leAt req 40 4, outLen := leAt req 44 4, outAddr := leAt req 56 8, inList := [], outList := [], input := input,
    readFail := false, cls := cls, compat := own.any (fun c => c.compat), secure := s.secure t.start.part,
    declared := t.start.paired }

/-- How a request stands: it ended with a reply and what it staged, or it waits. -/
inductive ReqEnd
  | done (s : State) (r : Reply) (g : List Staged)
  | wait (s : State)

/-- Every key slot that a request names has APPLET (13 R483); a counter, whose ATTR no command sets, needs none
(notes/assumptions 116). -/
def State.appletKeys (s : State) (c : Inflight) : Bool :=
  (c.fills ++ c.slotReads).all (fun n => match s.ownSlot c.key.part n with
    | some k => k.ktype == 0x20 || bit k.attr atApplet
    | none => true)

/-- A request that names an operation of the partition's commands (R446): steps 3 to 6 of R202. -/
def State.reqCommand (s : State) (c : Inflight) (i : OpInfo) (body : State → Inflight → Work) : ReqEnd :=
  if c.opcode = 0x0103 && !s.lifeKeys then .done s (.fail .lifecycle) []
  else if !entryOk i c || !i.params c then .done s { status := .badParam, detail := i.paramDetail c } []
  else if s.tamperHold then .done s (.fail .tamperHold) []
  else if i.draws c && s.noEntropy then .done s (.fail .entropyHalt) []
  else if !s.appletKeys c then .done s { status := .badParam, detail := 0x0D01 } []
  else if i.draws c && s.drawWaits (s.drawHalf c) then .wait s
  else match body s c with
    | .finish t r => .done t r []
    | .commit t r => .done t r []
    | .more t => .wait t

/-- KEY_DERIVE into a volatile slot, staged: the uses it took stand, the new key waits for the commit (R438, R446). -/
def State.stageKey (s : State) (x : ReqEnd) : ReqEnd :=
  match x with
  | .wait t => .wait t
  | .done t r g =>
    if r.status ≠ .ok then .done t r g else
    let n := leAt r.result 0 4
    match t.slot? n with
    | some k =>
      let back := { t with keys := { t.keys with
        slots := match s.slot? n with | some o => mapPut t.keys.slots n o | none => mapDel t.keys.slots n } }
      .done back r [.key n k.owner k.ktype k.binding k.attr k.svnFloor k.limit k.bindHash k.material]
    | none => .done t r g

/-- COUNTER_INCREMENT, staged (R438, R446, R502). -/
def State.stageCounter (s : State) (t : Task) (c : Inflight) : ReqEnd :=
  if !entryOk counterIncrementInfo c || c.p32 4 = 0 then .done s (.fail .badParam) []
  else match s.useCounter c.key.part (c.p16 0) with
    | .bad r => .done s r []
    | .ok k =>
      let before := (t.staged.map (fun g => match g with | .counter n v => if n = c.p16 0 then v else 0 | _ => 0)).sum
      let v := leNat k.material + before + c.p32 4
      if 2 ^ 64 ≤ v then .done s { status := .badParam, detail := 0x0D05 } []
      else .done s { status := .ok, result := leBytes 8 v } [.counter (c.p16 0) (c.p32 4)]

/-- The invoker owns the applet of the task, with its image. -/
def State.ownApplet (s : State) (t : Task) : Option Applet :=
  match t.start.applet.bind s.applet? with
  | some a => if a.owner = t.start.part then some a else none
  | none => none

/-- The task's image declares state access (R441). -/
def Task.declares (t : Task) : Bool := t.start.paired && t.start.priv == .a

/-- A permitted opcode's condition holds (R446). -/
def State.reqAllowed (s : State) (t : Task) (c : Inflight) : Bool :=
  match c.opcode with
  | 0x0302 => slotVolatile (c.p32 0) && (!isHybrid (c.p8 8) || slotVolatile (c.p32 4))
  | 0x0103 => slotVolatile (c.p32 0)
  | 0x0108 => t.declares
  | 0x0781 => (match s.taskCmd t with | some o => decide (c.p32 0 + c.inLen ≤ o.outLen) | none => false)
  | 0x0782 => (s.ownApplet t).isSome
  | 0x0783 => (s.ownApplet t).isSome && t.declares
  | _ => true

/-- Opcodes a request may name: the table of R446, or DIGEST alone at privilege P (12 R469). -/
def reqPermitted (q : Priv) (op : Nat) : Bool :=
  if q = .p then op == 0x0207
  else (serviceOp op).isSome || op == 0x0108 || [0x0780, 0x0781, 0x0782, 0x0783].contains op

/-- IN_READ, OUT_WRITE, STATE_READ and STATE_WRITE (R446). -/
def State.reqOwn (s : State) (t : Task) (c : Inflight) : ReqEnd :=
  let o := c.p32 0
  if !reservedZero [(0, 4)] c.param then .done s (.fail .badParam) [] else
  match c.opcode with
  | 0x0780 => (match s.taskCmd t with
    | some m => if o + c.inLen ≤ m.input.length then .done s { status := .ok, out := slice m.input o c.inLen } []
                else .done s (.fail .badParam) []
    | none => .done s (.fail .badParam) [])
  | 0x0781 => .done s .done [.out o c.input]
  | 0x0782 => (match s.ownApplet t with
    | some a => if o + c.outLen ≤ a.image.stateBytes then .done s { status := .ok, out := slice a.state o c.outLen } []
                else .done s (.fail .badParam) []
    | none => .done s (.fail .notPermitted) [])
  | _ => (match s.ownApplet t with
    | some a => if o + c.inLen ≤ a.image.stateBytes then .done s .done [.state o c.input] else .done s (.fail .badParam) []
    | none => .done s (.fail .notPermitted) [])

/-- The areas of a request lie in the window, and FLAGS and TAG are 0 (R446). IN_READ takes IN_LEN bytes into OUT_ADDR. -/
def reqAreas (lim : Nat) (req : Bytes) : Bool :=
  let inLen := if leAt req 0 2 = 0x0780 then 0 else leAt req 40 4
  let outLen := if leAt req 0 2 = 0x0780 then leAt req 40 4 else leAt req 44 4
  leAt req 2 2 == 0 && leAt req 4 4 == 0 && (inLen == 0 || decide (leAt req 48 8 + inLen ≤ lim)) &&
  (outLen == 0 || decide (leAt req 56 8 + outLen ≤ lim))

/-- Carry out the request of task t in slot e. -/
def State.service (s : State) (e : EngRef) (t : Task) (req : Bytes) : ReqEnd :=
  let op := leAt req 0 2
  let input := if op = 0x0780 then [] else (s.kCtx e t).poolBytes (leAt req 48 8) (min (leAt req 40 4) t.start.poolLim)
  let c := s.reqEntry t req input
  if !reqPermitted t.start.priv op then .done s (.fail .badOpcode) []
  else if !s.reqAllowed t c then .done s (.fail .notPermitted) []
  else if !reqAreas t.start.poolLim req then .done s (.fail .badParam) []
  else match serviceOp op with
    | some (i, body) => if op = 0x0103 then s.stageKey (s.reqCommand c i body) else s.reqCommand c i body
    | none => if op = 0x0108 then s.stageCounter t c else s.reqOwn t c

/-- The 32-byte completion of a request (R180, R446). -/
def reqCompletion (r : Reply) : Bytes :=
  complBytes { cq := 0, sq := 0, tag := 0, status := r.status.code, detail := r.detail, written := r.out.length,
               result := r.result, outputs := [] } 0 false

/-- A request region in the window, aligned: 64 bytes at k1 and 32 after them (R419, R446). -/
def reqPlace (t : Task) : Bool := (t.reg 1).toNat % 4 == 0 && decide ((t.reg 1).toNat + 96 ≤ t.start.poolLim)

/-- SVC: the request is issued and the task waits. -/
def kSvc (k : KCtx) : KOut :=
  let o := (k.t.reg 1).toNat
  if reqPlace k.t then .go { k with t := { k.t with wait := .svc (k.poolBytes o 64) o } } else .fault .protect

/-- SVCA at privilege F alone: issued without waiting; a fifth waits (R469). -/
def kSvca (k : KCtx) : KOut :=
  let o := (k.t.reg 1).toNat
  if k.priv ≠ .f then .fault .illegal
  else if !reqPlace k.t then .fault .protect
  else if k.t.svca.length < 4 then .go { k with t := { k.t with svca := k.t.svca ++ [(k.poolBytes o 64, o)] } }
  else .go { k with t := { k.t with wait := .svca (k.poolBytes o 64) o } }

/-- SVC (R446, R464). -/
def execSvc (e : EngRef) (s : State) : Host.Outcome State Fault Refusal := .next (s.instr e 1 kSvc)

/-- SVCA (R464, R469). -/
def execSvca (e : EngRef) (s : State) : Host.Outcome State Fault Refusal := .next (s.instr e 1 kSvca)

/-- Put a request's output and completion into the window of slot e. -/
def State.putReply (s : State) (e : EngRef) (t : Task) (req : Bytes) (off : Nat) (r : Reply) : State :=
  let k := ((s.kCtx e t).setPool (leAt req 56 8) r.out).setPool (off + 64) (reqCompletion r)
  { s with kalmel := { s.kalmel with pools := k.pool } }

/-- The SVC of slot e ends: its completion is written, STATUS goes to k0, and the task goes on (R446). -/
def State.endSvc (s : State) (e : EngRef) (t : Task) (req : Bytes) (off : Nat) : State :=
  match s.service e t req with
  | .wait u => u
  | .done u r g =>
    ((u.putReply e t req off r).setTask e
      { t.setReg 0 (BitVec.ofNat 36 r.status.code) with staged := t.staged ++ g, wait := .none }).leaveClaimed e

/-- Outstanding SVCA request i of slot e ends: its completion is written, EV1 is set, and a fifth SVCA goes on (R469). -/
def State.endSvca (s : State) (e : EngRef) (t : Task) (i : Nat) (req : Bytes) (off : Nat) : State :=
  match s.service e t req with
  | .wait u => u
  | .done u r g =>
    let l := t.svca.eraseIdx i
    let t := { t with svca := l, staged := t.staged ++ g }
    let t := match t.wait with
      | .svca q o => { t with svca := l ++ [(q, o)], wait := .none }
      | _ => t
    ((u.putReply e t req off r).setTask e (t.event 1)).leaveClaimed e

/-- SERVICE_REQUEST_END: the SVC of a task, or one of its outstanding SVCA requests, ends (R446, R469). -/
def execServiceRequestEnd (e : EngRef) (which : Option Nat) (s : State) : Host.Outcome State Fault Refusal :=
  .next <|
    match s.task? e with
    | none => s
    | some t =>
      match which with
      | none => (match t.wait with | .svc req off => s.endSvc e t req off | _ => s)
      | some i => (match t.svca[i]? with | some (req, off) => s.endSvca e t i req off | none => s)

end Sys2Proof.Machine
end

