-- ==== Sys2Proof/Machine/KalmelFetch.lean ====
section
/-! DEFINITION. Program memory and the decoding of Kalmel words: an engine fetches and runs the instruction at its PC
(12_kalmel_instruction_set.md R451-R453, R470; 20_life_cycle_and_debug.md R703). -/

namespace Sys2Proof.Machine

/-- The word of program memory at an address as slot e sees it (11 R418): the active images and the applet its area
holds; a word no image gives is free. -/
def State.progWord (s : State) (e : EngRef) (a : Nat) : Nat :=
  let free := Config.freeNat a % 2 ^ 14
  let word := fun (i : Option Image) (o : Nat) => match i with | some m => m.code.getD o free | none => free
  if a < 0x1000 then word s.kalmel.firmware a
  else if a < 0x1800 then word s.kalmel.parse (a - 0x1000)
  else word ((s.eng e).applet.map (fun x => x.2)) (a - 0x1800)

/-- A word that no format takes (R453). -/
def State.undefinedWord (s : State) (e : EngRef) (words : Nat) : State := s.instr e words (fun _ => .fault .illegal)

/-- The register ALU format (R457). -/
def aluOp (op d r : Nat) : Task → Task :=
  match op with
  | 0 => kMov d r | 1 => kAdd d r | 2 => kAdc d r | 3 => kSub d r | 4 => kSbc d r | 5 => kCmp d r | 6 => kAnd d r
  | 7 => kOr d r | 8 => kXor d r | 9 => kShl d (.reg r) | 10 => kShr d (.reg r) | 11 => kSar d (.reg r) | 12 => kMul d r
  | 13 => kMulu d r | 14 => kMac d r | _ => kMsb d r

/-- The system format (R464). -/
def State.runSystem (s : State) (e : EngRef) (w : Nat) : State :=
  let r := bitsOf w 3 0
  match bitsOf w 7 4 with
  | 0 =>
    (match r with
     | 0 => s.instr e 1 (compute (fun t => t))
     | 1 => (match s.ready e with | some t => s.kEnd e t | none => s)
     | 2 => s.instr e 1 kRetm
     | 3 => s.instr e 1 kSvc
     | 4 => s.instr e 1 kSvca
     | _ => s.undefinedWord e 1)
  | 1 => s.instr e 1 (kPush r)
  | 2 => s.instr e 1 (kPop r)
  | 3 => s.instr e 1 (compute (kNot r))
  | 4 => s.instr e 1 (compute (kNeg r))
  | 5 => s.instr e 1 (compute (kAbs r))
  | 6 => s.instr e 1 (compute (kTst r))
  | 7 => s.instr e 1 (compute (kPmv r))
  | 8 => s.instr e 1 (kJr r)
  | _ => s.undefinedWord e 1

/-- The long immediate and long branch format, with its extension words (R461). -/
def State.runLong (s : State) (e : EngRef) (w x1 x2 x3 : Nat) : State :=
  let d := bitsOf w 3 0
  match bitsOf w 7 4 with
  | 0 => s.instr e 2 (compute (kMovw d x1))
  | 1 => s.instr e 2 (compute (kAddw d x1))
  | 2 => s.instr e 2 (compute (kCmpw d x1))
  | 3 => s.instr e 2 (compute (kAndw d x1))
  | 4 => s.instr e 2 (compute (kOrw d x1))
  | 5 => s.instr e 2 (compute (kXorw d x1))
  | 6 =>
    if x1 < 4096 ∧ x2 < 4096 ∧ x3 < 4096 then s.instr e 4 (compute (kMovl d (BitVec.ofNat 36 (x1 * 2 ^ 24 + x2 * 2 ^ 12 + x3))))
    else s.undefinedWord e 4
  | 7 => s.instr e 2 (kJmpcc d x1)
  | _ => s.undefinedWord e 1

/-- A load or store by its extension word (R466). -/
def State.runMemory (s : State) (e : EngRef) (w x : Nat) : State :=
  let r := bitsOf w 7 4
  let b := bitsOf w 3 0
  let off := bitsOf x 11 0
  match bitsOf x 13 12 with
  | 0 => s.instr e 2 (kLd r b off)
  | 1 => s.instr e 2 (kLdp r b off)
  | 2 => s.instr e 2 (kSt r b off)
  | _ => s.instr e 2 (kStp r b off)

/-- Run the instruction whose base word is w, by the map of R451. -/
def State.runWord (s : State) (e : EngRef) (w x1 x2 x3 : Nat) : State :=
  let hi := bitsOf w 7 4
  let lo := bitsOf w 3 0
  if 0x3000 ≤ w then s.instr e 1 (kCallm (bitsOf w 11 4) lo)
  else if 0x2000 ≤ w then s.instr e 1 (compute (aluOp (bitsOf w 11 8) hi lo))
  else if 0x1800 ≤ w then s.instr e 1 (kBranch (bitsOf w 10 7) (bitsOf w 6 0))
  else if 0x1000 ≤ w then s.instr e 1 (compute (if bit w 10 then kAddi lo (bitsOf w 9 4) else kMovi lo (bitsOf w 9 4)))
  else if 0x0800 ≤ w then
    s.instr e 1 (compute (match bitsOf w 10 9 with
      | 0 => kShl lo (.imm (bitsOf w 8 4)) | 1 => kShr lo (.imm (bitsOf w 8 4))
      | 2 => kSar lo (.imm (bitsOf w 8 4)) | _ => kRor lo (bitsOf w 8 4)))
  else match bitsOf w 10 8 with
    | 0 => s.runSystem e w
    | 1 => s.instr e 1 (s.mfs e hi lo)
    | 2 => s.instr e 1 (kMts hi lo)
    | 3 => s.instr e 1 (kUop s.kalmel.decode hi lo)
    | 4 => s.runMemory e w x1
    | 5 => s.runLong e w x1 x2 x3
    | 6 => s.prof e (bitsOf x1 13 12) hi lo (bitsOf x1 11 0)
    | _ => s.undefinedWord e 1

/-! ### Encoding (R451, R457-R472) -/

/-- A word of a format: its lowest word and the fields at bits 7-4 and 3-0. -/
def kWord (low hi lo : Nat) : Nat := low + 16 * hi + lo

/-- The words of a Kalmel instruction, written from the tables of R451 and R457-R472: its engine slot, base word and extension
words (0 where it has fewer). None for the other commands. -/
def kalmelWords (i : Instr) : Option (EngRef × Nat × Nat × Nat × Nat) :=
  let one := fun (e : EngRef) (w : Nat) => some (e, w, 0, 0, 0)
  let two := fun (e : EngRef) (w x : Nat) => some (e, w, x, 0, 0)
  match i with
  | .kMov e d r => one e (kWord 0x2000 d r)
  | .kAdd e d r => one e (kWord 0x2100 d r)
  | .kAdc e d r => one e (kWord 0x2200 d r)
  | .kSub e d r => one e (kWord 0x2300 d r)
  | .kSbc e d r => one e (kWord 0x2400 d r)
  | .kCmp e d r => one e (kWord 0x2500 d r)
  | .kAnd e d r => one e (kWord 0x2600 d r)
  | .kOr e d r => one e (kWord 0x2700 d r)
  | .kXor e d r => one e (kWord 0x2800 d r)
  | .kShl e d (.reg r) => one e (kWord 0x2900 d r)
  | .kShr e d (.reg r) => one e (kWord 0x2A00 d r)
  | .kSar e d (.reg r) => one e (kWord 0x2B00 d r)
  | .kMul e d r => one e (kWord 0x2C00 d r)
  | .kMulu e d r => one e (kWord 0x2D00 d r)
  | .kMac e d r => one e (kWord 0x2E00 d r)
  | .kMsb e d r => one e (kWord 0x2F00 d r)
  | .kShl e d (.imm a) => one e (kWord 0x0800 a d)
  | .kShr e d (.imm a) => one e (kWord 0x0A00 a d)
  | .kSar e d (.imm a) => one e (kWord 0x0C00 a d)
  | .kRor e d a => one e (kWord 0x0E00 a d)
  | .kMovi e d imm => one e (kWord 0x1000 imm d)
  | .kAddi e d imm => one e (kWord 0x1400 imm d)
  | .kShortBranch e c disp => one e (0x1800 + 128 * c + disp)
  | .kCallm e m kt => one e (kWord 0x3000 m kt)
  | .kNopInstruction e => one e 0
  | .kEnd e => one e 1
  | .kRetm e => one e 2
  | .kSvc e => one e 3
  | .kSvca e => one e 4
  | .kPush e r => one e (kWord 0 1 r)
  | .kPop e r => one e (kWord 0 2 r)
  | .kNot e d => one e (kWord 0 3 d)
  | .kNeg e d => one e (kWord 0 4 d)
  | .kAbs e d => one e (kWord 0 5 d)
  | .kTst e d => one e (kWord 0 6 d)
  | .kPmv e d => one e (kWord 0 7 d)
  | .kJr e r => one e (kWord 0 8 r)
  | .kMfs e n d => one e (kWord 0x0100 n d)
  | .kMts e n r => one e (kWord 0x0200 n r)
  | .kUop e n d => one e (kWord 0x0300 n d)
  | .kLd e r b off => two e (kWord 0x0400 r b) off
  | .kLdp e r b off => two e (kWord 0x0400 r b) (0x1000 + off)
  | .kSt e r b off => two e (kWord 0x0400 r b) (0x2000 + off)
  | .kStp e r b off => two e (kWord 0x0400 r b) (0x3000 + off)
  | .kMovw e d imm => two e (kWord 0x0500 0 d) imm
  | .kAddw e d imm => two e (kWord 0x0500 1 d) imm
  | .kCmpw e d imm => two e (kWord 0x0500 2 d) imm
  | .kAndw e d imm => two e (kWord 0x0500 3 d) imm
  | .kOrw e d imm => two e (kWord 0x0500 4 d) imm
  | .kXorw e d imm => two e (kWord 0x0500 5 d) imm
  | .kMovl e d imm => some (e, kWord 0x0500 6 d, imm.toNat / 2 ^ 24, imm.toNat / 2 ^ 12 % 2 ^ 12, imm.toNat % 2 ^ 12)
  | .kJmpcc e c target => two e (kWord 0x0500 7 c) target
  | .kBfi e d r p w => two e (kWord 0x0600 r d) (64 * p + w)
  | .kBfx e d r p w => two e (kWord 0x0600 r d) (0x1000 + 64 * p + w)
  | .kClz e d r => two e (kWord 0x0600 r d) 0x2000
  | .kBperm e d r sel zm => two e (kWord 0x0600 r d) (0x3000 + 256 * zm + sel)
  | .kWfe e d => two e (kWord 0x0600 0 d) 0
  | .kSev e r => two e (kWord 0x0600 r 0) 0x1000
  | .kWaitc e r => two e (kWord 0x0600 r 0) 0x2000
  | .kRdt e d => two e (kWord 0x0600 0 d) 0x3000
  | _ => none

/-- Fetch and run the instruction at the PC of slot e's task. -/
def State.kStep (s : State) (e : EngRef) : State :=
  match s.task? e with
  | none => s
  | some t => s.runWord e (s.progWord e t.pc) (s.progWord e (t.pc + 1)) (s.progWord e (t.pc + 2)) (s.progWord e (t.pc + 3))

end Sys2Proof.Machine
end

