-- ==== Sys2Proof/Machine/Reservoir.lean ====
section
/-! DEFINITION. The Reservoir: credit, forecasts, the plan and its steps (18_power_and_reservoir.md R648-R654). -/

namespace Sys2Proof.Machine

def pgRv : Nat := 0x0E1000

/-! ### Forecasts (R651) -/

/-- c: channels with HS_CFGn.EN at 1. -/
def State.channels (s : State) : List Nat := (List.range 6).filter (fun n => s.fld (Fd.HS_CFG_EN n) == 1)

/-- The policy allows welcome and some fob holds the WELCOME right (R651; 08 R304, R306). -/
def State.welcomeAllowed (s : State) : Bool := polWelcome s.policy && s.acc.fobs.any (fun r => bit r.rights 9)

/-- Forecast of a scan period of p ms in nAh per day: c x 86,400,000 / p x q_m nC, at 3,600 nC to the nAh. -/
def State.scanCost (s : State) (p : Nat) : Nat := 24000 * s.channels.length * s.ledger.measureNc / p

/-- Forecast of a level in nAh per day, with w s between welcome polls at level 1 (R651). -/
def State.forecast (s : State) (level w : Nat) : Nat :=
  let base := 24 * s.fld Fd.RV_BASE_BASE_NA + s.fld Fd.RV_DEMAND_NAH_DAY
  if level = 1 then
    base + s.scanCost (s.fld Fd.RV_SCAN_FAST_MS) + (if s.welcomeAllowed then 24000 * s.fld Fd.RV_BASE_QW_UC / w else 0)
  else if level = 2 then base + s.scanCost (s.fld Fd.RV_SCAN_FAST_MS)
  else if level = 3 then base + s.scanCost (s.fld Fd.RV_SCAN_SLOW_MS)
  else base

/-- H x avail, with avail = B x 1,000 + S / H (R652). -/
def State.availTimesH (s : State) : Int := ((s.ledger.budget * 1000 * s.ledger.horizon : Nat) : Int) + s.ledger.store

/-- The forecast is at most num/den of avail; every forecast is when there is no limit (R650, R652). -/
def State.within (s : State) (forecast num den : Nat) : Bool :=
  s.ledger.budget == noLimit ||
  decide (((forecast * s.ledger.horizon * den : Nat) : Int) ≤ (num : Int) * s.availTimesH)

/-- Level L fits (R652). -/
def State.fits (s : State) (level : Nat) : Bool := s.within (s.forecast level (s.fld Fd.RV_WELCOME_MAX_S)) 1 1

/-- Welcome intervals tried: MIN_S x 2^k below MAX_S, then MAX_S (R652). -/
def welcomeCands (hi : Nat) : Nat → Nat → List Nat
  | _, 0 => [hi]
  | w, n + 1 => if w < hi then w :: welcomeCands hi (2 * w) n else [hi]

/-- w at the present level; 0 where no welcome polls run (R652, R661). -/
def State.welcomeNow (s : State) : Nat :=
  let hi := s.fld Fd.RV_WELCOME_MAX_S
  if s.level = 1 && s.welcomeAllowed then
    ((welcomeCands hi (s.fld Fd.RV_WELCOME_MIN_S) 17).find? (fun w => s.within (s.forecast 1 w) 1 1)).getD hi
  else 0

/-- DAYS of RV_PLAN for a forecast (R654). -/
def State.daysLeft (s : State) (forecast : Nat) : Nat :=
  let credit := 1000 * s.ledger.budget
  if s.ledger.budget = noLimit || forecast ≤ credit then 0xFFFF
  else if s.ledger.store ≤ 0 then 0
  else min 0xFFFE (s.ledger.store.toNat / (forecast - credit))

/-- Scan periods in whole crystal periods, to the nearest (R210, R661). -/
def crystalPeriods (ms : Nat) : Nat := (ms * 32768 + 500) / 1000

/-- Show the plan: forecast, DAYS, w, and the scan in HS_PLAN (R652, R654, R661; 06 R210). -/
def State.showPlan (s : State) : State :=
  let w := s.welcomeNow
  let f := s.forecast s.level w
  let chans := if s.level = 4 then [] else s.channels
  let ms := if s.level = 3 then s.fld Fd.RV_SCAN_SLOW_MS else s.fld Fd.RV_SCAN_FAST_MS
  ((((s.setFld Fd.RV_FCAST_NAH_DAY (satTo 0xFFFFFFFF f)).setFld Fd.RV_PLAN_DAYS (s.daysLeft f)).setFld Fd.RV_PLAN_WELCOME_S w).setFld
    Fd.HS_PLAN_SCANNED (listMask chans)).setFld Fd.HS_PLAN_PERIOD (if chans.isEmpty then 0 else crystalPeriods ms)

/-! ### Steps (R652, R653) -/

/-- FRUGALITY_STEP to P0 and the ACCESS partition (R653). -/
def State.frugalityStep (s : State) (old new cause : Nat) : State :=
  let d := leBytes 1 old ++ leBytes 1 new ++ leBytes 1 cause ++ [0] ++ leBytes 2 (s.fld Fd.RV_PLAN_DAYS) ++ [0, 0] ++
    leBytes 4 (s.ledger.store % 2 ^ 32).toNat ++ leBytes 4 (s.fld Fd.RV_FCAST_NAH_DAY)
  let s := s.post 0 0x0050 srcDevice d
  match s.accessPart with
  | some p => if p = 0 then s else s.post p 0x0050 srcDevice d
  | none => s

/-- The level becomes n: counted, shown, said (R652, R653, R661). -/
def State.stepLevel (s : State) (n cause : Nat) : State :=
  let old := s.level
  let s := if n < old then s.bump Fd.RV_STEPS_UP else s.bump Fd.RV_STEPS_DOWN
  let s := State.setFld { s with ledger := { s.ledger with changedAt := s.deviceTime } } Fd.RV_STAT_LEVEL n
  (s.showPlan.frugalityStep old n cause).raise pgRv 1

/-- Steps to a poorer level while the present one does not fit (R652). -/
def State.stepDown (s : State) (cause : Nat) : Nat → State
  | 0 => s
  | n + 1 => if s.level < 4 && !s.fits s.level then (s.stepLevel (s.level + 1) cause).stepDown cause n else s

/-- Steps up to level 1 where there is no limit (R650). -/
def State.stepFree (s : State) (cause : Nat) : Nat → State
  | 0 => s
  | n + 1 => if 1 < s.level then (s.stepLevel (s.level - 1) cause).stepFree cause n else s

/-- Plan (R652). `cause` is that of RESERVOIR_SET or of a refill; 0 for the plan of each minute. -/
def State.plan (s : State) (cause : Nat) : State :=
  let up := fun (c : Nat) => if c = 0 then 2 else c
  let s := if s.ledger.budget = noLimit then s.stepFree (up cause) 3 else
    let s := s.stepDown (if cause = 0 then 1 else cause) 3
    if 1 < s.level && s.within (s.forecast (s.level - 1) (s.fld Fd.RV_WELCOME_MAX_S)) 8 10 &&
       decide (s.ledger.changedAt + 3600000000000 ≤ s.deviceTime) then s.stepLevel (s.level - 1) (up cause)
    else s
  State.showPlan { s with ledger := { s.ledger with planAt := s.deviceTime } }

/-! ### Rows -/

def nsPerDay : Nat := 86400000000000

/-- Mean demand in nAh per day over the last min(7, H) days, 7 without a horizon (R651). -/
def State.meanDemand (s : State) : Nat :=
  let d := if s.ledger.horizon = 0 then 7 else min 7 s.ledger.horizon
  ((s.ledger.demand.filter (fun (c : Nat × Nat) => decide (s.deviceTime < c.1 + d * nsPerDay))).map (·.2)).sum / (3600 * d)

/-- RESERVOIR_PLAN: each minute, with what the Reservoir has measured (R651, R652). The plan after a refill says so. -/
def execReservoirPlan (i : PlanIn) (s : State) : Host.Outcome State Fault Refusal :=
  .next <| if s.deviceTime < s.ledger.planAt + 60000000000 then s else
  let cause := if s.ledger.refilled then 4 else 0
  let s := { s with ledger := { s.ledger with
    measureNc := i.measureNc, refilled := false,
    demand := s.ledger.demand.filter (fun (c : Nat × Nat) => decide (s.deviceTime < c.1 + 7 * nsPerDay)) } }
  (((s.setFld Fd.RV_BASE_BASE_NA (satTo 65535 i.baseNa)).setFld Fd.RV_BASE_QW_UC (satTo 65535 i.welcomeUc)).setFld
    Fd.RV_DEMAND_NAH_DAY (satTo 0xFFFFFFFF s.meanDemand)).plan cause

/-- The greatest store, B x H x 1,000 nAh (R650). -/
def LedgerSt.cap (l : LedgerSt) : Nat := l.budget * l.horizon * 1000

/-- The credit of one second: B x 1,000 / 86,400 nAh with the rest carried, up to the cap (R650). -/
def LedgerSt.creditSecond (l : LedgerSt) : LedgerSt :=
  let n := l.credit + 1000 * l.budget
  { l with
    credit := n % 86400, creditAt := l.creditAt + 1000000000,
    store := if l.budget = noLimit then l.store else min (l.cap : Int) (l.store + ((n / 86400 : Nat) : Int)) }

/-- RESERVOIR_CREDIT: a second of device time passes; the charge meter's VAON reading is booked in the parked states
(R648-R650). -/
def execReservoirCredit (vaonNc : Nat) (s : State) : Host.Outcome State Fault Refusal :=
  .next <| if s.deviceTime < s.ledger.creditAt + 1000000000 then s else
  let s := State.showStore { s with ledger := s.ledger.creditSecond }
  if s.parked then s.spend vaonNc else s

/-- The store refilled for a budget and horizon (R650). -/
def State.refill (s : State) (b h : Nat) : State :=
  let l := { s.ledger with budget := b, horizon := h, credit := 0 }
  let s := { s with ledger := { l with store := if b = noLimit then 0 else (l.cap : Int) } }
  ((s.setFld Fd.RV_BUDGET_UAH_DAY b).setFld Fd.RV_STAT_HORIZON_D h).showStore

def reservoirInfo : OpInfo :=
  { code := 0x0008, issuer := .p0, used := [(0, 4), (4, 2)], durable := true,
    params := fun c => decide (1 ≤ c.p16 4 ∧ c.p16 4 ≤ 365) &&
      (c.p32 0 == noLimit || decide (c.p32 0 * c.p16 4 * 1000 ≤ 2 ^ 31 - 1)) }

def reservoirWork (s : State) (c : Inflight) : Work := .commit ((s.refill (c.p32 0) (c.p16 4)).plan 3) .done

/-- RESERVOIR_SET: B and H, the store refilled, and a plan at the commit (R650, R652). -/
def execReservoirSet (k : CmdKey) (s : State) : Host.Outcome State Fault Refusal :=
  .next (s.runCmd reservoirInfo true reservoirWork k)

end Sys2Proof.Machine
end

