-- ==== Sys2Proof/Machine/Pace.lean ====
section
/-! DEFINITION. The PMIC interface, the power cap, pace meters and voltage adaptation (01_architecture.md R36-R39,
18_power_and_reservoir.md R648, R655, R656, 21_card_port_and_can.md R724, R725). -/

namespace Sys2Proof.Machine

def pgPw : Nat := 0x0E0000

def State.updPower (s : State) (f : PowerSt → PowerSt) : State := { s with power := f s.power }

/-! ### PMIC transactions (R724, R725) -/

/-- 8-bit write address of the PMIC by the strap (02 R74). -/
def State.pmicAddr (s : State) : Nat := 2 * (0x60 + s.fld Fd.STRAP_STAT_PMIC_ASEL)

/-- The PMBus page of a rail, coded as the page map order (R727). -/
def State.railPage (s : State) (rail : Nat) : Nat :=
  if rail = 0 then s.fld Fd.PM_PAGEMAP_CORE else if rail = 1 then s.fld Fd.PM_PAGEMAP_SERDES
  else if rail = 2 then s.fld Fd.PM_PAGEMAP_RF else if rail = 3 then s.fld Fd.PM_PAGEMAP_IO18 else s.fld Fd.PM_PAGEMAP_IO33

/-- PAGE, then one PMBus command with its data (R724). -/
def State.pmbus (s : State) (rail code : Nat) (data : Bytes) : State :=
  (s.emit (.pmic (leBytes 1 s.pmicAddr ++ [0x00] ++ leBytes 1 (s.railPage rail)))).emit
    (.pmic (leBytes 1 s.pmicAddr ++ leBytes 1 code ++ data))

/-- Switch a rail on or off (R724). -/
def State.railSet (s : State) (rail : Nat) (on : Bool) : State := s.pmbus rail 0x01 [if on then 0x80 else 0x00]

/-- Send a VOUT_COMMAND for VDD_CORE (R39, R724). -/
def State.voutSend (s : State) (mv : Nat) : State := s.pmbus 0 0x21 (leBytes 2 (Config.voutWord mv))

/-- VOUT_MODE is read once per rail after power-on reset (R724). -/
def State.readModes (s : State) : State := (List.range 5).foldl (fun (t : State) r => t.pmbus r 0x20 []) s

/-- The power of each rail is read (R648, R655, R724). -/
def State.readRails (s : State) : State := (List.range 5).foldl (fun (t : State) r => t.pmbus r 0x96 []) s

/-- Place of a kind in the order of service (R725). -/
def pmicRank : PmicKind → Nat
  | .rail => 0 | .vout => 1 | .status => 2 | .telemetry => 3

/-- A transaction of this kind is being retried. -/
def State.retrying (s : State) (k : PmicKind) : Bool := s.power.retries.any (fun r => r.1 = k)

/-- A NACK: the transaction is tried again after 1 ms (R725). -/
def State.pmicNack (s : State) (k : PmicKind) : State :=
  s.updPower (fun p => { p with retries := (k, 0, s.deviceTime) :: p.retries.filter (fun r => r.1 ≠ k) })

/-- The VDD_CORE request becomes mv, which the PMIC accepts or NACKs (R39, R725). -/
def State.askCore (s : State) (mv : Nat) (ack : Bool) : State :=
  if mv = s.fld Fd.PACE_STAT_VCORE_MV then s else
  let s := s.voutSend mv
  if ack then s.setFld Fd.PACE_STAT_VCORE_MV mv
  else (s.updPower (fun p => { p with vcoreAsk := some mv })).pmicNack .vout

/-- The request now asked for: the one under way, else the last accepted. -/
def State.coreAsked (s : State) : Nat := s.power.vcoreAsk.getD (s.fld Fd.PACE_STAT_VCORE_MV)

/-! ### The power cap (R655, R656) -/

/-- Steps of the cap change: CAP occurs when STEP leaves 0, CAPPED follows step 1, and work held before may go on
(R656, R660). -/
def State.setCapStep (s : State) (n : Nat) : State :=
  let old := s.fld Fd.PW_CAP_STEP
  let s := (s.setFld Fd.PW_CAP_STEP n).setFld Fd.PACE_STAT_CAPPED (b2n (n != 0))
  let s := if old = 0 && n ≠ 0 then s.raise pgPw 4 else s
  let s := if n = 0 then s.updPower (fun p => { p with hot := 0 }) else s
  if n < old then s.serve 64 else s

/-- A reading above the cap: one step, each only once the one before is fully taken (R656). -/
def State.capRaise (s : State) (ack : Bool) : State :=
  let s := s.updPower (fun p => { p with under := 0 })
  let step := s.fld Fd.PW_CAP_STEP
  let mv := s.coreAsked
  let s := s.setFld Fd.PW_CAP_OVER (b2n (step == 4))
  if step = 0 then s.setCapStep 1
  else if step = 1 then (s.setCapStep 2).askCore (max 720 (mv - 5)) ack
  else if step = 2 then
    if mv ≤ 720 then (s.updPower (fun p => { p with overCap := 0 })).setCapStep 3 else s.askCore (max 720 (mv - 5)) ack
  else if step = 3 then
    let s := s.updPower (fun p => { p with overCap := p.overCap + 1 })
    if 2 ≤ s.power.overCap then s.setCapStep 4 else s
  else s

/-- A reading at or below the cap: ten in a row at or below 95 % undo one step every 10 ms (R656). -/
def State.capLower (s : State) (mw : Nat) : State :=
  let n := if 100 * mw ≤ 95 * s.fld Fd.PW_CAP_CAP_MW then min 10 (s.power.under + 1) else 0
  let s := (s.updPower (fun p => { p with under := n })).setFld Fd.PW_CAP_OVER 0
  let step := s.fld Fd.PW_CAP_STEP
  if 0 < step && n = 10 && decide (s.power.undoAt + 10000000 ≤ s.deviceTime) then
    (s.updPower (fun p => { p with undoAt := s.deviceTime, overCap := 0 })).setCapStep (step - 1)
  else s

/-- A power reading is shown and judged (R655, R656, R660). -/
def State.capReading (s : State) (mw : Nat) (ack : Bool) : State :=
  let v := satTo 65535 mw
  let s := ((s.setFld Fd.PW_CAP_NOTEL 0).setFld Fd.PW_POWER_POWER_MW v).setFld Fd.PW_POWER_PEAK_MW
    (max v (s.fld Fd.PW_POWER_PEAK_MW))
  if s.fld Fd.PW_CAP_CAP_MW < mw then s.capRaise ack else s.capLower mw

/-- Excursions and access work are read every 1 ms (R648). -/
def State.readEvery (s : State) : Nat := if s.fld Fd.PW_STAT_STATE = 0 || s.demanding then 1000000 else 100000000

/-- Battery charge in nC of mw over ns: energy / (VBAT_MV x EFF_PCT / 100) (R648). -/
def State.railCharge (s : State) (mw ns : Nat) : Nat :=
  mw * ns * 100 / (s.fld Fd.RV_CONV_VBAT_MV * s.fld Fd.RV_CONV_EFF_PCT)

/-- A reading arrives: in Flow it drives the cap, in the parked states it is booked (R648, R649, R655). -/
def State.powerReading (s : State) (mw ns : Nat) (ack : Bool) : State :=
  if s.fld Fd.PW_STAT_STATE = 0 then s.capReading mw ack
  else if s.parked then s.spend (s.railCharge mw ns)
  else s

/-- POWER_READING: the sum of the rails' powers from PMIC telemetry, or none where the read is NACKed, and whether the
PMIC accepts a VOUT_COMMAND that follows (R648, R655, R656; 21 R725). -/
def execPowerReading (mw : Option Nat) (ack : Bool) (s : State) : Host.Outcome State Fault Refusal :=
  .next <|
    let t := s.readEvery
    if s.deviceTime < s.power.readAt + t || s.retrying .telemetry then s else
    let s := (s.updPower (fun p => { p with readAt := s.deviceTime })).readRails
    match mw with
    | some v => s.powerReading v t ack
    | none => s.pmicNack .telemetry

def powerCapInfo : OpInfo :=
  { code := 0x0009, issuer := .p0, used := [(0, 2)], durable := true,
    params := fun c => decide (1500 ≤ c.p16 0 ∧ c.p16 0 ≤ 9500) }

def powerCapWork (s : State) (c : Inflight) : Work :=
  .commit ((s.updPower (fun p => { p with capMw := c.p16 0 })).setFld Fd.PW_CAP_CAP_MW (c.p16 0)) .done

/-- POWER_CAP_SET: 1,500 to 9,500 mW, durable (R655). -/
def execPowerCapSet (k : CmdKey) (s : State) : Host.Outcome State Fault Refusal :=
  .next (s.runCmd powerCapInfo true powerCapWork k)

/-! ### Pace meters and voltage adaptation (01 R36-R38, 02 R86, R632) -/

/-- The domain of meter n: M2-M7 in North's core domain, M8-M13 in South's. R45 names none for M0 and M1 on Shore: PD13 is the
model's choice (notes/assumptions 95). -/
def meterDomain (n : Nat) : Nat := if n < 2 then 13 else if n < 8 then 31 else 49

/-- PACE_WINDOW: at the end of each 4,096 periods every meter's pace value is recomputed from the cycles it counted; a
meter whose domain was off at any time in the window takes no part (R36, R37). -/
def execPaceWindow (counts : List Nat) (s : State) : Host.Outcome State Fault Refusal :=
  .next <| if s.deviceTime < s.power.paceAt + 106666 || s.supply.lostRef38 then s else
  let on := fun (n : Nat) => bit s.domains (meterDomain n)
  let pace := fun (n : Nat) => if on n then satTo 65535 (1024 * counts.getD n 0 / Config.paceDivisor n) else 0
  let part := (List.range 14).filter (fun n => on n && bit s.power.paceOn (meterDomain n))
  let s' := (List.range 14).foldl (fun (t : State) n => t.setFld (Fd.PACE_M_PACE n) (pace n)) s
  let s' := s'.setFld Fd.PACE_STAT_PACE_MIN (((part.map pace).min?).getD 0)
  s'.updPower (fun p => { p with paceAt := s.deviceTime, paceOn := s.domains, tookPart := listMask part })

/-- Upper limit of the request: VMAX_MV between 720 and 900 (R38). -/
def State.vmax (s : State) : Nat := max 720 (min 900 (s.fld Fd.AVS_CTL_VMAX_MV))

/-- The request is evaluated: in Flow and Eddy, and in Pond and excursions during an access session (R632, R637). -/
def State.avsPlace (s : State) : Bool := (!s.parked || s.acc.session.isSome) && s.halvesOn

/-- Voltage adaptation runs. -/
def State.avsRuns (s : State) : Bool := s.fld Fd.AVS_CTL_AVS_EN == 1 && s.avsPlace

/-- What the cap holds back of a Grade 1 part above Tj 125 C that is slow: BACKGROUND work, then BULK work too (R86). -/
def State.holdHot (s : State) (hold : Bool) : State :=
  let was := s.power.hot
  let s := s.updPower (fun p => { p with hot := if hold then min 2 (p.hot + 1) else 0 })
  if s.power.hot < was then s.serve 64 else s

/-- AVS_EVALUATE: once per millisecond the lowest pace moves the request by 5 mV (R37, R38). `hot`: a Grade 1 part above
Tj 125 C; `slow`: a meter reads below its corner-S pace: the request rises, whatever AVS_EN says, or where the cap holds it work is
held back instead (R86). `ack`: the PMIC accepts the request (21 R725). -/
def execAvsEvaluate (ack hot slow : Bool) (s : State) : Host.Outcome State Fault Refusal :=
  .next <| if s.deviceTime < s.power.avsAt + 1000000 || !s.avsPlace || s.retrying .vout then s else
  let s := (s.updPower (fun p => { p with avsAt := s.deviceTime })).holdHot (hot && slow && s.capped)
  if hot && slow && !s.capped then s.askCore (Nat.min s.vmax (s.fld Fd.PACE_STAT_VCORE_MV + 5)) ack
  else if !s.avsRuns || s.power.tookPart = 0 then s else
  let min := s.fld Fd.PACE_STAT_PACE_MIN
  let mv := s.fld Fd.PACE_STAT_VCORE_MV
  if min < 1024 then
    if s.capped then s else s.askCore (Nat.min s.vmax (mv + 5)) ack
  else if 1075 < min then s.askCore (Nat.max 720 (mv - 5)) ack
  else s

/-- CLR_PEAK (R660). -/
def execClrPeak (src : Nat) (data : Word) (s : State) : Host.Outcome State Fault Refusal :=
  .next <| if s.pageOpen src pgPw && bit data.toNat 0 then s.setFld Fd.PW_POWER_PEAK_MW 0 else s

/-- CLR_LAT (22 R741). -/
def execClrLat (src : Nat) (data : Word) (s : State) : Host.Outcome State Fault Refusal :=
  .next <| if s.pageOpen src 0x110000 && bit data.toNat 0 then s.setFld Fd.TM_LAT_MAX_NS 0 else s

/-! ### PMIC rows (R724, R725) -/

/-- A STATUS_WORD read ends: the word is kept, ALERT occurs, and a fault is cleared (R724, R727). -/
def State.pmicStatus (s : State) (v : Nat) : State :=
  ((s.setFld Fd.PM_STAT_STATUS (v % 65536)).raise pgPmic 2).pmbus (s.fld Fd.PM_STAT_RAIL) 0x03 []

/-- PMIC_ALERT: PMIC_ALERT_N goes low and the STATUS_WORD of a rail is read, or NACKed (R724, R725). -/
def execPmicAlert (rail : Nat) (status : Option Nat) (s : State) : Host.Outcome State Fault Refusal :=
  .next <|
    let s := (s.setFld Fd.PM_STAT_RAIL (rail % 8)).pmbus rail 0x79 []
    match status with
    | some v => s.pmicStatus v
    | none => s.pmicNack .status

/-- A transaction of this kind has failed three retries: FAIL, and what follows by kind (R725). -/
def State.pmicFail (s : State) (k : PmicKind) : State :=
  let s := (s.setFld Fd.PM_STAT_FAIL 1).raise pgPmic 1
  match k with
  | .telemetry => s.setFld Fd.PW_CAP_NOTEL 1
  | .vout => s.updPower (fun p => { p with vcoreAsk := none })
  | .status => s
  | .rail =>
    let s := s.updPower (fun p => { p with railFails := p.railFails + 1, railAt := s.deviceTime })
    if 3 ≤ s.power.railFails then s.setFld Fd.PM_STAT_RAIL_FAIL 1 else s

/-- PMIC_RETRY: 1 ms after a NACK the transaction runs again, with the word it returns or another NACK; the third retry is
the last (R725). Waiting transactions are served in the order of their kinds. -/
def execPmicRetry (k : PmicKind) (v : Option Nat) (s : State) : Host.Outcome State Fault Refusal :=
  let due := fun (r : PmicKind × Nat × Nat) => decide (r.2.2 + 1000000 ≤ s.deviceTime)
  .next <| match s.power.retries.find? (fun r => r.1 = k) with
  | none => s
  | some r =>
    if !due r || s.power.retries.any (fun o => due o && decide (pmicRank o.1 < pmicRank k)) then s else
    let rest := s.power.retries.filter (fun o => o.1 ≠ k)
    match v with
    | some w =>
      let s := s.updPower (fun p => { p with retries := rest })
      match k with
      | .telemetry => s.powerReading w s.readEvery true
      | .vout => (s.setFld Fd.PACE_STAT_VCORE_MV s.coreAsked).updPower (fun p => { p with vcoreAsk := none })
      | .status => s.pmicStatus w
      | .rail => s
    | none =>
      if r.2.1 < 2 then s.updPower (fun p => { p with retries := (k, r.2.1 + 1, s.deviceTime) :: rest })
      else (s.updPower (fun p => { p with retries := rest })).pmicFail k

end Sys2Proof.Machine
end

