-- ==== Sys2Proof/Machine/FrontEnd.lean ====
section
/-! DEFINITION. The access front end: handle sensing, LF frames, the backup coil and the UHF receiver
(06_access_front_end.md R206-R246). -/

namespace Sys2Proof.Machine

/-! ### Handle sensing (R209-R219) -/

/-- n crystal periods in ns, times 32,768 (R210). -/
def crystalDue (now since periods : Nat) : Bool := decide (periods * 1000000000 ≤ (now - since) * 32768)

def HsChan.init : HsChan :=
  { base := 0, count := 0, lowRun := 0, goodRun := 0, confirm := none, discarded := false, touchedAt := none }

def State.hsChan (s : State) (n : Nat) : HsChan := s.hs.chans.getD n HsChan.init

def State.setHsChan (s : State) (n : Nat) (f : HsChan → HsChan) : State :=
  { s with hs := { s.hs with chans := s.hs.chans.modify n f } }

/-- Set or clear bit n of a mask field. -/
def State.setFldBit (s : State) (f : Fld) (n : Nat) (b : Bool) : State :=
  s.setFld f (if b then setBit (s.fld f) n else clrBit (s.fld f) n)

/-- HS_SCAN_ROUND: a round begins at the planned period with the planned, enabled channels (R207, R209, R210);
in Dry PD01 is off (18 R627). -/
def execHsScanRound (s : State) : Host.Outcome State Fault Refusal :=
  let per := s.fld Fd.HS_PLAN_PERIOD
  .next <| if per = 0 || s.fld Fd.PW_STAT_STATE = 4 || !s.pageAdmits pgHs || !crystalDue s.deviceTime s.hs.lastRound per then s else
  let l := (List.range 6).filter (fun n => bit (s.fld Fd.HS_PLAN_SCANNED) n && s.fld (Fd.HS_CFG_EN n) == 1 &&
    (s.hsChan n).confirm.isNone)
  { s with hs := { s.hs with round := l, lastRound := s.deviceTime, cfg := s.pageCfg pgHs, ssc := s.fld Fd.SSC_CTL_HS_SSC } }

/-- Channel n is measured now: enabled as the last round read it, in the current plan, and PD01 is on (R207, R209; 18 R627). -/
def State.hsMeasured (s : State) (n : Nat) : Bool :=
  cfgFld s.hs.cfg (Fd.HS_CFG_EN n) == 1 && bit (s.fld Fd.HS_PLAN_SCANNED) n && s.fld Fd.PW_STAT_STATE != 4

/-- Mark or clear FAULT by the count's range (R219). -/
def State.hsFault (s : State) (n count : Nat) : State :=
  let fault := bit (s.fld Fd.HS_STAT_FAULT) n
  if 60000 ≤ count || count < 4196 then
    let s := (s.setHsChan n (fun c => { c with goodRun := 0 })).setFldBit Fd.HS_STAT_FAULT n true
    if fault then s else s.raise pgHs 4
  else if fault then
    let g := (s.hsChan n).goodRun + 1
    if 8 ≤ g then (s.setHsChan n (fun c => { c with goodRun := 0 })).setFldBit Fd.HS_STAT_FAULT n false
    else s.setHsChan n (fun c => { c with goodRun := g })
  else s

/-- Count minus baseline, in 1/256 counts. -/
def HsChan.delta (c : HsChan) (count : Nat) : Int := (count : Int) * 256 - (c.base : Int)

/-- The baseline rule of R217 for an untouched channel; a delta of at least TOUCH_TH starts confirmation (R212). -/
def State.hsTrack (s : State) (n count startedAt : Nat) : State :=
  let c := s.hsChan n
  let d := c.delta count
  let band : Int := (cfgFld s.hs.cfg Fd.HS_DRIFT_DRIFT_BAND : Int) * 256
  if (cfgFld s.hs.cfg (Fd.HS_CFG_TOUCH_TH n) : Int) * 256 ≤ d then
    if bit (s.fld Fd.HS_STAT_FAULT) n then s
    else s.setHsChan n (fun c => { c with
      confirm := some (max 1 (cfgFld s.hs.cfg (Fd.HS_CFG_DEB n)), startedAt), lastAt := startedAt, cfg := s.hs.cfg })
  else if -band ≤ d ∧ d ≤ band then
    let b := ((c.base : Int) + d / 2 ^ (cfgFld s.hs.cfg Fd.HS_DRIFT_DRIFT_SHIFT)).toNat
    s.setHsChan n (fun c => { c with base := b, lowRun := 0 })
  else if d < -band then
    if c.lowRun + 1 = 4 then s.setHsChan n (fun c => { c with base := count * 256, lowRun := 0 })
    else s.setHsChan n (fun c => { c with lowRun := c.lowRun + 1 })
  else s

/-- One completed measurement of channel n outside confirmation (R216-R219). -/
def State.hsMeasure (s : State) (n count startedAt : Nat) : State :=
  let s := (s.setHsChan n (fun c => { c with count := count, discarded := false })).hsFault n count
  let low := decide ((s.hsChan n).delta count < (cfgFld s.hs.cfg (Fd.HS_CFG_REL_TH n) : Int) * 256)
  let s := if low then s.setFldBit Fd.HS_STAT_STUCK n false else s
  if (s.hsChan n).touchedAt.isSome then
    if low then (s.setHsChan n (fun c => { c with touchedAt := none })).setFldBit Fd.HS_STAT_TOUCHED n false else s
  else s.hsTrack n count startedAt

/-- The measurement overlaps an LF transmission: a frame, or the field of the backup coil (R211). -/
def State.lfOverlap (s : State) (startedAt : Nat) : Bool :=
  s.lf.air.isSome || s.bc.isSome || decide (startedAt < s.lf.lastEnd)

/-- HS_MEASUREMENT: the next measurement of the round ends, in ascending channel order; one that overlaps LF is discarded for a
repeat (R209-R219). -/
def execHsMeasurement (n count startedAt : Nat) (s : State) : Host.Outcome State Fault Refusal :=
  .next <| if s.hs.round.head? ≠ some n then s else
  let s := State.book { s with hs := { s.hs with round := s.hs.round.tail } } .scan
  if s.lfOverlap startedAt then s.setHsChan n (fun c => { c with discarded := true })
  else s.hsMeasure n count startedAt

/-- A confirmed touch is passed on: stamp, wake and the request to the halves (R213, R214). -/
def State.passTouch (s : State) (n stamp : Nat) : State :=
  let s := (((s.setFld Fd.HS_STAT_LAST_CH n).setFld Fd.HS_STAMP_LO_STAMP (stamp % 2 ^ 32)).setFld Fd.HS_STAMP_HI_STAMP
    (stamp / 2 ^ 32)).raise pgHs 1
  if cfgFld (s.hsChan n).cfg (Fd.HS_CFG_WAKE_EN n) = 1 then
    let s := s.latchWake .touch
    match touchTarget s.policy n with
    | some t => s.request .touch t stamp
    | none => s
  else s

/-- Insert a touch by its stamp. -/
def touchInsert (t : Nat × Nat) (l : List (Nat × Nat)) : List (Nat × Nat) :=
  l.takeWhile (fun x => decide (x.2 ≤ t.2)) ++ [t] ++ l.dropWhile (fun x => decide (x.2 ≤ t.2))

/-- The touches that no earlier stamp under confirmation holds back are passed on, in the order of their stamps (R214;
notes/assumptions 108). -/
def State.passReady (s : State) : State :=
  let live := s.hs.chans.filterMap (fun c => c.confirm.map (·.2))
  let free := fun (t : Nat × Nat) => live.all (fun x => decide (t.2 ≤ x))
  (s.hs.ready.filter free).foldl (fun (t : State) c => t.passTouch c.1 c.2)
    { s with hs := { s.hs with ready := s.hs.ready.filter (fun t => !free t) } }

/-- A channel becomes touched under configuration m (R212-R214). -/
def State.hsTouch (s : State) (m : CfgWords) (n stamp : Nat) : State :=
  let s := (s.setHsChan n (fun c => { c with confirm := none, touchedAt := some s.deviceTime, cfg := m })).setFldBit
    Fd.HS_STAT_TOUCHED n true
  State.passReady { s with hs := { s.hs with ready := touchInsert (n, stamp) s.hs.ready } }

/-- A confirmation ends without a touch: the channel returns to the round (R212). -/
def State.hsReturn (s : State) (n : Nat) : State :=
  (s.setHsChan n (fun c => { c with confirm := none, discarded := false })).passReady

/-- A confirming measurement of channel n (R212, R218, R219). -/
def State.hsConfirm (s : State) (n count startedAt : Nat) : State :=
  match (s.hsChan n).confirm with
  | none => s
  | some (left, stamp) =>
    let s := (s.setHsChan n (fun c => { c with count := count, discarded := false, lastAt := startedAt })).hsFault n count
    let c := s.hsChan n
    let d := c.delta count
    let s := if d < (cfgFld c.cfg (Fd.HS_CFG_REL_TH n) : Int) * 256 then s.setFldBit Fd.HS_STAT_STUCK n false else s
    if bit (s.fld Fd.HS_STAT_FAULT) n || decide (d < (cfgFld c.cfg (Fd.HS_CFG_TOUCH_TH n) : Int) * 256) then s.hsReturn n
    else if left ≤ 1 then s.hsTouch c.cfg n stamp
    else s.setHsChan n (fun c => { c with confirm := some (left - 1, stamp) })

/-- HS_CONFIRM: every 16 crystal periods (R209, R211-R214). -/
def execHsConfirm (n count startedAt : Nat) (s : State) : Host.Outcome State Fault Refusal :=
  .next <| if (s.hsChan n).confirm.isNone then s
  else if !s.hsMeasured n then s.hsReturn n
  else if !crystalDue startedAt (s.hsChan n).lastAt 16 then s
  else
    let s := s.book .scan
    if s.lfOverlap startedAt then s.setHsChan n (fun c => { c with discarded := true }) else s.hsConfirm n count startedAt

/-- HS_REMEASURE: 250 us after the transmission a discarded measurement is repeated (R211). -/
def execHsRemeasure (n count startedAt : Nat) (s : State) : Host.Outcome State Fault Refusal :=
  .next <| if !(s.hsChan n).discarded then s
  else if !s.hsMeasured n then s.hsReturn n
  else if s.lf.air.isSome || s.bc.isSome || startedAt < s.lf.lastEnd + 250000 then s
  else
    let s := s.book .scan
    if (s.hsChan n).confirm.isSome then s.hsConfirm n count startedAt else s.hsMeasure n count startedAt

/-- PD01 goes off: no round, no confirmation and no touch under way (18 R627). -/
def State.hsOff (s : State) : State :=
  { s with hs := { s.hs with
      round := [], ready := [], chans := s.hs.chans.map (fun c => { c with confirm := none, discarded := false }) } }

/-- STUCK_TOUCH: touched for STUCK_S seconds, the channel is rebased and untouched (R218). -/
def execStuckTouch (n : Nat) (s : State) : Host.Outcome State Fault Refusal :=
  .next <| match (s.hsChan n).touchedAt with
  | none => s
  | some t =>
    let sec := cfgFld s.hs.cfg Fd.HS_DRIFT_STUCK_S
    if sec = 0 || s.deviceTime < t + sec * 1000000000 then s else
    let s := s.setHsChan n (fun c => { c with base := c.count * 256, touchedAt := none, lowRun := 0 })
    ((s.setFldBit Fd.HS_STAT_STUCK n true).setFldBit Fd.HS_STAT_TOUCHED n false).raise pgHs 2

/-! ### LF frames (R220-R230) -/

/-- Channels in use: enabled, tested and not excluded (R228, R229). -/
def State.lfUsable (s : State) (n : Nat) : Bool :=
  s.fld (Fd.LF_CH_EN n) == 1 && s.fld (Fd.LF_DIAG_STATE n) != 6 && !bit (s.fld Fd.LF_STAT_EXCLUDED) n &&
  !(n == 7 && s.bc.isSome)

/-- The broadcast set of a frame that starts now (R224, R231). -/
def State.lfBroadcast (s : State) (r : LfReq) : Nat :=
  listMask ((List.range 8).filter (fun n => s.lfUsable n && s.fld (Fd.LF_CH_BCAST n) == 1 && bit r.bcast n))

/-- The request as its frame goes out: the burst list read now, which BURSTS of a CHALLENGE or WELCOME names (R207, R224; 08 R292). -/
def State.lfCompose (s : State) (r : LfReq) : LfReq :=
  let b := r.bursts &&& s.burstSet
  match r.kind with
  | .challenge | .welcome => { r with data := r.data.take 11 ++ leBytes 1 b, bursts := b }
  | _ => { r with bursts := b }

/-- Bits per second of LF_MODE.RATE. The reserved 0b11 gives 16 kbit/s, the next of the series: the model's choice (notes/assumptions
109). -/
def lfRate (m : CfgWords) : Nat := 2000 * 2 ^ cfgFld m Fd.LF_MODE_RATE

/-- The duration of a frame of d data bytes and b bursts, in ns (R225). -/
def lfDuration (m : CfgWords) (d b : Nat) : Nat :=
  max 1 (cfgFld m Fd.LF_MODE_PRE) * 128000 + (16 + 8 * d) * 1000000000 / lfRate m +
  b * (cfgFld m Fd.LF_BURST_BURST_US * 1000) + b * 250000

/-- Set current of a set of channels, in mA. -/
def lfCurrent (m : CfgWords) (l : Nat) : Nat := ((maskList l 8).map (fun n => cfgFld m (Fd.LF_CH_I_MA n))).sum

/-- Set current of the backup coil while a session holds it (R222, R231). -/
def State.bcCurrent (s : State) : Nat := match s.bc with | some b => cfgFld b.cfg Fd.BC_CFG_I_MA | none => 0

/-- The factor for channels that transmit at once with a total of t mA: 2,000 / t above 2,000 mA (R222). -/
def lfScale (t : Nat) : Nat × Nat := if 2000 < t then (2000, t) else (1, 1)

/-- Currents of a frame that starts at t: broadcast set bc scaled by k, then of the burst list the bursts sent (R222, R225, R227). What
VLF gives is taken as the peak current set, throughout: the model's choice (notes/assumptions 110). -/
def lfDraws (m : CfgWords) (t d bc : Nat) (k : Nat × Nat) (asked sent : Nat) : List LfDraw :=
  let l := maskList asked 8
  let us := cfgFld m Fd.LF_BURST_BURST_US * 1000
  let e := t + lfDuration m d 0
  ⟨t, e, lfCurrent m bc * k.1 / k.2⟩ :: ((List.range l.length).filter (fun i => bit sent (l.getD i 0))).map (fun i =>
    ⟨e + 250000 * (i + 1) + us * i, e + (250000 + us) * (i + 1), cfgFld m (Fd.LF_CH_I_MA (l.getD i 0))⟩)

/-- Charge drawn in the 1 s from t on, in mA ns. -/
def drawIn (l : List LfDraw) (t : Nat) : Nat :=
  (l.map (fun d => d.ma * (min d.till (t + 1000000000) - max d.since t))).sum

/-- The greatest charge drawn in 1 s that ends after `now`: it is drawn in a second that begins or ends where a current does. -/
def drawPeak (l : List LfDraw) (now : Nat) : Nat :=
  let ts := l.flatMap (fun d => [d.since, d.till, d.since - 1000000000, d.till - 1000000000])
  ((ts.filter (fun t => decide (now < t + 1000000000))).map (drawIn l)).foldl max 0

/-- The field of the backup coil as a current drawn so far. -/
def State.bcDraw (s : State) : List LfDraw :=
  match s.bc with
  | some b => [⟨b.startedAt, max s.deviceTime b.till, cfgFld b.cfg Fd.BC_CFG_I_MA⟩]
  | none => []

/-- Currents of the frame that request r, composed, would start now. -/
def State.lfWould (s : State) (r : LfReq) : List LfDraw :=
  let bc := s.lfBroadcast r
  let m := s.pageCfg pgLf
  lfDraws m s.deviceTime r.data.length bc (lfScale (lfCurrent m bc + s.bcCurrent)) r.bursts
    (listMask ((maskList r.bursts 8).filter s.lfUsable))

/-- A welcome frame would lift the average of any 1 s above 150 mA (R227). -/
def State.welcomeDeferred (s : State) (r : LfReq) : Bool :=
  r.kind == LfKind.welcome &&
  decide (150 * 1000000000 < drawPeak (s.lfWould (s.lfCompose r) ++ s.bcDraw ++ s.lf.charge) s.deviceTime)

/-- A welcome poll of Tarn that no key has answered is over: the rails go off again (18 R639). -/
def State.pollOver (s : State) : State :=
  if s.power.poll.isNone || !s.power.heard.isEmpty then s
  else ((((s.updPower (fun p => { p with poll := none })).railSet 0 false).railSet 3 false).railSet 2 false).setDomains 3

/-- VLF_LOW shows whether VLF is below 6.0 V (R223). -/
def State.showVlf (s : State) : State :=
  let low := b2n (decide (s.lf.vlfMv < 6000))
  let old := s.fld Fd.LF_STAT_VLF_LOW
  let s := s.setFld Fd.LF_STAT_VLF_LOW low
  if old = low then s else s.raise pgLf 2

/-- With VLF low the frame first in line is reported not sent (R223). -/
def State.lfNotSent (s : State) : State :=
  let s := State.showVlf { s with lf := { s.lf with waiting := s.lf.waiting.tail, notSent := s.lf.notSent + 1 } }
  ((s.updSession (fun x => { x with polling := false })).advance).pollOver

/-- A CHALLENGE or WELCOME tells the session, or the poll of Tarn, its bursts named and sent (R229, R230; 18 R639). -/
def State.noteBursts (s : State) (a : LfAir) : State :=
  if (a.req.kind == .challenge || a.req.kind == .welcome) && a.past.isNone then
    State.updPower (s.updSession (fun x => { x with bursts := a.asked, sent := a.bursts })) (fun p =>
      { p with poll := p.poll.map (fun c => (c.1, a.asked, a.bursts)) })
  else s

/-- The channels that a frame of broadcast set bc and bursts b runs below their set currents: all of the broadcast part, with the
backup coil, above 2,000 mA, and below 9.0 V those that cannot reach it (R221, R222). -/
def State.lfLimited (s : State) (m : CfgWords) (bc b short : Nat) : Nat :=
  (if 2000 < lfCurrent m bc + s.bcCurrent then bc ||| (if s.bc.isSome then 128 else 0) else 0) |||
  (if s.lf.vlfMv < 9000 then short &&& (bc ||| b) else 0)

/-- The frame of request r, composed, starts (R207, R221-R227, R229). -/
def State.lfStart (s : State) (r : LfReq) (short : Nat) : State :=
  let m := s.pageCfg pgLf
  let bc := s.lfBroadcast r
  let sent := listMask ((maskList r.bursts 8).filter s.lfUsable)
  let lim := s.lfLimited m bc sent short
  let a : LfAir := {
    req := r, startedAt := s.deviceTime, broadcast := bc, asked := r.bursts, bursts := sent, omitted := maskDiff r.bursts sent }
  let k := lfScale (lfCurrent m bc + s.bcCurrent)
  let s := { s with lf := { s.lf with
    air := some a, waiting := s.lf.waiting.tail, cfg := m, charge := s.drew (s.lfWould r) } }
  let s := ((s.noteBursts a).setFld Fd.LF_STAT_LIMITED lim).emit (.lfFrame {
    pre := max 1 (cfgFld m Fd.LF_MODE_PRE), wup := cfgFld m Fd.LF_MODE_WUP, data := r.data, broadcast := bc, bursts := sent, scale := k })
  if lim = 0 then s else s.raise pgLf 4

/-- LF_FRAME_START: the first frame waiting starts, unless one is on air; with VLF low it is reported not sent; at level 4 none
starts (R207, R221-R227, R231; 04 R124). `short` holds the channels that cannot reach their set current. -/
def execLfFrameStart (short : Nat) (s : State) : Host.Outcome State Fault Refusal :=
  .next <| match s.lf.waiting with
  | [] => s
  | r :: _ =>
    if s.lf.air.isSome || s.supply.lostRef38 || s.level = 4 || !s.pageAdmits pgLf then s
    else if s.lf.vlfMv < 6000 then s.lfNotSent
    else if s.welcomeDeferred r then s
    else s.lfStart (s.lfCompose r) short

/-- Exclude a channel or return it to use by its diagnostic state (R228, R229). -/
def State.lfDiagnose (s : State) (n st : Nat) : State :=
  let old := s.fld (Fd.LF_DIAG_STATE n)
  let s := (s.setFld (Fd.LF_DIAG_STATE n) st).setFldBit Fd.LF_STAT_EXCLUDED n (decide (1 ≤ st ∧ st ≤ 4))
  if old = st then s else s.raise pgLf 1

/-- A frame that is over at `now`, with the bursts of channels that shorted omitted (R229). -/
def LfAir.ended (a : LfAir) (shorted now : Nat) : LfAir :=
  { a with bursts := maskDiff a.bursts shorted, omitted := a.omitted ||| (a.bursts &&& shorted), endedAt := now }

/-- The shorts that a frame may find on its channels (R228, R229). -/
def LfAir.shorts (a : LfAir) (l : List (Nat × Nat)) : List (Nat × Nat) :=
  l.filter (fun c => decide (2 ≤ c.2 ∧ c.2 ≤ 4) && bit (a.broadcast ||| a.bursts) c.1)

/-- LF_FRAME_END: the frame is over; channels that shorted stopped and are excluded, and the halves are told what was sent (R225,
R229, R230). The ledger books it. -/
def execLfFrameEnd (shorted : List (Nat × Nat)) (s : State) : Host.Outcome State Fault Refusal :=
  .next <| match s.lf.air with
  | none => s
  | some a =>
    if s.deviceTime < a.startedAt + lfDuration s.lf.cfg a.req.data.length (maskList a.asked 8).length then s else
    let l := a.shorts shorted
    let s := l.foldl (fun t c => t.lfDiagnose c.1 c.2) s
    let e := a.ended (listMask (l.map (·.1))) s.deviceTime
    let s := State.noteBursts { s with lf := { s.lf with air := none, lastEnd := s.deviceTime, ended := some e } } e
    s.book (.lf (min 2000 (lfCurrent s.lf.cfg a.broadcast)) (lfDuration s.lf.cfg a.req.data.length 0 / 1000))

/-- A test of channel n is due for its cause: the first since its bank was powered, the interval, a frame on the channel, the halves
(R228). -/
def State.diagDue (s : State) (n : Nat) : DiagCause → Bool
  | .bank => !bit s.lf.tested n
  | .interval => s.fld Fd.LF_BURST_LF_DIAG_INT != 0 &&
      decide (s.lf.diagAt.getD n 0 + s.fld Fd.LF_BURST_LF_DIAG_INT * 1000000000 ≤ s.deviceTime)
  | .frame => match s.lf.air with | some a => bit (a.broadcast ||| a.bursts) n | none => false
  | .request => true

/-- LF runs: the reference is there, the page takes work, and the level is not 4 (R231; 02 R79; 04 R124). -/
def State.lfRuns (s : State) : Bool := !s.supply.lostRef38 && s.pageAdmits pgLf && s.level != 4

/-- LF_DIAG: a diagnostic of an enabled channel whose bank is powered sets its state and resonance (R228, R229). -/
def execLfDiag (n st res : Nat) (why : DiagCause) (s : State) : Host.Outcome State Fault Refusal :=
  .next <| if s.fld (Fd.LF_CH_EN n) = 1 && st < 6 && bit (bankChannels s.domains) n && s.lfRuns && s.diagDue n why then
    let s := (s.lfDiagnose n st).setFld (Fd.LF_DIAG_RES_HZ n) res
    { s with lf := { s.lf with diagAt := s.lf.diagAt.set n s.deviceTime, tested := setBit s.lf.tested n } }
  else s

/-- VLF_LOW_CHANGE: VLF crosses 6.0 V (R223). -/
def execVlfLowChange (mv : Nat) (s : State) : Host.Outcome State Fault Refusal :=
  .next (State.showVlf { s with lf := { s.lf with vlfMv := mv } })

/-! ### Telegrams (R234) -/

/-- One bit of the CRC-16 of polynomial 0x1021. -/
def crc16Bit (c : BitVec 16) : BitVec 16 := if c.msb then c <<< 1 ^^^ 0x1021#16 else c <<< 1

/-- One byte of it, most significant bit first. -/
def crc16Byte (c : BitVec 16) (b : Byte) : BitVec 16 :=
  (List.range 8).foldl (fun c _ => crc16Bit c) (c ^^^ b.setWidth 16 <<< 8)

/-- The CRC-16 of R234: initial value 0xFFFF, no reflection, no final XOR. -/
def crc16 (b : Bytes) : Nat := (b.foldl crc16Byte 0xFFFF#16).toNat

/-- LEN is 0 or above 64. -/
def lenBad (raw : Bytes) : Bool := decide (leAt raw 0 1 = 0 ∨ 64 < leAt raw 0 1)

/-- The payload of what follows a sync word, LEN, PAYLOAD and CRC: none where LEN is bad or the CRC does not match (R234, R238). -/
def telegramPayload (raw : Bytes) : Option Bytes :=
  let n := leAt raw 0 1
  if !lenBad raw && raw.length == n + 3 && crc16 (raw.take (n + 1)) == beAt raw (n + 1) 2 then some (slice raw 1 n) else none

/-- What follows a sync word fails: a bad LEN, or a whole telegram whose CRC does not match (R238). -/
def telegramFails (raw : Bytes) : Bool :=
  !raw.isEmpty && (lenBad raw || (raw.length == leAt raw 0 1 + 3 && (telegramPayload raw).isNone))

/-! ### Backup coil (R231) -/

/-- The data field of a BACKUP frame (R292). -/
def State.backupData (s : State) (nonce : Bytes) : Bytes := [0x14] ++ s.vidBytes ++ nonce

/-- Step 1: LF7 drives, for a session on START, which it opens for a command or at level 3 or 4. A frame on air whose broadcast part
then exceeds 2,000 mA is limited (R222). That VLF below 6.0 V bars the session too is the model's choice (notes/assumptions 111). -/
def State.bcStart (s : State) : State :=
  if s.fld Fd.BC_CFG_EN = 0 || s.supply.lostRef38 || s.lf.vlfMv < 6000 || !s.pageAdmits pgBc then s else
  let s := if s.acc.session.isNone then s.openSession .backupCoil 16 else s
  match s.acc.session with
  | none => s
  | some x =>
    if x.target ≠ 16 then s else
    let b : BcSession := {
      startedAt := s.deviceTime, nonceV := [], exchange := false, downEnd := 0, till := s.deviceTime + 100000000, cfg := s.pageCfg pgBc }
    let s := { s with bc := some b }.setFld Fd.BC_STAT_STATE 1
    match s.lf.air with
    | none => s
    | some a =>
      let lim := if s.deviceTime < a.startedAt + lfDuration s.lf.cfg a.req.data.length 0 then s.lfLimited s.lf.cfg a.broadcast 0 0 else 0
      if lim = 0 then s else (s.setFld Fd.LF_STAT_LIMITED (s.fld Fd.LF_STAT_LIMITED ||| lim)).raise pgLf 4

/-- Step 3: a BACKUP frame with a fresh nonce goes out at 4 kbit/s; the field stays on long enough for a reply of 12 bytes that starts
2 ms after its end (R231, R292, R295). -/
def State.bcDownlink (s : State) (b : BcSession) : State :=
  let nonce := s.drawn 8
  let s := (s.draw 8).updSession (fun x => { x with source := .backupCoil, nonceV := nonce, cmd := 0x14, bursts := 0, sent := 0 })
  let down := s.deviceTime + 88 * 250000
  let s := { s with bc := some { b with exchange := true, nonceV := nonce, downEnd := down, till := max b.till (down + 36000000) } }
  ((s.setFld Fd.AC_STAT_SOURCE Source.backupCoil.code).setFld Fd.BC_STAT_STATE 2).emit (.backupCoil (s.backupData nonce))

/-- The decision of a session in which the coil brought no key (R312). -/
def noBackup : Decision :=
  { target := 16, fob := 0xFF, status := .authFail, reason := 1, zone := 0xFF, bound := 0xFFFF, score := 0, rng := 0xFF,
    source := .backupCoil }

/-- The coil is done: a session that rests on it alone ends with what the coil brought (R312). -/
def State.bcDecide (s : State) : State :=
  match s.acc.session with
  | some x => if x.source ≠ .backupCoil || s.decisionHeld then s else if x.bcFob.isSome then s.tryBackup x else s.decision noBackup
  | none => s

/-- Step 2: after the charging time LF7 shows a transponder, or the session ends NO_TRANSPONDER (R231). -/
def State.bcCheck (s : State) (b : BcSession) (transponder : Bool) : State :=
  if b.exchange || decide (s.deviceTime < b.startedAt + cfgFld b.cfg Fd.BC_CFG_POWERUP_MS * 1000000) ||
     s.drawWaits (s.fld Fd.HW_ROLE_LEAD) then s
  else if transponder then s.bcDownlink b
  else (s.bcOff 4).bcDecide

/-- BC_SESSION_START: LF7 drives, and after the charging time the same command says whether LF7 shows a transponder (R231). -/
def execBcSessionStart (transponder : Bool) (s : State) : Host.Outcome State Fault Refusal :=
  .next <| match s.bc with
  | none => s.bcStart
  | some b => s.bcCheck b transponder

/-- A reply of n payload bytes that ends now started within 2 ms of the end of the downlink: SYNC, LEN, payload and CRC at 4 kbit/s
(R231, R234). -/
def State.bcInTime (s : State) (b : BcSession) (n : Nat) : Bool :=
  let d := (8 * n + 40) * 250000
  b.exchange && decide (b.downEnd + d ≤ s.deviceTime ∧ s.deviceTime ≤ b.downEnd + 2000000 + d)

/-- Steps 3 and 4 repeat after a reply that is not valid, while retries are left (R231, R303; notes/assumptions 112). -/
def State.bcAgain (s : State) (b : BcSession) : State :=
  match s.acc.session with
  | some x => if x.retriesLeft = 0 then s else (s.updSession (fun x => { x with retriesLeft := x.retriesLeft - 1 })).bcDownlink b
  | none => s

/-- BC_REPLY: the key's reply, LEN, PAYLOAD and CRC, goes to both halves, which decide (R231, R295, R300, R312). -/
def execBcReply (raw : Bytes) (s : State) : Host.Outcome State Fault Refusal :=
  .next <| match s.bc, s.acc.session, telegramPayload raw with
  | some b, some x, some payload =>
    if !s.bcInTime b payload.length then s else
    let s := s.askOwn (answerCmacBytes payload)
    let fob := leAt payload 0 1 % 16
    let rec? := s.fob? fob
    let c := s.classifyAnswer x rec? payload 0x14 0 true
    match c, rec? with
    | .valid, some r => ((s.acceptAnswer r payload).updSession (fun x => { x with bcFob := some r.id })).advance
    | _, _ => (s.rejectAnswer x c fob 0 0 (slice payload 1 5)).bcAgain b
  | _, _, _ => s

/-- BC_SESSION_END: 100 ms after step 1, or as the halves extended it, the field goes off and the session ends DONE; without a valid
reply the decision is AUTH_FAIL (R231, R312). -/
def execBcSessionEnd (s : State) : Host.Outcome State Fault Refusal :=
  .next <| match s.bc with
  | none => s
  | some b => if s.deviceTime < b.till then s else (s.bcOff 3).bcDecide

/-! ### UHF receiver (R232-R243) -/

/-- The window that answers frame a, with the page as it stands now: one slot for a re-poll or a pairing (R207, R240, R242). -/
def State.windowFor (s : State) (a : LfAir) : UhfWindow :=
  { opensAt := a.endedAt + s.fld Fd.UHF_SLOT_DELAY_100US * 100000,
    slots := (match a.req.kind with | .repoll _ | .pair => 1 | _ => s.fld Fd.UHF_SLOT_SLOTS + 1),
    repoll := (match a.req.kind with | .repoll f => some f | _ => none),
    hyps := [], passed := [], failed := [], cfg := s.pageCfg pgUhf, past := a.past }

/-- UHF_WINDOW_OPEN: a window opens DELAY after the frame that asks for answers; one whose session is over gives way (R207, R240;
notes/assumptions 113). -/
def execUhfWindowOpen (s : State) : Host.Outcome State Fault Refusal :=
  .next <| match s.lf.ended with
  | none => s
  | some a =>
    let w := s.windowFor a
    if s.windowOn || s.supply.lostRef38 || !s.pageAdmits pgUhf || s.deviceTime < w.opensAt then s
    else State.updSession { s with uhf := some w, lf := { s.lf with ended := none } } (fun x =>
      if a.past.isNone && (a.req.kind == .challenge || a.req.kind == .welcome) then { x with polling := false } else x)

def UhfWindow.slotUs (w : UhfWindow) : Nat := cfgFld w.cfg Fd.UHF_SLOT_SLOT_US

/-- The slot of an instant of the window. -/
def UhfWindow.slotAt (w : UhfWindow) (now : Nat) : Nat := (now - w.opensAt) / (w.slotUs * 1000)

/-- Two 16-bit words differ in n bits. -/
def bitsDiffer (a b : Nat) : Nat := (maskList (a ^^^ b) 16).length

/-- SYNC_MATCH: the last 16 bits are SYNC but for SYNC_ERR bits, which opens a hypothesis; the oldest of four gives way (R236, R237).
The reserved SYNC_ERR 3 allows three: the model's choice (notes/assumptions 109). -/
def execSyncMatch (bits : Nat) (s : State) : Host.Outcome State Fault Refusal :=
  .next <| match s.uhf with
  | none => s
  | some w =>
    let k := w.slotAt s.deviceTime
    if w.slots ≤ k || cfgFld w.cfg Fd.UHF_MOD_SYNC_ERR < bitsDiffer bits (cfgFld w.cfg Fd.UHF_SYNC_SYNC) then s else
    let h := (k, s.deviceTime)
    match w.hyps with
    | o :: t =>
      if 4 ≤ w.hyps.length then
        (((({ s with uhf := some { w with hyps := t ++ [h], failed := o.1 :: w.failed } }).bump Fd.UHF_CNT1_HYP_DROP).bump
          Fd.UHF_CNT0_FAILED)).raise pgUhf 4
      else { s with uhf := some { w with hyps := w.hyps ++ [h] } }
    | [] => { s with uhf := some { w with hyps := [h] } }

/-- HYPOTHESIS_FAILED: hypothesis i read a bad LEN or its CRC failed (R238). -/
def execHypothesisFailed (i : Nat) (raw : Bytes) (s : State) : Host.Outcome State Fault Refusal :=
  .next <| match s.uhf with
  | none => s
  | some w =>
    match w.hyps[i]? with
    | none => s
    | some h =>
      if !telegramFails raw then s
      else ({ s with uhf := some { w with hyps := w.hyps.eraseIdx i, failed := h.1 :: w.failed } }).bump Fd.UHF_CNT0_FAILED

/-- A PAIR_CONFIRM heard while pairing waits for it (R294, R296, R307). -/
def State.pairConfirmOk (s : State) (p : Pairing) (payload : Bytes) : Bool :=
  let kMac := sessionKey p.kFob s.vidBytes p.fob p.nonceV (slice payload 1 5) 1
  payload.length == 16 && leAt payload 0 1 == 0x20 + p.fob && beAt payload 6 4 == p.fobId &&
  answerMac kMac s.vidBytes 0x13 p.nonceV (payload.take 10) == payload.drop 10

/-- A telegram passes its CRC in a welcome poll of Tarn: it waits for the halves, and wakes (18 R639, R641). -/
def State.heardInTarn (s : State) (payload : Bytes) (slot rssi : Nat) : State :=
  if s.power.poll.isNone || s.gatesOpen then s
  else
    let first := s.power.heard.isEmpty
    let s := s.updPower (fun p => { p with heard := p.heard ++ [(payload, slot, rssi)] })
    if first then s.latchWake .welcome else s

/-- The input of a telegram by DIV: UHF_IN0, UHF_IN1, or the stronger of its preamble, which is the smaller code (R235). Equal inputs
give UHF_IN0, and the reserved DIV 3 acts as 2: the model's choices (notes/assumptions 109). -/
def uhfInput (m : CfgWords) (rssi0 rssi1 : Nat) : Nat :=
  match cfgFld m Fd.UHF_MOD_DIV with
  | 0 => 0
  | 1 => 1
  | _ => if rssi1 < rssi0 then 1 else 0

/-- A passed telegram goes to both halves: to a pairing, to the session that asked for it, or, in a poll of Tarn, to wait (R238, R300,
R307). -/
def State.deliver (s : State) (w : UhfWindow) (h : Heard) : State :=
  match s.acc.pairing with
  | some p =>
    let s := s.askOwn (answerCmacBytes h.payload)
    if s.pairConfirmOk p h.payload then s.setAcc (fun a => { a with pairing := some { p with triesLeft := 0, started := true } })
    else s.bump Fd.AC_CNT0_INVALID
  | none =>
    match w.past, s.acc.session with
    | some x, _ => s.answer x true h.payload h.slot h.rssi w.repoll
    | none, some x => s.answer x false h.payload h.slot h.rssi w.repoll
    | none, none => s.heardInTarn h.payload h.slot h.rssi

/-- UHF_TELEGRAM: hypothesis i passes its CRC; the telegram goes to both halves with its RSSI, input, slot and sync end (R235, R238,
R300). -/
def execUhfTelegram (i : Nat) (raw : Bytes) (rssi0 rssi1 : Nat) (s : State) : Host.Outcome State Fault Refusal :=
  .next <| match s.uhf with
  | none => s
  | some w =>
    match w.hyps[i]?, telegramPayload raw with
    | some k, some payload =>
      let inp := uhfInput w.cfg rssi0 rssi1
      let h : Heard := { slot := k.1, payload := payload, syncAt := k.2, input := inp, rssi := if inp = 0 then rssi0 else rssi1 }
      let w := { w with hyps := w.hyps.eraseIdx i, passed := w.passed ++ [h] }
      let s := ({ s with uhf := some w }).bump Fd.UHF_CNT0_PASSED
      ((((s.setFld Fd.UHF_RSSI_INPUT inp).setFld Fd.UHF_RSSI_RSSI_IN0 rssi0).setFld Fd.UHF_RSSI_RSSI_IN1 rssi1).raise pgUhf 1).deliver
        w h
    | _, _ => s

/-- The slots in which the carrier was heard: RSSI above -CS_TH dBm for 0.5 ms in all, of readings (code, us) by slot; code v stands
for -v/2 dBm (R241). -/
def UhfWindow.heard (w : UhfWindow) (l : List (List (Nat × Nat))) : Nat :=
  listMask ((List.range w.slots).filter (fun k =>
    decide (500 ≤ (((l.getD k []).filter (fun c => decide (c.1 < 2 * cfgFld w.cfg Fd.UHF_MOD_CS_TH))).map (·.2)).sum)))

/-- Peak RSSI of a slot: the smallest code, 255 where nothing was read (R243). -/
def peakRssi (l : List (Nat × Nat)) : Nat := (l.map (·.1)).foldl min 255

/-- The outcome code of slot k (R241). -/
def UhfWindow.outcome (w : UhfWindow) (heard k : Nat) : Nat :=
  let h := bit heard k
  if w.passed.any (fun t => t.slot == k) then (if w.failed.contains k && h then 3 else 1) else if h then 2 else 0

/-- Send the next re-poll, in ascending key number, or go on with the session (R242, R303). -/
def State.nextRepoll (s : State) : State :=
  match s.acc.session with
  | none => s
  | some x =>
    match x.repolls.find? (fun p => !p.done) with
    | some p =>
      (s.updSession (fun x => { x with repolls := x.repolls.map (fun r => if r.fob = p.fob then { r with count := r.count + 1 } else r) })).requestLf
        { kind := .repoll p.fob, data := [0x12] ++ s.vidBytes ++ leBytes 1 p.fob, bursts := 0 }
    | none => s.advance

/-- Frames sent so far to key fob in this session. -/
def Session.polls (x : Session) (fob : Nat) : Nat :=
  ((x.polled.filter (fun c => c.1 == fob)).map (·.2)).sum + ((x.repolls.filter (fun r => r.fob == fob)).map (·.count)).sum

def UhfWindow.repollMax (w : UhfWindow) : Nat := cfgFld w.cfg Fd.UHF_SLOT_REPOLL

/-- The keys listed for re-polls after a window (R242), ascending. -/
def State.listRepolls (s : State) (x : Session) (w : UhfWindow) (heard : Nat) (l : List (List (Nat × Nat))) : List Repoll :=
  ((List.range 16).filterMap s.fob?).filterMap (fun r =>
    if r.slot < w.slots && 2 ≤ w.outcome heard r.slot && !x.answers.any (fun a => a.1 == r.id) &&
       x.polls r.id < w.repollMax then
      some { slot := r.slot, fob := r.id, count := 0, answered := false, done := false,
             hyps := (w.failed.filter (· == r.slot)).length, rssi := peakRssi (l.getD r.slot []) }
    else none)

/-- The re-poll of key f is over, unless its slot was disturbed and it may be polled again (R242). -/
def State.closeRepoll (s : State) (x : Session) (w : UhfWindow) (f outcome : Nat) : State :=
  match x.repolls.find? (fun p => p.fob == f) with
  | none => s
  | some p =>
    if !p.answered && 2 ≤ outcome && x.polls f < w.repollMax then s.nextRepoll else
    let s := s.updSession (fun x => { x with repolls := x.repolls.map (fun r => if r.fob = f then { r with done := true } else r) })
    match s.acc.session with
    | none => s
    | some y =>
      let s := if (y.repolls.filter (fun r => r.slot == p.slot)).all (·.done) then s.postCollision y p.slot else s
      s.nextRepoll

/-- The outcomes of a window show and are counted (R241). -/
def State.showOutcomes (s : State) (oc : List Nat) : State :=
  let corrupt := (oc.filter (· == 2)).length
  let s := (s.setFld Fd.UHF_SLOTRES_OUTCOME (oc.foldr (fun v a => v + 4 * a) 0)).bump Fd.UHF_CNT1_CORRUPT corrupt
  if corrupt = 0 then s else s.raise pgUhf 2

/-- UHF_WINDOW_END: one outcome per slot to the halves, then re-polls, a repetition or the decision (R241-R243, R303), unless the
session is over. `l` holds the readings of RSSI in each slot, as (code, us). The ledger books the window. -/
def execUhfWindowEnd (l : List (List (Nat × Nat))) (s : State) : Host.Outcome State Fault Refusal :=
  .next <| match s.uhf with
  | none => s
  | some w =>
    if !w.hyps.isEmpty || s.deviceTime < w.opensAt + w.slots * w.slotUs * 1000 then s else
    let heard := w.heard l
    let oc := (List.range w.slots).map (w.outcome heard)
    let s := (State.showOutcomes { s with uhf := none } oc).book (.uhf ((s.deviceTime + 300000 - w.opensAt) / 1000))
    match w.past, s.acc.session with
    | some _, _ => s
    | none, none => s.pollOver
    | none, some x =>
      match w.repoll with
      | some f => s.closeRepoll x w f (oc.getD 0 0)
      | none =>
        (s.updSession (fun x => { x with
          polled := x.polled ++ x.repolls.map (fun r => (r.fob, r.count)),
          repolls := s.listRepolls x w heard l })).nextRepoll

end Sys2Proof.Machine
end

