-- ==== Sys2Proof/Machine/AccessCmds.lean ====
section
/-! DEFINITION. Commands of the access chapter and the immobiliser's tokens (08_access_protocol_and_release.md R304-R309,
R316-R322). -/

namespace Sys2Proof.Machine

/-! ### The policy (R304, R305) -/

/-- A target entry's fields are in range and its reserved bits 0; every entry is held to this, enabled or not. -/
def entryFmt (e : Bytes) : Bool :=
  decide (10 ≤ tgtBound e ∧ tgtBound e ≤ 60000) && leAt e 4 2 < 4096 && 1 ≤ tgtPulse e && leAt e 7 1 < 8

/-- The record's own format (R304). -/
def policyFmt (b : Bytes) : Bool :=
  leAt b 2 1 < 4 && polRetries b ≤ 3 && 1 ≤ polRecentS b && 100 ≤ polSessionMs b && polSessionMs b ≤ 2000 &&
  entryFmt (polTarget b 16) && (List.range 8).all (fun t => entryFmt (polTarget b t) && tgtTrigger (polTarget b t) < 64)

/-- No handle channel triggers two enabled targets (R305). -/
def policyTriggers (b : Bytes) : Bool :=
  (List.range 6).all (fun ch =>
    decide (((List.range 8).filter (fun t => tgtEnabled (polTarget b t) && bit (tgtTrigger (polTarget b t)) ch)).length ≤ 1))

/-- Every GPIO a door target names is a release output (R305; 21 R726). -/
def State.policyGpios (s : State) (b : Bytes) : Bool :=
  (List.range 8).all (fun t => (maskList (tgtGpio (polTarget b t)) 12).all (fun k => s.fld (Fd.GPIO_CFG_MODE k) == 2))

def policySetWork (s : State) (c : Inflight) : Work :=
  if !s.policyGpios c.input then .finish s (.fail .badParam)
  else .commit (s.setAcc (fun a => { a with policy := some c.input })) .done

def accessPolicyInfo : OpInfo :=
  { code := 0x0803, issuer := .access, durable := true, fixedIn := some 80,
    params := fun c => policyFmt c.input && policyTriggers c.input }

/-- ACCESS_POLICY_SET (R304, R305). -/
def execAccessPolicySet (k : CmdKey) (s : State) : Host.Outcome State Fault Refusal :=
  .next (s.runCmd accessPolicyInfo true policySetWork k)

/-! ### Pairing (R306-R309) -/

/-- A PAIR frame on every broadcast channel, and a try is used (R224, R292, R307). -/
def State.sendPair (s : State) (p : Pairing) : State :=
  let nonce := s.drawn 8
  let s := (s.draw 8).setAcc (fun a => { a with pairing := some { p with nonceV := nonce, triesLeft := p.triesLeft - 1 } })
  s.requestLf {
    kind := .pair, bursts := 0,
    data := [0x13] ++ s.vidBytes ++ beBytes 4 p.fobId ++ leBytes 1 (p.fob + 16 * p.slot) ++ nonce }

/-- The front end is done with the last PAIR frame and its window. -/
def State.pairIdle (s : State) : Bool :=
  s.lf.air.isNone && s.uhf.isNone && s.lf.ended.isNone && s.lf.waiting.all (fun r => r.kind != LfKind.pair)

/-- The front end is released, and what waited is served (R289, R307). -/
def State.endPairing (s : State) : State := (s.setAcc (fun a => { a with pairing := none })).serveQueue 10

/-- Step 1 of R307: the record is checked and K_FOB unwrapped; step 2 waits for a running session. -/
def pairStart (s : State) (c : Inflight) : Work :=
  let b := c.input
  let fob := c.p8 0
  if (s.fob? fob).isSome || s.fld Fd.UHF_SLOT_SLOTS < leAt b 4 1 then .finish s (.fail .badParam)
  else match s.useSlot c.key.part (leAt b 8 4) (fun k => isAes k.ktype && bit k.attr atUnwrap) with
    | .bad r => s.refuse r
    | .ok w =>
      if s.acc.session.isSome then .more s
      else (s.takeUse (leAt b 8 4) false).andThen (fun s =>
        let wrapped := slice b 16 24
        if !Config.primOk .kwCheck [w.aesKey, wrapped] then
          .finish (s.bump Fd.HM_CNT_AUTHFAIL_COUNT) (.fail .authFail)
        else .more (s.sendPair {
          key := c.key, fob := fob, fobId := leAt b 0 4, slot := leAt b 4 1, rights := leAt b 6 2,
          kFob := Config.prim .kwUnwrap [w.aesKey, wrapped] 16, nonceV := [], triesLeft := 3, started := false }))

/-- Steps 3 to 5: a valid PAIR_CONFIRM commits the record with a new generation; after three frames without one the
command ends with AUTH_FAIL. -/
def pairWork (s : State) (c : Inflight) : Work :=
  match s.acc.pairing with
  | none => pairStart s c
  | some p =>
    if p.key ≠ c.key then .more s
    else if p.started then
      let r : FobRec := { id := p.fob, fobId := p.fobId, slot := p.slot, rights := p.rights, key := p.kFob, gen := s.acc.fobGen + 1 }
      .commit (s.setAcc (fun a => { a with fobs := a.fobs ++ [r], fobGen := a.fobGen + 1 })).endPairing .done
    else if !s.pairIdle then .more s
    else if p.triesLeft = 0 then .finish s.endPairing (.fail .authFail)
    else .more (s.sendPair p)

def fobPairInfo : OpInfo :=
  { code := 0x0801, issuer := .access, used := [(0, 1)], durable := true, fixedIn := some 40, draws := fun _ => true,
    params := fun c => decide (c.p8 0 < 16) && decide (leAt c.input 4 1 < 16) && leAt c.input 5 1 == 0 &&
      decide (leAt c.input 6 2 < 1024) && leAt c.input 12 4 == 0 && slotFmt (leAt c.input 8 4) }

/-- FOB_PAIR: each of these commands takes it as far as the front end allows (R307). -/
def execFobPair (k : CmdKey) (s : State) : Host.Outcome State Fault Refusal :=
  .next (s.runCmd fobPairInfo true pairWork k)

def fobRemoveWork (s : State) (c : Inflight) : Work :=
  let fob := c.p8 0
  if (s.fob? fob).isNone then .finish s (.fail .badParam)
  else .commit (s.setAcc (fun a => { a with
    fobs := a.fobs.filter (fun r => !(r.id == fob)), nonceLog := a.nonceLog.filter (fun l => !(l.fob == fob)) })) .done

def fobRemoveInfo : OpInfo :=
  { code := 0x0802, issuer := .access, used := [(0, 1)], durable := true, params := fun c => decide (c.p8 0 < 16) }

/-- FOB_REMOVE (R309). -/
def execFobRemove (k : CmdKey) (s : State) : Host.Outcome State Fault Refusal :=
  .next (s.runCmd fobRemoveInfo true fobRemoveWork k)

/-! ### RELEASE_REQUEST (R316) -/

/-- End the token stream; STREAM_END occurs where one ran (R320). -/
def State.endStream (s : State) : State :=
  if !s.immo.streaming then s
  else (({ s with immo := { s.immo with streaming := false, remain := 0 } }.setFld Fd.IM_STAT_STREAMING 0).setFld
    Fd.IM_STAT_REMAIN 0).raise pgIm 2

/-- START with action 1: a running stream ends, and one IMMO_REVOKE token is sent (R316, R320). -/
def State.revokeStream (s : State) : State :=
  if s.immo.streaming then s.endStream.queueToken { kind := 3, target := 16, fob := 0xFF, backup := false, seq := 0 } else s

def releaseWork (s : State) (c : Inflight) : Work :=
  let v := c.p16 0
  let t := v % 8
  let e := polTarget s.policy t
  if bit v 4 then
    if bit v 8 then .finish s.revokeStream .done else .finish s (.fail .notPermitted)
  else if !tgtEnabled e || !tgtHostRelease e then .finish s (.fail .notPermitted)
  else if bit v 8 then .finish (s.queueToken { kind := 4, target := t, fob := 0xFF, backup := false, seq := 0 }) .done
  else if s.level = 4 then .finish s (.fail .outOfBudget)
  else
    let s := s.postDecision {
      target := t, fob := 0xFF, status := .ok, reason := 7, zone := 0xFF, bound := 0xFFFF, score := 0, rng := 0xFF,
      source := .command }
    .finish (s.releaseOutputs t 0xFF false) .done

def releaseInfo : OpInfo :=
  { code := 0x0804, issuer := .access, used := [(0, 2)], params := fun c => maskDiff (c.p16 0) 0x117 == 0 }

/-- RELEASE_REQUEST (R316). -/
def execReleaseRequest (k : CmdKey) (s : State) : Host.Outcome State Fault Refusal :=
  .next (s.runCmd releaseInfo true releaseWork k)

/-! ### The token configuration (R317, R319) -/

/-- An identifier word: reserved bits 0, and 11 bits where the format is not extended (R317; 21 R719). -/
def canIdOk (v : Nat) : Bool := bitsOf v 30 29 == 0 && (bit v 31 || decide (v < 2048))

/-- Ranges of the record (R317). -/
def immoFmt (b : Bytes) : Bool :=
  slotFmt (leAt b 0 4) && !slotVolatile (leAt b 0 4) && decide (leAt b 4 1 < 2) && leAt b 5 1 == 0 &&
  decide (10 ≤ leAt b 6 2 ∧ leAt b 6 2 ≤ 1000) && canIdOk (leAt b 8 4) && decide (1 ≤ leAt b 12 2) &&
  (leAt b 16 4 == 0xFFFFFFFF || slotFmt (leAt b 16 4)) && canIdOk (leAt b 20 4) && allZero (slice b 24 8)

/-- An AES-128 key with ACCESS, of CCM's use for tokens (R317; 13 R483). -/
def fitsToken (k : KeySlot) : Bool := k.ktype == 1 && bit k.attr atAccess

def immoWork (s : State) (c : Inflight) : Work :=
  let b := c.input
  let commit := fun (s : State) =>
    let v1 := match s.part? c.key.part with | some q => q.compat | none => false
    Work.commit ({ s with immo := { s.immo with config := some b, v1 := v1 } }.setFld Fd.IM_STAT_EXHAUSTED 0) .done
  match s.useSlot c.key.part (leAt b 0 4) fitsToken with
  | .bad r => s.refuse r
  | .ok _ =>
    if leAt b 16 4 = 0xFFFFFFFF then commit s
    else match s.useSlot c.key.part (leAt b 16 4) fitsToken with
      | .bad r => s.refuse r
      | .ok _ => commit s

def immoInfo : OpInfo :=
  { code := 0x0805, issuer := .access, durable := true, fixedIn := some 32, params := fun c => immoFmt c.input }

/-- IMMO_CONFIG: the token format follows the COMPAT bit of the issuer at the commit (R317, R319). -/
def execImmoConfig (k : CmdKey) (s : State) : Host.Outcome State Fault Refusal :=
  .next (s.runCmd immoInfo true immoWork k)

/-! ### Tokens (R318-R322) -/

/-- A v2 token (R318). -/
def tokenV2 (cfg vid key : Bytes) (t : Token) (counter : Nat) : Bytes :=
  let hdr := leBytes 1 (0x20 + t.kind) ++ leBytes 1 t.target ++ leBytes 6 counter
  let nonce := vid ++ hdr ++ [0, 0, 0]
  let pt := leBytes 1 t.fob ++ leBytes 1 (b2n t.backup) ++ slice cfg 14 2 ++ leBytes 4 t.seq
  let ct := aeadText 2 key nonce pt
  hdr ++ ct ++ aeadTag 2 8 key nonce hdr pt ct

/-- A v1 token of the immobiliser (R319). -/
def tokenV1 (vid key : Bytes) (t : Token) (counter : Nat) : Bytes :=
  let hdr := leBytes 1 (0xA0 + t.kind) ++ beBytes 3 counter
  hdr ++ (Config.prim .cmac [key, vid ++ hdr] 16).take 4

/-- A door token (R318). -/
def Token.door (t : Token) : Bool := t.kind == 2 || t.kind == 4

/-- The token to send now: door and revoke tokens as they were asked for, else the stream's once it is due (R320). -/
def State.dueToken (s : State) : Option Token :=
  match s.immo.queue with
  | t :: _ => some t
  | [] =>
    if s.immo.streaming && decide (s.immo.nextAt ≤ s.deviceTime) then
      some { kind := 1, target := 16, fob := s.immo.fob, backup := s.immo.backup, seq := s.immo.seq }
    else none

/-- A token is dealt with: it leaves the queue, or the stream moves on by one (R320). -/
def State.tokenDone (s : State) (cfg : Bytes) : State :=
  match s.immo.queue with
  | _ :: rest => { s with immo := { s.immo with queue := rest } }
  | [] =>
    let s := { s with immo := { s.immo with
      remain := s.immo.remain - 1, seq := s.immo.seq + 1, nextAt := s.immo.nextAt + leAt cfg 6 2 * 1000000 } }
    let s := s.setFld Fd.IM_STAT_REMAIN s.immo.remain
    if s.immo.remain = 0 then s.endStream else s

/-- A key at its limit, or gone, sends no token: the stream ends (R322). -/
def State.tokenExhausted (s : State) (cfg : Bytes) (t : Token) : State :=
  let s := s.tokenDone cfg
  if t.door then s else (s.endStream.setFld Fd.IM_STAT_EXHAUSTED 1).raise pgIm 4

/-- Compose and queue a token with the next counter value (R318-R321). -/
def State.sendToken (s : State) (cfg : Bytes) (t : Token) (key : Bytes) : State :=
  let v1 := s.immo.v1 && !t.door
  let vid := leBytes 2 (polVid s.policy)
  let f : CanFrame := {
    ident := leAt cfg (if t.door then 20 else 8) 4, fd := !v1,
    data := if v1 then tokenV1 vid key t s.immo.counter else tokenV2 cfg vid key t s.immo.counter }
  let n := leAt cfg 4 1
  let s := State.tokenDone { s with immo := { s.immo with counter := (s.immo.counter + 1) % 2 ^ 48 } } cfg
  (s.canSend n f).canSettle n

/-- A token that is due: J is committed before the value it stands at (R321), a use is taken (R322), the frame goes to the
controller of the configuration (R320). -/
def State.composeToken (s : State) (cfg : Bytes) (t : Token) : State :=
  let n := leAt cfg (if t.door then 16 else 0) 4
  match s.slot? n with
  | none => s.tokenExhausted cfg t
  | some k =>
    if !fitsToken k || !s.bindOk n k then s.tokenExhausted cfg t
    else if s.immo.markJ ≤ s.immo.counter && !s.canCommit then
      if s.txns.contains (.own .tokenMark) then s else { s with txns := s.txns ++ [.own .tokenMark] }
    else
      let s := if s.immo.markJ ≤ s.immo.counter then { s with immo := { s.immo with markJ := s.immo.markJ + 1024 } } else s
      match s.takeUse n false with
      | .ok s => s.sendToken cfg t k.aesKey
      | .exhausted s => s.tokenExhausted cfg t
      | .wait s => s

/-- TOKEN_SEND: the next token is composed and sent (R320-R322). -/
def execTokenSend (s : State) : Host.Outcome State Fault Refusal :=
  .next <| if !s.gatesOpen then s else
  match s.dueToken with
  | none => s
  | some t =>
    match s.immo.config with
    | none => s.tokenDone []
    | some cfg => s.composeToken cfg t

end Sys2Proof.Machine
end

