-- ==== Sys2Proof/Machine/Card.lean ====
section
/-! DEFINITION. The card port and the CAN controllers (21_card_port_and_can.md R705-R723). -/

namespace Sys2Proof.Machine

/-! ### The answer to reset (R706-R708; ISO/IEC 7816-3, notes/assumptions 5) -/

/-- Interface characters of an ATR: level, the protocol the level belongs to, TA, TB, TC. -/
structure AtrLevel where
  level : Nat
  proto : Option Nat
  ta : Option Nat
  tb : Option Nat
  tc : Option Nat
  deriving DecidableEq, Repr

/-- What an ATR says: its levels, whether TCK is present, and the characters after the interface characters. -/
structure AtrInfo where
  levels : List AtrLevel
  tck : Bool
  rest : Bytes
  deriving DecidableEq, Repr

/-- The next character where `want` says it is present; none in the outer option where the ATR is too short. -/
def nextChar (want : Bool) (b : Bytes) : Option (Option Nat × Bytes) :=
  if !want then some (none, b)
  else match b with
    | c :: t => some (some c.toNat, t)
    | [] => none

/-- Read the interface characters of level i, announced by y, of protocol `proto`. -/
def atrLevels : Nat → Nat → Nat → Option Nat → Bytes → Option AtrInfo
  | 0, _, _, _, _ => none
  | fuel + 1, i, y, proto, b => do
    let (ta, b) ← nextChar (bit y 0) b
    let (tb, b) ← nextChar (bit y 1) b
    let (tc, b) ← nextChar (bit y 2) b
    let (td, b) ← nextChar (bit y 3) b
    let l : AtrLevel := { level := i, proto := proto, ta := ta, tb := tb, tc := tc }
    match td with
    | none => some { levels := [l], tck := false, rest := b }
    | some d =>
      let x ← atrLevels fuel (i + 1) (d / 16) (some (d % 16)) b
      some { levels := l :: x.levels, tck := x.tck || d % 16 != 0, rest := x.rest }

/-- Parse the characters after TS; the historical characters and TCK must be there, and TCK must be right (R707). -/
def parseAtr (b : Bytes) : Option AtrInfo :=
  match b with
  | ts :: t0 :: t =>
    if ts ≠ 0x3B ∧ ts ≠ 0x3F then none else
    match atrLevels 16 1 (t0.toNat / 16) none t with
    | none => none
    | some x =>
      if x.rest.length ≠ t0.toNat % 16 + b2n x.tck then none
      else if x.tck && (t0 :: t).foldl (· ^^^ ·) 0 ≠ 0 then none
      else some x
  | _ => none

/-- TA of level i. -/
def AtrInfo.taOf (x : AtrInfo) (i : Nat) : Option Nat := (x.levels.find? (fun l => l.level == i)).bind (·.ta)

/-- The first protocol offered that the port supports; T=0 where none is named (R705). -/
def AtrInfo.protocol (x : AtrInfo) : Option Nat :=
  match x.levels.filterMap (·.proto) with
  | [] => some 0
  | l => l.find? (· < 2)

/-- The first TA for T=15 allows clock stop (R710). -/
def AtrInfo.clockStop (x : AtrInfo) : Bool :=
  match (x.levels.filter (fun l => l.proto == some 15)).findSome? (·.ta) with
  | some v => decide (64 ≤ v)
  | none => false

/-- Fi and its fmax in kHz by code. -/
def atrFi (c : Nat) : Option (Nat × Nat) :=
  match c with
  | 0 => some (372, 4000) | 1 => some (372, 5000) | 2 => some (558, 6000) | 3 => some (744, 8000) | 4 => some (1116, 12000)
  | 5 => some (1488, 16000) | 6 => some (1860, 20000) | 9 => some (512, 5000) | 10 => some (768, 7500)
  | 11 => some (1024, 10000) | 12 => some (1536, 15000) | 13 => some (2048, 20000) | _ => none

/-- Di by code. -/
def atrDi (c : Nat) : Option Nat :=
  match c with
  | 1 => some 1 | 2 => some 2 | 3 => some 4 | 4 => some 8 | 5 => some 16 | 6 => some 32 | 7 => some 64 | 8 => some 12
  | 9 => some 20 | _ => none

/-- ETU and clock setting that a TA1 offers, with an ETU of at least 16 clock periods (R708). -/
def offered (ta1 : Nat) : Option (Nat × Nat) :=
  match atrFi (ta1 / 16), atrDi (ta1 % 16) with
  | some (f, mx), some d => if 16 * d ≤ f then some (f / d, if 19200 ≤ mx then 2 else if 9600 ≤ mx then 1 else 0) else none
  | _, _ => none

/-- PPS request proposing protocol t and TA1 (R708). -/
def ppsRequest (t ta1 : Nat) : Bytes :=
  let b := [0xFF, BitVec.ofNat 8 (0x10 + t), BitVec.ofNat 8 ta1]
  b ++ [b.foldl (· ^^^ ·) 0]

/-! ### Activation (R706-R711) -/

/-- A card that fails is tried once more at class B, then FAILED (R706). -/
def State.cardFail (s : State) : State := if s.card.classB then s.cardOff 4 else s.cardActivate true false

/-- The ATR and any PPS are done with protocol, ETU and clock: conditions exchange, or READY (R711). -/
def State.cardUp (s : State) (x : AtrInfo) (proto etu clk : Nat) : State :=
  let s := s.updCard (fun c => { c with
    stopOk := x.clockStop, atrAt := s.deviceTime, pollAt := s.deviceTime, lastChar := s.deviceTime })
  let s := ((s.setFld Fd.CD_STAT_PROTO proto).setFld Fd.CD_STAT_ETU etu).setFld Fd.CD_STAT_CLK clk
  if s.fld Fd.CD_CFG_COND_EN = 1 then s.setFld Fd.CD_STAT_STATE 2 else (s.setFld Fd.CD_STAT_STATE 3).raise pgCard 2

/-- Specific mode: the protocol and parameters are the card's, and unsupported ones fail it (R708). -/
def State.cardSpecific (s : State) (x : AtrInfo) (ta2 : Nat) : State :=
  match offered ((x.taOf 1).getD 0x11) with
  | some (etu, clk) => if 1 < ta2 % 16 || bit ta2 4 then s.cardFail else s.cardUp x (ta2 % 16) etu clk
  | none => s.cardFail

/-- Negotiable mode: a PPS where TA1 offers enough, else Fd and Dd (R708). -/
def State.cardNegotiate (s : State) (x : AtrInfo) (pps : Option Bytes) : State :=
  match x.protocol with
  | none => s.cardFail
  | some t =>
    match (x.taOf 1).bind (fun v => (offered v).map (fun o => (v, o))) with
    | some (v, etu, clk) =>
      if s.card.noPps then s.cardUp x t 372 0
      else if pps = some (ppsRequest t v) then s.cardUp x t etu clk
      else s.cardActivate s.card.classB true
    | none => s.cardUp x t 372 0

/-- CARD_ATR: the measured ETU, TS, gaps and TCK are checked, then PPS (R706-R708). -/
def execCardAtr (a : Atr) (s : State) : Host.Outcome State Fault Refusal :=
  .next <| if s.fld Fd.CD_STAT_STATE ≠ 1 then s
  else if a.edge < 894 || 1338 < a.edge || a.longGap then s.cardFail
  else match parseAtr a.chars with
    | none => s.cardFail
    | some x => match x.taOf 2 with
      | some ta2 => s.cardSpecific x ta2
      | none => s.cardNegotiate x a.pps

/-- CARD_ATR_TIMEOUT (R706). -/
def execCardAtrTimeout (s : State) : Host.Outcome State Fault Refusal :=
  .next <| if s.fld Fd.CD_STAT_STATE = 1 then s.cardFail else s

/-- CARD_INSERT: CARD_DET reports a card, and it is activated where it may be (R706, R727). -/
def execCardInsert (s : State) : Host.Outcome State Fault Refusal :=
  .next <| if s.fld Fd.CD_STAT_PRESENT = 1 then s else ((s.setFld Fd.CD_STAT_PRESENT 1).raise pgCard 1).cardSettle

/-- The conditions APDU (R711). -/
def condApdu : Bytes := [0x80, 0xC4, 0x00, 0x00, 0x08]

/-- COND_MS have passed since the ATR (R711). -/
def State.condOver (s : State) : Bool := decide (s.card.atrAt + s.fld Fd.CD_CFG_COND_MS * 1000000 ≤ s.deviceTime)

/-- CARD_COND_POLL: the conditions APDU and its answer: READY, BUSY for a while, or FAILED (R711). -/
def execCardCondPoll (resp : Bytes) (s : State) : Host.Outcome State Fault Refusal :=
  .next <| if s.fld Fd.CD_STAT_STATE ≠ 2 then s
  else if s.condOver then s.cardOff 4
  else if s.deviceTime < s.card.pollAt then s
  else
    let s := (s.emit (.cardApdu condApdu)).updCard (fun c => { c with lastChar := s.deviceTime })
    let st := leAt resp 1 1
    if resp.length ≠ 10 || resp.drop 8 ≠ [0x90, 0x00] || leAt resp 0 1 ≠ 1 || 1 < st then s.cardOff 4
    else if st = 0 then s.updCard (fun c => { c with pollAt := s.deviceTime + max 10 (10 * leAt resp 6 1) * 1000000 })
    else ((s.updCard (fun c => { c with cardId := beAt resp 2 4 })).setFld Fd.CD_STAT_STATE 3).raise pgCard 2

/-- CLOCK_STOP: 1,860 clock periods after the last character, where the card allows it (R710). -/
def execClockStop (s : State) : Host.Outcome State Fault Refusal :=
  .next <| if s.card.stopOk && s.fld Fd.CD_STAT_STATE = 3 && s.card.busy.isNone &&
      decide (s.card.lastChar + 387500 / 2 ^ s.fld Fd.CD_STAT_CLK ≤ s.deviceTime) then s.setFld Fd.CD_STAT_STATE 5
    else s

/-! ### CARD_TRANSACT (R712-R717) -/

def Inflight.cardBegin (c : Inflight) : Bool := bit (c.p32 0) 0
def Inflight.cardEnd (c : Inflight) : Bool := bit (c.p32 0) 1
def Inflight.cardStore (c : Inflight) : Bool := bit (c.p32 0) 2

/-- The command with the PARAM of a STORE command, for the checks of R565. -/
def Inflight.asStore (c : Inflight) : Inflight :=
  { c with param := leBytes 1 (c.p8 4) ++ [0, 0, 0] ++ slice c.param 8 4 ++ List.replicate 8 0 ++ slice c.param 16 16 }

/-- The partition holds the open transaction. -/
def State.cardOwner (s : State) (p : Nat) : Bool := (s.card.txn.map (·.part)) == some p

/-- Step 4 of R713; for a STORE, the REGION bits and OFFSET within the region (R565). -/
def State.cardFmt (s : State) (c : Inflight) : Bool :=
  decide (c.p32 0 < 8) && decide (4 ≤ c.inLen ∧ c.inLen ≤ 261) && decide (258 ≤ c.outLen) &&
  (!(c.cardStore || c.cardEnd) || c.cardBegin || s.cardOwner c.key.part) &&
  (!c.cardStore || (s.storeFmt c.asStore 0 && !c.asStore.ctl))

def State.cardInfo (s : State) : OpInfo :=
  { code := 0x0904, issuer := .secure, used := [(0, 4), (4, 1), (8, 4), (16, 16)], durable := true, minOut := 258, maxIn := 261,
    params := s.cardFmt }

/-- The exchange of command k is over; a gating that waited for it takes effect (04 R159). -/
def State.cardFree (s : State) (k : CmdKey) : State :=
  let s := s.updCard (fun c => { c with
    busy := if c.busy = some k then none else c.busy, resp := none,
    waiting := c.waiting.filter (fun (w : CmdKey × Nat) => !(w.1 == k)) })
  if bit s.gated 4 then s.cardSettle else s

/-- The before-images of pages, newest first (R714). -/
def State.beforeImages (s : State) (ps : List Nat) : List (Nat × Bytes) := (ps.map (fun p => (p, s.eeBytes (128 * p) 128))).reverse

/-- The changes of the transaction stand, and its before-images are freed, at END (R715). -/
def State.cardClose (s : State) (c : Inflight) : State :=
  if c.cardEnd then s.updCard (fun d => { d with txn := none }) else s

/-- The response has come: a STORE writes its data with the pages' before-images, END closes the transaction, and
the response is the output (R712, R714, R715). -/
def cardFinish (s : State) (c : Inflight) (resp : Bytes) : Work :=
  let t := s.cardFree c.key
  let data := resp.take (resp.length - 2)
  let ok : Reply := { status := .ok, out := resp }
  match t.card.txn with
  | none => .finish t ok
  | some x =>
    if x.part ≠ c.key.part then .finish t ok
    else if c.cardStore && resp.drop (resp.length - 2) = [0x90, 0x00] && !data.isEmpty then
      let st := c.asStore
      let a := (s.region st.regionNo).addr (st.p32 4)
      let ps := pagesOf a data.length
      if !s.storeFmt st data.length then .finish t (.fail .badParam)
      else if 64 < (s.cardPages ++ ps).eraseDups.length then .finish t { status := .badParam, detail := 0x1004 }
      else if s.readHolds ps then .more s
      else
        let images := s.beforeImages ps ++ x.images
        .commit (((t.updCard (fun d => { d with txn := some { x with images := images } })).storeBytes a data).cardClose c) ok
    else if c.cardEnd then .commit (t.cardClose c) ok
    else .finish t ok

/-- The APDU goes to the card, whose clock runs again; BEGIN opens the transaction (R710, R714). -/
def State.cardSend (s : State) (c : Inflight) : State :=
  let s := (s.cardFree c.key).updCard (fun d => { d with
    busy := some c.key,
    txn := if c.cardBegin then some { part := c.key.part, images := [], lastAt := s.deviceTime }
      else d.txn.map (fun x => if x.part = c.key.part then { x with lastAt := s.deviceTime } else x) })
  (s.setFld Fd.CD_STAT_STATE 3).emit (.cardApdu c.input)

/-- A card that is not READY: the command waits up to COND_MS (R713). -/
def State.cardWait (s : State) (c : Inflight) : Work :=
  match s.card.waiting.find? (fun (w : CmdKey × Nat) => w.1 == c.key) with
  | some w =>
    if w.2 + s.fld Fd.CD_CFG_COND_MS * 1000000 ≤ s.deviceTime then .finish (s.cardFree c.key) (.fail .busyRetry) else .more s
  | none => .more (s.updCard (fun d => { d with waiting := d.waiting ++ [(c.key, s.deviceTime)] }))

/-- The card takes an APDU now. -/
def State.cardReady (s : State) : Bool :=
  (s.fld Fd.CD_STAT_STATE == 3 || s.fld Fd.CD_STAT_STATE == 5) && !s.card.gated

/-- Once the objects are checked: another exchange, a page that takes no work, or a card not READY, is waited for (04 R124). -/
def State.cardGo (s : State) (c : Inflight) : Work :=
  if s.card.busy.isSome || !s.pageAdmits pgCard then .more s
  else if !s.cardReady then s.cardWait c
  else .more (s.cardSend c)

def cardWork (s : State) (c : Inflight) : Work :=
  if s.card.busy = some c.key then
    match s.card.resp with
    | some r => cardFinish s c r
    | none => .more s
  else if s.fld Fd.CD_STAT_PRESENT = 0 || s.fld Fd.CD_STAT_STATE = 4 then
    .finish (s.cardFree c.key) { status := .badParam, detail := 0x1001 }
  else if c.cardBegin && s.cardOwner c.key.part then .finish (s.cardFree c.key) (.fail .badParam)
  else if c.cardBegin && s.card.txn.isSome then .finish (s.cardFree c.key) (.fail .busyRetry)
  else if c.cardStore then
    match s.storeCheck c.asStore (·.wrPw) with
    | .refused t r => .finish (t.cardFree c.key) r
    | .ok t => t.cardGo c
  else s.cardGo c

/-- CARD_TRANSACT (R712-R715): this command takes it to the card, or further as the card allows. -/
def execCardTransact (k : CmdKey) (s : State) : Host.Outcome State Fault Refusal :=
  .next (s.runCmd s.cardInfo true cardWork k)

/-- CARD_RESPONSE: the response to the APDU with the card arrives (R712, R714). -/
def execCardResponse (resp : Bytes) (s : State) : Host.Outcome State Fault Refusal :=
  .next <| match s.card.busy with
  | none => s
  | some k =>
    if s.card.resp.isSome || resp.length < 2 || 258 < resp.length then s else
    let s := s.updCard (fun c => { c with resp := some resp, lastChar := s.deviceTime })
    s.runCmd s.cardInfo true cardWork k

/-- CARD_REMOVE: the card is removed, or lost under R709: it is deactivated, an open transaction is rolled back, and a
command in flight ends ABORTED_REMOVAL (R709, R717, R718). With the halves off the rollback comes at their return. -/
def execCardRemove (lost : Bool) (s : State) : Host.Outcome State Fault Refusal :=
  .next <|
    let st := s.fld Fd.CD_STAT_STATE
    if s.fld Fd.CD_STAT_PRESENT = 0 || (lost && (st = 0 || st = 1 || st = 4)) then s else
    let busy := s.card.busy
    let s := (s.bump Fd.CD_CNT_REMOVALS).updCard (fun c => { c with busy := none, resp := none })
    let s := if lost then s.cardOff 4 else ((s.setFld Fd.CD_STAT_PRESENT 0).cardOff 0).raise pgCard 1
    if s.gatesOpen then s.cardRollback (if lost then 2 else 1) busy else s

/-- CARD_TXN_TIMEOUT: no CARD_TRANSACT of the transaction for TXN_S seconds (R717). -/
def execCardTxnTimeout (s : State) : Host.Outcome State Fault Refusal :=
  .next <| match s.card.txn with
  | none => s
  | some x =>
    if !s.gatesOpen || s.card.busy.isSome || s.deviceTime < x.lastAt + max 1 (s.fld Fd.CD_CFG_TXN_S) * 1000000000 then s
    else s.cardRollback 3 none

/-! ### The CAN controllers (R719-R723) -/

/-- The error counters of controller n, which is error passive from 128 on (R727; ISO 11898-1). -/
def State.canErrors (s : State) (n tec rec' : Nat) : State :=
  ((s.setFld (Fd.CAN_STAT_STATE n) (if 128 ≤ tec ∨ 128 ≤ rec' then 2 else 1)).setFld (Fd.CAN_STAT_TEC n) (satTo 255 tec)).setFld
    (Fd.CAN_STAT_REC n) (satTo 255 rec')

/-- What controller n sends of a frame: with bit-rate switching where CAN_CFGn.BRS asks for it (R719, R727). -/
def State.canOut (s : State) (n : Nat) (f : CanFrame) : Output :=
  .canFrame n f.ident f.fd (f.fd && s.fld (Fd.CAN_CFG_BRS n) == 1) f.data

/-- TOKEN_TRANSMITTED: a token frame completes on the bus, which leaves the error counters so; after the last one the controller stops
as R721 says. -/
def execTokenTransmitted (n tec rec' : Nat) (s : State) : Host.Outcome State Fault Refusal :=
  .next <| match (s.canOf n).waiting with
  | [] => s
  | f :: rest =>
    let st := s.fld (Fd.CAN_STAT_STATE n)
    if st = 0 || st = 3 || s.deviceTime < (s.canOf n).readyAt then s
    else (((s.updCan n (fun c => { c with waiting := rest })).emit (s.canOut n f)).canErrors n tec rec').canSettle n

/-- CAN_BUS_OFF: the controller leaves the bus, and its tokens are withdrawn (R720, R723, R727). -/
def execCanBusOff (n : Nat) (s : State) : Host.Outcome State Fault Refusal :=
  .next <|
    let st := s.fld (Fd.CAN_STAT_STATE n)
    if 1 < n || st = 0 || st = 3 then s
    else (((s.setFld (Fd.CAN_STAT_STATE n) 3).setFld (Fd.CAN_STAT_TEC n) 255).raise pgCan 1).canFlush n

/-- BUS_OFF_RECOVERY: with AUTO_BOR at 1 the controller is error active again (R723). -/
def execBusOffRecovery (n : Nat) (s : State) : Host.Outcome State Fault Refusal :=
  .next <| if n < 2 && s.fld (Fd.CAN_STAT_STATE n) = 3 && s.fld (Fd.CAN_CFG_AUTO_BOR n) = 1 then
      (((s.setFld (Fd.CAN_STAT_STATE n) 1).setFld (Fd.CAN_STAT_TEC n) 0).setFld (Fd.CAN_STAT_REC n) 0).canSettle n
    else s

end Sys2Proof.Machine
end

