-- ==== Sys2Proof/Machine/Flows.lean ====
section
/-! DEFINITION. The flow commands and the Spillway region (09_traffic_protection.md R336-R341, R354, R362-R368, R375). -/

namespace Sys2Proof.Machine

/-! ### The flow descriptor (R340, R341) -/

/-- Bytes of MATCH in use by kind and carriage. -/
def matchUsed (kind carry : Nat) : List (Nat × Nat) :=
  match kind, carry with
  | 3, _ => [(0, 8), (8, 2)]
  | 4, _ => [(0, 6), (6, 2), (8, 2), (16, 8)]
  | _, 2 => [(0, 8), (8, 1), (12, 4)]
  | _, 1 => [(0, 1), (2, 2), (4, 4), (8, 16)]
  | _, _ => [(0, 2), (2, 2), (4, 4)]

def vidOk (v : Nat) : Bool := decide (v < 4096) || v == 0xFFFF

/-- Values of MATCH in range. -/
def matchOk (kind carry : Nat) (m : Bytes) : Bool :=
  (List.range 32).all (fun i => (matchUsed kind carry).any (fun u => decide (u.1 ≤ i ∧ i < u.1 + u.2)) || m.getD i 0 == 0) &&
  (match kind, carry with
   | 3, _ => vidOk (leAt m 8 2)
   | 4, _ => vidOk (leAt m 6 2)
   | _, 2 => decide (leAt m 8 1 < 32) && bitsOf (leAt m 12 4) 30 29 == 0
   | _, 1 => leAt m 0 1 == 6 || (leAt m 0 1 == 4 && allZero (slice m 12 12))
   | _, _ => vidOk (leAt m 2 2))

/-- Reserved fields are 0 and every value is in its range (R341). `modify` admits SET_FV. -/
def descOk (d : Bytes) (cls : Nat) (modify : Bool) : Bool :=
  let kind := leAt d 0 1
  let carry := leAt d 1 1
  let secoc := kind == 1 || kind == 2
  let par := leAt d 12 4
  decide (1 ≤ kind ∧ kind ≤ 4) && (if secoc then decide (carry < 3) else carry == 0) && decide (leAt d 2 1 < 2) &&
  decide (leAt d 3 1 < 8 ∧ leAt d 3 1 % 4 < 3) && (decide (leAt d 4 1 < 8) || leAt d 4 1 == 255) &&
  decide (leAt d 6 1 < (if modify then 2 else 1)) && leAt d 7 1 == 0 &&
  (secoc || leAt d 8 4 == 0xFFFFFFFF) &&
  (if secoc then decide (24 ≤ bitsOf par 15 8 ∧ bitsOf par 15 8 ≤ 128 ∧ bitsOf par 7 0 ≤ 64)
   else par % 64 == 0 && bitsOf par 31 9 == 0) &&
  (kind == 1 || kind == 3 || leAt d 16 4 == 0) &&
  (if kind == 1 && carry == 2 then decide (leAt d 20 1 < 64) else leAt d 20 1 == 0) && allZero (slice d 21 3) &&
  (secoc || leAt d 24 8 == 0) && !(leAt d 2 1 == 1 && cls == 0) && matchOk kind carry (slice d 32 32)

/-- A flow as a descriptor makes it (R340, R342, R356). -/
def Flow.ofDesc (d : Bytes) (p cls : Nat) : Flow :=
  let kind := leAt d 0 1
  let secoc := kind == 1 || kind == 2
  let c : Ctx := {
    kind := kind, cls := cls, part := p, invert := leAt d 2 1 == 1, action := leAt d 3 1 % 4, report := bit (leAt d 3 1) 2,
    enabled := true, carry := leAt d 1 1, egress := if leAt d 4 1 = 255 then 15 else leAt d 4 1, spill := false,
    lost := false, stalled := false, key0 := leAt d 8 4, key1 := if secoc then 0 else 0xFFFFFFFF, param := leAt d 12 4,
    fv0 := leAt d 24 8, fv1 := if kind == 1 then leAt d 16 4 + leAt d 20 1 * 2 ^ 32 else 0,
    aux := if kind == 3 then leAt d 16 4 else 0, okCnt := 0, failCnt := 0, lastFail := 0 }
  { ctx := if secoc then c.setCkpt (ckptBelow c.fv0) else c, key := slice d 32 32, lanes := leAt d 5 1, ckptTo := none,
    lastEvent := none, suppressed := 0, restart := false, spill := none }

/-- Two flows of one kind, carriage and match key on overlapping lanes (R336). -/
def Flow.clashes (a b : Flow) : Bool :=
  let lanes := fun (f : Flow) => if f.lanes = 0 then 255 else f.lanes
  a.ctx.kind == b.ctx.kind && a.ctx.carry == b.ctx.carry && a.key == b.key && lanes a &&& lanes b != 0

/-- The key a SecOC flow names (R341, R485). -/
def State.flowKeyBad (s : State) (f : Flow) : Option Reply :=
  if !f.ctx.isSecoc then none
  else match s.ownSlot f.ctx.part f.ctx.key0 with
  | none => some { status := .badParam, detail := 0x0D02 }
  | some k => if k.ktype = 1 && bit k.attr atTraffic then none else some { status := .badParam, detail := 0x0D01 }

/-- FLOW_CREATE: checks, then placement at the commit point (R337, R338, R375). -/
def flowCreateWork (s : State) (c : Inflight) : Work :=
  let p := c.key.part
  let f := Flow.ofDesc c.input p (c.p8 0)
  match s.flowKeyBad f with
  | some r => .finish s r
  | none =>
    if s.flows.any (fun o => o.2.clashes f) then .finish s { status := .badParam, detail := 0x0101 }
    else match s.part? p, s.placeFlow with
    | some q, some h =>
      if q.cfg.flowQuota ≤ s.flowsOf p then .finish s (.fail .queueFull)
      else if isSpill h then .commit ((s.enterSpill (h - 262144) f).checkCkpt h) { status := .spilled, result := leBytes 4 h }
      else .commit (State.checkCkpt { s with flows := mapPut s.flows h f } h) { status := .ok, result := leBytes 4 h }
    | _, _ => .finish s (.fail .queueFull)

def flowCreateInfo : OpInfo :=
  { code := 0x0601, used := [(0, 1)], durable := true, fixedIn := some 64, clsAt := some 0,
    params := fun c => decide (c.p8 0 < 4) && descOk c.input (c.p8 0) false }

/-- FLOW_CREATE (R338, R340, R341). -/
def execFlowCreate (k : CmdKey) (s : State) : Host.Outcome State Fault Refusal :=
  .next (s.runCmd flowCreateInfo true flowCreateWork k)

/-- Put a changed context of flow h in place: a Spillway flow not cached is sealed again at once (R342, R372). -/
def State.writeFlow (s : State) (h : Nat) (f : Flow) : State :=
  match f.spill with
  | none => { s with flows := mapPut s.flows h f }
  | some i =>
    if i.cached then { s with flows := mapPut s.flows h { f with spill := some { i with changed := true } } }
    else s.enterSpill (h - 262144) f

/-- The flow after FLOW_MODIFY: the descriptor's values over the kept counters, SAs and, without SET_FV, freshness
(R341). A LOST flow starts again from its checkpoint (R358, R373). -/
def Flow.modified (f n : Flow) (setFv : Bool) : Flow :=
  let old := if f.ctx.lost then
      f.ctx.restarted
    else f.ctx
  let keepSa := old.param % 64 + bitsOf old.param 9 9 * 512
  let c : Ctx :=
    if f.ctx.isSecoc then
      { n.ctx with fv0 := if setFv then n.ctx.fv0 else old.fv0, key1 := if setFv then n.ctx.key1 else old.key1,
                   aux := if setFv then n.ctx.aux else old.aux }
    else { n.ctx with fv0 := old.fv0, fv1 := old.fv1, key0 := old.key0, key1 := old.key1, param := n.ctx.param + keepSa }
  { f with
    ctx := { c with cls := f.ctx.cls, spill := f.ctx.spill, stalled := f.ctx.stalled && !setFv, okCnt := f.ctx.okCnt,
                    failCnt := f.ctx.failCnt, lastFail := f.ctx.lastFail },
    lanes := n.lanes, ckptTo := if setFv then none else f.ckptTo }

/-- A message of flow h is under way: it waits with the context it has read, so a change commits after it (R364). -/
def State.midFrame (s : State) (h : Nat) : Bool :=
  s.frames.any (fun f => f.msgs.any (fun m => m.flow == some h && !m.done && m.waitSince.isSome))

/-- FLOW_MODIFY (R336, R341, R356, R364, R373). -/
def flowModifyWork (s : State) (c : Inflight) : Work :=
  let p := c.key.part
  let h := c.p32 0
  let setFv := bit (leAt c.input 6 1) 0
  match s.ownFlow p h with
  | none => .finish s (.fail .badParam)
  | some f =>
    let n := Flow.ofDesc c.input p f.ctx.cls
    if !descOk c.input f.ctx.cls true || n.ctx.kind ≠ f.ctx.kind || n.ctx.carry ≠ f.ctx.carry || n.key ≠ f.key ||
       (setFv && n.ctx.fv0 < f.ctx.fv0) then .finish s (.fail .badParam)
    else match s.flowKeyBad n with
    | some r => .finish s r
    | none =>
      if s.flows.any (fun o => o.1 != h && o.2.clashes n) then .finish s { status := .badParam, detail := 0x0101 }
      else if s.midFrame h then .more s
      else .commit ((s.writeFlow h (f.modified n setFv)).checkCkpt h) .done

def flowModifyInfo : OpInfo :=
  { code := 0x0602, used := [(0, 4)], durable := true, fixedIn := some 64, params := fun c => descOk c.input 3 true }

/-- FLOW_MODIFY (R341-R344). -/
def execFlowModify (k : CmdKey) (s : State) : Host.Outcome State Fault Refusal :=
  .next (s.runCmd flowModifyInfo true flowModifyWork k)

/-- A frame loses the messages of a destroyed flow that are not yet processed: they are unclassified (R365). -/
def Frame.unclassify (h : Nat) (f : Frame) : Frame :=
  let ms := f.msgs.map (fun m => if m.flow = some h && !m.done then { m with flow := none, done := true, waitSince := none } else m)
  { f with msgs := ms, unknown := f.unknown || ms.all (fun m => m.flow.isNone) }

/-- Take flow h away: its entry or index and its match key are free (R365). -/
def State.destroyFlow (s : State) (h : Nat) : State :=
  let hit := fun (f : Frame) => f.msgs.any (fun m => m.flow == some h && !m.done)
  let ids := (s.frames.filter hit).map (·.id)
  let s := { s with flows := mapDel s.flows h, frames := s.frames.map (Frame.unclassify h) }
  ids.foldl (fun t i => match t.frame? i with
    | some f =>
      if f.unknown then
        let t := t.bump (Fd.LANE_CNTB_UNCLASSIFIED f.lane)
        if t.fld (Fd.LANE_CFG_UNKNOWN f.lane) = 1 then t.endFrame f else t
      else t
    | none => t) s

def flowDestroyInfo : OpInfo := { code := 0x0603, used := [(0, 4)], durable := true }

def flowDestroyWork (s : State) (c : Inflight) : Work :=
  match s.ownFlow c.key.part (c.p32 0) with
  | none => .finish s (.fail .badParam)
  | some _ => if s.midFrame (c.p32 0) then .more s else .commit (s.destroyFlow (c.p32 0)) .done

/-- FLOW_DESTROY (R337, R365). -/
def execFlowDestroy (k : CmdKey) (s : State) : Host.Outcome State Fault Refusal :=
  .next (s.runCmd flowDestroyInfo true flowDestroyWork k)

/-- A context with SA i installed, or removed where the slot is none (R354). -/
def Ctx.setSa (c : Ctx) (i an slot pn : Nat) : Ctx :=
  let gone := slot == 0xFFFFFFFF
  let p := if gone then clrBit c.param (4 + i) else setBit c.param (4 + i)
  let p := p - bitsOf p (2 * i + 1) (2 * i) * 2 ^ (2 * i) + (if gone then 0 else an * 2 ^ (2 * i))
  let c := { c with param := p }
  let c := if i = 0 then { c with key0 := slot } else { c with key1 := slot }
  if gone then c else c.setSaFv i pn

/-- SAK_INSTALL (R354). -/
def sakInstallWork (s : State) (c : Inflight) : Work :=
  let p := c.key.part
  let slot := c.p32 4
  let an := c.p8 8 % 4
  let pn := c.p64 16
  match s.ownFlow p (c.p32 0) with
  | none => .finish s (.fail .badParam)
  | some f =>
    if s.midFrame (c.p32 0) then .more s
    else if f.ctx.isSecoc || (!f.ctx.xpn && decide (0xFFFFFFFF < pn)) then .finish s (.fail .badParam)
    else
      let same := (List.range 2).find? (fun i => f.ctx.saValid i && f.ctx.an i == an)
      let free := (List.range 2).find? (fun i => !f.ctx.saValid i)
      if slot = 0xFFFFFFFF then
        match same with
        | some i => .finish (s.writeFlow (c.p32 0) { f with ctx := f.ctx.setSa i an slot pn }) .done
        | none => .finish s .done
      else match s.ownSlot p slot with
      | none => .finish s { status := .badParam, detail := 0x0D02 }
      | some k =>
        if !f.ctx.suiteFits k.ktype || !bit k.attr atTraffic then .finish s { status := .badParam, detail := 0x0D01 }
        else match same <|> free with
        | none => .finish s (.fail .badParam)
        | some i =>
          let x := f.ctx.setSa i an slot pn
          let x := if bit (c.p8 8) 7 then
              { x with param := clrBit x.param 9 + i * 512 }
            else x
          .finish (s.writeFlow (c.p32 0) { f with ctx := x }) .done

def sakInstallInfo : OpInfo :=
  { code := 0x0604, used := [(0, 4), (4, 4), (8, 1), (16, 8)],
    params := fun c => decide (c.p8 8 % 128 < 4) && c.p64 16 != 0 && (c.p32 4 == 0xFFFFFFFF || slotFmt (c.p32 4)) }

/-- SAK_INSTALL (R354). -/
def execSakInstall (k : CmdKey) (s : State) : Host.Outcome State Fault Refusal :=
  .next (s.runCmd sakInstallInfo true sakInstallWork k)

/-- The 64 bytes of FLOW_STATS (R362). -/
def State.flowStats (s : State) (h : Nat) (f : Flow) : Bytes :=
  let c := f.ctx
  leBytes 4 h ++ leBytes 4 c.ctl ++ leBytes 8 c.okCnt ++ leBytes 4 c.failCnt ++ leBytes 1 c.lastFail ++ [0, 0, 0] ++
  leBytes 8 c.fv0 ++ leBytes 8 c.fv1 ++ leBytes 8 (if c.isSecoc then c.ckpt else 0) ++
  leBytes 4 (if isSpill h then h - 262144 + 2 ^ 31 else h) ++
  leBytes 4 (if isSpill h then s.spillVersion (h - 262144) else 0) ++ List.replicate 8 0

/-- The replica of a split-duty command that changed a context, with its completion and output; in solo duty there is none (17 R608,
R617). -/
def State.replicate (s : State) (k : CmdKey) (st : Status) (out : Bytes) : State :=
  if s.halfUp .north && s.halfUp .south then
    { s with halves := { s.halves with replicas := s.halves.replicas ++ [{ key := k, status := st.code, output := out.take 128 }] } }
  else s

/-- FLOW_STATS: the counters are read and, with CLEAR, zeroed at one instant (R362). -/
def flowStatsWork (s : State) (c : Inflight) : Work :=
  let h := c.p32 0
  match s.ownFlow c.key.part h with
  | none => .finish s (.fail .badParam)
  | some f =>
    let t := if c.p8 4 = 1 then
        (s.writeFlow h { f with ctx := { f.ctx with okCnt := 0, failCnt := 0, lastFail := 0 } }).replicate c.key .ok (s.flowStats h f)
      else s
    .finish t { status := .ok, out := s.flowStats h f }

def flowStatsInfo : OpInfo :=
  { code := 0x0605, used := [(0, 4), (4, 1)], minOut := 64, params := fun c => decide (c.p8 4 < 2) }

/-- FLOW_STATS (R362). -/
def execFlowStats (k : CmdKey) (s : State) : Host.Outcome State Fault Refusal :=
  .next (s.runCmd flowStatsInfo true flowStatsWork k)

/-- SPILL_REGION_SET: P0 registers or removes the region; a new region draws a new SPILL_KEY (R368). -/
def spillRegionWork (s : State) (c : Inflight) : Work :=
  let base := c.p64 0
  let size := c.p64 8
  if s.flows.any (fun f => isSpill f.1) then .finish s (.fail .badParam)
  else
    let base := if size = 0 then 0 else base
    let t := if size = 0 then { s with spill := { base := 0, usable := 0, key := [], versions := [], retired := [], clock := 0 } }
      else State.draw { s with spill := {
        base := base, usable := min 65536 (size / 256), key := s.drawn 32, versions := [], retired := [], clock := 0 } } 32
    .commit ((t.setFld Fd.SPILL_BASE_LO_BASE (base % 2 ^ 32)).setFld Fd.SPILL_BASE_HI_BASE (base / 2 ^ 32)) .done

def spillRegionInfo : OpInfo :=
  { code := 0x0007, issuer := .p0, used := [(0, 16)], durable := true, draws := fun c => c.p64 8 != 0,
    params := fun c => c.p64 0 % 4096 == 0 && c.p64 8 % 4096 == 0 && decide (c.p64 8 ≤ 16777216) }

/-- SPILL_REGION_SET (R368). -/
def execSpillRegionSet (k : CmdKey) (s : State) : Host.Outcome State Fault Refusal :=
  .next (s.runCmd spillRegionInfo true spillRegionWork k)

/-- Step 9 of bring-up for the flows (R345, R355, R358): counters restart, MACsec SAs are cleared, SecOC freshness comes
from the checkpoints, whose next values are asked for; Spillway contexts are set at their first cold miss (R357). -/
def Flow.restarted (h : Nat) (f : Flow) : Flow :=
  let secoc := f.ctx.isSecoc
  { f with
    ctx := if isSpill h && secoc then { f.ctx with okCnt := 0, failCnt := 0, lastFail := 0, stalled := false } else f.ctx.restarted,
    ckptTo := if secoc && !isSpill h && decide (f.ctx.ckpt < ckptMax) then some (f.ctx.ckpt + 1024) else none,
    lastEvent := none, suppressed := 0, restart := isSpill h,
    spill := f.spill.map (fun i => { i with cached := false, changed := false, loading := false }) }


/-- All flows at step 9 of bring-up. -/
def State.restartFlows (s : State) : State :=
  { s with flows := s.flows.map (fun (c : Nat × Flow) => (c.1, c.2.restarted c.1)), frames := [], lanes := lanesIdle }

end Sys2Proof.Machine
end

