-- ==== Sys2Proof/Machine/TamperOps.lean ====
section
/-! DEFINITION. The tamper log: entries, their events, and what is held until an entry can be written
(19_tamper.md R680-R682). -/

namespace Sys2Proof.Machine

def pgTp : Nat := 0x0F0000

def State.updTamper (s : State) (f : TamperSt → TamperSt) : State := { s with tamper := f s.tamper }

/-- Events of a sensor in the current 1 s window (R671, R681). -/
def State.tpRecent (s : State) (sensor : Nat) : Nat :=
  (s.tamper.recent.filter (fun (c : Nat × Nat) => c.1 == sensor && decide (s.deviceTime < c.2 + 1000000000))).length

/-- Tamper-driven Q3s in the device's life, those of buffered entries included (R671). -/
def State.tpLifeQ3 (s : State) : Nat :=
  s.tamper.lifeQ3 + (s.tamper.buffered.filter (fun (e : TpEntry) => e.resp == 4)).length

/-- A loss of a reference has an entry and is no event of its sensor (R663). -/
def TpEntry.isLoss (e : TpEntry) : Bool := e.sensor == 4 && decide (2 ≤ e.sub)

/-- TAMPER_LOGGED (R681). -/
def State.tpEvent (s : State) (e : TpEntry) : Event :=
  { code := 0x0060, src := srcDevice, time := e.time,
    detail := leBytes 1 e.sensor ++ leBytes 1 e.sub ++ leBytes 1 e.resp ++ leBytes 1 e.ctx ++ leBytes 4 e.seq ++
      leBytes 2 (s.tpRecent e.sensor) ++ leBytes 1 (satTo 255 s.tpLifeQ3) }

/-- One entry is written: it takes the next SEQ, the oldest of 64 leaves, the lifetime counts follow, and its event is
posted to P0 (R680, R681, R683). -/
def State.writeEntry (s : State) (e : TpEntry) : State :=
  let e := { e with seq := s.tamper.seq }
  let s := s.updTamper (fun t => { t with
    log := (e :: t.log).take 64, seq := t.seq + 1,
    lifeCnt := if e.isLoss then t.lifeCnt else mapSet 0 t.lifeCnt e.sensor (satTo 65535 (mapRead 0 t.lifeCnt e.sensor + 1)),
    lifeWarm := if e.resp = 2 then satTo 255 (t.lifeWarm + 1) else t.lifeWarm,
    lifeQ3 := if e.resp = 4 then satTo 255 (t.lifeQ3 + 1) else t.lifeQ3 })
  s.postTo 0 (s.tpEvent e)

/-- The buffered entries are written, oldest first (R680). -/
def State.flushLog (s : State) : State :=
  s.tamper.buffered.foldl (fun (t : State) (e : TpEntry) => t.writeEntry e) (s.updTamper (fun t => { t with buffered := [] }))

/-- The store takes entries now: PD28 and PD46 are on and VHOLD allows the write (02 R67, R680). -/
def State.logReady (s : State) : Bool := s.storePower && s.storeReady

/-- Record an event of some device time: written at once, or buffered in PD00 until it can be (R680). -/
def State.logTamperAt (s : State) (time sensor sub resp : Nat) (escalated : Bool) : State :=
  let e : TpEntry := {
    time := time, sensor := sensor, sub := sub, resp := resp, seq := 0,
    ctx := s.life % 8 + 8 * (s.fld Fd.PW_STAT_STATE % 8) + (if escalated then 64 else 0) }
  let s := (s.updTamper (fun t => { t with buffered := t.buffered ++ [e] })).setFld Fd.TP_STAT_LAST sensor
  let s := if s.logReady then s.flushLog
    else if s.storePower && !s.txns.contains (.own .tamperLog) then { s with txns := s.txns ++ [.own .tamperLog] }
    else s
  s.raise pgTp (if resp = 0 then 1 else 3)

/-- Record an event of now. -/
def State.logTamper (s : State) (sensor sub resp : Nat) (escalated : Bool) : State :=
  s.logTamperAt s.deviceTime sensor sub resp escalated

/-! ### Quench (R668, R674, R676) -/

/-- The commit of a Quench at level 3 or 4: keys and seed go; Q4 programs the SCRAP cell, then the UDS cells (R505, R676;
20 R692). -/
def State.runQuench (s : State) (level : Nat) : State :=
  let s := if level = 4 then
      State.raise { s.quench4 with lc := { s.lc with fused := 7, changed := some (s.life, 7, 2) } } 0x1000 1
    else s.quench3
  (s.noteQuench level).updTamper (fun t => { t with quench := 0 })

/-- A Quench that was pending runs (R674, R677). -/
def State.runPendingQuench (s : State) : State := if s.tamper.quench = 0 then s else s.runQuench s.tamper.quench

end Sys2Proof.Machine
end

