-- ==== Sys2Proof/Machine/Reset.lean ====
section
/-! DEFINITION. The resets: power-on, device warm, link and partition, and what begins them; losses of supplies and
references (02_package_and_electrical.md R60-R66, R78, R79; 03_bring_up_and_reset.md R103-R112; 04 R141, R153). -/

namespace Sys2Proof.Machine

/-! ### VHOLD (02 R63-R66) -/

/-- VHOLD stands at mv; HOLD_OK asks for 56 uF and 2.85 V (R80). -/
def State.setVhold (s : State) (mv : Nat) : State :=
  { s with supply := { s.supply with vholdMv := mv } }.setFld Fd.HOLD_STAT_HOLD_OK
    (b2n (decide (2850 ≤ mv) && decide (56 ≤ s.fld Fd.HOLD_STAT_HOLD_CAP_UF)))

/-- HOLD_CAP_MEASURE: once in each bring-up, at 3.0 V, 2 uC are drawn; the drop gives the capacitance (R66, R80, R92). -/
def execHoldCapMeasure (dropUv : Nat) (s : State) : Host.Outcome State Fault Refusal :=
  .next <| if s.capDone || s.supply.brownout then s else
  let uf := if dropUv = 0 then 1023 else min 1023 (2000000 / dropUv)
  let s := (s.setFld Fd.HOLD_STAT_HOLD_CAP_UF uf).setFld Fd.HOLD_STAT_CAP_LOW (b2n (decide (uf < 56)))
  State.setVhold { s with capDone := true, supply := { s.supply with capAt := some s.deviceTime } } 3000

/-- VHOLD is being charged: VDD_IO33 is within its range and bring-up has reached step 1, but for the 100 us of the measurement
(R64, R66). -/
def State.charging (s : State) : Bool :=
  s.supply.charger && (match s.supply.capAt with | some t => decide (t + 100000 ≤ s.deviceTime) | none => true)

/-! ### What a device warm reset leaves (R106) -/

/-- Registers that keep their values: device control and reset, life cycle and debug, pads and references, the tamper
page but for its RWL fields, the ledger (02 R80, R112, 18 R661, 19 R683, 20 R704). -/
def keptWarm (a : Nat) : Bool :=
  (addrPart a).isNone &&
  ([0, 0x1000, 0x10F000].contains (pageOf a) ||
   (pageOf a == 0x0F0000 && decide (0x0F0100 ≤ a) && a != Reg.TP_RAISE && a != Reg.TP_CFG) ||
   (pageOf a == 0x0E1000 && decide (Reg.RV_BUDGET ≤ a)))

/-- Of a resume record only the durable part survives, and no ring carries it on (05 R195). -/
def Resume.durable (r : Resume) : Resume := { r with hasAll := false, ordinal := none, durOrdinal := none }

/-- A partition rebuilt from its record: COMPAT from the strap, no rings, no votes (R106; 04 R140). -/
def PartSt.rebuilt (q : PartSt) (strap : Bool) : PartSt :=
  { PartSt.new q.cfg strap with resume := q.resume.map Resume.durable }

/-- TAMPER_LOGGED events that no ring has taken are posted after ready (19 R681). -/
def State.heldTamper (s : State) : List Event :=
  match s.part? 0 with
  | some q => q.held.filter (fun e => e.code == 0x0060)
  | none => []

/-- BOOT_STAT before a bring-up: nothing ready, nothing failed; RECOVERED and SANITIZE_DONE stay (R112). -/
def State.bootCleared (s : State) : State :=
  ((((s.setFld Fd.BOOT_STAT_READY 0).setFld Fd.BOOT_STAT_FAILED 0).setFld Fd.BOOT_STAT_HALVES 0).setFld Fd.BOOT_STAT_STEP 0).setFld
    Fd.BOOT_STAT_FAIL_CODE 0

/-- Everything but PD00 loses what it held: volatile keys (Q2), rings, commands, sessions, engines, lanes, retirements (17 R612), the
card's activation (R62, R105, R106; 08 R290; 09 R345; 15 R542). -/
def State.loseVolatile (s : State) : State :=
  let s := s.quench2
  { s with
    gatesOpen := false, retry := true, linkUp := false, vfEnable := false, numVfs := 0, d3hot := false, fns := [],
    parts := s.parts.map (fun (c : Nat × PartSt) => (c.1, c.2.rebuilt s.strapCompat)), inflight := [], gated := 0, txns := [],
    noEntropy := false, domains := 1, units := UnitsSt.init, wells := [WellSt.init s.deviceTime, WellSt.init s.deviceTime],
    halves := { s.halves with
      leaseEnd := 0, stopped := true, remote := [], compares := [], charges := [], strikes := [], retired := [],
      slots := HalvesSt.init.slots, resyncAt := none, lost := false, linkN := none, linkS := none,
      checkKey := [], weirs := HalvesSt.init.weirs, notes := [], replicas := [], staleTxns := 0 },
    kalmel := { s.kalmel with engines := List.replicate 64 Eng.idle, pools := [] },
    frames := [], lanes := lanesIdle, hs := HsSt.init, lf := { LfSt.init with vlfMv := s.lf.vlfMv }, bc := none, uhf := none,
    uwb := UwbSt.init,
    acc := { AccessSt.init with policy := s.acc.policy, fobs := s.acc.fobs, fobGen := s.acc.fobGen },
    immo := { ImmoSt.init with config := s.immo.config, v1 := s.immo.v1, counter := s.immo.counter, markJ := s.immo.markJ },
    power := { PowerSt.init s.power.capMw with
      perstLow := s.power.perstLow, wakeLow := s.power.wakeLow, pins := s.power.pins, alarmed := s.power.alarmed },
    card := { CardSt.init with cardId := s.card.cardId, txn := s.card.txn }, can := [CanSt.init, CanSt.init],
    keys := { s.keys with grant := none }, ee := { s.ee with corrections := [], passStart := none, storeOff := none },
    lc := { s.lc with challenge := none, scope := 0, extest := false },
    tamper := { s.tamper with guards := [], guardFrom := none, repost := s.tamper.repost ++ s.heldTamper } }

/-- CARD_DET, the durable cap and VLF_LOW show again in registers that were reset (06 R223; 18 R655, 21 R727). -/
def State.reshow (s old : State) : State :=
  (((s.setFld Fd.CD_STAT_PRESENT (old.fld Fd.CD_STAT_PRESENT)).setFld Fd.PW_CAP_CAP_MW s.power.capMw).setFld Fd.LF_STAT_VLF_LOW
    (b2n (decide (s.lf.vlfMv < 6000)))).bootCleared

/-- The work of a device warm reset; a bring-up that a power-on reset waits for stays one (R105, R106, R111). Its Q2 counts
in QUENCH, which goes on from before it (13 R510). Bring-up may start at `start` (R88). -/
def State.warmTo (s : State) (start : Nat) : State :=
  let t := s.loseVolatile.resetRegs (fun a => !keptWarm a)
  let t := t.setFld Fd.CR_STAT_QUENCH (max 2 (s.fld Fd.CR_STAT_QUENCH))
  State.reshow { t with boot := if s.boot = .power then .power else .warm, bootAt := start, capDone := false } s

/-- A device warm reset for a cause: RESET_CAUSE shows it, and bring-up starts 20 us after the gates closed (R105, R112). -/
def State.deviceWarm (s : State) (c : WarmCause) : State :=
  (s.warmTo (s.deviceTime + 20000)).setFld (match c with
    | .request => Fd.RESET_CAUSE_WARM_REQ | .brownout => Fd.RESET_CAUSE_BROWNOUT | .tamper => Fd.RESET_CAUSE_TAMPER
    | .lifecycle => Fd.RESET_CAUSE_LIFECYCLE) 1

/-- DEVICE_WARM_RESET (R105, R106). -/
def execDeviceWarmReset (c : WarmCause) (s : State) : Host.Outcome State Fault Refusal := .next (s.deviceWarm c)

/-- WARM: a keyed write of DEV_RESET by a SECURE-world P0; any other is recorded (R112). -/
def execWarm (src : Nat) (data : Word) (s : State) : Host.Outcome State Fault Refusal :=
  .next <| if !s.pageOpen src 0 then s
  else if bitsOf data.toNat 31 16 = 0xA5C3 && s.secure src then
    if bit data.toNat 0 then s.deviceWarm .request else s
  else s.errCap 0 src 0x04 0x10C data.toNat

/-! ### Brown-out and power-on (02 R60-R62, R104) -/

/-- Monitors that count in the present power state: none but VAON in Tarn and Dry, all in an excursion (18 R636). -/
def State.monitorsOn (s : State) : Bool := decide (s.fld Fd.PW_STAT_STATE ≤ 2) || s.fld Fd.PW_STAT_EXCURSION == 1

/-- The state of the supplies as monitor m trips. -/
def Supply.tripped (u : Supply) (m : Monitor) : Supply :=
  let u := { u with brownout := true, charger := false, capAt := none }
  match m with
  | .io33 => { u with io33Low := true }
  | .core => { u with coreLow := true }
  | .pwrgd => { u with pwrgdLow := true }

/-- BROWN_OUT: no commit starts, a begun one has completed, the gates close, all but PD00 is held in reset; bring-up comes 1 ms
after the rails return (R61, R62). A dip of VDD_CORE under judgement was no tamper event (19 R664). -/
def execBrownOut (m : Monitor) (vholdMv : Nat) (s : State) : Host.Outcome State Fault Refusal :=
  .next <| if !s.monitorsOn then s else
  let s := s.updTamper (fun t => { t with
    dip := match t.dip with | some (sub, at') => if m = .core && sub % 4 ≠ 3 then none else some (sub, at') | none => none })
  let s := s.warmTo (s.deviceTime + 1000000)
  let s := State.setVhold { s with supply := s.supply.tripped m } vholdMv
  (s.setFld Fd.RESET_CAUSE_BROWNOUT 1).setFld Fd.HOLD_STAT_BOD_SEEN 1

/-- What PD00 keeps over a power-on reset: a HOLD, a pending Quench and buffered log entries, unless VAON has failed (19
R674, R675, R680); the journalled budget and horizon restart the ledger (18 R650). -/
def State.losePd00 (s : State) (vaon : Bool) : State :=
  let t := s.tamper
  { s with
    regs := [], deviceTime := 0, refPhase := 0, rtc := 0, boot := .power, bootAt := 0, strapCompat := false,
    wells := [WellSt.init 0, WellSt.init 0],
    power := { PowerSt.init s.power.capMw with perstLow := s.power.perstLow, pins := s.power.pins },
    halves := { HalvesSt.init with
      epoch := if vaon then 0 else s.halves.epoch, epochJ := s.halves.epochJ,
      bringUps := if vaon then 0 else s.halves.bringUps, baseKey := s.halves.baseKey, badFuse := s.halves.badFuse },
    ledger := { LedgerSt.init with budget := s.ledger.budget, horizon := s.ledger.horizon },
    tamper := { TamperSt.init with
      log := t.log, seq := t.seq, lifeCnt := t.lifeCnt, lifeWarm := t.lifeWarm, lifeQ3 := t.lifeQ3, repost := t.repost,
      active := t.active, buffered := if vaon then [] else t.buffered, hold := t.hold && !vaon,
      quench := if vaon then 0 else t.quench, quenchAlarm := t.quenchAlarm && !vaon,
      meshKey := if vaon then [] else t.meshKey },
    lc := { s.lc with tap := LifeSt.init.tap, boundary := 0 },
    supply := { s.supply with charger := false, vaonLow := vaon, capAt := none } }

/-- POWER_ON_RESET: first as a brown-out, then everything returns to reset but what EE store and fuses hold (R104, R106). -/
def execPowerOnReset (c : PorCause) (s : State) : Host.Outcome State Fault Refusal :=
  .next <|
    let old := s
    let vaon := match c with | .vaonLow => true | .porst => false
    let s := (s.warmTo 0).losePd00 vaon
    let s := (s.reshow old).setFld (match c with | .porst => Fd.RESET_CAUSE_PORST | .vaonLow => Fd.RESET_CAUSE_VAON_LOW) 1
    if s.ledger.budget = noLimit then s
    else
      let s := s.refill s.ledger.budget s.ledger.horizon
      { s with ledger := { s.ledger with refilled := true } }

/-! ### Link reset (R106, R109) -/

/-- Commands of the partitions p picks are gone: their tasks, unit work, pairing and comparison with them; a key use once taken stays
(05 R201). -/
def State.haltCmds (s : State) (p : Nat → Bool) : State :=
  let gone := s.inflight.filter (fun c => p c.key.part)
  let s := gone.foldl (fun (t : State) c => (t.keepUse c).dropJobs (.cmd c.key)) s
  let s := s.abortTasks (fun t => match t.start.cmd with | some k => p k.part | none => false)
  { s with
    txns := s.txns.filter (fun x => match x with | .cmd k _ => !p k.part | .own _ => true),
    halves := { s.halves with compares := s.halves.compares.filter (fun x => !p x.key.part) },
    acc := { s.acc with pairing := match s.acc.pairing with
      | some x => if p x.key.part then none else some x
      | none => none },
    card := { s.card with
      busy := match s.card.busy with
        | some k => if p k.part then none else some k
        | none => none,
      waiting := s.card.waiting.filter (fun (c : CmdKey × Nat) => !p c.1.part) } }

/-- The link trains whenever PERST_N is high, the reference and VDD_SERDES are there and bring-up has passed step 2 (R94;
02 R60, R79). -/
def State.linkCan (s : State) : Bool :=
  !s.power.perstLow && !s.supply.serdesLow && !s.supply.lostPcie && !s.supply.brownout &&
  decide (2 ≤ s.fld Fd.BOOT_STAT_STEP) && decide (s.fld Fd.PW_STAT_STATE ≤ 1)

/-- The link is up where it can be. -/
def State.linkBack (s : State) : State := { s with linkUp := s.linkCan }

/-- The LOCK of the pages in the window of p returns to 0: a link reset is wider than a partition reset (R111; 04 R126). -/
def State.unlockWindow (s : State) (p : Nat) : State :=
  s.resetRegs (fun a => addrPart a == some p && decide (a % 0x1000 = 0x50))

/-- The MSI-X table of function p returns to reset. -/
def State.resetMsix (s : State) (p : Nat) : State :=
  s.resetRegs (fun a => decide (winBase p + 0x3800 ≤ a) && decide (a < winBase p + 0x4000))

/-- A link reset of the partitions in a list: rings, doorbells and uncommitted commands are discarded, and the functions'
PCI Express state is reset (R106). -/
def State.linkResetOf (s : State) (l : List Nat) : State :=
  let s := s.abortRound.haltCmds l.contains
  l.foldl (fun (t : State) p => (((t.dropRings p).setFn p FnSt.init).resetMsix p).unlockWindow p) s

/-- The link column of R106 for the whole part. -/
def State.linkReset (s : State) : State :=
  let s := s.linkResetOf (List.range 64)
  { s with vfEnable := false, numVfs := 0, d3hot := false, linkUp := s.linkCan }

/-- LINK_RESET: PERST_N low, hot reset, or data link down. During a wider reset it is absorbed (R103, R106, R111). -/
def execLinkReset (c : LinkCause) (s : State) : Host.Outcome State Fault Refusal :=
  .next <|
    let s := if c = .perst then s.updPower (fun p => { p with perstLow := true }) else s
    if s.boot = .power || s.boot = .warm then s
    else (s.setFld (if c = .perst then Fd.RESET_CAUSE_PERST else Fd.RESET_CAUSE_LINK) 1).linkReset

/-! ### Configuration requests (R95, R109; 04 R113, R114, R120, R123, R145, R747) -/

/-- Size of the BAR pair k of function p: the device window, a partition window, or none (04 R114). -/
def barBytes (p k : Nat) : Nat := if p = 0 then (if k = 0 then 0x200000 else if k = 1 then 0x10000 else 0)
  else if k = 0 then 0x10000 else 0

/-- What a read of a field of the configuration space of function p returns (04 R113, R114, R145). The device control, SR-IOV and
AER fields have the layout of PCI Express; the read gives the field's value alone (notes/assumptions 93). -/
def State.cfgField (s : State) (p : Nat) (r : CfgReg) : Nat :=
  let f := s.fn p
  match r with
  | .vendorId => 0x1F9C
  | .deviceId => if p = 0 then 0x6440 else 0x6441
  | .revisionId => 0xB0
  | .classCode => 0x108000
  | .subsystemVendorId => 0x1F9C
  | .subsystemId => if p = 0 then 0x6440 else 0x6441
  | .bar k => f.bars.getD k 0
  | .barSize k => barBytes p k
  | .busMaster => b2n f.busMaster
  | .maxPayload => f.mps
  | .maxRead => f.mrrs
  | .msixEnable => b2n f.msixEnable
  | .fnMask => b2n f.fnMask
  | .tableSize => 32
  | .tableAt => 0x3800
  | .pbaAt => 0x3C00
  | .powerState => if p = 0 && s.d3hot then 3 else 0
  | .noSoftReset => if p = 0 then 1 else 0
  | .totalVfs => 63
  | .firstVf => 1
  | .vfStride => 1
  | .vfEnable => b2n s.vfEnable
  | .numVfs => s.numVfs
  | .aerStatus => f.aer
  | .aerHeader k => f.aerHdr.getD k 0

/-- The base a BAR pair takes: aligned to its size, and none where no such BAR is implemented (04 R114). -/
def barBase (p k addr : Nat) : Nat := if barBytes p k = 0 then 0 else addr % 2 ^ 64 / barBytes p k * barBytes p k

/-- VF Enable and NumVFs take the values written. Clearing VF Enable is a link reset for P1-P63 (R109; 04 R123). -/
def State.setVfs (s : State) (on : Bool) (n : Nat) : State :=
  if on then { s with vfEnable := true, numVfs := min n 63 }
  else { s.linkResetOf ((List.range 63).map (· + 1)) with vfEnable := false, numVfs := n }

/-- PCIE_CONFIG_ACCESS: retry status before ready, then the value read, or the change a write makes and what the change lets out
(R95; 04 R113, R114, R120, R123, R145, R747). A payload or read request size outside the ranges of R113 leaves the field. -/
def execPcieConfig (p : Nat) (op : CfgOp) (s : State) : Host.Outcome State Fault Refusal :=
  .next <| if s.retry || !s.reachable p then s else
  let f := s.fn p
  match op with
  | .read r => s.emit (.cfgRead p (s.cfgField p r))
  | .bar k a => s.setFn p { f with bars := f.bars.set k (barBase p k a) }
  | .maxPayload n => if [128, 256, 512].contains n then s.setFn p { f with mps := n } else s
  | .maxRead n => if [128, 256, 512, 1024, 2048, 4096].contains n then s.setFn p { f with mrrs := n } else s
  | .aerClear m => s.setFn p { f with aer := maskDiff f.aer m, aerHdr := if maskDiff f.aer m = 0 then [] else f.aerHdr }
  | .busMaster b => (s.setFn p { f with busMaster := b }).release p
  | .msixEnable b => (s.setFn p { f with msixEnable := b }).flushMsgs p
  | .fnMask b => (s.setFn p { f with fnMask := b }).flushMsgs p
  | .vecMask v b => (s.setFld (Fd.msixMask p v) (b2n b)).flushMsgs p
  | .vfEnable b n => if p ≠ 0 then s else s.setVfs b n
  | .d3hot b => if p ≠ 0 then s else State.releaseAll { s with d3hot := b } (s.parts.map (fun c => c.1))

/-! ### Partition reset (R108, R109, R111; 04 R153, R154) -/

/-- Commands of p that the reset has aborted. -/
def State.abortedOf (s : State) (p : Nat) : List Inflight := s.inflight.filter (fun c => c.key.part == p)

/-- Steps 1 and 2: a ranging round in progress ends (07 R266), fetching stops, and commands short of their commit points are aborted; they stay listed until
step 4, and their number is kept (04 R153). -/
def State.startPartReset (s : State) (p : Nat) (c : PartCause) : State :=
  match s.part? p with
  | none => s
  | some q =>
    if q.inReset.isSome then s
    else
      let n := (s.abortedOf p).length
      let s := (s.abortRound.haltCmds (· == p)).updPart p (fun q => { q with inReset := some c, aborted := n })
      if s.gatesOpen then s.serveQueue 10 else s

/-- CAUSE of PARTITION_RESET (05 R205). -/
def partCauseCode : PartCause → Nat
  | .flr => 1 | .resetReq => 2 | .partReset => 3 | .partDestroy => 4

/-- Registers of the window of p but its MSI-X table. -/
def partRegs (p a : Nat) : Bool :=
  addrPart a == some p && !(decide (0x3800 ≤ addrOff a) && decide (addrOff a < 0x4000))

/-- Steps 3 to 6: Q1, ABORTED_RESET except after an FLR, rings freed, votes withdrawn, COMPAT from the strap, window registers
reset, the function reset after an FLR, what ENABLE held back let out, and the event to P0 with the number of step 2 (04 R153,
R747). An open card transaction of p is rolled back (21 R717). -/
def State.endPartReset (s : State) (p : Nat) (c : PartCause) : State :=
  let gone := s.abortedOf p
  let n := match s.part? p with | some q => q.aborted | none => 0
  let s := s.quench1 p
  let s := if c = .flr then s else gone.foldl (fun (t : State) x => t.complete x false (.fail .abortedReset)) s
  let s := s.dropRings p
  let s := s.updPart p (fun q => { q with
    inReset := none, aborted := 0, compat := s.strapCompat, held := [], lost := 0, hold := 0, gate := 0, lastSq := 255 })
  let s := s.evalVotes.resetRegs (partRegs p)
  let s := if c = .flr then (s.setFn p FnSt.init).resetMsix p else s.flushMsgs p
  let s := if (s.card.txn.map (·.part)) = some p then s.cardRollback 0 none else s
  s.post 0 5 p (leBytes 1 p ++ leBytes 1 (partCauseCode c) ++ leBytes 2 n)

/-- PARTITION_RESET: a reset begun before runs to its end; one of a new cause runs whole (R153). -/
def execPartitionReset (p : Nat) (c : PartCause) (s : State) : Host.Outcome State Fault Refusal :=
  .next <| match s.part? p with
  | none => s
  | some q =>
    match q.inReset with
    | some d => if d = c && c ≠ .partDestroy then s.endPartReset p c else s
    | none => if s.retry || c = .partDestroy then s else (s.startPartReset p c).endPartReset p c

/-- FLR: a function level reset begins the partition reset of its function; one of P0 takes the functions of P1-P63 away as
well (R103, R109). -/
def execFlr (p : Nat) (s : State) : Host.Outcome State Fault Refusal :=
  .next <| if s.retry || !s.reachable p || (s.part? p).isNone then s else
  let s := s.startPartReset p .flr
  if p ≠ 0 then s
  else { s.linkResetOf ((List.range 63).map (· + 1)) with vfEnable := false, numVfs := 0, d3hot := false }

/-- RESET_REQ: on a partition header a partition reset begins; on another page its RW and unlocked RWL fields return to
reset (R108; 04 R124). -/
def execResetReq (src pg : Nat) (data : Word) (s : State) : Host.Outcome State Fault Refusal :=
  .next <| if !s.pageOpen src pg || !bit data.toNat 2 then s else
  match addrPart pg with
  | some p => if addrOff pg = 0 then s.startPartReset p .resetReq else s.pageReset pg
  | none => (s.pageReset pg).canSettleAll.cardSettle

/-! ### P0's commands on a partition (04 R141) -/

/-- Checks 3 and 4 of R141. -/
def partTargetCheck (s : State) (c : Inflight) : Option Status :=
  if c.p8 0 = 0 then some .notPermitted else if (s.part? (c.p8 0)).isNone then some .badParam else none

/-- PART_RESET once its checks hold: steps 1 and 2 of the target's reset (R153). -/
def partResetWork (s : State) (c : Inflight) : Work :=
  let n := c.p8 0
  .finish (s.startPartReset n .partReset) { status := .ok, result := leBytes 2 (s.abortedOf n).length }

def partResetInfo : OpInfo := { code := 0x0005, issuer := .p0, used := [(0, 1)], first := partTargetCheck, waits := targetInReset }

/-- PART_RESET: it commits once the target's commands are aborted, and returns their number (04 R141, R153). -/
def execPartReset (k : CmdKey) (s : State) : Host.Outcome State Fault Refusal :=
  .next (s.runCmd partResetInfo true partResetWork k)

/-- A region of partition p stops being served, its pages marked (16 R561). -/
def State.dropRegions (s : State) (p : Nat) : State :=
  s.serveTable (s.ee.regions.map (fun r => if r.en && r.owner == p then clrBit r.word.toNat 31 else r.word.toNat) |>.map (BitVec.ofNat 32))

/-- The pages of the enabled regions that partition p owns. -/
def State.regionPages (s : State) (p : Nat) : List Nat :=
  (s.ee.regions.filter (fun r => r.owner == p)).flatMap (fun r => r.span.map (· + userPage0))

/-- One commit destroys the partition: slots, flows, applets, regions, configuration, and its number is free (04 R141). -/
def State.destroyPart (s : State) (p : Nat) : State :=
  let slots := (s.keys.slots.filter (fun c => c.2.owner == p)).map (·.1)
  let s := slots.foldl (fun (t : State) n => t.destroySlot n) s
  let flows := (s.flows.filter (fun c => c.2.ctx.part == p)).map (·.1)
  let s := flows.foldl (fun (t : State) h => t.destroyFlow h) s
  let s := (s.setApplets (s.kalmel.applets.filter (fun c => c.2.owner != p))).dropRegions p
  State.resetRegs { s with parts := mapDel s.parts p } (fun a => addrPart a == some p)

/-- The partition reset that PART_DESTROY begins with, noted with the command; it is not run again while the target has made no ring
since (R141; notes/assumptions 104). -/
def State.resetTarget (s : State) (c : Inflight) : State :=
  let n := c.p8 0
  if c.resetDone && (s.part? n).all (fun q => q.queues.isEmpty) then s
  else
    let s := (s.startPartReset n .partDestroy).endPartReset n .partDestroy
    { s with inflight := s.inflight.map (fun o => if o.key == c.key then { o with resetDone := true } else o) }

/-- The target is reset first, which stands whether or not the commit follows (R693); the pages the commit marks wait for the
STORE_READs that read them (16 R571). -/
def partDestroyWork (s : State) (c : Inflight) : Work :=
  let t := s.resetTarget c
  if s.readHolds (s.regionPages (c.p8 0)) then .more t
  else if s.canCommit then .commit (t.destroyPart (c.p8 0)) .done else .more (t.waitCommit c.key)

def partDestroyInfo : OpInfo :=
  { code := 0x0004, issuer := .p0, used := [(0, 1)], durable := true, first := partTargetCheck, waits := targetInReset }

/-- PART_DESTROY (04 R141). -/
def execPartDestroy (k : CmdKey) (s : State) : Host.Outcome State Fault Refusal :=
  .next (s.runCmd partDestroyInfo true partDestroyWork k)

/-! ### Supplies and references (02 R60, R78, R79) -/

/-- The data link goes down: a link reset, unless a wider one runs or the link is down (R103). -/
def State.dataLinkDown (s : State) : State :=
  if s.boot = .power || s.boot = .warm || !s.linkUp then s.linkBack
  else (s.setFld Fd.RESET_CAUSE_LINK 1).linkReset

/-- SERDES_SUPPLY_LOW: lanes and PCIe link are held down (R60). -/
def execSerdesSupplyLow (s : State) : Host.Outcome State Fault Refusal :=
  .next <| if s.supply.serdesLow then s
  else State.dataLinkDown (State.lanesDown { s with supply := { s.supply with serdesLow := true } })

/-- SERDES_SUPPLY_RETURN: above 0.86 V they are released (R60). -/
def execSerdesSupplyReturn (s : State) : Host.Outcome State Fault Refusal :=
  .next <|
    let s := { s with supply := { s.supply with serdesLow := false } }
    s.linkBack

/-- What stops with REF38_IN: LF, UHF and UWB, the CAN controllers and the card port (R79; 07 R266). -/
def State.stopRef38 (s : State) : State :=
  let s := s.abortRound.bcOff 3
  let s := { s with
    uhf := none, lf := { s.lf with
      air := none, ended := none, notSent := s.lf.notSent + (if s.lf.air.isSome then 1 else 0) } }
  s.canSettleAll.cardSettle

/-- The loss of a reference shows: its LOSS bit is set (R80). -/
def lossField : RefClk → Fld
  | .ref38 => Fd.CLKMON_STAT_REF38_LOSS | .xtal => Fd.CLKMON_STAT_XTAL_LOSS | .pcie => Fd.CLKMON_STAT_PCIE_LOSS
  | .lane => Fd.CLKMON_STAT_LANE_LOSS

def Supply.lost (u : Supply) : RefClk → Bool
  | .ref38 => u.lostRef38 | .xtal => u.lostXtal | .pcie => u.lostPcie | .lane => u.lostLane

def Supply.setLost (u : Supply) (r : RefClk) (b : Bool) : Supply :=
  match r with
  | .ref38 => { u with lostRef38 := b }
  | .xtal => { u with lostXtal := b }
  | .pcie => { u with lostPcie := b }
  | .lane => { u with lostLane := b }

/-- REFCLK_LOSS: a monitor declares loss. The tamper log records that of REF38_IN or of the crystal (R78, R79; 19 R663). -/
def execRefclkLoss (r : RefClk) (s : State) : Host.Outcome State Fault Refusal :=
  .next <| if s.supply.lost r then s else
  let s := State.setFld { s with supply := s.supply.setLost r true } (lossField r) 1
  match r with
  | .ref38 => s.stopRef38.logTamper 4 2 0 false
  | .xtal => s.logTamper 4 3 0 false
  | .pcie => s.dataLinkDown
  | .lane => s.lanesDown

/-- REFCLK_RETURN: the reference has shown OK for 1 ms; what it serves resumes (R79). -/
def execRefclkReturn (r : RefClk) (s : State) : Host.Outcome State Fault Refusal :=
  .next <| if !s.supply.lost r then s else
  let s := { s with supply := s.supply.setLost r false }
  let s := { s with linkUp := if r = .pcie then s.linkCan else s.linkUp }
  if r = .ref38 then s.canSettleAll.cardSettle else s

end Sys2Proof.Machine
end

