-- ==== Sys2Proof/Machine/Restart.lean ====
section
/-! DEFINITION. What bring-up and a return from Tarn or Dry have in common: a new epoch, slots and counters at their
durable marks, engines and Wellheads in service (03_bring_up_and_reset.md R90, 13 R493, R494, 18 R633, R645). -/

namespace Sys2Proof.Machine

/-- U resumes at the committed mark, capped at LIMIT, and DN at its own, capped at 2^32 (13 R493, R494). -/
def KeySlot.resumed (k : KeySlot) : KeySlot := { k with uses := min k.useMark k.limit, dn := min k.dnMark (2 ^ 32) }

/-- Persistent slot n as bring-up loads it; a limit it so reaches is said, be it for a second time (10 R389). -/
def State.reloadSlot (s : State) (n : Nat) (k : KeySlot) : State :=
  let k := k.resumed
  let full := decide (k.limit ≤ k.uses)
  let s := s.putSlot n { k with limitSaid := k.limitSaid || full }
  if full then s.rekeyAdvised n 1 k else s

/-- Every persistent slot (13 R497). -/
def State.reloadSlots (s : State) : State :=
  (s.keys.slots.filter (fun (c : Nat × KeySlot) => !slotVolatile c.1)).foldl
    (fun (t : State) (c : Nat × KeySlot) => t.reloadSlot c.1 c.2) s

/-- A new epoch, one above the one PD00 keeps and the last journalled (R90), granted once it is journalled. -/
def State.grantEpoch (s : State) : State :=
  let e := max s.halves.epoch s.halves.epochJ + 1
  let s := State.showEpoch { s with halves := { s.halves with epoch := e, stopped := true } } e
  if s.storeReady then s.journalEpoch
  else { s.setFld Fd.HW_ROLE_LEASE 0 with txns := .own .epoch :: s.txns }

/-- Wellhead and Bellows of half h serve (15 R539, R549). -/
def State.wellService (s : State) (h : Half) : State :=
  ((s.updWell (halfNum h) (fun _ => WellSt.init s.deviceTime)).setFld (Fd.WH_STAT_STATE (halfNum h)) 2).setFld
    (Fd.BW_STAT_INST (halfNum h)) 1

def State.wellsService (s : State) : State :=
  let s := if s.halfUp .north then (s.wellService .north).drawLink .north else s
  if s.halfUp .south then (s.wellService .south).drawLink .south else s

/-- The halves start again from what the store holds: entropy, slots, the token counter at J (08 R321), the lease. -/
def State.halvesBack (s : State) : State :=
  let s := s.wellsService.reloadSlots
  State.grantEpoch { s with immo := { s.immo with counter := s.immo.markJ } }

/-- The domains of Flow under the votes (01 R49, 04 R155, 18 R627). -/
def State.flowDomains (s : State) : Nat := maskDiff (2 ^ 14 - 1 + s.halfDomains) (gatedDomains s.gated)

/-- A card transaction left open over a loss of power is rolled back (03 R96 step 6, 21 R717). The spec gives CARD_REMOVED
no CAUSE for that: it is free. -/
def State.recoverCard (s : State) : State :=
  if s.card.txn.isNone then s
  else
    let (c, s) := s.free
    s.cardRollback (1 + c % 255) none

/-- TAMPER_LOGGED events that waited for ready are posted (19 R681). -/
def State.repostTamper (s : State) : State :=
  s.tamper.repost.foldl (fun (t : State) (e : Event) => t.postTo 0 e) (s.updTamper (fun t => { t with repost := [] }))

end Sys2Proof.Machine
end

