-- ==== Sys2Proof/Machine/Parking.lean ====
section
/-! DEFINITION. Eddy, Pond, Tarn and Dry: entries, wakes, excursions and returns (18_power_and_reservoir.md R627-R647). -/

namespace Sys2Proof.Machine

/-! ### Conditions (R628-R630) -/

/-- An access session, token stream, backup-coil session or ranging round runs (R628, R629). -/
def State.accessRuns (s : State) : Bool :=
  s.acc.session.isSome || s.immo.streaming || s.bc.isSome || s.uwb.round.isSome || s.uwb.fob.isSome

/-- The ingress buffer is empty. -/
def State.ingressEmpty (s : State) : Bool := s.frames.isEmpty && s.lanes.all (fun l => l.arriving.isNone)

/-- Condition n of R629 for target t. -/
def State.parkCond (s : State) (t n : Nat) : Bool :=
  match n with
  | 0 => s.power.perstLow
  | 1 => !s.supply.lostXtal
  | 2 => !s.accessRuns
  | 3 => s.inflight.isEmpty && s.ingressEmpty
  | 4 => s.txns.isEmpty
  | 5 => t == 2 || s.lc.scope == 0
  | _ => !s.power.reqNormal || !s.parts.any (fun (c : Nat × PartSt) => c.2.cfg.secure && c.2.hold != 0)

/-- WAIT: the conditions that do not hold (R629). -/
def State.parkWait (s : State) (t : Nat) : Nat := listMask ((List.range 7).filter (fun n => !s.parkCond t n))

/-- No command admitted or waiting for fetch, and nothing else that Eddy waits out (R628). -/
def State.eddyIdle (s : State) : Bool :=
  s.inflight.isEmpty && s.ingressEmpty && !s.accessRuns &&
  s.parts.all (fun (c : Nat × PartSt) => c.2.sqs.all (fun r => r.stopped || r.draining || r.head == r.tail))

/-! ### Wakes (R641-R644) -/

/-- WAKE pin k is named in the policy's START mask (08 R304). -/
def State.startPin (s : State) (k : Nat) : Bool := bit (tgtTrigger (polTarget s.policy 16)) k

/-- WAKE pin k is armed (R641). -/
def State.pinArmed (s : State) (k : Nat) : Bool :=
  s.fld (Fd.PW_WAKE_EN k) == 1 && (decide (s.level ≤ 3) || s.startPin k || s.fld (Fd.PW_WAKE_L4 k) == 1)

/-- Pin k wakes: a pin of the START mask asks for a start session, or a backup-coil session at level 4. In Dry the wake is
latched alone (R641, R643, R644). -/
def State.pinWake (s : State) (k : Nat) : State :=
  if !s.pinArmed k then s else
  let s := s.latchWake (.pin k)
  if s.startPin k && s.fld Fd.PW_STAT_STATE ≠ 4 then
    s.request (if s.level = 4 then .backupCoil else .start) 16 s.deviceTime
  else s

/-- A state is entered while pins with LEVEL at 1 hold their active level (R642). -/
def State.levelPins (s : State) : State :=
  (List.range 8).foldl (fun (t : State) k => if bit t.power.pins k && t.fld (Fd.PW_WAKE_LEVEL k) = 1 then t.pinWake k else t) s

/-- The alarm is reached (R641). -/
def State.alarmWake (s : State) : State := (s.updPower (fun p => { p with alarmed := true })).latchWake .alarm

/-- Pond ends in Flow with the effects of a link reset alone (R632). -/
def State.pondToFlow (s : State) : State :=
  let s := ((s.setFld Fd.PW_REQ_TARGET 0).setPowerState 0).setDomains s.flowDomains
  s.linkReset.canSettleAll.cardSettle

/-- PERST_N rises: PCIE_WAKE_N is released, and Pond ends (R628, R641, R643; 03 R94). -/
def State.perstRise (s : State) : State :=
  if !s.power.perstLow then s else
  let s := (s.updPower (fun p => { p with perstLow := false, wakeLow := false })).latchWake .perst
  if s.fld Fd.PW_STAT_STATE = 2 then s.pondToFlow else s.linkBack

/-- A wake that arrived during an entry is replayed as if it had arrived in the new state (R644). -/
def State.replay (s : State) (w : WakeIn) : State :=
  let s := s.bump Fd.PW_CNT_REPLAYS
  if w.code = 1 then s.hsTouch s.hs.cfg w.chan w.stamp
  else if 2 ≤ w.code && w.code ≤ 9 then s.pinWake (w.code - 2)
  else if w.code = 10 then s.alarmWake
  else if w.code = 12 then s.perstRise
  else if w.code = 14 then s.latchWake .tamper
  else s

/-- In Dry a wake is only latched (R644). -/
def State.latchCode (s : State) (w : WakeIn) : State :=
  if w.code = 1 then s.latchWake .touch
  else if 2 ≤ w.code && w.code ≤ 9 then (if s.pinArmed (w.code - 2) then s.latchWake (.pin (w.code - 2)) else s)
  else if w.code = 10 then s.alarmWake
  else if w.code = 12 then s.perstRise
  else if w.code = 14 then s.latchWake .tamper
  else s

/-- Wakes in the order they arrived, touches among them by their stamps (R644; 06 R214). -/
def wakeInsert (w : WakeIn) : List WakeIn → List WakeIn
  | [] => [w]
  | x :: t => if w.code = 1 && x.code = 1 && decide (w.stamp < x.stamp) then w :: x :: t else x :: wakeInsert w t

/-- What an entry leaves to do: pins held active, then the wakes that arrived. Dry gives way to Tarn where VDD_IO33 is
within range (R642, R644). -/
def State.afterEntry (s : State) (wakes : List WakeIn) : State :=
  let wakes := wakes.foldl (fun l w => wakeInsert w l) []
  let s := s.levelPins
  if s.fld Fd.PW_STAT_STATE ≠ 4 then wakes.foldl State.replay s
  else if wakes.isEmpty then s
  else if s.supply.io33Low then wakes.foldl State.latchCode s
  else wakes.foldl State.replay ((s.setPowerState 3).setDomains 3)

/-! ### Entries (R627, R632, R633, R638) -/

/-- The domains of Pond and of an excursion without its access work (R627): context banks and idle groups off. -/
def State.pondDomains (s : State) : Nat :=
  listMask [0, 1, 12, 13] + maskDiff s.halfDomains (eddyOff ||| listMask [29, 30, 47, 48])

/-- Entry to Pond (R627, R632). -/
def State.enterPond (s : State) : State :=
  let s := s.updPower (fun p => { p with pondAt := s.deviceTime })
  let s := ((s.setPowerState 2).lanesDown.setDomains s.pondDomains).canSettleAll.cardSettle
  s.askCore 720 true

/-- The Lead draws 64 welcome nonces into PD00, unless there is no entropy (R638; 15 R544). -/
def State.stageNonces (s : State) : State :=
  if s.noEntropy then s.updPower (fun p => { p with nonces := [] })
  else (s.updPower (fun p => { p with nonces := (List.range 64).map (fun i => slice (s.drawn 512) (8 * i) 8) })).draw 512

/-- What goes with the halves and with PD02-PD13 as they power off: volatile slots (Q2), engines, units, entropy, pool,
radio and session work; the lease is not renewed (R633, R638). -/
def State.powerOff (s : State) : State :=
  let s := s.quench2.noteQuench 2
  let s := { s with
    gatesOpen := false, noEntropy := false, units := UnitsSt.init,
    wells := [WellSt.init s.deviceTime, WellSt.init s.deviceTime],
    halves := { s.halves with leaseEnd := 0, stopped := true },
    kalmel := { s.kalmel with engines := List.replicate 64 Eng.idle, pools := [] },
    lf := { s.lf with air := none, waiting := [], ended := none }, bc := none, uhf := none, uwb := UwbSt.init,
    power := { s.power with poll := none, heard := [] } }
  ((((s.setFld Fd.HW_ROLE_LEASE 0).setFld (Fd.WH_STAT_STATE 0) 0).setFld (Fd.WH_STAT_STATE 1) 0).setFld (Fd.BW_STAT_INST 0)
    0).setFld (Fd.BW_STAT_INST 1) 0

/-- VDD_CORE, VDD_IO18, VDD_SERDES and VDD_RF go off (R638). -/
def State.railsOff (s : State) : State := (((s.railSet 0 false).railSet 3 false).railSet 1 false).railSet 2 false

/-- Entry to Tarn (st = 3) or Dry (st = 4); an excursion ends so too (R637, R638). -/
def State.enterTarn (s : State) (st : Nat) : State :=
  let s := s.stageNonces.powerOff.lanesDown
  let s := ((s.setFld Fd.PW_STAT_EXCURSION 0).setPowerState st).canSettleAll.cardSettle
  let s := if st = 4 then s.hsOff else s
  s.railsOff.setDomains (if st = 4 then 1 else 3)

/-- EDDY_ENTER: after EDDY_IDLE_US of idleness; `wakes` arrived during the entry (R628, R644). -/
def execEddyEnter (wakes : List WakeIn) (s : State) : Host.Outcome State Fault Refusal :=
  .next <|
    let us := s.fld Fd.PW_CFG_EDDY_IDLE_US
    if us = 0 || s.fld Fd.PW_STAT_STATE ≠ 0 || !s.gatesOpen || !s.eddyIdle || s.deviceTime < s.power.busyAt + us * 1000 then s
    else ((s.setPowerState 1).setDomains (maskDiff s.domains eddyOff)).afterEntry wakes

/-- TARGET: a parked state is armed or disarmed; reserved values are ignored, and so is Dry from a NORMAL-world P0, which is
recorded (R628-R631). -/
def execTarget (src : Nat) (data : Word) (s : State) : Host.Outcome State Fault Refusal :=
  .next <|
    let v := data.toNat % 8
    if !s.pageOpen src pgPw || v = 1 || 4 < v then s
    else if v = 4 && !s.secure src then s.errCap pgPw src 0x80 0x100 data.toNat
    else
      let was := s.deferred
      ((s.setFld Fd.PW_REQ_TARGET v).updPower (fun p => { p with reqNormal := !s.secure src })).noteDefer was

/-- PARK_ENTRY: the armed state is entered once every condition holds (R628, R629, R638). -/
def execParkEntry (wakes : List WakeIn) (s : State) : Host.Outcome State Fault Refusal :=
  .next <|
    let t := s.fld Fd.PW_REQ_TARGET
    if t = 0 || 1 < s.fld Fd.PW_STAT_STATE || !s.gatesOpen || s.parkWait t ≠ 0 then s
    else (if t = 2 then s.enterPond else s.enterTarn t).afterEntry wakes

/-- POND_TIMEOUT: POND_MAX_S seconds in Pond (R628). -/
def execPondTimeout (wakes : List WakeIn) (s : State) : Host.Outcome State Fault Refusal :=
  .next <|
    let sec := s.fld Fd.PW_CFG_POND_MAX_S
    if s.fld Fd.PW_STAT_STATE ≠ 2 || sec = 0 || s.deviceTime < s.power.pondAt + sec * 1000000000 || s.parkWait 3 ≠ 0 then s
    else (s.enterTarn 3).afterEntry wakes

/-- TARN_TO_DRY: the VDD_IO33 monitor trips in Tarn, PD01 goes off, and VHOLD is charged no more (R628, R638; 02 R64). -/
def execTarnToDry (s : State) : Host.Outcome State Fault Refusal :=
  .next <| if s.fld Fd.PW_STAT_STATE ≠ 3 || s.fld Fd.PW_STAT_EXCURSION = 1 then s else
  let s := { s with
    supply := { s.supply with io33Low := true, charger := false },
    lf := { s.lf with air := none, waiting := [], ended := none }, uhf := none, power := { s.power with poll := none, heard := [] } }
  ((s.hsOff.setPowerState 4).setDomains 1).levelPins

/-- LINGER_END: no session runs and no wake has come for LINGER_MS, which acts as 10,000 beyond its range; condition 0 of R629 is not asked for (R637). -/
def execLingerEnd (wakes : List WakeIn) (s : State) : Host.Outcome State Fault Refusal :=
  .next <|
    if s.fld Fd.PW_STAT_EXCURSION = 0 || !s.power.perstLow || !s.acc.queued.isEmpty || clrBit (s.parkWait 3) 0 ≠ 0 ||
       s.deviceTime < s.power.lingerAt + min 10000 (s.fld Fd.PW_MISC_LINGER_MS) * 1000000 then s
    else (s.enterTarn 3).afterEntry wakes

/-! ### Returns (R633, R634, R637, R645, R646) -/

/-- VDD_CORE, VDD_IO18 and VDD_RF come up, and VDD_SERDES for Flow (R627, R645). -/
def State.railsOn (s : State) (flow : Bool) : State :=
  let s := ((s.railSet 0 true).railSet 3 true).railSet 2 true
  if flow then s.railSet 1 true else s

/-- The telegrams of a welcome poll and its nonce go to the halves: a welcome session judges them (R639; 08 R313). -/
def State.serveHeard (s : State) : State :=
  match s.power.poll with
  | none => s
  | some (nonce, bursts, sent) =>
    let l := s.power.heard
    let s := s.updPower (fun p => { p with poll := none, heard := [] })
    if l.isEmpty || s.noEntropy || s.level ≠ 1 || s.acc.session.isSome || !s.acc.queued.isEmpty then s else
    let x := { Session.start .welcome 32 s.deviceTime 0 with nonceV := nonce, cmd := 0x15, bursts := bursts, sent := sent }
    let s := (s.setSession (some x)).setFld Fd.AC_STAT_SOURCE Source.welcome.code
    (l.foldl (fun (t : State) (c : Bytes × Nat × Nat) =>
      match t.acc.session with
      | some y => t.answer y false c.1 c.2.1 c.2.2 none
      | none => t) s).advance

/-- An excursion: the halves are back at a new epoch with the access domains, and serve what waits (R637, R645). A pending
Quench runs first; after one at Q4 Frexus stays in Dry (19 R677). -/
def State.beginExcursion (s : State) : State :=
  let s := (s.setFld Fd.PW_STAT_EXCURSION 1).bump Fd.PW_CNT_EXCURSIONS
  let s := State.setDomains { s with gatesOpen := true, power := { s.power with lingerAt := s.deviceTime } } s.pondDomains
  let s := (if s.storeReady then s.runPendingQuench else s).halvesBack.recoverCard
  if s.life = 7 then s.enterTarn 4 else
  (if s.logReady then s.flushLog else s).serveHeard.serveQueue 10

/-- What the return to Flow leaves of a part that was parked: volatile state is lost as by a device warm reset, while handle
channels, queued touches, the decision number, the wakes and the tamper state go on (R631, R633). -/
def State.flowState (s : State) : State :=
  let t := s.loseVolatile
  { t with
    gatesOpen := true, retry := false, hs := s.hs,
    acc := { t.acc with queued := s.acc.queued, decisionSeq := s.acc.decisionSeq },
    power := { s.power with poll := none, heard := [], busyAt := s.deviceTime },
    tamper := { s.tamper with repost := t.tamper.repost } }

/-- The rest of the return to Flow: flows, halves, card, link, tamper log, CAN and the sessions that waited. -/
def State.flowBack (s : State) : State :=
  let t := s.restartFlows.halvesBack.recoverCard.linkBack
  let t := (if t.logReady then t.flushLog else t).repostTamper
  t.canSettleAll.cardSettle.serveQueue 10

/-- The return to Flow: what a device warm reset leaves, but no cause and no register reset; device time, wakes, touches
and tamper state go on (R631, R633). -/
def State.returnFlow (s : State) : State :=
  let t := ((s.flowState.setFld Fd.PW_STAT_EXCURSION 0).setFld Fd.PW_REQ_TARGET 0).setPowerState 0
  let t := t.setDomains t.flowDomains
  let t := if t.storeReady then t.runPendingQuench else t
  if t.life = 7 then t.deviceWarm .tamper else t.flowBack

/-- An image does not match its record: the return is abandoned, and bring-up runs from step 1 (R634). -/
def State.abandonReturn (s : State) : State :=
  let t := { s.loseVolatile with boot := .warm, bootAt := s.deviceTime, capDone := false }
  (((t.bootCleared.setFld Fd.PW_STAT_EXCURSION 0).setFld Fd.PW_REQ_TARGET 0).setPowerState 0).setFld Fd.PW_STAT_RETURN_FAIL 1

/-- The rails are asked for; once they are up, the return goes on (R645; 21 R725). -/
def State.parkReturn (s : State) (railOk imagesOk : Bool) : State :=
  let flow := !s.power.perstLow
  let s := s.railsOn flow
  if !railOk then s.pmicNack .rail
  else
    let s := s.updPower (fun p => { p with railFails := 0 })
    if !imagesOk then s.abandonReturn else if flow then s.returnFlow else s.beginExcursion

/-- Tarn is left: for Flow with PERST_N high, or for an excursion with access work waiting (R628, R637). -/
def State.returnWanted (s : State) : Bool :=
  s.fld Fd.PW_STAT_STATE == 3 &&
  (!s.power.perstLow ||
    (s.fld Fd.PW_STAT_EXCURSION == 0 && (!s.acc.queued.isEmpty || !s.power.heard.isEmpty)))

/-- PARK_RETURN: `railOk`, the PMIC accepts; `imagesOk`, every retained image matches (R634, R645). -/
def execParkReturn (railOk imagesOk : Bool) (s : State) : Host.Outcome State Fault Refusal :=
  .next <| if s.returnWanted && s.power.railFails = 0 && !s.retrying .rail then s.parkReturn railOk imagesOk else s

/-- RAIL_ON_RETRY: 10 ms after a failed rail-on; a third failure leaves Frexus in Tarn (21 R725). -/
def execRailOnRetry (railOk imagesOk : Bool) (s : State) : Host.Outcome State Fault Refusal :=
  .next <| if s.returnWanted && 1 ≤ s.power.railFails && s.power.railFails ≤ 2 && !s.retrying .rail &&
       decide (s.power.railAt + 10000000 ≤ s.deviceTime) then s.parkReturn railOk imagesOk
    else s

/-- PWRGD_RETURN: PWRGD has been high for 1 ms in Dry: Flow with PERST_N high, else Tarn (R628, R641). -/
def execPwrgdReturn (imagesOk : Bool) (s : State) : Host.Outcome State Fault Refusal :=
  .next <| if s.fld Fd.PW_STAT_STATE ≠ 4 then s else
  let s := State.latchWake { s with supply := { s.supply with io33Low := false, pwrgdLow := false, charger := true } } .pwrgd
  if s.power.perstLow then ((s.setPowerState 3).setDomains 3).levelPins
  else if imagesOk then s.returnFlow else s.abandonReturn

/-! ### Wake rows -/

/-- Consecutive samples that FILT of pin k asks for (R642, R660). -/
def State.pinSamples (s : State) (k : Nat) : Nat :=
  match s.fld (Fd.PW_WAKE_FILT k) with | 0 => 1 | 1 => 4 | 2 => 33 | _ => 328

/-- The level that POL of pin k calls active (R642, R660). -/
def State.pinActive (s : State) (k : Nat) (high : Bool) : Bool := high == (s.fld (Fd.PW_WAKE_POL k) == 1)

/-- Pin k is recognised at its active level, or has left it (R641-R643). -/
def State.pinSeen (s : State) (k : Nat) (active : Bool) : State :=
  let was := bit s.power.pins k
  let s := s.updPower (fun p => { p with pins := if active then setBit p.pins k else clrBit p.pins k })
  if active && !was then s.pinWake k else s

/-- WAKE_PIN: pin k has been high or low for some consecutive samples; fewer than its filter asks for change nothing (R642). -/
def execWakePin (k : Nat) (high : Bool) (samples : Nat) (s : State) : Host.Outcome State Fault Refusal :=
  .next <| if samples < s.pinSamples (k % 8) then s else s.pinSeen (k % 8) (s.pinActive (k % 8) high)

/-- PW_ALARM (R641). -/
def State.alarmAt (s : State) : Nat := s.fld Fd.PW_ALARM_LO_TIME + 2 ^ 32 * s.fld Fd.PW_ALARM_HI_TIME

/-- ALARM_WAKE: device time has reached PW_ALARM (R641). -/
def execAlarmWake (s : State) : Host.Outcome State Fault Refusal :=
  .next <| if s.alarmAt = 0 || s.power.alarmed || s.deviceTime < s.alarmAt then s else s.alarmWake

/-- PERST_N_RISE (R94, R628). -/
def execPerstNRise (s : State) : Host.Outcome State Fault Refusal := .next s.perstRise

/-- A welcome poll of Tarn, made by PD00 with a staged nonce (R639). -/
def State.tarnPoll (s : State) (nonce : Bytes) (rest : List Bytes) : State :=
  let b := s.burstSet
  let banks := (if b % 16 = 0 then 0 else 2 ^ 2) + (if b / 16 = 0 then 0 else 2 ^ 3)
  let s := (s.updPower (fun p => { p with nonces := rest, poll := some (nonce, 0, 0) })).railsOn false
  (s.setDomains (3 + 2 ^ 4 + 2 ^ 8 + banks)).requestLf
    { kind := .welcome, data := [0x15] ++ s.vidBytes ++ nonce ++ [0], bursts := 255 }

/-- WELCOME_POLL: every WELCOME_S seconds at level 1, with no session. In Tarn without a staged nonce it asks for an
excursion (R639, R651, R652; 08 R288). -/
def execWelcomePoll (s : State) : Host.Outcome State Fault Refusal :=
  .next <|
    let w := s.fld Fd.RV_PLAN_WELCOME_S
    if w = 0 || s.level ≠ 1 || s.deviceTime < s.power.welcomeAt + w * 1000000000 || s.acc.session.isSome ||
       s.acc.pairing.isSome || s.power.poll.isSome then s else
    let s := s.updPower (fun p => { p with welcomeAt := s.deviceTime })
    if s.gatesOpen then s.eddyExit.openSession .welcome 32
    else if s.fld Fd.PW_STAT_STATE ≠ 3 then s
    else match s.power.nonces with
      | n :: rest => s.tarnPoll n rest
      | [] => s.setAcc (fun a => { a with queued := queueInsert ⟨.welcome, 32, s.deviceTime⟩ a.queued })

end Sys2Proof.Machine
end

