-- ==== Sys2Proof/Machine/Tamper.lean ====
section
/-! DEFINITION. Tamper events, what decides their responses, and the responses (19_tamper.md R663-R679). -/

namespace Sys2Proof.Machine

/-! ### Decision (R670-R672) -/

/-- The first response to an event of a sensor (R670): 0 LOG, 1 GUARD, 2 WARM, 3 HOLD, 4 Q3, 5 Q4. -/
def firstResponse (life sensor : Nat) : Nat :=
  let opens := sensor == 1 || sensor == 2
  if sensor = 7 then 0
  else if life = 3 ∨ life = 4 then (if opens then 3 else 1)
  else if life = 5 then (if opens then 4 else 1)
  else if life = 6 then (if opens then 4 else if sensor = 6 then 1 else 0)
  else 0

/-- The least response TP_RAISE sets for a sensor in FIELD (R672, R683). -/
def State.raised (s : State) (sensor : Nat) : Nat :=
  if s.life = 5 && sensor ≠ 7 then bitsOf (s.reg Reg.TP_RAISE).toNat (3 * sensor - 1) (3 * sensor - 3) else 0

/-- Tamper WARMs within the last hour of device time (R671). -/
def State.warmsInHour (s : State) : Nat :=
  (s.tamper.warms.filter (fun t => decide (s.deviceTime < t + 3600000000000))).length

/-- A WARM that is the third within 1 h is HOLD, and Q3 in FIELD; a Q3 in FIELD after two in the device's life is Q4
(R671). -/
def State.escalate (s : State) (r : Nat) : Nat :=
  if s.life < 3 ∨ 5 < s.life then r else
  let r := if r = 2 && decide (2 ≤ s.warmsInHour) then (if s.life = 5 then 4 else 3) else r
  if r = 4 && s.life = 5 && decide (2 ≤ s.tpLifeQ3) then 5 else r

/-- The response to an event of a sensor that has been counted, and whether it was escalated (R670-R672). -/
def State.response (s : State) (sensor : Nat) : Nat × Bool :=
  let first := firstResponse s.life sensor
  let r := if first = 1 && decide (3 ≤ s.life ∧ s.life ≤ 5) && decide (4 ≤ s.tpRecent sensor) then 2 else first
  let r := s.escalate (max r (s.raised sensor))
  (r, r != first)

/-- What a response in force ranks as: a Quench pending, HOLD, or nothing that a lower one gives way to (R673). -/
def State.inForce (s : State) : Nat := if s.tamper.quench ≠ 0 then s.tamper.quench + 1 else if s.tamper.hold then 3 else 0

/-! ### Responses (R668, R669, R676-R679) -/

/-- Work short of its commit point is discarded, to run again from its start with new generations; sessions, pairings and
rounds end (R668). -/
def State.discardWork (s : State) : State :=
  let s := (allSlots.filter (fun e => (s.task? e).isSome)).foldl State.engineLost s
  let again := s.units.running.map (fun (r : Running) => { r.job with done := 0, saved := 0, inReq := 0, seg := 0 })
  State.closeSession { s with
    units := { s.units with running := [], waiting := again ++ s.units.waiting },
    halves := { s.halves with compares := [] }, acc := { s.acc with pairing := none } }

/-- Sensors that hold GUARD, TEMP apart. -/
def TamperSt.steady (t : TamperSt) : List (Nat × Option Nat) := t.guards.filter (fun (g : Nat × Option Nat) => g.1 != 5)

/-- GUARD of a sensor that is tripped (R668, R669). -/
def State.beginGuard (s : State) (sensor : Nat) : State :=
  let begins := s.gatesOpen
  let guards := (sensor, none) :: s.tamper.guards.filter (fun (g : Nat × Option Nat) => g.1 != sensor)
  let s := s.updTamper (fun t => { t with
    guards := guards,
    guardFrom := if sensor = 5 then t.guardFrom else some (t.guardFrom.getD s.deviceTime) })
  if begins then State.discardWork { s with gatesOpen := false } else s

/-- The warm reset of WARM, HOLD and a Quench. A bring-up under way starts anew (R668, R678). -/
def State.tamperWarm (s : State) : State := s.deviceWarm .tamper

/-- WARM, with ALARM_N for its time (R671, R679). -/
def State.beginWarm (s : State) : State :=
  let till := s.deviceTime + s.fld Fd.TP_CFG_ALARM_10MS * 10000000
  (s.updTamper (fun t => { t with warms := s.deviceTime :: t.warms, alarmTill := some till })).tamperWarm

/-- Q3 and Q4 while Frexus serves: the gates close, and the Quench runs, or is pending until its commit can begin (R674,
R676). -/
def State.beginQuench (s : State) (level : Nat) : State :=
  let s := State.updTamper { s with gatesOpen := false } (fun t => { t with quenchAlarm := true })
  if s.storePower && s.storeReady then (s.runQuench level).tamperWarm
  else { s.updTamper (fun t => { t with quench := level }) with txns := s.txns ++ [.own .quench] }

/-- A response outside bring-up, in a state with the halves powered. -/
def State.respond (s : State) (sensor r : Nat) : State :=
  match r with
  | 0 => s
  | 1 => s.beginGuard sensor
  | 2 => s.beginWarm
  | 3 => (s.updTamper (fun t => { t with hold := true })).tamperWarm
  | _ => s.beginQuench (r - 1)

/-- A response during bring-up, or after one that failed: Q3 and Q4 are pending for the next (R678). -/
def State.respondBooting (s : State) (sensor r : Nat) : State :=
  if r < 4 then s.respond sensor r
  else
    let s := s.updTamper (fun t => { t with quench := r - 1, quenchAlarm := true })
    if s.boot = .failed then s.tamperWarm else s

/-- A response of the sentinel: GUARD and WARM end with the log; HOLD is latched; Q3 and Q4 run in an excursion in Tarn, in which the
log is written, and are pending in Dry (R677, R680). -/
def State.respondParked (s : State) (r : Nat) : State :=
  let s := s.latchWake .tamper
  match r with
  | 0 | 1 => s
  | 2 => s.updTamper (fun t => { t with warms := s.deviceTime :: t.warms })
  | 3 => s.updTamper (fun t => { t with hold := true })
  | _ =>
    let s := s.updTamper (fun t => { t with quench := r - 1, quenchAlarm := true })
    if s.fld Fd.PW_STAT_STATE = 3 && s.storeReady then
      let s := ((s.bump Fd.PW_CNT_EXCURSIONS).railsOn false).flushLog.runPendingQuench.railsOff
      if r = 5 then (s.setPowerState 4).setDomains 1 else s
    else s

/-- An event is decided: counted, answered, logged (R671, R673, R680). -/
def State.decideTamper (s : State) (time sensor sub : Nat) : State :=
  let s := s.updTamper (fun t => { t with
    since := mapSet 0 t.since sensor (mapRead 0 t.since sensor + 1),
    recent := (sensor, time) :: t.recent.filter (fun (c : Nat × Nat) => decide (s.deviceTime < c.2 + 1000000000)) })
  let (r, escalated) := s.response sensor
  let s := s.logTamperAt time sensor sub r escalated
  if r ≤ s.inForce then s
  else if !s.halvesOn then s.respondParked r
  else if s.boot ≠ .up then s.respondBooting sensor r
  else s.respond sensor r

/-- The sensor acts now, and SUB is one of its codes (R663, R666, R680). STRAP is sampled by bring-up. -/
def State.sensorOn (s : State) (sensor sub : Nat) : Bool :=
  let full := s.halvesOn
  match sensor with
  | 1 => decide (sub < 3)
  | 2 => decide (sub < 3) && (full || sub == 0)
  | 3 => decide (sub % 128 < 4 ∧ sub < 256) && (full || sub % 128 == 3)
  | 4 => decide (sub < 2) && (full || sub == 1)
  | 5 => decide (sub < 2)
  | 6 => decide (sub < 3) && full
  | _ => false

/-! ### The rows -/

/-- TAMPER_EVENT: a sensor trips. A dip of a supply is treated as an event under GUARD until it is judged (R663, R664). -/
def execTamperEvent (sensor sub : Nat) (s : State) : Host.Outcome State Fault Refusal :=
  .next <| if !s.sensorOn sensor sub then s else
  let s := s.updTamper (fun t => { t with active := setBit t.active (sensor - 1) })
  if sensor = 3 && sub < 128 then
    if s.tamper.dip.isSome then s
    else
      let s := s.updTamper (fun t => { t with dip := some (sub, s.deviceTime) })
      if s.halvesOn then s.beginGuard 3 else s
  else s.decideTamper s.deviceTime sensor sub

/-- The guard that a dip under judgement held falls away where its response holds none. -/
def State.dropDipGuard (s : State) : State :=
  if firstResponse s.life 3 = 1 || s.raised 3 = 1 then s
  else s.updTamper (fun t => { t with guards := t.guards.filter (fun (g : Nat × Option Nat) => g.1 != 3) })

/-- GUARD has ended for every sensor: the gates open and the discarded work runs again (R668, R669). -/
def State.endGuard (s : State) : State :=
  let s := s.updTamper (fun t => { t with guardFrom := if t.steady.isEmpty && t.dip.isNone then none else t.guardFrom })
  if !s.tamper.guards.isEmpty || s.tamper.dip.isSome || s.gatesOpen || s.boot ≠ .up || s.lc.extest || s.tamper.quench ≠ 0 ||
     !s.halvesOn then s
  else (State.serve { s with gatesOpen := true } 16).serveQueue 10

/-- GLITCH_DECIDE: 3 us after the start of a dip, with no brown-out or power-on reset of its rail, it stands as an event
(R664). -/
def execGlitchDecide (s : State) : Host.Outcome State Fault Refusal :=
  .next <| match s.tamper.dip with
  | none => s
  | some (sub, time) =>
    if s.deviceTime < time + 3000 then s
    else ((s.updTamper (fun t => { t with dip := none })).dropDipGuard.decideTamper time 3 sub).endGuard

/-- SENSOR_CLEAR: a sensor is no longer tripped (R669). -/
def execSensorClear (sensor : Nat) (s : State) : Host.Outcome State Fault Refusal :=
  .next <| if sensor = 0 || 7 < sensor then s else
  s.updTamper (fun t => { t with
    active := clrBit t.active (sensor - 1),
    guards := t.guards.map (fun (g : Nat × Option Nat) => if g.1 = sensor && g.2.isNone then (g.1, some s.deviceTime) else g) })

/-- GUARD of a sensor runs out 1 ms after it cleared; that of LINK 100 us after the transfer passed, that of TEMP as the
others (R669). -/
def guardOver (now : Nat) (g : Nat × Option Nat) : Bool :=
  match g.2 with
  | none => false
  | some t => decide (t + (if g.1 = 6 then 100000 else 1000000) ≤ now)

/-- GUARD_END: GUARD ends, or has lasted 100 ms without a break and becomes WARM (R669). -/
def execGuardEnd (s : State) : Host.Outcome State Fault Refusal :=
  .next <|
    let s := (s.updTamper (fun t => { t with guards := t.guards.filter (fun (g : Nat × Option Nat) => !guardOver s.deviceTime g) })).endGuard
    match s.tamper.guardFrom with
    | none => s
    | some from' =>
      if s.deviceTime < from' + 100000000 || s.tamper.steady.isEmpty || !s.halvesOn then s
      else
        let r := s.escalate 2
        if s.boot = .up then s.respond 0 r else s.respondBooting 0 r

/-- ALARM_END: the time of ALARM_N after a WARM has passed (R679). -/
def execAlarmEnd (s : State) : Host.Outcome State Fault Refusal :=
  .next <| match s.tamper.alarmTill with
  | some t => if t ≤ s.deviceTime then s.updTamper (fun u => { u with alarmTill := none }) else s
  | none => s

/-- TP_RELEASE: P0 releases a HOLD, which starts a device warm reset; any other write is recorded (R675, R683). -/
def execTpRelease (src : Nat) (data : Word) (s : State) : Host.Outcome State Fault Refusal :=
  .next <| if !s.pageOpen src pgTp then s
  else if bitsOf data.toNat 31 16 = 0x5A3C && s.tamper.hold && s.life ≠ 5 then
    if bit data.toNat 0 then (s.updTamper (fun t => { t with hold := false })).tamperWarm else s
  else s.errCap pgTp src 0x04 0x10C data.toNat

end Sys2Proof.Machine
end

