-- ==== Sys2Proof/Machine/RegView.lean ====
section
/-! DEFINITION. What a register reads: the stored word, with the fields that show other state computed from it; write-only
and reserved bits read 0 (00_scope.md R15, R17; the register tables of all chapters). -/

namespace Sys2Proof.Machine

/-! ### Parts of several views -/

/-- Jobs of a kind that wait, by class, saturating at 255 (10 R408, 14 R534). -/
def State.depth (s : State) (p : UnitKind → Bool) (cls : Nat) : Nat :=
  satTo 255 (s.units.waiting.filter (fun j => p j.unit && j.cls == cls)).length

/-- Bits [32k + 31:32k] of a mask of numbers. -/
def maskWord (l : List Nat) (k : Nat) : Nat := listMask l / 2 ^ (32 * k) % 2 ^ 32

/-- The TAP is open: past bring-up step 5, and not in SCRAP (20 R694). -/
def State.tapOpen (s : State) : Bool := decide (5 ≤ s.fld Fd.BOOT_STAT_STEP) && s.life != 7

/-- ALARM_N is driven low; in Dry nothing is driven (19 R679). -/
def State.alarm (s : State) : Bool :=
  (s.tamper.hold || s.tamper.quenchAlarm || s.tamper.alarmTill.isSome) && s.fld Fd.PW_STAT_STATE != 4

/-- The highest response in force (19 R683). -/
def State.respNow (s : State) : Nat := max s.inForce (if s.tamper.guards.isEmpty then 0 else 1)

/-- The 16 bytes of a log entry (19 R680). -/
def TpEntry.bytes (e : TpEntry) : Bytes :=
  leBytes 8 e.time ++ leBytes 1 e.sensor ++ leBytes 1 e.sub ++ leBytes 1 e.resp ++ leBytes 1 e.ctx ++ leBytes 4 e.seq

/-- A task is halted by the TAP. -/
def State.anyHalted (s : State) : Bool := allSlots.any (fun e => match s.task? e with | some t => t.halted | none => false)

/-- What GPIO ball k does: GPIO0-3 are test points under ANALOG, and until step 9 of bring-up every one is an input (20 R698; 21
R726). -/
def State.gpioMode (s : State) (k : Nat) : Nat :=
  if (k < 4 && bit s.lc.scope 4) || (s.boot ≠ .up && s.fld Fd.BOOT_STAT_STEP < 9) then 0 else s.fld (Fd.GPIO_CFG_MODE k)

/-- The level that a host output or a release output asks for (21 R726; 08 R315). -/
def State.gpioAsked (s : State) (k : Nat) : Option Bool :=
  match s.gpioMode k with
  | 1 => some (bit (s.fld Fd.GPIO_OUT_LEVEL) k)
  | 2 => some ((s.acc.pulses.any (fun c => c.1 == k)) == (s.fld (Fd.GPIO_CFG_ACT_HIGH k) == 1))
  | _ => none

/-- Level of GPIO ball k: an output drives its own, but for the high level of an open drain, which like that of an input comes from
outside (21 R726, R727). -/
def State.gpioLevel (s : State) (k : Nat) : Bool :=
  match s.gpioAsked k with
  | some b => if b && s.fld (Fd.GPIO_CFG_OD k) == 1 then Config.pinLevel k s.deviceTime else b
  | none => Config.pinLevel k s.deviceTime

/-! ### Pages -/

/-- The block of a device page cannot serve: its reference, its supply, its units or its entropy is missing, or both halves are lost
(04 R124; 02 R60, R79; 15 R544). -/
def State.pageFault (s : State) (pg : Nat) : Bool :=
  let u := s.supply
  let none' := fun (k : UnitKind) => s.unitMask k .north == 0 && s.unitMask k .south == 0
  s.halves.lost ||
  (if [0x041000, 0x042000, 0x043000, 0x050000, 0x051000, 0x062000, 0x100000].contains pg then u.lostRef38
   else if pg = 0x040000 then u.lostXtal
   else if pg = 0x030000 then u.serdesLow || u.lostLane
   else if pg = 0x070000 then none' .hammer
   else if pg = 0x0A0000 then none' .anvil
   else if pg = 0x0B0000 then s.noEntropy
   else if pg = 0x0C0000 then !s.storePower
   else false)

/-- Fields of the page header that show other state (04 R124). -/
def State.viewHeader (s : State) (pg : Nat) : List (Fld × Nat) :=
  let id := (pgId pg).toNat
  let fails := match addrPart pg with | some _ => s.boot = .failed || s.halves.lost | none => s.pageFault pg
  let sources := devPages.any (fun c => c.1 == pg && c.2)
  let own := sources || pg == 0x050000
  let rwl := own || (regTableDev.any (fun d => pageOf d.off == pg && d.fields.any (fun f => f.acc = .rwl)))
  let busy := match addrPart pg with
    | some p => addrOff pg == 0 && (!(s.inflight.filter (fun c => c.key.part == p)).isEmpty || (s.part? p).any (fun q => q.inReset.isSome))
    | none => !s.inflight.isEmpty
  let reset := match addrPart pg with | some p => addrOff pg == 0 && (s.part? p).any (fun q => q.inReset.isSome) | none => false
  let owner := match addrPart pg with | some p => [(Fd.PG_OWNER_VALID pg, 1), (Fd.PG_OWNER_PART pg, p)] | none => []
  [(Fd.PG_ID_WINDOW pg, bitsOf id 31 24), (Fd.PG_ID_RANGE pg, bitsOf id 23 16), (Fd.PG_ID_PAGE pg, bitsOf id 15 8),
   (Fd.PG_ID_PART pg, bitsOf id 7 0),
   (Fd.PG_CAP_INT pg, b2n sources), (Fd.PG_CAP_LOCK pg, b2n rwl), (Fd.PG_CAP_OWN pg, b2n own),
   (Fd.PG_STAT_FENCED pg, b2n (s.fld Fd.HW_ROLE_N_STATE == 2 || s.fld Fd.HW_ROLE_S_STATE == 2 || s.fld Fd.HW_ROLE_N_STATE == 3 ||
      s.fld Fd.HW_ROLE_S_STATE == 3)),
   (Fd.PG_STAT_OWNED pg, if (addrPart pg).isSome then 1 else s.fld (Fd.PG_OWNER_VALID pg)),
   (Fd.PG_STAT_LOCKED pg, s.fld (Fd.PG_LOCK_LOCK pg)), (Fd.PG_STAT_FAULT pg, b2n fails), (Fd.PG_STAT_BUSY pg, b2n busy),
   (Fd.PG_STAT_READY pg, b2n (s.boot = .up && !fails && !reset && s.fld (Fd.PG_CTL_ENABLE pg) == 1)),
   (Fd.INT_STAT_STAT pg, s.intStat pg)] ++ owner

/-- The partition window of p: the read-only values of its header, of the partition page as the rows of 04 R131 list them, and of its
other pages (04 R129, R130, R131, R146-R157; 05 R169; 06 R246; 07 R285; 08 R323; 18 R662). -/
def State.viewPart (s : State) (p : Nat) : List (Fld × Nat) :=
  match s.part? p with
  | none => [(Fd.PH_INFO_PART p, p)]
  | some q =>
    let c := q.cfg
    let evr := match q.evr with
      | some r => [(Fd.EVR_CFG_ENABLE p, 1), (Fd.EVR_TAIL_PHASE p, b2n r.phase), (Fd.EVR_TAIL_TAIL p, r.tail), (Fd.EVR_STAT_ACTIVE p, 1)]
      | none => [(Fd.EVR_CFG_ENABLE p, 0)]
    let secure := (List.range 5).filter (fun r => s.parts.any (fun c => c.2.cfg.secure && bit c.2.hold r))
    [(Fd.PH_INFO_EXISTS p, 1), (Fd.PH_INFO_ACCESS p, b2n c.access), (Fd.PH_INFO_COMPAT p, b2n q.compat),
     (Fd.PH_INFO_WORLD p, b2n c.secure), (Fd.PH_INFO_PART p, p),
     (Fd.EVR_STAT_LOST p, q.lost), (Fd.EVR_STAT_HELD p, q.held.length),
     (⟨winBase p + 0x3C00, 31, 0⟩, (s.fn p).pending % 2 ^ 32),
     (Fd.QV_CFG_LANE_SHARE p, c.laneShare), (Fd.QV_CFG_ENGINE_SHARE p, c.engineShare), (Fd.QV_CFG_HAMMER_SHARE p, c.hammerShare),
     (Fd.QV_CFG_CLASS p, c.cls), (Fd.QV_RING_QUOTA p, c.ringQuota), (Fd.QV_RING_USED p, q.ringCount),
     (Fd.QV_FLOW_QUOTA_QUOTA p, c.flowQuota), (Fd.QV_FLOW_USED_USED p, s.flowsOf p),
     (Fd.QV_PSLOT_QUOTA p, c.pslotQuota), (Fd.QV_PSLOT_USED p, s.slotsHeld p false),
     (Fd.QV_VSLOT_QUOTA p, c.vslotQuota), (Fd.QV_VSLOT_USED p, s.slotsHeld p true),
     (Fd.PV_HOLD_HOLD p, q.hold), (Fd.PV_GATE_GATE p, q.gate),
     (Fd.PV_DEFER_DEFER p, (q.hold &&& s.gated) ||| maskDiff q.gate s.gated),
     (Fd.PV_STATE_SECURE_HELD p, listMask secure), (Fd.PV_STATE_GATED p, s.gated),
     (Fd.RVV_STAT_STATE p, s.fld Fd.PW_STAT_STATE), (Fd.RVV_STAT_LEVEL p, s.level), (Fd.RVV_STAT_WELCOME_S p, s.fld Fd.RV_PLAN_WELCOME_S),
     (Fd.RVV_PLAN_DAYS p, s.fld Fd.RV_PLAN_DAYS)] ++ evr ++
    (List.range 8).flatMap (fun k =>
      [(Fd.RC_SQ_ACTIVE_ACTIVE p k, maskWord (q.sqs.map (·.id)) k), (Fd.RC_CQ_ACTIVE_ACTIVE p k, maskWord (q.cqs.map (·.id)) k)])

/-- Pages 0x00_0000, 0x00_1000 and 0x01_0000 (20 R704; 04 R144). -/
def State.viewControl (s : State) : List (Fld × Nat) :=
  let p := s.lc.progress
  let which := fun (f : PartSt → Bool) => (s.parts.filter (fun c => f c.2)).map (·.1)
  [(Fd.LC_STAT_PENDING, b2n p.isSome), (Fd.LC_STAT_STEP, match p with | some (_, _, n) => n | none => 0),
   (Fd.LC_STAT_TARGET, match p with | some (_, t, _) => t | none => 0), (Fd.LC_STAT_FUSED, s.lc.fused), (Fd.LC_STAT_STATE, s.life),
   (Fd.DBG_STAT_ACTIVE, b2n s.keys.grant.isSome), (Fd.DBG_STAT_CHALLENGE, b2n s.lc.challenge.isSome),
   (Fd.DBG_STAT_OPEN, b2n s.tapOpen), (Fd.DBG_STAT_TEST, b2n (s.fld Fd.STRAP_STAT_TEST_EN == 1 && decide (s.life ≤ 2))),
   (Fd.DBG_STAT_HALTED, b2n s.anyHalted), (Fd.DBG_STAT_SCOPE, s.lc.scope),
   (Fd.PM_ACCESS_VALID, b2n s.accessPart.isSome), (Fd.PM_ACCESS_PART, s.accessPart.getD 0)] ++
  (List.range 2).flatMap (fun k =>
    [(Fd.PM_EXIST_EXISTS k, maskWord (which (fun _ => true)) k), (Fd.PM_SECURE_SECURE k, maskWord (which (fun q => q.cfg.secure)) k),
     (Fd.PM_COMPAT_COMPAT k, maskWord (which (fun q => q.compat)) k)])

/-- Queue table, Spillway, lanes and flows (05 R167; 09 R374, R375). -/
def State.viewTraffic (s : State) : List (Fld × Nat) :=
  let flows := (s.flowHandles.filter (fun h => !isSpill h)).length
  let cached := fun (h : Half) => (s.flows.filter (fun (c : Nat × Flow) =>
    homeHalf c.1 = h && (match c.2.spill with | some i => i.cached | none => false))).length
  [(Fd.QT_RINGS_LENT, s.lentQueues.length), (Fd.QT_RINGS_RINGS, s.ringQueues.length), (Fd.QT_FLOWS_FLOWS, flows),
   (Fd.QT_FREE_FREE, 262144 - flows - s.ringQueues.length),
   (Fd.SPILL_SLOTS_USABLE, s.spill.usable), (Fd.SPILL_USED_USED, (s.flowHandles.filter isSpill).length),
   (Fd.SPILL_RETIRED_RETIRED, s.spill.retired.length), (Fd.SPILL_CACHE_NORTH, cached .north), (Fd.SPILL_CACHE_SOUTH, cached .south),
   (Fd.FE_STAT_STALLED, (s.flows.filter (fun (c : Nat × Flow) => c.2.ctx.stalled)).length)] ++
  (List.range 8).flatMap (fun n =>
    [(Fd.LANE_STAT_USX n, s.fld Fd.STRAP_STAT_USX_SEL), (Fd.LANE_STAT_OCC_KB n, (s.occupancy n + 1023) / 1024)])

/-- Access (06 R212, R246; 08 R323, R324). -/
def State.viewAccess (s : State) : List (Fld × Nat) :=
  [(Fd.AC_STAT_POLICY, b2n s.acc.policy.isSome), (Fd.AC_STAT_LEVEL, s.level),
   (Fd.AC_STAT_PAIRED, listMask (s.acc.fobs.map (·.id))), (Fd.IM_STAT_V1, b2n s.immo.v1),
   (Fd.IM_STAT_CONFIGURED, b2n s.immo.config.isSome), (Fd.IM_CNT_LO_COUNTER, s.immo.counter % 2 ^ 32),
   (Fd.IM_CNT_HI_COUNTER, s.immo.counter / 2 ^ 32 % 2 ^ 16)] ++
  (List.range 6).flatMap (fun n => match s.hs.chans[n]? with
    | some c => [(Fd.HS_MEAS_BASE n, c.base / 256), (Fd.HS_MEAS_COUNT n, c.count)]
    | none => [])

/-- Hammers, engines, Crucible, Anvils, Wellhead and Bellows (10 R408; 11 R450; 13 R510; 14 R534; 15 R555). -/
def State.viewUnits (s : State) : List (Fld × Nat) :=
  let hm := s.depth (fun u => u = .hammer || u = .digest)
  let av := s.depth (fun u => u = .anvil)
  let held := fun (v : Bool) => (s.keys.slots.filter (fun c => slotVolatile c.1 == v)).length
  let fuse := fun (i : Nat) => b2n (mapGet s.keys.fuses i).isSome
  [(Fd.HM_QDEPTH_RELEASE, hm 0), (Fd.HM_QDEPTH_CONTROL, hm 1), (Fd.HM_QDEPTH_BULK, hm 2), (Fd.HM_QDEPTH_BACKGROUND, hm 3),
   (Fd.AV_QDEPTH_RELEASE, av 0), (Fd.AV_QDEPTH_CONTROL, av 1), (Fd.AV_QDEPTH_BULK, av 2), (Fd.AV_QDEPTH_BACKGROUND, av 3),
   (Fd.EN_FW_FW_SVN, match s.kalmel.firmware with | some m => m.svn | none => 0), (Fd.EN_FW_DEC_SVN, s.kalmel.decodeSvn),
   (Fd.EN_STAGE_PENDING, listMask (s.kalmel.staged.map (·.1))), (Fd.EN_APPLETS_LOADED, listMask (s.kalmel.applets.map (·.1))),
   (Fd.CR_SLOTS_VUSED, held true), (Fd.CR_SLOTS_PUSED, held false),
   (Fd.AV_SIGNERS_F0, fuse 0), (Fd.AV_SIGNERS_F1, fuse 1), (Fd.AV_SIGNERS_A0, fuse 2), (Fd.AV_SIGNERS_A1, fuse 3),
   (Fd.AV_SIGNERS_D0, fuse 4), (Fd.AV_SIGNERS_DEVCERT, b2n s.devCertOk),
   (Fd.WH_RAW_DATA, match (s.well (s.fld Fd.WH_CTL_RAW_HALF)).raw with | w :: _ => w.toNat | [] => 0),
   (Fd.WH_RAWSTAT_LEVEL, (s.well (s.fld Fd.WH_CTL_RAW_HALF)).raw.length)] ++
  (List.range 2).flatMap (fun n =>
    [(Fd.WH_STAT_POOL n, (s.well n).pool / 8), (Fd.BW_STAT_STRETCH n, b2n (s.well n).stretched),
     (Fd.BW_STAT_WAITING n, b2n (s.atLimit n)), (Fd.BW_STAT_SINCE_KIB n, (s.well n).since / 1024)])

/-- The OK bit of reference k: its offset, a measured value, lies within 1,000 ppm; between a loss and the end of its 1 ms of OK
the edges have come back or not, which is free (02 R78-R80; notes/assumptions 97). -/
def State.refOk (s : State) (k : Nat) (lost : Bool) : Bool :=
  let ppm := Config.measured (Reg.CLKMON_STAT + k) s.deviceTime % 65536
  (decide (ppm ≤ 1000) || decide (64536 ≤ ppm)) && (!lost || Config.refBack k s.deviceTime)

/-- EE store, halves, power, card, GPIO and telemetry (16 R588; 17 R626; 18 R660; 21 R713, R726; 22 R741; 02 R80). -/
def State.viewSlow (s : State) : List (Fld × Nat) :=
  let u := s.supply
  let temp := fun (d : Nat) (f : Fld) => if bit s.domains d then Config.measured (f.addr + f.lo) s.deviceTime else 0
  let target := s.fld Fd.PW_REQ_TARGET
  [(Fd.EE_STAT_CLEARING, b2n (!s.ee.clearing.isEmpty)),
   (Fd.EE_STAT_SUSPENDED, b2n (!s.ee.clearing.isEmpty && !(s.storePower && s.halvesOn))),
   (Fd.EE_STAT_J_WAIT, b2n (!s.txns.isEmpty)), (Fd.EE_STAT_J_FREE, 512),
   (Fd.EE_SAN_RANGES, satTo 255 s.ee.clearing.length), (Fd.EE_SAN_REMAIN, s.remain),
   (Fd.HW_LEASE_REMAIN_US, (s.halves.leaseEnd - s.deviceTime) / 1000), (Fd.HW_INPUT_USED_KIB, (s.inputUsed + 1023) / 1024),
   (Fd.HW_WEIR_WAITN_NS, s.weirLongest 0), (Fd.HW_WEIR_WAITS_NS, s.weirLongest 1), (Fd.PW_STAT_DEFER, b2n s.deferred), (Fd.PW_STAT_WAIT, if target = 0 then 0 else s.parkWait target), (Fd.PW_STAT_PENDING, target),
   (Fd.CD_STAT_TXN, b2n s.card.txn.isSome), (Fd.CD_STAT_TXN_PART, match s.card.txn with | some t => t.part | none => 0),
   (Fd.GPIO_IN_LEVEL, listMask ((List.range 12).filter s.gpioLevel)),
   (Fd.CLKMON_STAT_REF38_OK, b2n (s.refOk 0 u.lostRef38)), (Fd.CLKMON_STAT_XTAL_OK, b2n (s.refOk 1 u.lostXtal)),
   (Fd.CLKMON_STAT_PCIE_OK, b2n (s.refOk 2 u.lostPcie)), (Fd.CLKMON_STAT_LANE_OK, b2n (s.refOk 3 u.lostLane)),
   (Fd.CLKMON_STAT_REF38_PPM, Config.measured Reg.CLKMON_STAT s.deviceTime),
   (Fd.TM_TEMP_SHORE, temp 13 Fd.TM_TEMP_SHORE), (Fd.TM_TEMP_NORTH, temp 31 Fd.TM_TEMP_NORTH), (Fd.TM_TEMP_SOUTH, temp 49 Fd.TM_TEMP_SOUTH),
   (Fd.TM_UTIL_N_HAM, temp 31 Fd.TM_UTIL_N_HAM % 101), (Fd.TM_UTIL_N_ENG, temp 31 Fd.TM_UTIL_N_ENG % 101),
   (Fd.TM_UTIL_S_HAM, temp 49 Fd.TM_UTIL_S_HAM % 101), (Fd.TM_UTIL_S_ENG, temp 49 Fd.TM_UTIL_S_ENG % 101)]

/-- Tamper (19 R683). -/
def State.viewTamper (s : State) : List (Fld × Nat) :=
  let t := s.tamper
  let shown := match t.log[s.fld Fd.TP_LOG_SEL_AGE]? with | some e => e.bytes | none => []
  [(Fd.TP_STAT_RESP, s.respNow), (Fd.TP_STAT_PENDING, b2n (t.quench != 0)), (Fd.TP_STAT_HOLD, b2n t.hold),
   (Fd.TP_STAT_GUARD, b2n (!t.guards.isEmpty)), (Fd.TP_STAT_ALARM, b2n s.alarm), (Fd.TP_STAT_ACTIVE, t.active),
   (Fd.TP_LIFE_WARM, t.lifeWarm), (Fd.TP_LIFE_Q3, t.lifeQ3), (Fd.TP_LOG_HEAD_NEXT, t.seq)] ++
  (List.range 4).map (fun k => (Fd.TP_LOGD_DATA k, leAt shown (4 * k) 4)) ++
  (List.range 7).flatMap (fun i =>
    [(Fd.TP_CNT_LIFE (i + 1), mapRead 0 t.lifeCnt (i + 1)), (Fd.TP_CNT_SINCE (i + 1), mapRead 0 t.since (i + 1))])

/-- The computed fields of the page an address lies in. -/
def State.views (s : State) (a : Nat) : List (Fld × Nat) :=
  if a % 0x1000 < 0x100 then s.viewHeader (pageOf a)
  else match addrPart a with
    | some p => s.viewPart p
    | none =>
      if a < 0x20000 then s.viewControl
      else if a < 0x40000 then s.viewTraffic
      else if a < 0x62000 then s.viewAccess
      else if 0x070000 ≤ a ∧ a < 0x0C0000 then s.viewUnits
      else if 0x0F0000 ≤ a ∧ a < 0x100000 then s.viewTamper
      else s.viewSlow

/-- The register an address of the access service page stands for: its registers that equal another, and the TA28 aliases
(06 R246; 07 R285, R286; 08 R323, R325). -/
def aliasOf (o : Nat) : Option Nat :=
  match o with
  | 0x7180 => some Reg.RNG_LAST | 0x7200 => some Reg.AC_LAST | 0x7204 => some Reg.IM_STAT
  | 0x7800 => some Reg.HS_STAT | 0x7804 => some Reg.LF_STAT | 0x7808 => some Reg.UHF_SLOTRES | 0x780C => some Reg.UHF_RSSI
  | 0x7810 => some Reg.BC_STAT
  | 0x7900 => some Reg.RNG_LAST | 0x7904 => some Reg.RNG_DIST | 0x7908 => some Reg.RNG_CNT0
  | 0x7A00 => some Reg.AC_LAST | 0x7A04 => some Reg.IM_STAT | 0x7A08 => some Reg.AC_CNT0
  | _ => none

/-- Bits of write-only fields. -/
def hiddenBits (fs : List FieldDesc) : List FieldDesc := fs.filter (fun f => f.acc = .wo)

/-- A stored word with its computed fields. -/
def State.shown (s : State) (a : Nat) : Word :=
  let w := (s.views a).foldl (fun (w : Word) (c : Fld × Nat) => if c.1.addr = a then insertBits w c.1.hi c.1.lo c.2 else w) (s.reg a)
  match regDesc a with
  | some d => (hiddenBits d.fields).foldl (fun (w : Word) (f : FieldDesc) => insertBits w f.hi f.lo 0) w
  | none => 0

/-- AS_FE_STAT equals fields of four registers (06 R246). -/
def State.feStat (s : State) : Word :=
  let parts := [(31, 31, s.fld Fd.LF_STAT_VLF_LOW), (26, 24, s.fld Fd.BC_STAT_STATE), (23, 16, s.fld Fd.LF_STAT_EXCLUDED),
    (13, 8, s.fld Fd.HS_STAT_FAULT), (5, 0, s.fld Fd.HS_STAT_TOUCHED)]
  parts.foldl (fun (w : Word) (c : Nat × Nat × Nat) => insertBits w c.1 c.2.1 c.2.2) 0

/-- What a read of the register at flat address a returns (R15, R17, R117; 04 R123, R127, R130). Of a partition that does not exist
only PG_ID reads other than 0, on every page of its window that is not reserved. -/
def State.view (s : State) (a : Nat) : Word :=
  match addrPart a with
  | none => if s.pageExists (pageOf a) then s.shown a else 0
  | some p =>
    if (s.part? p).isNone then (if a % 0x1000 = 0 && addrOff a < 0x7000 then pgId (pageOf a) else 0)
    else if !s.pageExists (pageOf a) then 0
    else if addrOff a = 0x7100 then s.feStat
    else match aliasOf (addrOff a) with
      | some b => if addrOff a < 0x7800 || (s.part? p).any (fun q => q.compat) then s.shown b else 0
      | none => s.shown a

/-- The n bytes at offset o of the aligned word at a, as a read of fewer bytes returns them (R117). -/
def State.viewBytes (s : State) (a o n : Nat) : Bytes := slice (leBytes 4 (s.view a).toNat) o n

/-- An offset of a page that holds no register: a reserved one (R117). -/
def State.noReg (s : State) (a : Nat) : Bool :=
  s.pageExists (pageOf a) && (regDesc a).isNone && (aliasOf (addrOff a)).isNone &&
  !((addrPart a).isSome && addrOff a = 0x7100)

/-- A read by src of n bytes at offset o of the word at flat address a: the bytes, and the state, in which an access to a reserved
offset is captured with cause 0x05 (R117, R124). -/
def State.readReg (s : State) (src a o n : Nat) : Bytes × State :=
  (s.viewBytes a o n, if s.noReg a then s.errCap (pageOf a) (src % 64) 0x05 (a % 0x1000 + o) 0 else s)

end Sys2Proof.Machine
end

