-- ==== Sys2Proof/Machine/RegWrite.lean ====
section
/-! DEFINITION. Register writes: access codes, refusals and their capture, value ranges, registers whose writes have rows of
their own, and PG_LOCK with its journal (00_scope.md R15-R18, R748; 04 R117, R124-R130; 06 R244; 16 R560). -/

namespace Sys2Proof.Machine

/-! ### PG_LOCK (06 R244; 16 R560, R561) -/

/-- Pages whose RWL fields are journalled at a lock: lanes, the four front-end pages, UWB configuration, EE store, power,
Reservoir, tamper and slow I/O (06 R244; 07 R283; 09; 16 R588; 18 R660, R661; 19 R683; 21). -/
def journalled : List Nat :=
  [0x030000, 0x040000, 0x041000, 0x042000, 0x043000, 0x050000, 0x062000, 0x0C0000, 0x0E0000, 0x0E1000, 0x0F0000, 0x100000,
   0x101000, 0x102000]

def pgEe : Nat := 0x0C0000

/-- The staged region table. -/
def State.stagedTable (s : State) : List Word := (List.range 32).map (fun k => s.reg (Reg.EE_RGN k))

/-- The RWL fields of a register with those of a journalled word. -/
def withRwl (fs : List FieldDesc) (w from' : Word) : Word :=
  fs.foldl (fun (w : Word) (f : FieldDesc) => if f.acc = .rwl then insertBits w f.hi f.lo (bitsOf from'.toNat f.hi f.lo) else w) w

/-- The words of page pg that differ from reset and hold an RWL field. -/
def State.pageWords (s : State) (pg : Nat) : List (Nat × Word) :=
  s.regs.filter (fun (c : Nat × Word) => pageOf c.1 == pg &&
    (match regDesc c.1 with | some d => d.fields.any (fun f => f.acc = .rwl) | none => false))

/-- The commit that journals a page; with the EE store's it serves the table anew (R244, R560, R561). -/
def State.commitPage (s : State) (pg : Nat) : State :=
  let s := { s with journals := mapPut s.journals pg (s.pageWords pg) }
  if pg = pgEe then s.serveTable s.stagedTable else s

/-- A page's commit may begin: the journal may be written, and no STORE_READ reads a page it marks (16 R569, R571). -/
def State.pageCommits (s : State) (pg : Nat) : Bool :=
  s.canCommit && !(pg == pgEe && s.readHolds (List.range 4096 |>.map (· + userPage0)))

/-- Journal page pg now, or as a transaction of Frexus's own. -/
def State.journalPage (s : State) (pg : Nat) : State :=
  if s.pageCommits pg then s.commitPage pg
  else if s.txns.contains (.own (.pageJournal pg)) then s
  else { s with txns := s.txns ++ [.own (.pageJournal pg)] }

/-- PG_LOCK: LOCK freezes the page's RWL fields and journals them; an invalid region table refuses it (R124, R126, R244,
R560). -/
def execPgLock (src pg : Nat) (data : Word) (s : State) : Host.Outcome State Fault Refusal :=
  .next <| if !s.pageOpen src pg || !bit data.toNat 0 || s.locked pg then s
  else if pg = pgEe && tableBad (s.stagedTable.map (fun (w : Word) => { Region.none with word := w })) then
    s.errCap pg src 0x80 0x050 data.toNat
  else
    let s := s.setFld (Fd.PG_LOCK_LOCK pg) 1
    if journalled.contains pg then s.journalPage pg else s

/-! ### Values (06 R220, R232; 07 R284; 18 R661) -/

/-- A receive frequency lies in a band of R232, in kHz. -/
def uhfBand (v : Nat) : Bool :=
  decide (314000 ≤ v ∧ v ≤ 316000) || decide (433050 ≤ v ∧ v ≤ 434790) || decide (868000 ≤ v ∧ v ≤ 868600) ||
  decide (902000 ≤ v ∧ v ≤ 928000)

/-- The values the field of register a at bit lo takes; w is the word with the fields below it written. A value outside
leaves the field unchanged and is recorded with cause 0x80 (R220, R232, R284, R661). -/
def valueOk (a lo v : Nat) (w : Nat) : Bool :=
  let within := fun (l h : Nat) => decide (l ≤ v ∧ v ≤ h)
  if a = Reg.LF_CARRIER then within 119000 135000
  else if a = Reg.UHF_FREQ then uhfBand v
  else if a = Reg.UWB_PHY then
    (match lo with | 24 => within 70 126 | 16 => within 0 2 | 12 => within 0 2 | 8 => within 9 12 | _ => true)
  else if a = Reg.UWB_TIMING then (if lo = 16 then within 500 10000 else within 5 200)
  else if a = Reg.UWB_KEYWIN then
    (if lo = 16 then within 500 10000 && decide (w % 65536 ≤ v) else within 200 10000)
  else if a = Reg.UWB_POLICY then (match lo with | 24 => within 64 255 | 16 => within 5 200 | 8 => within 10 255 | _ => true)
  else if a = Reg.UWB_LIMIT then within 100 60000
  else if a = Reg.UWB_DETECT then (if lo = 8 then within 6 64 else within 8 128)
  else if a = Reg.RV_CONV then (if lo = 24 then within 50 100 else within 6000 16000)
  else if a = Reg.RV_WELCOME then (if lo = 16 then decide (w % 65536 ≤ v) else within 1 3600)
  else if a = Reg.RV_SCAN then (if lo = 16 then within (w % 65536) 2000 else within 20 2000)
  else true

/-- Fields whose values are clamped (06 R220, R221, R241). -/
def clampTo (a lo v : Nat) : Nat :=
  if a = Reg.LF_BURST && lo = 0 then max 200 (min 4000 v)
  else if Reg.LF_CH 0 ≤ a && a < Reg.LF_CH 8 && lo = 0 then max 10 (min 1000 v)
  else if a = Reg.BC_CFG && lo = 16 then max 100 (min 1000 v)
  else v

/-- A write that leaves its whole register unchanged, with its cause: UWB calibration outside MAKER (07 R284), and a
TP_RAISE with a field at 3, 6 or 7 (19 R672). -/
def State.wholeRefused (s : State) (a d : Nat) : Option Nat :=
  if Reg.UWB_CAL 0 ≤ a && a < Reg.UWB_CAL 4 && s.life ≠ 4 then some 0x81
  else if a = Reg.TP_RAISE && (List.range 6).any (fun k => [3, 6, 7].contains (bitsOf d (3 * k + 2) (3 * k))) then some 0x80
  else none

/-! ### One register (R17, R18, R748) -/

/-- A word while its fields take a write, and the causes recorded so far. -/
structure WriteSt where
  word : Word
  causes : List Nat

/-- One field takes its part of the data by its access code. -/
def writeField (a : Nat) (locked secure : Bool) (d : Nat) (x : WriteSt) (f : FieldDesc) : WriteSt :=
  let v := bitsOf d f.hi f.lo
  let take := if valueOk a f.lo v x.word.toNat then { x with word := insertBits x.word f.hi f.lo (clampTo a f.lo v) }
    else { x with causes := x.causes ++ [0x80] }
  let old := bitsOf x.word.toNat f.hi f.lo
  match f.acc with
  | .ro | .wo => x
  | .rw => take
  | .rwl => if locked then { x with causes := x.causes ++ [0x02] } else take
  | .rws => if secure then take else { x with causes := x.causes ++ [0x03] }
  | .w1c => { x with word := insertBits x.word f.hi f.lo (maskDiff old v) }
  | .w1s => { x with word := insertBits x.word f.hi f.lo (old ||| v) }

/-- Controllers, card, lanes, alarm and messages follow registers that were written (01 R38; 04 R125, R145; 18 R641; 21
R710, R721). -/
def State.afterWrite (s : State) (a oldStat : Nat) : State :=
  if a % 0x1000 = 0x24 then s.intNotify (pageOf a) oldStat
  else match addrPart a with
    | some p => if 0x3800 ≤ addrOff a && addrOff a < 0x3C00 then s.flushMsgs p else s
    | none =>
      if a = Reg.AVS_CTL then (if s.vmax < s.coreAsked then s.askCore s.vmax true else s)
      else if pageOf a = pgCan then s.canSettleAll
      else if pageOf a = pgCard then s.cardSettle
      else if Reg.LANE_CFG 0 ≤ a && a < Reg.LANE_CFG 8 then
        let n := (a - Reg.LANE_CFG 0) / 4
        if s.fld (Fd.LANE_CFG_EN n) = 0 then s.laneDown n else s
      else if a = Reg.PW_ALARM_LO || a = Reg.PW_ALARM_HI then s.updPower (fun p => { p with alarmed := false })
      else s

/-- A write to a register without a row of its own. -/
def State.writePlain (s : State) (src a : Nat) (d : RegDesc) (data : Nat) : State :=
  let pg := pageOf a
  let x := d.fields.reverse.foldl (writeField a (s.locked pg) (s.secure src) data) { word := s.reg a, causes := [] }
  let old := s.intStat pg
  let s := if x.word = s.reg a then s else (s.setReg a x.word).afterWrite a old
  match x.causes with
  | [] => s
  | c :: _ => s.errCap pg src c (pageOff a) data

/-! ### Where a write goes -/

/-- The state an effect ends in. -/
def State.after (s : State) (o : Host.Outcome State Fault Refusal) : State :=
  match o with
  | .next t => t
  | .fault _ => s
  | .refused _ => s

/-- Header registers with rows of their own (04 R124). -/
def State.writeHeader (s : State) (src a : Nat) (data : Word) : Option State :=
  let pg := pageOf a
  match a % 0x1000 with
  | 0x10 =>
    let s := s.after (execQuiesce src pg data s)
    let s := s.after (execEnable src pg data s)
    some (s.after (execResetReq src pg data s))
  | 0x28 => some (s.after (execIntStatClear src pg data s))
  | 0x2C => some (s.after (execForce src pg data s))
  | 0x40 => some (s.after (execErrCapClear src pg data s))
  | 0x50 => some (s.after (execPgLock src pg data s))
  | _ => none

/-- Registers of the device window with rows of their own. -/
def State.writeDevRow (s : State) (src a : Nat) (data : Word) : Option State :=
  if a = Reg.DEV_RESET then some (s.after (execWarm src data s))
  else if a = Reg.TP_RELEASE then some (s.after (execTpRelease src data s))
  else if a = Reg.PW_REQ then some (s.after (execTarget src data s))
  else if a = Reg.PW_CTL then some (s.after (execClrPeak src data s))
  else if a = Reg.TM_CTL then some (s.after (execClrLat src data s))
  else if a = Reg.HM_CTL then some (s.after (execHmClrWait src data s))
  else if a = Reg.HW_CTL then some (s.after (execHwClrWait src data s))
  else if a = Reg.WH_CTL then some (s.after (if bit data.toNat 7 then execTest src data s else execRawEn src data s))
  else none

/-- Registers of the window of p with rows of their own. -/
def State.writePartRow (s : State) (p o : Nat) (data : Word) : Option State :=
  let busyBase := (s.part? p).any (fun q => q.evr.isSome) && (o == 0x3100 || o == 0x3104)
  if busyBase then some (s.errCap (winBase p + 0x3000) p 0x05 (o % 0x1000) data.toNat)
  else if o = 0x3108 then some (s.after (if bit data.toNat 31 then execEvrEnable p data s else execEvrDisable p data s))
  else if o = 0x310C then some (s.after (execEvrHead p data s))
  else if o = 0x210C then some (if s.fld (Fd.RC_STAT_BUSY p) = 1 then s.rcBusy p data else s.after (match data.toNat % 4 with
    | 1 => execRingCreate p s | 2 => execRingDestroy p s | 3 => execRingQuery p s | _ => .next s))
  else if 0x1100 ≤ o && o < 0x1500 then some (s.after (execSqTail p ((o - 0x1100) / 4) data s))
  else if 0x1800 ≤ o && o < 0x1C00 then some (s.after (execCqHead p ((o - 0x1800) / 4) data s))
  else none

/-- The row of its own that a write to register a has, if any. -/
def State.writeRow (s : State) (src a : Nat) (data : Word) : Option State :=
  match (if a % 0x1000 < 0x100 then s.writeHeader src a data else none) with
  | some t => some t
  | none => match addrPart a with
    | none => s.writeDevRow src a data
    | some p => s.writePartRow p (addrOff a) data

/-- A whole-word write to an existing page (R117, R130, R748). That a write refused whole is judged before the lock of its page is the
model's choice (notes/assumptions 98). -/
def State.writeWord (s : State) (src a : Nat) (data : Word) : State :=
  let pg := pageOf a
  let refuse := fun (c : Nat) => s.errCap pg src c (pageOff a) data.toNat
  let o := addrOff a
  let windowed := (addrPart a).isSome
  if windowed && pageOff a = 0x14 && pageOff a < 0x100 then refuse 0x01
  else if windowed && 0x7000 ≤ o && (aliasOf o).isSome &&
      (decide (o < 0x7800) || (s.part? src).any (fun q => q.compat)) then refuse 0x01
  else match s.writeRow src a data with
    | some t => t
    | none => match regDesc a with
      | none => refuse 0x05
      | some d =>
        if d.fields.all (fun f => f.acc = .ro) then refuse 0x01
        else match s.wholeRefused a data.toNat with
          | some c => refuse c
          | none => s.writePlain src a d data.toNat

/-- Flat base of a window. -/
def Win.base : Win → Nat
  | .dev => 0
  | .part p => winBase p

/-- A write that reaches Frexus (R117, R123, R127). -/
def State.writeReg (s : State) (src : Nat) (w : Win) (off : Nat) (be : BitVec 4) (data : Word) : State :=
  let a := Win.base w + off / 4 * 4
  let pg := pageOf a
  if !s.reachable src || s.retry || (s.boot = .failed && (addrPart a).isSome) || !srcReaches src a || (s.part? src).isNone then s
  else if !s.pageExists pg then s.errCap (Win.base w) src 0x05 (pageOff a) (off / 4 * 4)
  else if be ≠ 0xF#4 then s.errCap pg src 0x06 (pageOff a) data.toNat
  else s.writeWord src a data

/-- REGISTER_WRITE (R17, R18, R748). -/
def execRegisterWrite (src : Nat) (w : Win) (off : Nat) (be : BitVec 4) (data : Word) (s : State) :
    Host.Outcome State Fault Refusal := .next (s.writeReg src w (off % 0x1000000) be data)

end Sys2Proof.Machine
end

