-- ==== Sys2Proof/Machine/Life.lean ====
section
/-! DEFINITION. Life-cycle transitions, the debug challenge and grant, and the debug TAP
(20_life_cycle_and_debug.md R684-R704). -/

namespace Sys2Proof.Machine

def pgLc : Nat := 0x001000

/-! ### Challenge and grant (R696-R701) -/

/-- SHA-384 of the device identity public key (13 R507). -/
def devIdHash : Bytes := sha384 (hybridPub deviceKeys)

/-- The 144 bytes of a challenge (R696). -/
def State.challengeBytes (s : State) (nonce : Bytes) : Bytes :=
  ascii "FXCH" ++ [1] ++ leBytes 1 s.life ++ [0, 0] ++ nonce ++ devIdHash ++ s.keys.m ++
  leBytes 4 (s.fld Fd.HW_EPOCH_LO_EPOCH) ++ leBytes 4 (s.fld Fd.HW_EPOCH_HI_EPOCH)

/-- The epoch HW_EPOCH shows. -/
def State.epochNow (s : State) : Nat := s.fld Fd.HW_EPOCH_LO_EPOCH + 2 ^ 32 * s.fld Fd.HW_EPOCH_HI_EPOCH

def challengeWork (s : State) (_ : Inflight) : Work :=
  let nonce := s.drawn 32
  let t := s.draw 32
  .finish { t with lc := { t.lc with challenge := some (nonce, s.deviceTime, s.epochNow) } }
    { status := .ok, out := s.challengeBytes nonce }

def debugChallengeInfo : OpInfo := { code := 0x0902, issuer := .p0Secure, minOut := 144, draws := fun _ => true }

/-- DEBUG_CHALLENGE (R696). -/
def execDebugChallenge (k : CmdKey) (s : State) : Host.Outcome State Fault Refusal :=
  .next (s.runCmd debugChallengeInfo true challengeWork k)

/-- CHALLENGE_LAPSE: 600 s of device time after the challenge was issued (R696). -/
def execChallengeLapse (s : State) : Host.Outcome State Fault Refusal :=
  .next <| match s.lc.challenge with
  | some (_, t, _) => if t + 600000000000 ≤ s.deviceTime then { s with lc := { s.lc with challenge := none } } else s
  | none => s

def grantScope (g : Bytes) : Nat := leAt g 6 2

/-- Check 2 of R700: MAGIC, VER, the signature block's layout, reserved SCOPE bits (R697, R698). -/
def grantFormat (g : Bytes) : Bool :=
  g.length == 5565 && g.take 4 == ascii "FXDG" && leAt g 4 1 == 1 && blockFormat (g.drop 96) && grantScope g &&& 0x7FE0 == 0

/-- Check 4 of R700: the grant repeats the outstanding challenge, and admits the current state. -/
def State.grantBound (s : State) (g : Bytes) : Bool :=
  match s.lc.challenge with
  | some (nonce, t, epoch) =>
    decide (s.deviceTime < t + 600000000000) && slice g 8 32 == nonce && slice g 40 48 == devIdHash && leAt g 88 8 == epoch &&
    bit (leAt g 5 1) (s.life - 1)
  | none => false

/-- The scopes of a life-cycle state (R698). -/
def scopesOf (life : Nat) : Nat :=
  match life with
  | 3 => 0x0F | 4 => 0x1F | 5 => 0x8003 | 6 => 0x1F | _ => 0

/-- Check 6 of R700: signed under D0 (14 R528). -/
def State.grantSigned (s : State) (g : Bytes) : Bool := s.blockOk "FXV-DBG" (g.take 96) (g.drop 96) [4]

/-- The challenge is used up (R696). -/
def State.useChallenge (s : State) : State := { s with lc := { s.lc with challenge := none } }

/-- A DEBUG_GRANT refused at check 4 or later (R704). -/
def State.grantRefused (s : State) (st : Status) : Work := .finish ((s.bump Fd.DBG_CNT_REFUSED).raise pgLc 4) (.fail st)

/-- What a grant does (R701): the measurement, the volatile EXACT slots, the scopes. -/
def State.acceptGrant (s : State) (g : Bytes) : State :=
  let s := s.dropSlots (fun n k => slotVolatile n && k.binding == 2)
  let s := State.remeasure { s with
    keys := { s.keys with grant := some g }, lc := { s.lc with scope := grantScope g } }
  (s.bump Fd.DBG_CNT_ACCEPTED).raise pgLc 2

/-- Checks 3 to 7 of R700. -/
def grantWork (s : State) (c : Inflight) : Work :=
  let g := c.input
  let t := s.useChallenge
  if s.life ≤ 2 || s.keys.grant.isSome || bit (grantScope g) 15 then .finish t (.fail .lifecycle)
  else if !s.grantBound g then t.grantRefused .authFail
  else if maskDiff (grantScope g) (scopesOf s.life) ≠ 0 then t.grantRefused .lifecycle
  else if !s.grantSigned g then t.grantRefused .authFail
  else .finish (t.acceptGrant g) .done

def debugGrantInfo : OpInfo :=
  { code := 0x0903, issuer := .p0Secure, fixedIn := some 5565, params := fun c => grantFormat c.input }

/-- DEBUG_GRANT (R697-R701). -/
def execDebugGrant (k : CmdKey) (s : State) : Host.Outcome State Fault Refusal :=
  .next (s.runCmd debugGrantInfo true grantWork k)

/-! ### Transitions (R684-R693) -/

/-- Input length of a transition (R687). -/
def lifeInput (dest : Nat) : Nat :=
  match dest with
  | 3 => 5517 | 4 => 96 | 6 => 5565 | _ => 0

/-- The grant of a transition to RETURN holds: R700, with the RETURN scope. -/
def State.returnGrant (s : State) (g : Bytes) : Bool :=
  grantFormat g && s.grantBound g && maskDiff (grantScope g) (scopesOf s.life) == 0 && bit (grantScope g) 15 && s.grantSigned g

/-- The input of a transition is right: a certificate of this device, a maker record with a hash, a grant (check 7 of
R688). -/
def State.lifeInputOk (s : State) (dest : Nat) (b : Bytes) : Option Status :=
  match dest with
  | 3 => if b.take 4 == ascii "FXDC" && leAt b 4 1 == 1 && slice b 8 2049 == hybridPub deviceKeys then none else some .badParam
  | 4 => if allZero (b.take 48) then some .badParam else none
  | 6 => if s.returnGrant b then none else some .authFail
  | _ => none

/-- BLANK to TESTED may go on (check 4 of R688). -/
def State.testedOk (s : State) : Bool :=
  s.fld Fd.STRAP_STAT_TEST_EN == 1 && [0, 1, 4].all (fun i => (mapGet s.keys.fuses i).isSome) && !s.lc.udsSet

def advanceInfo (dest : Nat) : OpInfo :=
  { code := 0x0901, used := [(0, 1)], durable := true, draws := fun _ => dest == 2, fixedIn := some (lifeInput dest) }

/-- The checks of R688 before check 7. -/
def State.advanceRefused (s : State) (c : Inflight) : Option Status :=
  let dest := c.p8 0
  if !s.issuerOk .p0Secure c then some .notPermitted
  else if dest = 0 || 7 < dest || !reservedZero [(0, 1)] c.param then some .badParam
  else if s.life = 7 || (dest ≠ s.life + 1 && dest ≠ 7) then some .lifecycle
  else if dest = 2 && !s.testedOk then some .lifecycle
  else if !entryOk (advanceInfo dest) c || c.readFail then some .badParam
  else if s.tamperHold then some .tamperHold
  else if !s.holdOk then some .storeFault
  else if dest = 2 && s.noEntropy then some .entropyHalt
  else none

/-- The work after the commit point (R687); the cell of the state is programmed last. -/
def State.lifeWork (s : State) (dest : Nat) : State :=
  let s := match dest with
    | 4 =>
      let f := mapPut s.keys.fuses 2 (slice s.lc.record 0 48)
      let a1 := slice s.lc.record 48 48
      { s with keys := { s.keys with fuses := if allZero a1 then f else mapPut f 3 a1 } }
    | 6 => (s.quench3.noteQuench 3).markPages ((List.range 10240).map (· + 22528)) |>.setApplets []
    | _ => s
  { s with lc := { s.lc with fused := dest, progress := none } }

/-- The progress record is written: the code is the target's from now on (R685, R689, R691). -/
def State.lifeCommit (s : State) (c : Inflight) (dest : Nat) : State :=
  let s := { s with
    life := dest,
    lc := { s.lc with
      progress := some (s.life, dest, 0), changed := some (s.life, dest, 1), record := if dest = 4 then c.input else s.lc.record },
    keys := { s.keys with devCert := if dest = 3 then some c.input else s.keys.devCert } }
  (s.raise pgLc 1).updPart c.key.part (fun q => { q with resume := resumeUpd c.key.sq (fun x => x.commit c true) q.resume })

/-- The completion, and the device warm reset after it (R690). -/
def State.lifeEnd (s : State) (c : Inflight) : State := (s.finish c true .done).deviceWarm .lifecycle

/-- A transition to SCRAP: the seed is zeroed, then the cells are programmed unless power fails first (R692). -/
def State.scrap (s : State) (c : Inflight) (whole : Bool) : State :=
  let s := s.updTamper (fun t => { t with quenchAlarm := true })
  if !whole then s.quench3.noteQuench 3
  else
    let life := s.life
    let s := s.runQuench 4
    State.lifeEnd { s with lc := { s.lc with changed := some (life, 7, 1) } } c

/-- BLANK to TESTED programs the UDS, drawn with prediction resistance, and reads it back before the commit (R693; 15 R551). -/
def State.programUds (s : State) : State :=
  let s := s.drawFresh 32
  { s with lc := { s.lc with udsSet := true } }

/-- A transition that has passed its checks. -/
def State.advance' (s : State) (c : Inflight) (readback whole : Bool) : State :=
  let dest := c.p8 0
  let s := if dest = 6 then s.useChallenge else s
  let s := s.dropWait c.key
  if dest = 7 then s.scrap c whole
  else
    let s := if dest = 2 then s.programUds else s
    if dest = 2 && !readback then s.finish c false (.fail .storeFault)
    else
      let s := s.lifeCommit c dest
      if whole then (s.lifeWork dest).lifeEnd c else s

/-- LIFECYCLE_ADVANCE once every command admitted before it has ended (R687-R693). -/
def State.runAdvance (s : State) (c : Inflight) (readback whole : Bool) : State :=
  match s.lc.progress with
  | some (_, dest, _) => if whole then (s.lifeWork dest).lifeEnd c else s
  | none =>
    match s.advanceRefused c with
    | some st => s.finish c false (.fail st)
    | none =>
      let dest := c.p8 0
      match s.lifeInputOk dest c.input with
      | some st => (if dest = 6 && grantFormat c.input then s.useChallenge else s).finish c false (.fail st)
      | none =>
        if dest = 2 && s.freshWaits then s
        else if s.canCommit then s.advance' c readback whole
        else s.waitCommit c.key

/-- LIFECYCLE_ADVANCE: `readback`, both UDS copies read back as programmed; `whole`, power stays until the work after the
commit point is done (R687, R693). -/
def execLifecycleAdvance (k : CmdKey) (readback whole : Bool) (s : State) : Host.Outcome State Fault Refusal :=
  .next <| match s.cmd? k with
  | none => s
  | some c =>
    if c.opcode ≠ 0x0901 || 1 < s.inflight.length || s.halves.lost || !s.gatesOpen ||
       (s.part? k.part).any (fun q => q.inReset.isSome) then s
    else s.runAdvance c readback whole

/-! ### The TAP (R694, R695) -/

/-- The instruction that acts: BYPASS while the TAP is closed, for other codes, and without its scope (R694, R698). -/
def State.tapNow (s : State) : Nat :=
  let sc := s.lc.scope
  if !s.tapOpen then 0xFF
  else match s.lc.tap with
    | 0x01 => 0x01
    | 0x00 => if bit sc 3 then 0x00 else 0xFF
    | 0x02 => if bit sc 3 then 0x02 else 0xFF
    | 0x10 => if bit sc 0 || bit sc 2 then 0x10 else 0xFF
    | 0x11 => if bit sc 1 || bit sc 2 then 0x11 else 0xFF
    | _ => 0xFF

/-- EXTEST is selected: sessions and token streams end, the gates close (R695). -/
def State.enterExtest (s : State) : State :=
  if s.lc.extest then s
  else State.endStream (State.closeSession { s with gatesOpen := false, lc := { s.lc with extest := true } })

/-- Leaving EXTEST starts a device warm reset, for which RESET_CAUSE has no bit (R695; 03 R112). -/
def State.leaveExtest (s : State) : State := if s.lc.extest then s.warmTo (s.deviceTime + 20000) else s

/-- A new instruction is selected. -/
def State.selectTap (s : State) (code : Nat) : State :=
  let s := { s with lc := { s.lc with tap := code % 256 } }
  if s.tapNow = 0 then s.enterExtest else s.leaveExtest

/-- TAP_RESET: the instruction register holds IDCODE (R694; IEEE 1149.1). -/
def execTapReset (s : State) : Host.Outcome State Fault Refusal := .next (s.selectTap 0x01)

/-- What the data register of the instruction that acts captures: IDCODE, the balls as SAMPLE/PRELOAD finds them, which are free, and
the 0 of BYPASS. The registers of DBG_MEM and DBG_ENG come with their own rows (R694; IEEE 1149.1). -/
def State.captureDr (s : State) : State :=
  match s.tapNow with
  | 0x01 => s.emit (.tdo (leBytes 4 0x1644054F))
  | 0x02 =>
    let (v, t) := s.free
    t.emit (.tdo (leBytes 17 (v % 2 ^ 133)))
  | 0xFF => if s.tapOpen then s.emit (.tdo [0]) else s
  | _ => s

/-- TAP_INSTRUCTION: the instruction is selected and its data register captured; TDO is high-impedance while the TAP is closed
(R694). -/
def execTapInstruction (code : Nat) (s : State) : Host.Outcome State Fault Refusal := .next (s.selectTap code).captureDr

/-- EXTEST: selected, the balls take the cells shifted in; or left (R694, R695). -/
def execExtest (selected : Bool) (cells : Nat) (s : State) : Host.Outcome State Fault Refusal :=
  .next <|
    if selected then
      let t := s.selectTap 0x00
      if t.lc.extest then { t with lc := { t.lc with boundary := cells % 2 ^ 133 } } else t
    else s.selectTap 0xFF

/-! ### DBG_MEM (R702) -/

/-- The data register of DBG_MEM. -/
def dbgMemBytes (write : Bool) (a : Nat) (error : Bool) (data : Nat) : Bytes :=
  leBytes 7 (b2n write + 2 * a + b2n error * 2 ^ 22 + data * 2 ^ 24)

/-- The page whose first-error capture records a refusal at a: its own, or that at 0 for a reserved page (04 R127). -/
def State.capturePage (s : State) (a : Nat) : Nat := if s.pageExists (pageOf a) then pageOf a else 0

/-- A refusal for which no rule names a CAUSE: CAUSE is free. -/
def State.dbgRefuse (s : State) (a data : Nat) : State :=
  let (c, s) := s.free
  s.errCap (s.capturePage a) dbgSrc (c % 256) (pageOff a) data

/-- A write of the debug port, and whether it was refused. -/
def State.dbgWrite (s : State) (a data : Nat) : State × Bool :=
  let go := fun (t : State) =>
    if t.pageExists (pageOf a) then t.writeWord dbgSrc a (BitVec.ofNat 32 data) else t.errCap 0 dbgSrc 0x05 (pageOff a) a
  let clean := s.resetRegs (captureRegs (s.capturePage a))
  (go s, (go clean).fld (Fd.ERR_CAP0_VALID (s.capturePage a)) == 1)

/-- DBG_MEM: an access to the device window at Update-DR; FIRMWARE writes, READ only reads (R698, R702). -/
def execDbgMem (dr : BitVec 56) (s : State) : Host.Outcome State Fault Refusal :=
  .next <|
    if s.tapNow ≠ 0x10 then s else
    let write := bit dr.toNat 0
    let a := bitsOf dr.toNat 21 1
    let data := bitsOf dr.toNat 55 24
    if a % 4 ≠ 0 || (write && !bit s.lc.scope 2) then (s.dbgRefuse a data).emit (.tdo (dbgMemBytes write a true data))
    else if write then
      let r := s.dbgWrite a data
      r.1.emit (.tdo (dbgMemBytes true a r.2 data))
    else if a = Reg.WH_RAW then
      let n := s.fld Fd.WH_CTL_RAW_HALF
      let v := (s.view a).toNat
      (s.updWell n (fun x => { x with raw := x.raw.tail })).emit (.tdo (dbgMemBytes false a false v))
    else
      let r := s.readReg dbgSrc a 0 4
      r.2.emit (.tdo (dbgMemBytes false a false (leAt r.1 0 4)))

/-! ### DBG_ENG (R703) -/

/-- Slot e is claimed for ranging: twin 31, and in solo duty slot 15 beside it (07 R277; 17 R608). -/
def State.rangingSlot (s : State) (e : EngRef) : Bool :=
  s.claimed e

/-- The task of slot e, where the scope covers its privilege. No scope reaches an engine claimed for ranging, whose registers
hold what it loads of timestamps, CIRs and STS sequences (R702; 01 R26). -/
def State.dbgTask (s : State) (e : EngRef) : Option Task :=
  if s.tapNow ≠ 0x11 || s.rangingSlot e then none
  else (s.task? e).filter (fun t => bit s.lc.scope 2 || t.start.priv = .a)

/-- The data register of DBG_ENG. -/
def dbgEngBytes (e : EngRef) (op r : Nat) (spec : Bool) (data : Nat) : Bytes :=
  leBytes 7 (e.slot % 32 + (match e.half with | .north => 0 | .south => 1) * 2 ^ 5 + op * 2 ^ 6 + r % 16 * 2 ^ 8 + b2n spec * 2 ^ 12 +
    data * 2 ^ 13)

/-- DBG_ENG_READ: DATA captures a register or a special register; 0 where the scope does not cover the task (R703). -/
def execDbgEngRead (e : EngRef) (r : Nat) (spec : Bool) (s : State) : Host.Outcome State Fault Refusal :=
  .next <| if s.tapNow ≠ 0x11 then s else
  let data := match s.dbgTask e with
    | none => 0
    | some t => if spec then (special r (einfo (logicalEng e) (s.engHalf e) t) (s.eng e).gen t).toNat else (t.reg r).toNat
  s.emit (.tdo (dbgEngBytes e 0 r spec data))

/-- An operation that the scope does not cover answers DATA 0. -/
def State.dbgDenied (s : State) (e : EngRef) (op : Nat) : State :=
  if s.tapNow = 0x11 then s.emit (.tdo (dbgEngBytes e op 0 false 0)) else s

/-- DBG_ENG_HALT: the task of a slot stops at an instruction boundary (R703). -/
def execDbgEngHalt (e : EngRef) (s : State) : Host.Outcome State Fault Refusal :=
  .next <| match s.dbgTask e with
  | some t => if t.wait = .ended then s else s.setTask e { t with halted := true }
  | none => s.dbgDenied e 1

/-- A halted task runs one instruction. One that would end the task is not run: its result could not be accepted. -/
def State.dbgStep (s : State) (e : EngRef) (t : Task) : State :=
  let u := (s.setTask e { t with halted := false }).kStep e
  match u.task? e with
  | some x => if x.wait = .ended then s else u.setTask e { x with halted := true }
  | none => s

/-- DBG_ENG_STEP (R703). -/
def execDbgEngStep (e : EngRef) (s : State) : Host.Outcome State Fault Refusal :=
  .next <| match s.dbgTask e with
  | some t => if t.halted then s.dbgStep e t else s
  | none => s.dbgDenied e 2

/-- DBG_ENG_RESUME: the result of a task that was halted is never accepted; the task is run again (R703; 11 R438). -/
def execDbgEngResume (e : EngRef) (s : State) : Host.Outcome State Fault Refusal :=
  .next <| match s.dbgTask e with
  | some t => if t.halted then s.engineLost e else s
  | none => s.dbgDenied e 3

end Sys2Proof.Machine
end

