-- ==== Sys2Proof/Machine/Opcodes.lean ====
section
/-! DEFINITION. What runs a fetched command by its opcode again: an agreed verdict of the comparators, and the beginning of
the transaction it waited for (05_command_rings.md R197; 16_ee_store.md R569; 17_halves_and_consistency.md R604). -/

namespace Sys2Proof.Machine

/-- The meaning of opcodes 0x0001 to 0x0207 (05 R197). -/
def runOpcode0 (op : Nat) (k : CmdKey) (s : State) : Host.Outcome State Fault Refusal :=
  match op with
  | 0x0001 => execNop k s
  | 0x0002 => execPartCreate k s
  | 0x0003 => execPartSet k s
  | 0x0004 => execPartDestroy k s
  | 0x0005 => execPartReset k s
  | 0x0006 => execPowerVote k s
  | 0x0007 => execSpillRegionSet k s
  | 0x0008 => execReservoirSet k s
  | 0x0009 => execPowerCapSet k s
  | 0x0101 => execKeyGenerate k s
  | 0x0102 => execKeyImport k s
  | 0x0103 => execKeyDerive k s
  | 0x0104 => execKeyDestroy k s
  | 0x0105 => execKeyExport k s
  | 0x0106 => execKeyInfo k s
  | 0x0107 => execCounterCreate k s
  | 0x0108 => execCounterIncrement k s
  | 0x0109 => execCounterRead k s
  | 0x010A => execSeal k s
  | 0x010B => execUnseal k s
  | 0x0201 => execAeadEncrypt k s
  | 0x0202 => execAeadDecrypt k s
  | 0x0203 => execMacGenerate k s
  | 0x0204 => execMacVerify k s
  | 0x0205 => execDataWrap k s
  | 0x0206 => execDataUnwrap k s
  | 0x0207 => execDigest k s
  | _ => .next s

/-- The meaning of opcodes 0x0301 on (05 R197). An applet's invocation that has ended commits; HALF_TEST has no durable
effect and is not compared. -/
def runOpcode1 (op : Nat) (k : CmdKey) (s : State) : Host.Outcome State Fault Refusal :=
  match op with
  | 0x0301 => execPkKeygen k s
  | 0x0302 => execPkSign k s
  | 0x0303 => execPkVerify k s
  | 0x0304 => execPkAgree k s
  | 0x0305 => execKemEncaps k s
  | 0x0306 => execKemDecaps k s
  | 0x0307 => execAttest k s
  | 0x0401 => execRandom k s
  | 0x0501 => execStoreRead k s
  | 0x0502 => execStoreWrite k s
  | 0x0503 => execStoreSanitize k s
  | 0x0601 => execFlowCreate k s
  | 0x0602 => execFlowModify k s
  | 0x0603 => execFlowDestroy k s
  | 0x0604 => execSakInstall k s
  | 0x0605 => execFlowStats k s
  | 0x0701 => execAppletLoad k s
  | 0x0702 => if (s.invocation k).isSome then execAppletInvoke k ⟨.north, 0⟩ 0 s else .next s
  | 0x0703 => execAppletUnload k s
  | 0x0801 => execFobPair k s
  | 0x0802 => execFobRemove k s
  | 0x0803 => execAccessPolicySet k s
  | 0x0804 => execReleaseRequest k s
  | 0x0805 => execImmoConfig k s
  | 0x0901 => execLifecycleAdvance k true true s
  | 0x0902 => execDebugChallenge k s
  | 0x0903 => execDebugGrant k s
  | 0x0904 => execCardTransact k s
  | _ => .next s

/-- Run the fetched command k by its opcode. -/
def State.runOpcode (s : State) (k : CmdKey) : State :=
  match s.cmd? k with
  | none => s
  | some c => s.after (if c.opcode < 0x0300 then runOpcode0 c.opcode k s else runOpcode1 c.opcode k s)

/-! ### Waiting transactions (02 R67; 16 R566-R569) -/

/-- A transaction no longer waits. -/
def State.dropTxn (s : State) (x : Txn) : State := { s with txns := s.txns.filter (· != x) }

/-- The transaction of Frexus's own that waited (02 R67). -/
def State.runOwn (s : State) (t : OwnTxn) : State :=
  let u := s.dropTxn (.own t)
  match t with
  | .tokenMark => { u with immo := { u.immo with markJ := u.immo.markJ + 1024 } }
  | .epoch => u.journalEpoch
  | .pageJournal pg => u.journalPage pg
  | .useMark n => u.checkUseMark n
  | .drawMark n => u.checkDrawMark n
  | .refresh p g => if mapRead 0 u.ee.gens p = g then u.raiseGen p else u
  | .rollback cause waits => u.cardRestore cause waits
  | .tamperLog => u.flushLog
  | .quench => if u.tamper.quench = 0 then u else (u.runQuench u.tamper.quench).tamperWarm

/-- The transaction may begin: VHOLD allows it (R569) and, but for what the warden and the tamper hub write, the lease
(17 R597). -/
def State.txnReady (s : State) (x : Txn) : Bool :=
  s.storePower &&
  match x with
  | .own .epoch => s.storeReady
  | .own (.rollback _ _) => s.storeReady
  | .own .tamperLog => s.storeReady
  | .own .quench => s.storeReady
  | _ => s.canCommit

/-- A record that carries the epoch of a fenced Lead is refused and logged, and nothing is written; the survivor makes it again
(R567; 17 R601, R618). -/
def State.refuseStale (s : State) : State :=
  if s.halves.staleTxns = 0 then s
  else State.discardItem { s with halves := { s.halves with staleTxns := s.halves.staleTxns - 1 } }

/-- A waiting transaction begins, and runs to its end (R566, R567). -/
def State.beginTxn (s : State) (x : Txn) : State :=
  if !s.txns.contains x || !s.txnReady x then s
  else
    let s := if x = .own .epoch then s else s.refuseStale
    match x with
    | .own t => s.runOwn t
    | .cmd k _ => s.runOpcode k

/-- EE_TRANSACTION: VHOLD stands at so many mV, and the transaction that has waited longest runs (R566, R569). -/
def execEeTransaction (vholdMv : Nat) (s : State) : Host.Outcome State Fault Refusal :=
  .next <|
    let s := s.setVhold vholdMv
    match s.txns with
    | [] => s
    | x :: _ => s.beginTxn x

/-- VHOLD_READY: VHOLD has recharged, and the transactions that waited for it run in their order (R569). -/
def execVholdReady (vholdMv : Nat) (s : State) : Host.Outcome State Fault Refusal :=
  .next <|
    let s := s.setVhold vholdMv
    s.txns.foldl State.beginTxn s

/-- What else a command that ends without its commit leaves behind: the card is free, its invocation is gone, and a key use it took
stays (05 R201; 20 R693). -/
def State.abandonCmd (s : State) (c : Inflight) : State :=
  ((s.keepUse c).cardFree c.key).abortTasks (fun t => t.start.cmd == some c.key)

/-- VHOLD_WAIT_TIMEOUT: a command's transaction has not found VHOLD at 2.85 V within 50 ms (R569). -/
def execVholdWaitTimeout (k : CmdKey) (s : State) : Host.Outcome State Fault Refusal :=
  .next <|
    let due := s.txns.any (fun x => match x with
      | .cmd k' since => k' == k && decide (since + 50000000 ≤ s.deviceTime)
      | .own _ => false)
    match s.cmd? k with
    | none => s
    | some c =>
      if !due || s.storeReady then s
      else
        ((s.dropWait k).abandonCmd c).finish c false (.fail .storeFault)

end Sys2Proof.Machine
end

