-- ==== Sys2Proof/Machine/Compare.lean ====
section
/-! DEFINITION. Verdicts of the comparators on commands in paired duty (17_halves_and_consistency.md R602-R606, R608). -/

namespace Sys2Proof.Machine

/-- Command c runs in paired duty: its opcode and PARAM say so, or its applet declares state access. -/
def State.pairedCmd (s : State) (c : Inflight) : Bool :=
  c.pairedOp || (c.opcode == 0x0702 && s.declares c.key)

/-- The comparison of command k, if it is not its first run. -/
def State.compareOf (s : State) (k : CmdKey) : Compare :=
  (s.halves.compares.find? (fun (x : Compare) => x.key == k)).getD { key := k, runs := [], infra := [] }

def State.putCompare (s : State) (x : Compare) : State :=
  { s with halves := { s.halves with compares := x :: s.halves.compares.filter (fun (y : Compare) => !(y.key == x.key)) } }

def State.endCompare (s : State) (k : CmdKey) : State :=
  { s with halves := { s.halves with compares := s.halves.compares.filter (fun (y : Compare) => !(y.key == k)) } }

/-- Cause of an infrastructure fault and the halves it charges (R605). -/
def verdictFault (v : Verdict) : Option (Nat × List Half) :=
  match v.parity with
  | some h => some (3, [h])
  | none =>
    match v.check434 with
    | some h => some (4, [h])
    | none =>
      if v.eqN != v.eqS then some (1, [if v.eqN then .south else .north])
      else if !v.folds then some (2, [.north, .south])
      else none

/-! ### Result records (R602) -/

/-- Bytes 8-63 of a result record: the staged effects where they total 56 bytes or fewer, else their length and the keyed check. -/
def State.effectPart (s : State) (effects : Bytes) : Bytes :=
  if effects.length ≤ 56 then padTo 56 effects
  else padTo 56 (leBytes 8 effects.length ++ Config.prim .resultCheck [s.halves.checkKey, effects] 32)

/-- The generation of the slot whose engine ran a copy (R437); 0 for other units, whose requests carry that of their task. -/
def State.unitGen (s : State) (u : UnitRef) : Nat :=
  if u.kind = .engine then
    match s.slotOfEngine u.half u.idx with
    | some j => (s.kalmel.engines.getD (slotAt u.half j) Eng.idle).gen
    | none => 0
  else 0

/-- The result record of a copy of command k that ran on unit u: partition, ring, entry index and GEN, then its effects. -/
def State.resultRecord (s : State) (k : CmdKey) (u : UnitRef) (effects : Bytes) : Bytes :=
  leBytes 2 k.part ++ leBytes 2 k.sq ++ leBytes 2 k.idx ++ leBytes 2 (s.unitGen u) ++ s.effectPart effects

/-- What two runs of a command compare of a record: all but GEN, which each run has of its own (R606). -/
def recordBody (r : Bytes) : Bytes := r.take 6 ++ r.drop 8

/-! ### Verdicts (R603-R606) -/

/-- The half that runs command k in solo duty: the survivor, and the Lead for a command that began in solo duty (R608, R623). -/
def State.soloHalf (s : State) (k : CmdKey) : Option Half :=
  if s.halfUp .north && s.halfUp .south then
    match s.cmd? k with
    | some c => if c.solo then some s.lead else none
    | none => none
  else if s.halfUp .north then some .north else some .south

/-- The path that is asked for: A, B after one infrastructure fault, A again after two; in solo duty the path that gave UNEQUAL
(R603, R605, R608). -/
def State.pathAsked (s : State) (x : Compare) (v : Verdict) : Nat :=
  if (s.soloHalf x.key).isSome then (if v.eqN then 1 else 0) else if x.infra.length = 1 then 1 else 0

/-- The path half h uses: the one asked for, or its other one while that is disabled (R605). -/
def State.pathUsed (s : State) (x : Compare) (v : Verdict) (h : Half) : Nat :=
  let i := s.pathAsked x v
  if s.inService ⟨.path, h, i⟩ then i else 1 - i

/-- The halves charged: in solo duty the one that runs. -/
def State.chargedHalves (s : State) (k : CmdKey) (l : List Half) : List Half :=
  match s.soloHalf k with
  | some h => [h]
  | none => l

/-- The charges of a fault, each on the path its half used; the list says which paths they disable (R605). -/
def State.chargeAll (s : State) : List (Half × Nat) → State × List (Half × Nat)
  | [] => (s, [])
  | h :: t =>
    let r := s.charge h.1 h.2
    let u := r.1.chargeAll t
    (u.1, if r.2 then h :: u.2 else u.2)

def halvesCode (l : List Half) : Nat := match l with | [.north] => 0 | [.south] => 1 | _ => 2

/-- The half to fence after a third infrastructure fault: the one most often charged, else the Follower (R605). -/
def State.mostCharged (s : State) (infra : List (List Half)) : Half :=
  let n := (infra.flatten.filter (· == .north)).length
  let so := (infra.flatten.filter (· == .south)).length
  if n = so then otherHalf s.lead else if so < n then .north else .south

/-- What was compared takes effect: the decision of the access service, or the command (R604; 06 R206; 08 R287). -/
def State.goOn (s : State) (k : CmdKey) : State := if k = ownKey then s.advance else s.runOpcode k

/-- The runs of a command start again with new GENs: an invocation's task is restarted (R605, R606). -/
def State.runAgain (s : State) (k : CmdKey) : State :=
  match s.invocation k with
  | some (e, _) => s.engineLost e
  | none => s

/-- An infrastructure fault: charges, the event, a path disabled, and at the third on one command a fence (R605). -/
def State.infraFault (s : State) (x : Compare) (v : Verdict) (cause : Nat) (charged : List Half) : State :=
  let paths := charged.map (fun h => (h, s.pathUsed x v h))
  let path := match paths with | p :: _ => p.2 | [] => s.pathAsked x v
  let r := s.chargeAll paths
  let s := ((r.1.bump Fd.HW_CNT_MISMATCH_INFRA).post 0 0x0034 srcDevice (leBytes 1 (halvesCode charged) ++ leBytes 1 cause ++
    leBytes 1 path ++ leBytes 1 (b2n (!r.2.isEmpty)) ++ leBytes 1 x.key.part ++ leBytes 1 x.key.sq ++ leBytes 2 x.key.idx)).raise
      0x0D0000 8
  let s := r.2.foldl (fun (t : State) p => t.disablePath p.1 p.2) s
  let infra := x.infra ++ [charged]
  if infra.length < 3 then (s.putCompare { x with infra := infra }).runAgain x.key
  else
    let s := s.endCompare x.key
    let h := s.mostCharged infra
    if s.halfUp h then (s.fence h .infra).runAgain x.key else s.runAgain x.key

/-- Strikes once a run agrees on record r (R606). -/
def State.attribute (s : State) (runs : List Run) (r : Bytes) : State :=
  let body := recordBody r
  match runs with
  | [] => s
  | [a] =>
    if body = recordBody a.recL then s.strike a.unitF
    else if body = recordBody a.recF then s.strike a.unitL
    else (s.strike a.unitL).strike a.unitF
  | _ => runs.foldl (fun (t : State) (a : Run) =>
      let t := if body = recordBody a.recL then t else t.strike a.unitL
      if body = recordBody a.recF then t else t.strike a.unitF) s

/-- A third run that disagrees: HALF_TEST decides which half is fenced, and the command completes in solo duty on the other.
In solo duty there is none to fence, and the command runs again (R606). -/
def State.thirdRun (s : State) (k : CmdKey) (testFail : Option Half) : State :=
  let s := s.endCompare k
  if (s.soloHalf k).isSome then s.runAgain k
  else
    let s := s.fence (testFail.getD (otherHalf s.lead)) .halfMismatch
    s.goOn k

/-- A mismatch: the runs are kept until one agrees (R606). -/
def State.mismatch (s : State) (x : Compare) (v : Verdict) : State :=
  let s := s.bump Fd.HW_CNT_MISMATCH_UNIT
  let runs := x.runs ++ [{
    unitL := v.unitL, recL := s.resultRecord x.key v.unitL v.effL, unitF := v.unitF, recF := s.resultRecord x.key v.unitF v.effF }]
  if runs.length < 3 then (s.putCompare { x with runs := runs }).runAgain x.key else s.thirdRun x.key v.testFail

/-- The verdicts on one run: the result takes effect when both are EQUAL and the folds agree; else an infrastructure fault or a
mismatch is handled (R604-R606). -/
def State.judgeRun (s : State) (k : CmdKey) (v : Verdict) : State :=
  let x := s.compareOf k
  match verdictFault v with
  | some (cause, l) => s.infraFault x v cause (s.chargedHalves k l)
  | none => if v.eqN then ((s.attribute x.runs (s.resultRecord k v.unitL v.effL)).endCompare k).goOn k else s.mismatch x v

/-- COMPARE_VERDICT: the verdicts on a command in paired duty, or on a decision of the access session that runs (R604-R606; 06 R206;
08 R287). -/
def execCompareVerdict (k : CmdKey) (v : Verdict) (s : State) : Host.Outcome State Fault Refusal :=
  .next <| if s.halves.lost || !s.gatesOpen then s
  else if k = ownKey then (if s.acc.session.isSome then s.judgeRun k v else s)
  else match s.cmd? k with
  | none => s
  | some c => if !s.pairedCmd c || !s.admissible c then s else s.judgeRun k v

end Sys2Proof.Machine
end

