-- ==== Sys2Proof/Machine/Boot.lean ====
section
/-! DEFINITION. Bring-up: its eleven steps as one command, the recovery pass, and failure
(03_bring_up_and_reset.md R87-R102; 11 R442, R449; 13 R486, R497, R506; 16 R583, R584; 20 R684, R685). -/

namespace Sys2Proof.Machine

def State.setStep (s : State) (n : Nat) : State := s.setFld Fd.BOOT_STAT_STEP n

/-- Bring-up ends without ready: retry status ends, and P0's device window is all that is offered (R99, R100). -/
def State.failBoot (s : State) (step code : Nat) : State :=
  let s := State.setDomains { s with boot := .failed, retry := false } (listMask [0, 1, 9, 13])
  let s := ((s.setStep step).setFld Fd.BOOT_STAT_FAILED 1).setFld Fd.BOOT_STAT_FAIL_CODE code
  { s with linkUp := s.linkCan }

/-! ### Steps 1 to 5 (R73-R75, R89, R98) -/

/-- The straps are sampled after a power-on reset; TEST_EN out of place has a tamper log entry (R73, R75). -/
def State.sampleStraps (s : State) (straps : BitVec 4) : State :=
  if s.boot ≠ .power then s else
  let v := straps.toNat
  let s := (((s.setFld Fd.STRAP_STAT_TEST_EN (v / 8)).setFld Fd.STRAP_STAT_PMIC_ASEL (v / 4 % 2)).setFld Fd.STRAP_STAT_USX_SEL
    (v / 2 % 2)).setFld Fd.STRAP_STAT_COMPAT_SEL (v % 2)
  let s := { s with
    strapCompat := bit v 0, parts := s.parts.map (fun (c : Nat × PartSt) => (c.1, { c.2 with compat := bit v 0 })) }
  if bit v 3 && decide (3 ≤ s.lc.fused) then s.decideTamper s.deviceTime 7 0 else s

/-- Step 1: the count of bring-ups, straps, the fused code, the charger; VDD_CORE is asked for at 800 mV; PD13 is on, and PD01 to
scan handles (R89, R91, R95; 01 R25; 20 R684). -/
def State.bootStep1 (s : State) (b : BringUp) : State :=
  let cold := s.boot = .power
  let s := State.sampleStraps { s with
    bootAt := b.startedAt, life := s.lc.fused, halves := { s.halves with bringUps := s.halves.bringUps + 1 } } b.straps
  let s := State.setVhold { s with
    supply := { s.supply with
      brownout := false, io33Low := false, coreLow := false, pwrgdLow := false, vaonLow := false, charger := true } } b.vholdMv
  let s := if cold then s.readModes else s
  ((s.voutSend 800).setFld Fd.PACE_STAT_VCORE_MV 800).setDomains (listMask [0, 1, 13])

/-- Step 2: an image of Shore, a HOLD or SCRAP stops bring-up; PD09 is on, and the link may train (R89, R94, R99, R100). -/
def State.bootStep2 (s : State) (b : BringUp) : State :=
  let s := s.setDomains (setBit s.domains 9)
  if b.shoreImageFail then s.failBoot 2 3
  else if s.tamper.hold then s.failBoot 2 5
  else if s.life = 7 then s.failBoot 2 6
  else s

/-- FAIL_CODE of a half that fails; R112 has none for a failed core test. -/
def failCode : HalfFail → Option Nat
  | .uds => some 1 | .core => none | .wellhead _ => some 2 | .image => some 3

/-- The code of a bring-up in which both halves failed: that of their reasons; free between two, or where neither has one. -/
def State.bothCode (s : State) (a b : Option HalfFail) : Nat × State :=
  let (f, t) := s.free
  match a.bind failCode, b.bind failCode with
  | some x, some y => if x = y then (x, s) else (if f % 2 = 0 then x else y, t)
  | some x, none => (x, s)
  | none, some y => (y, s)
  | none, none => (f % 256, t)

/-- Bring-up goes on while a half is in service, and fails at step n otherwise (R98, R99). -/
def State.ifHalf (s : State) (n : Nat) (b : BringUp) : State :=
  if s.halfUp .north || s.halfUp .south then s
  else
    let (c, s) := s.bothCode b.northFail b.southFail
    s.failBoot n c

/-- A half passes its UDS and core tests, or is out (R98). -/
def State.bootCore (s : State) (h : Half) (fails : Option HalfFail) : State :=
  s.setFld (roleField h) (match fails with | some .uds | some .core => 0 | _ => 1)

/-- Step 3: the core domains are on, each half tests its core and its UDS copy (R89, R98; 01 R47). -/
def State.bootStep3 (s : State) (b : BringUp) : State :=
  let s := s.setDomains (setBit (setBit s.domains 31) 49)
  if b.udsDiffer then s.failBoot 3 1
  else ((s.bootCore .north b.northFail).bootCore .south b.southFail).ifHalf 3 b

/-- A half's Wellhead serves, its Bellows is instantiated, and it draws its link key; or it is out with an alarm (R98; 01 R25; 15
R539, R543). -/
def State.bootWell (s : State) (h : Half) (fails : Option HalfFail) : State :=
  if !s.halfUp h then s
  else match fails with
    | some (.wellhead c) =>
      let n := halfNum h
      ((((s.setFld (roleField h) 0).setFld (Fd.WH_STAT_STATE n) 6).setFld (Fd.WH_STAT_CAUSE n) c).raise 0x0B0000 2).entropyAlarm n c 1 2
    | _ => (s.wellService h).drawLink h

/-- Step 4 (R89). -/
def State.bootStep4 (s : State) (b : BringUp) : State :=
  ((s.bootWell .north b.northFail).bootWell .south b.southFail).ifHalf 4 b

/-- A half whose images fail verification is out (R98). -/
def State.bootImage (s : State) (h : Half) (fails : Option HalfFail) : State :=
  if fails = some .image then s.setFld (roleField h) 0 else s

/-- A staged image verifies (14 R526, R527). -/
def State.stagedOk (s : State) (n : Nat) (b : Bytes) : Bool :=
  let ty := (imageType (0xFFF0 + n)).getD 0
  imageFmt ty b && s.imageSigned ty b

/-- The image replaces the active one, and its digest its component's (11 R442, R449; 13 R486). -/
def State.activate (s : State) (n : Nat) (b : Bytes) : State :=
  let i := readImage b
  let s := { s with keys := { s.keys with images := mapPut s.keys.images (3 + n) (sha384 b) } }
  match n with
  | 0 =>
    { s with
      kalmel := { s.kalmel with firmware := some i },
      keys := { s.keys with
        svn := i.svn,
        signerId := sha384 (Config.shoreHash 0 ++ sha384 (slice (b.drop (imageBody b)) 8 2049)) } }
  | 1 => { s with kalmel := { s.kalmel with parse := some i } }
  | _ => { s with kalmel := { s.kalmel with decode := some i.code, decodeSvn := i.svn } }

/-- One staged image: accepted, or discarded with EN_STAGE.FAILED (11 R449, R450). -/
def State.takeStaged (s : State) (c : Nat × Bytes) : State :=
  let s := if s.stagedOk c.1 c.2 then s.activate c.1 c.2
    else s.setFld Fd.EN_STAGE_FAILED (setBit (s.fld Fd.EN_STAGE_FAILED) c.1)
  s.raise 0x080000 8

/-- Staged images are verified; the measurement and the CDI are formed (13 R486, R510). -/
def State.takeImages (s : State) : State :=
  let s := s.kalmel.staged.foldl State.takeStaged s
  let s := { s with
    kalmel := { s.kalmel with staged := [] },
    keys := { s.keys with images := mapPut (mapPut s.keys.images 1 (Config.shoreHash 1)) 2 (Config.shoreHash 2) } }
  (s.remeasure.showWords Fd.CR_SIGNER_ID s.keys.signerId).setFld Fd.CR_SVN_SVN s.keys.svn

/-- Step 5: the rest of the halves is on; images are verified in each, and need a firmware key (R89, R98; 20 R686;
notes/assumptions 75 for the step at which the domains come on). -/
def State.bootStep5 (s : State) (b : BringUp) : State :=
  let s := s.setDomains (s.domains ||| s.halfDomains)
  let s := ((s.bootImage .north b.northFail).bootImage .south b.southFail).ifHalf 5 b
  if s.boot = .failed then s
  else if (mapGet s.keys.fuses 0).isNone then s.failBoot 5 3
  else s.takeImages

/-! ### Step 7: the recovery pass (R96, R583) -/

/-- Interrupted work was completed or rolled back (R112). -/
def State.recovered (s : State) : State := s.setFld Fd.BOOT_STAT_RECOVERED 1

/-- Rebuilds that had not ended run from their first row (R583). -/
def State.recoverColumns (s : State) : State :=
  let l := s.ee.remaps.filter (fun (r : Remap) => r.row.isSome)
  if l.isEmpty then s
  else (l.foldl (fun (t : State) (r : Remap) => t.rebuildRows r 2048) s).recovered

/-- Every page marked CLEARING is cleared (R583). -/
def State.recoverClears (s : State) : State :=
  if s.ee.clearing.isEmpty then s
  else ((s.ee.clearing.flatten.foldl State.clearPage s).recovered).setFld Fd.BOOT_STAT_SANITIZE_DONE 1

/-- A transition with a progress record is finished (20 R685, R690). -/
def State.recoverLife (s : State) : State :=
  match s.lc.progress with
  | none => s
  | some (from', dest, _) =>
    (State.lifeWork { s with life := dest, lc := { s.lc with changed := some (from', dest, 3) } } dest).recovered

/-- An open card transaction is rolled back (R96 step 6). -/
def State.recoverTxn (s : State) : State := if s.card.txn.isSome then s.recoverCard.recovered else s

/-- The mirrors of the halves in service hold the newer copy of every page (R96 step 4; 16 R584). -/
def State.recoverMirrors (s : State) : State :=
  let s := if s.halfUp .north then s.catchUp .north else s
  if s.halfUp .south then s.catchUp .south else s

/-- Step 7, with a pending Quench at its end (19 R674). Step 3 finds no record: a commit that has begun completes, and its record with
it (R61, R104; notes/assumptions 22). -/
def State.recover (s : State) : State :=
  s.recoverColumns.recoverClears.recoverMirrors.recoverLife.recoverTxn.runPendingQuench

/-- Step 7: an EE store beyond recovery or a SYSTEM page lost in both copies, or a Quench that ends in SCRAP, stops bring-up (R99,
R100; 16 R584). -/
def State.bootStep7 (s : State) (b : BringUp) : State :=
  if b.storeLost || s.ee.lostPages.any (fun c => decide (c.1 < 1024)) then s.failBoot 7 4
  else
    let s := s.recover
    if s.life = 7 then s.failBoot 7 6 else s

/-! ### Steps 8 to 10 (R89; 06 R244; 13 R506) -/

/-- A part with no storage seed draws one from the Wellhead (13 R488, R506; 15 R551). -/
def State.drawSeed (s : State) : State :=
  let s := if s.keys.seed.isSome then s
    else State.drawFresh { s with keys := { s.keys with seed := some (s.drawn 32), seedGen := (s.keys.seedGen + 1) % 65536 } } 32
  s.setFld Fd.CR_STAT_SEED_GEN s.keys.seedGen

/-- Step 8: the persistent slots are loaded; the token counter resumes at J (08 R321; 13 R497). -/
def State.bootStep8 (s : State) : State :=
  let s := s.drawSeed.reloadSlots
  { s with immo := { s.immo with counter := s.immo.markJ } }

/-- The RWL fields of registers take those of some words. -/
def State.putRwl (s : State) (l : List (Nat × Word)) : State :=
  l.foldl (fun (t : State) (c : Nat × Word) => match regDesc c.1 with
    | some d => t.setReg c.1 (withRwl d.fields (t.reg c.1) c.2)
    | none => t) s

/-- The last journalled RWL values of page pg, which comes up unlocked; fields journalled at reset take their reset values (06 R244). -/
def State.loadPage (s : State) (pg : Nat) (l : List (Nat × Word)) : State :=
  (((s.putRwl ((s.pageWords pg).map (fun c => (c.1, regReset c.1)))).putRwl l)).setFld (Fd.PG_LOCK_LOCK pg) 0

/-- Step 9: flows restart, journalled pages are loaded, mismatch counts of regions are 0 (R89; 16 R563). -/
def State.bootStep9 (s : State) : State :=
  let s := s.restartFlows
  let s := s.journals.foldl (fun (t : State) (c : Nat × List (Nat × Word)) => t.loadPage c.1 c.2) s
  s.setRegions (s.ee.regions.map (fun (r : Region) => { r with misses := 0, refuseUntil := 0 }))

/-- EN_MAP shows the engine of each slot (01 R41; 11 R450). -/
def State.showMap (s : State) : State :=
  (List.range 32).foldl (fun (t : State) j =>
    (t.setFld (Fd.EN_MAP_N_PHYS j) (t.physOf .north j)).setFld (Fd.EN_MAP_S_PHYS j) (t.physOf .south j)) s

/-- Step 10: units of the halves in service; spares are tested, and one that fails is retired; slots without a good engine take a
spare; the check key and the mesh key are drawn (R89; 01 R41, R42; 17 R602, R610; 19 R667). -/
def State.bootStep10 (s : State) (b : BringUp) : State :=
  let s := s.showMap
  let s := if s.halfUp .north then s.halfUnitsOn .north else s
  let s := if s.halfUp .south then s.halfUnitsOn .south else s
  let s := (b.spareFails.filter (fun x => decide (32 ≤ x.2 ∧ x.2 < 36) && s.halfUp x.1)).foldl (fun (t : State) x => t.retire ⟨.engine, x.1, x.2⟩ 5) s
  s.drawCheck.drawMesh

/-! ### Step 11: ready (R101, R102) -/

/-- The events of ready: BRINGUP, entries of the tamper log, and a change of the life cycle (R101; 19 R681; 20 R690). -/
def State.readyEvents (s : State) : State :=
  let s := s.post 0 0x0001 srcDevice (leBytes 4 (s.reg Reg.BOOT_STAT).toNat ++ leBytes 4 (s.reg Reg.BOOT_TIME).toNat ++
    leBytes 4 (s.reg Reg.RESET_CAUSE).toNat)
  let s := (if s.logReady then s.flushLog else s).repostTamper
  match s.lc.changed with
  | none => s
  | some (from', dest, cause) =>
    State.post { s with lc := { s.lc with changed := none } } 0 0x00A0 srcDevice
      (leBytes 1 from' ++ leBytes 1 dest ++ leBytes 1 cause)

/-- Ready (R101): what was closed opens, and what waited is served. -/
def State.ready11 (s : State) : State :=
  let halves := b2n (s.halfUp .north) + 2 * b2n (s.halfUp .south)
  let s := (((s.setStep 11).setFld Fd.BOOT_STAT_READY 1).setFld Fd.BOOT_STAT_HALVES halves).setFld Fd.BOOT_TIME_BOOT_US
    ((s.deviceTime - s.bootAt) / 1000)
  let s := s.setFld Fd.HW_ROLE_SOLO (b2n (halves != 3))
  let s := { s with
    boot := .up, retry := false, gatesOpen := true, tamper := { s.tamper with quenchAlarm := false },
    power := { s.power with busyAt := s.deviceTime } }
  let s := s.setDomains s.flowDomains
  let s := { s with linkUp := s.linkCan }
  (s.showPlan.readyEvents.canSettleAll.cardSettle).serveQueue 10

/-- Step n of R89. -/
def State.bootStepN (s : State) (b : BringUp) (n : Nat) : State :=
  match n with
  | 1 => s.bootStep1 b
  | 2 => s.bootStep2 b
  | 3 => s.bootStep3 b
  | 4 => s.bootStep4 b
  | 5 => s.bootStep5 b
  | 6 => s.grantEpoch
  | 7 => s.bootStep7 b
  | 8 => s.bootStep8
  | 9 => s.bootStep9
  | 10 => s.bootStep10 b
  | _ => s.ready11

/-- Step n may run: the writes of steps 6 and 7 wait for 2.85 V, and a storage seed that is to be drawn for a seed of the Wellhead
(R92; 15 R551). -/
def State.bootMay (s : State) (b : BringUp) (n : Nat) : Bool :=
  match n with
  | 6 | 7 => decide (2850 ≤ b.vholdMv)
  | 8 => s.keys.seed.isSome || !s.freshWaits
  | _ => true

/-- Step n runs, and BOOT_STAT shows it; from step 2 on the link trains where it can (R94, R112). -/
def State.doBootStep (s : State) (b : BringUp) (n : Nat) : State :=
  let s := (s.setStep n).bootStepN b n
  if s.boot = .failed then s else { s with linkUp := s.linkCan }

/-- Steps from the one after n on, until bring-up waits, fails, or has done step `upTo`. -/
def State.runBoot (s : State) (b : BringUp) (n : Nat) : Nat → State
  | 0 => s
  | k + 1 =>
    if s.boot = .failed || b.upTo ≤ n || !s.bootMay b (n + 1) then s
    else (s.doBootStep b (n + 1)).runBoot b (n + 1) k

/-- A bring-up may start, or go on where it stands: reset, its start in the past, no guard and no dip under judgement (R88, R92;
19 R678). -/
def State.bootDue (s : State) (b : BringUp) : Bool :=
  (s.boot = .power || s.boot = .warm) && (if s.fld Fd.BOOT_STAT_STEP = 0 then decide (s.bootAt ≤ b.startedAt) else s.bootAt == b.startedAt) &&
  decide (b.startedAt ≤ s.deviceTime) && s.tamper.guards.isEmpty && s.tamper.dip.isNone

/-- BRING_UP: steps 1 to 11 with what the environment finds, as far as `upTo`; a later one goes on from there, and a reset before it
abandons the bring-up (R89-R102). -/
def execBringUp (b : BringUp) (s : State) : Host.Outcome State Fault Refusal :=
  .next <| if !s.bootDue b then s else (s.setVhold b.vholdMv).runBoot b (s.fld Fd.BOOT_STAT_STEP) 11

end Sys2Proof.Machine
end

