-- ==== Sys2Proof/Machine/Ranging.lean ====
section
/-! DEFINITION. UWB ranging rounds and their verdicts (07_ranging.md R247-R286). -/

namespace Sys2Proof.Machine

/-- Timestamps are 40-bit counts (R258). -/
def tsMod : Nat := 2 ^ 40

/-- Nearest integer of num / den (den positive), halves away from zero (R268). -/
def roundDiv (num : Int) (den : Nat) : Int :=
  if num < 0 then -((-num * 2 + den) / (2 * den)) else (num * 2 + den) / (2 * den)

/-- Numerator and denominator of the time of flight in units (R267). -/
def tofNum (tround1 tround2 treply1 treply2 : Nat) : Int := (tround1 * tround2 : Int) - (treply1 * treply2 : Int)
def tofDen (tround1 tround2 treply1 treply2 : Nat) : Nat := tround1 + tround2 + treply1 + treply2

/-- DIST_CM: time of flight times 0.469176, nearest, halves away from zero (R268). -/
def distCm (num : Int) (den : Nat) : Int := roundDiv (num * 469176) (den * 1000000)

/-- The key's clock offset e as a fraction (numerator, denominator) (R269). -/
def clockOffset (tround2 treply2 : Nat) (num : Int) (den : Nat) : Int × Int :=
  let base := (treply2 : Int) * den + 2 * num
  ((tround2 : Int) * den - base, base)

/-- The CCM* nonce of REPORT (R298). -/
def reportNonce (c : Candidate) (n : Nat) : Bytes := c.nonceV ++ leBytes 1 c.fob ++ leBytes 1 n ++ [0x03, 0x00, 0x00]

/-- The REPORT fields after its CCM* check: TREPLY1, TROUND2, KEY_SCORE, KEY_FLAGS; none where the check fails
(R298, R299). -/
def openReport (c : Candidate) (n : Nat) (psdu : Bytes) : Option (Nat × Nat × Nat × Nat) :=
  let nonce := reportNonce c n
  let aad := psdu.take 2
  let pt := aeadText 2 c.kRpt nonce (slice psdu 2 20)
  if psdu.length = 40 && leAt psdu 0 1 = 0x40 + c.fob && leAt psdu 1 1 = n &&
     aeadTag 2 16 c.kRpt nonce aad pt [] = slice psdu 22 16 && bit (leAt pt 11 1) 0 then
    some (leAt pt 0 5, leAt pt 5 5, leAt pt 10 1, leAt pt 11 1)
  else none

/-- The checks of R275 in order on a round that got past step 3, the REPORT opened to Treply1, Tround2, KEY_SCORE and flags, or
none where no REPORT opened. -/
def State.judgeOpened (s : State) (r : Round) (m : CirFound) (reportC1 : Option Nat) (opened : Option (Nat × Nat × Nat × Nat)) : RngResult :=
  let k := m.comps
  let min := s.uwbFld Fd.UWB_POLICY_MIN_SCORE
  let base : RngResult := { outcome := .valid, comps := k, rxPower := m.rxPower, fpPower := m.fpPower }
  let t4 := (((r.t4c : Int) + m.firstPath - 96 * 64) % tsMod).toNat
  let tround1 := (t4 + tsMod - r.t1 % tsMod) % tsMod
  let treply2 := (r.t5 + tsMod - t4) % tsMod
  if k.c1 < min then { base with outcome := .stsFail }
  else if k.c2 < min || k.c3 < min then { base with outcome := .fpMismatch }
  else if k.c4 < min || k.c5 < min then { base with outcome := .edlcSuspect }
  else match if reportC1.getD 0 < min then none else opened with
  | none => { base with outcome := .reportFail }
  | some (treply1, tround2, keyScore, _) =>
    let base := { base with keyScore := keyScore }
    let num := tofNum tround1 tround2 treply1 treply2
    let den := tofDen tround1 tround2 treply1 treply2
    let dist := distCm num den
    let e := clockOffset tround2 treply2 num den
    let base := { base with dist := dist, ppm10 := roundDiv (e.1 * 10000000) e.2.toNat }
    if keyScore < min then { base with outcome := .lowKeyScore }
    else if treply1 * 10 < s.uwbFld Fd.UWB_KEYWIN_REPLY_MIN_US * 638976 ||
            s.uwbFld Fd.UWB_KEYWIN_REPLY_MAX_US * 638976 < treply1 * 10 then { base with outcome := .replyWindow }
    else if (s.uwbFld Fd.UWB_POLICY_PPM_MAX : Int) * e.2 < (e.1.natAbs : Int) * 1000000 then { base with outcome := .clock }
    else if dist < -(s.uwbFld Fd.UWB_POLICY_NEG_LIMIT_CM : Int) then { base with outcome := .negative }
    else if (s.uwbFld Fd.UWB_LIMIT_D_LIMIT_CM : Int) < dist then { base with outcome := .tooFar }
    else { base with score := [k.c1, k.c2, k.c3, k.c4, k.c5, keyScore].foldl Nat.min 255 }

/-- A RESPONSE whose record has not come shows nothing: every component is 0. -/
def CirFound.none : CirFound := { comps := ⟨0, 0, 0, 0, 0⟩, firstPath := 96 * 64, rxPower := 0, fpPower := 0 }

/-- The result of a round with this REPORT, or none where no REPORT SFD came (R275). -/
def State.judge (s : State) (r : Round) (c : Candidate) (report : Option Bytes) : RngResult :=
  s.judgeOpened r (r.found.getD CirFound.none) r.reportC1 (report.bind (openReport c r.n))

/-- The result of a ranging request reaches the decision rule (R265, R276, R312). -/
def State.rangingDone (s : State) (fob : Nat) (r : RngResult) : State :=
  let s := s.stopRanging
  match s.acc.session with
  | none => s
  | some x =>
    let z := match x.candidates.find? (fun c => c.fob == fob) with | some c => s.lfZone c.strengths | none => 0xFF
    let b := if r.outcome = .valid then s.bound r else 0xFFFF
    let s := s.updSession (fun x => { x with
      lastRng := r.outcome.code, lastBound := b, lastScore := if r.outcome = .valid then r.score else 0 })
    if r.outcome = .aborted && 3 ≤ s.level then (s.updSession (fun x => x.failWith fob .outOfBudget 6 z)).advance
    else if r.outcome ≠ .valid then (s.updSession (fun x => x.failWith fob .rangeReject 4 z)).advance
    else if tgtBound (polTarget s.policy x.target) < b then (s.updSession (fun x => x.failWith fob .rangeReject 5 z)).advance
    else s.decision {
      target := x.target, fob := fob, status := .ok, reason := 0, zone := z, bound := b, score := r.score, rng := 0,
      source := x.source }

/-- A round ends with its outcome: suspect outcomes are posted, and the request ends or another round follows
(R265, R302). -/
def State.endRound (s : State) (x : Round) (r : RngResult) (full : Bool) : State :=
  match s.uwb.fob with
  | none => s
  | some fob =>
    let s := (s.showRound x fob r).book (if full then .uwbFull else .uwbShort)
    let s := if r.outcome = .edlcSuspect || r.outcome = .negative || r.outcome = .replyWindow then
        s.suspect fob 4 0xFF r.outcome.code r.rxPower 0 else s
    let s := { s with uwb := { s.uwb with round := none, roundsRun := s.uwb.roundsRun + 1, stsHeld := [] } }
    let s := s.updSession (fun y => { y with rounds := y.rounds + 1 })
    if r.outcome = .valid || s.uwbFld Fd.UWB_PLAN_ROUNDS_M1 + 1 ≤ s.uwb.roundsRun then s.rangingDone fob r else s

/-- The candidate a ranging request ranges. -/
def State.rangedCandidate (s : State) : Option Candidate :=
  match s.uwb.fob, s.acc.session with
  | some f, some x => x.candidates.find? (fun c => c.fob == f)
  | _, _ => none

/-- The counter value V of frame f of round n: NONCE_V, key number, index 4 n + f (08 R297). -/
def stsCounter (c : Candidate) (n f : Nat) : Bytes := c.nonceV ++ leBytes 1 c.fob ++ [0, 0, 0] ++ beBytes 4 (4 * n + f)

/-- The STS of frame f of round n as the halves stream it, one bit per pulse and 64 pulses per unit of 512 chips
(R250, R253; notes/assumptions 5). -/
def State.sts (s : State) (n f : Nat) : Bytes :=
  match s.rangedCandidate with
  | some c => Config.prim .stsPulse [c.kSts, stsCounter c n f] (8 * (32 * 2 ^ s.uwbFld Fd.UWB_PHY_STS_LEN))
  | none => []

/-- Hammer bytes of the STS of one frame (10 R403). -/
def State.stsBytes (s : State) : Nat := 8 * (32 * 2 ^ s.uwbFld Fd.UWB_PHY_STS_LEN)

/-- The request has no further round: its rounds have run, level 3 or 4, the reference lost, or 64 rounds in the session (R265, R266,
R282; 08 R297). -/
def State.rangingOver (s : State) (y : Session) : Bool :=
  decide (s.uwbFld Fd.UWB_PLAN_ROUNDS_M1 + 1 ≤ s.uwb.roundsRun) || decide (3 ≤ s.level) || s.supply.lostRef38 || decide (64 ≤ y.rounds)

/-- FAULT marks go from the ports of domains that go on now where their test burst gave 6 dB or more (R256). -/
def State.testPorts (s : State) (need cleared : Nat) : State :=
  let on := maskDiff need s.uwb.portsOn
  s.setFld Fd.RNG_PORT_FAULT (maskDiff (s.fld Fd.RNG_PORT_FAULT)
    (cleared &&& ((if bit on 0 then 3 else 0) + (if bit on 1 then 12 else 0))))

/-- A round on plan entry r begins: its ports are powered and tested, and POLL goes out with its STS, which the timestamp unit then
drops, while it holds that of RESPONSE (R253, R255, R256, R263). -/
def State.startRound (s : State) (y : Session) (fob r t1 cleared : Nat) (lowLoss : Bool) : State :=
  let (tx, rx) := s.planPorts r
  let need := portMask [tx, rx]
  let s := (s.testPorts need cleared).portsPower need
  let x : Round :=
    { idx := s.uwb.roundsRun, n := y.rounds, txPort := tx, rxPort := rx,
      t1 := (t1 / 512 * 512 + s.uwbFld (Fd.UWB_CAL_TX_DELAY tx)) % tsMod, responseSeen := false, t4c := 0, t5 := 0,
      finalSent := false, reportSeen := false, report := [], startedAt := s.deviceTime, found := none, reportC1 := none }
  let s := { s with uwb := { s.uwb with planIdx := r + 1, twinClaimed := true } }
  if lowLoss then (((s.setFldBit Fd.RNG_PORT_FAULT tx true).raise pgRng 4).endRound x { outcome := .aborted } false)
  else
    let s := s.askOwn (2 * s.stsBytes)
    ({ s with uwb := { s.uwb with round := some x, stsHeld := [(1, s.sts y.rounds 1)] } }).emit (.uwbPoll tx fob (s.sts y.rounds 0))

/-- UWB_ROUND_START: the next usable plan entry, or the request ends ABORTED (R255, R263, R265; 04 R124). `t1` is the timestamp
count at POLL, `cleared` the ports whose test burst gave 6 dB or more, and `lowLoss` a return loss below 3 dB at the transmit port. -/
def execUwbRoundStart (t1 cleared : Nat) (lowLoss : Bool) (s : State) : Host.Outcome State Fault Refusal :=
  .next <| match s.uwb.fob, s.acc.session with
  | some fob, some y =>
    if s.uwb.round.isSome || !s.pageAdmits 0x050000 then s
    else if s.rangingOver y then s.rangingDone fob { outcome := .aborted }
    else match s.planEntry s.uwb.planIdx with
      | none => s.rangingDone fob { outcome := .aborted }
      | some r => s.startRound y fob r t1 cleared lowLoss
  | _, _ => s

/-- The timestamp unit drops the STS it holds: the frame ended, or its window closed without one (R253). -/
def State.dropSts (s : State) : State := { s with uwb := { s.uwb with stsHeld := [] } }

/-- The close of a receive window in ns after the frame it answers (R262). -/
def State.windowNs (s : State) : Nat := (s.uwbFld Fd.UWB_KEYWIN_REPLY_MAX_US + s.uwbFld Fd.UWB_TIMING_GUARD_US) * 1000

/-- A timestamp lies in the window that answers a frame at timestamp t (R258, R262). -/
def State.inWindow (s : State) (t r : Nat) : Bool :=
  let d := (r + tsMod - t % tsMod) % tsMod
  decide ((s.uwbFld Fd.UWB_KEYWIN_REPLY_MIN_US - s.uwbFld Fd.UWB_TIMING_GUARD_US) * 638976 ≤ d * 10 ∧
    d * 10 ≤ (s.uwbFld Fd.UWB_KEYWIN_REPLY_MAX_US + s.uwbFld Fd.UWB_TIMING_GUARD_US) * 638976)

/-- Device time of timestamp t of a round, from that of its POLL; 638,976 units are 10,000 ns (R13, R258). -/
def Round.timeOf (x : Round) (t : Nat) : Nat := x.startedAt + (t + tsMod - x.t1 % tsMod) % tsMod * 10000 / 638976

/-- UWB_RESPONSE_RX: RESPONSE reaches its SFD in its window; its coarse timestamp less RX_DELAY (R259, R262). -/
def execUwbResponseRx (t4c : Nat) (s : State) : Host.Outcome State Fault Refusal :=
  .next <| match s.uwb.round with
  | some x =>
    let t := (t4c + tsMod - s.uwbFld (Fd.UWB_CAL_RX_DELAY x.rxPort)) % tsMod
    if x.responseSeen || !s.inWindow x.t1 t then s else
    State.dropSts { s with uwb := { s.uwb with round := some { x with responseSeen := true, t4c := t } } }
  | none => s

/-- UWB_RESPONSE_TIMEOUT: the window closes without an SFD; no FINAL is sent (R262, R263, R275). -/
def execUwbResponseTimeout (preamble : Bool) (s : State) : Host.Outcome State Fault Refusal :=
  .next <| match s.uwb.round with
  | some x => if x.responseSeen || decide (s.deviceTime < x.startedAt + s.windowNs) then s else s.endRound x { outcome := if preamble then .sfdFail else .noResponse } false
  | none => s

/-- The grid point of FINAL: t4c plus the reply time, rounded up to 512 units (R260). -/
def State.finalGrid (s : State) (t4c : Nat) : Nat :=
  (t4c + s.uwbFld Fd.UWB_TIMING_REPLY_US * 638976 / 10 + 511) / 512 * 512 % tsMod

/-- UWB_FINAL_TX: FINAL goes out at its grid time whatever the record said, and the unit holds the STS of REPORT (R253, R260,
R264). -/
def execUwbFinalTx (s : State) : Host.Outcome State Fault Refusal :=
  .next <| match s.uwb.round, s.uwb.fob with
  | some x, some fob =>
    if !x.responseSeen || x.finalSent || decide (s.deviceTime < x.timeOf (s.finalGrid x.t4c)) then s else
    let s := s.askOwn (2 * s.stsBytes)
    ({ s with uwb := { s.uwb with
      round := some { x with finalSent := true, t5 := (s.finalGrid x.t4c + s.uwbFld (Fd.UWB_CAL_TX_DELAY x.txPort)) % tsMod },
      stsHeld := [(3, s.sts x.n 3)] } }).emit (.uwbFinal x.txPort fob (s.sts x.n 2))
  | _, _ => s

/-- UWB_REPORT_RX: a REPORT frame is received in its window (R262, R274). -/
def execUwbReportRx (psdu : Bytes) (s : State) : Host.Outcome State Fault Refusal :=
  .next <| match s.uwb.round with
  | some x =>
    if x.finalSent && !x.reportSeen then
      State.dropSts { s with uwb := { s.uwb with round := some { x with reportSeen := true, report := psdu } } }
    else s
  | none => s

/-- UWB_REPORT_TIMEOUT: no REPORT record by the end of its window; the earlier checks still come first (R275, R280). -/
def execUwbReportTimeout (s : State) : Host.Outcome State Fault Refusal :=
  .next <| match s.uwb.round, s.rangedCandidate with
  | some x, some c => if x.finalSent && (!x.reportSeen || x.reportC1.isNone) && decide (x.timeOf x.t5 + s.windowNs ≤ s.deviceTime) then s.endRound x (s.judge x c none) true else s
  | _, _ => s

/-- UWB_VERDICT: distance, integrity and outcome; another round, or the request's result (R265-R276, R302, R312). -/
def execUwbVerdict (s : State) : Host.Outcome State Fault Refusal :=
  .next <| match s.uwb.round, s.rangedCandidate with
  | some x, some c => if x.reportSeen && !s.decisionHeld then s.endRound x (s.judge x c (some x.report)) true else s
  | _, _ => s

end Sys2Proof.Machine
end

