-- ==== Sys2Proof/Machine/Dispatch.lean ====
section
/-! DEFINITION. What each command does, one arm per constructor. -/

namespace Sys2Proof.Machine

/-- The effect of a command on everything but the queue. -/
def exec (i : Instr) (s : State) : Host.Outcome State Fault Refusal :=
  match i with
  | .powerOnReset c => Sys2Proof.Machine.execPowerOnReset c s
  | .bringUp b => Sys2Proof.Machine.execBringUp b s
  | .brownOut m vholdMv => Sys2Proof.Machine.execBrownOut m vholdMv s
  | .serdesSupplyLow => Sys2Proof.Machine.execSerdesSupplyLow s
  | .holdCapMeasure dropUv => Sys2Proof.Machine.execHoldCapMeasure dropUv s
  | .deviceWarmReset c => Sys2Proof.Machine.execDeviceWarmReset c s
  | .devWarm src data => Sys2Proof.Machine.execWarm src data s
  | .linkReset c => Sys2Proof.Machine.execLinkReset c s
  | .perstNRise => Sys2Proof.Machine.execPerstNRise s
  | .flr p => Sys2Proof.Machine.execFlr p s
  | .partitionReset p c => Sys2Proof.Machine.execPartitionReset p c s
  | .pcieConfig p op => Sys2Proof.Machine.execPcieConfig p op s
  | .hostReadError p r e idx => Sys2Proof.Machine.execHostReadError p r e idx s
  | .registerWrite src w off be data => Sys2Proof.Machine.execRegisterWrite src w off be data s
  | .resetReq src pg data => Sys2Proof.Machine.execResetReq src pg data s
  | .pageQuiesce src pg data => Sys2Proof.Machine.execQuiesce src pg data s
  | .pageEnable src pg data => Sys2Proof.Machine.execEnable src pg data s
  | .pgLock src pg data => Sys2Proof.Machine.execPgLock src pg data s
  | .intStatClear src pg data => Sys2Proof.Machine.execIntStatClear src pg data s
  | .intForce src pg data => Sys2Proof.Machine.execForce src pg data s
  | .errCapClear src pg data => Sys2Proof.Machine.execErrCapClear src pg data s
  | .evrEnable p data => Sys2Proof.Machine.execEvrEnable p data s
  | .evrDisable p data => Sys2Proof.Machine.execEvrDisable p data s
  | .evrHead p data => Sys2Proof.Machine.execEvrHead p data s
  | .sqTail p j data => Sys2Proof.Machine.execSqTail p j data s
  | .cqHead p j data => Sys2Proof.Machine.execCqHead p j data s
  | .ringCreate p => Sys2Proof.Machine.execRingCreate p s
  | .ringDestroy p => Sys2Proof.Machine.execRingDestroy p s
  | .sqDrained p j => Sys2Proof.Machine.execSqDrained p j s
  | .ringQuery p => Sys2Proof.Machine.execRingQuery p s
  | .sqFetch p j f => Sys2Proof.Machine.execSqFetch p j f s
  | .nopCmd k => Sys2Proof.Machine.execNop k s
  | .partCreate k => Sys2Proof.Machine.execPartCreate k s
  | .partSet k => Sys2Proof.Machine.execPartSet k s
  | .partDestroy k => Sys2Proof.Machine.execPartDestroy k s
  | .partReset k => Sys2Proof.Machine.execPartReset k s
  | .powerVote k => Sys2Proof.Machine.execPowerVote k s
  | .spillRegionSet k => Sys2Proof.Machine.execSpillRegionSet k s
  | .reservoirSet k => Sys2Proof.Machine.execReservoirSet k s
  | .powerCapSet k => Sys2Proof.Machine.execPowerCapSet k s
  | .keyGenerate k => Sys2Proof.Machine.execKeyGenerate k s
  | .keyImport k => Sys2Proof.Machine.execKeyImport k s
  | .keyDerive k => Sys2Proof.Machine.execKeyDerive k s
  | .keyDestroy k => Sys2Proof.Machine.execKeyDestroy k s
  | .keyExport k => Sys2Proof.Machine.execKeyExport k s
  | .keyInfo k => Sys2Proof.Machine.execKeyInfo k s
  | .counterCreate k => Sys2Proof.Machine.execCounterCreate k s
  | .counterIncrement k => Sys2Proof.Machine.execCounterIncrement k s
  | .counterRead k => Sys2Proof.Machine.execCounterRead k s
  | .sealObject k => Sys2Proof.Machine.execSeal k s
  | .unsealObject k => Sys2Proof.Machine.execUnseal k s
  | .aeadEncrypt k => Sys2Proof.Machine.execAeadEncrypt k s
  | .aeadDecrypt k => Sys2Proof.Machine.execAeadDecrypt k s
  | .macGenerate k => Sys2Proof.Machine.execMacGenerate k s
  | .macVerify k => Sys2Proof.Machine.execMacVerify k s
  | .dataWrap k => Sys2Proof.Machine.execDataWrap k s
  | .dataUnwrap k => Sys2Proof.Machine.execDataUnwrap k s
  | .digestCmd k => Sys2Proof.Machine.execDigest k s
  | .pkKeygen k => Sys2Proof.Machine.execPkKeygen k s
  | .pkSign k => Sys2Proof.Machine.execPkSign k s
  | .pkVerify k => Sys2Proof.Machine.execPkVerify k s
  | .pkAgree k => Sys2Proof.Machine.execPkAgree k s
  | .kemEncaps k => Sys2Proof.Machine.execKemEncaps k s
  | .kemDecaps k => Sys2Proof.Machine.execKemDecaps k s
  | .attest k => Sys2Proof.Machine.execAttest k s
  | .randomBytes k => Sys2Proof.Machine.execRandom k s
  | .storeRead k => Sys2Proof.Machine.execStoreRead k s
  | .storeWrite k => Sys2Proof.Machine.execStoreWrite k s
  | .storeSanitize k => Sys2Proof.Machine.execStoreSanitize k s
  | .flowCreate k => Sys2Proof.Machine.execFlowCreate k s
  | .flowModify k => Sys2Proof.Machine.execFlowModify k s
  | .flowDestroy k => Sys2Proof.Machine.execFlowDestroy k s
  | .sakInstall k => Sys2Proof.Machine.execSakInstall k s
  | .flowStats k => Sys2Proof.Machine.execFlowStats k s
  | .appletLoad k => Sys2Proof.Machine.execAppletLoad k s
  | .appletInvoke k e base => Sys2Proof.Machine.execAppletInvoke k e base s
  | .appletUnload k => Sys2Proof.Machine.execAppletUnload k s
  | .fobPair k => Sys2Proof.Machine.execFobPair k s
  | .fobRemove k => Sys2Proof.Machine.execFobRemove k s
  | .accessPolicySet k => Sys2Proof.Machine.execAccessPolicySet k s
  | .releaseRequest k => Sys2Proof.Machine.execReleaseRequest k s
  | .immoConfig k => Sys2Proof.Machine.execImmoConfig k s
  | .lifecycleAdvance k readback whole => Sys2Proof.Machine.execLifecycleAdvance k readback whole s
  | .debugChallenge k => Sys2Proof.Machine.execDebugChallenge k s
  | .debugGrant k => Sys2Proof.Machine.execDebugGrant k s
  | .cardTransact k => Sys2Proof.Machine.execCardTransact k s
  | .halfTest k f => Sys2Proof.Machine.execHalfTest k f s
  | .eeTransaction vholdMv => Sys2Proof.Machine.execEeTransaction vholdMv s
  | .vholdWaitTimeout k => Sys2Proof.Machine.execVholdWaitTimeout k s
  | .frameStart n => Sys2Proof.Machine.execFrameStart n s
  | .frameReceive n data cut => Sys2Proof.Machine.execFrameReceive n data cut s
  | .pauseRepeat n => Sys2Proof.Machine.execPauseRepeat n s
  | .pauseReceive n quanta => Sys2Proof.Machine.execPauseReceive n quanta s
  | .laneLinkChange n up mismatch => Sys2Proof.Machine.execLaneLinkChange n up mismatch s
  | .secocVerify id => Sys2Proof.Machine.execSecocVerify id s
  | .secocSign id => Sys2Proof.Machine.execSecocSign id s
  | .macsecRx id => Sys2Proof.Machine.execMacsecRx id s
  | .macsecTx id => Sys2Proof.Machine.execMacsecTx id s
  | .frameTransmit id => Sys2Proof.Machine.execFrameTransmit id s
  | .checkpointCommit h => Sys2Proof.Machine.execCheckpointCommit h s
  | .checkpointTimeout id => Sys2Proof.Machine.execCheckpointTimeout id s
  | .spillRecordRead h rec => Sys2Proof.Machine.execSpillRecordRead h rec s
  | .writeBack h => Sys2Proof.Machine.execWriteBack h s
  | .hammerSegmentEnd h j ok => Sys2Proof.Machine.execHammerSegmentEnd h j ok s
  | .hammerRequestEnd h j => Sys2Proof.Machine.execHammerRequestEnd h j s
  | .defenceReseed h j => Sys2Proof.Machine.execDefenceReseed h j s
  | .digestBlockEnd h ok => Sys2Proof.Machine.execDigestBlockEnd h ok s
  | .anvilOpEnd h j failedBy => Sys2Proof.Machine.execAnvilOpEnd h j failedBy s
  | .taskStart e b => Sys2Proof.Machine.execTaskStart e b s
  | .kMov e d r => Sys2Proof.Machine.execMov e d r s
  | .kAdd e d r => Sys2Proof.Machine.execAdd e d r s
  | .kAdc e d r => Sys2Proof.Machine.execAdc e d r s
  | .kSub e d r => Sys2Proof.Machine.execSub e d r s
  | .kSbc e d r => Sys2Proof.Machine.execSbc e d r s
  | .kCmp e d r => Sys2Proof.Machine.execCmp e d r s
  | .kAnd e d r => Sys2Proof.Machine.execAnd e d r s
  | .kOr e d r => Sys2Proof.Machine.execOr e d r s
  | .kXor e d r => Sys2Proof.Machine.execXor e d r s
  | .kShl e d n => Sys2Proof.Machine.execShl e d n s
  | .kShr e d n => Sys2Proof.Machine.execShr e d n s
  | .kSar e d n => Sys2Proof.Machine.execSar e d n s
  | .kRor e d a => Sys2Proof.Machine.execRor e d a s
  | .kMul e d r => Sys2Proof.Machine.execMul e d r s
  | .kMulu e d r => Sys2Proof.Machine.execMulu e d r s
  | .kMac e d r => Sys2Proof.Machine.execMac e d r s
  | .kMsb e d r => Sys2Proof.Machine.execMsb e d r s
  | .kMovi e d imm => Sys2Proof.Machine.execMovi e d imm s
  | .kAddi e d imm => Sys2Proof.Machine.execAddi e d imm s
  | .kMovw e d imm => Sys2Proof.Machine.execMovw e d imm s
  | .kAddw e d imm => Sys2Proof.Machine.execAddw e d imm s
  | .kCmpw e d imm => Sys2Proof.Machine.execCmpw e d imm s
  | .kAndw e d imm => Sys2Proof.Machine.execAndw e d imm s
  | .kOrw e d imm => Sys2Proof.Machine.execOrw e d imm s
  | .kXorw e d imm => Sys2Proof.Machine.execXorw e d imm s
  | .kMovl e d imm => Sys2Proof.Machine.execMovl e d imm s
  | .kJmpcc e c target => Sys2Proof.Machine.execJmpcc e c target s
  | .kShortBranch e c disp => Sys2Proof.Machine.execShortBranch e c disp s
  | .kJr e r => Sys2Proof.Machine.execJr e r s
  | .kCallm e m kt => Sys2Proof.Machine.execCallm e m kt s
  | .kRetm e => Sys2Proof.Machine.execRetm e s
  | .kNopInstruction e => Sys2Proof.Machine.execNopInstruction e s
  | .kEnd e => Sys2Proof.Machine.execEnd e s
  | .kSvc e => Sys2Proof.Machine.execSvc e s
  | .kSvca e => Sys2Proof.Machine.execSvca e s
  | .serviceRequestEnd e which => Sys2Proof.Machine.execServiceRequestEnd e which s
  | .kPush e r => Sys2Proof.Machine.execPush e r s
  | .kPop e r => Sys2Proof.Machine.execPop e r s
  | .kNot e d => Sys2Proof.Machine.execNot e d s
  | .kNeg e d => Sys2Proof.Machine.execNeg e d s
  | .kAbs e d => Sys2Proof.Machine.execAbs e d s
  | .kTst e d => Sys2Proof.Machine.execTst e d s
  | .kPmv e d => Sys2Proof.Machine.execPmv e d s
  | .kMfs e n d => Sys2Proof.Machine.execMfs e n d s
  | .kMts e n r => Sys2Proof.Machine.execMts e n r s
  | .kUop e n d => Sys2Proof.Machine.execUop e n d s
  | .kLd e r b off => Sys2Proof.Machine.execLd e r b off s
  | .kSt e r b off => Sys2Proof.Machine.execSt e r b off s
  | .kLdp e r b off => Sys2Proof.Machine.execLdp e r b off s
  | .kStp e r b off => Sys2Proof.Machine.execStp e r b off s
  | .kBfi e d r p w => Sys2Proof.Machine.execBfi e d r p w s
  | .kBfx e d r p w => Sys2Proof.Machine.execBfx e d r p w s
  | .kClz e d r => Sys2Proof.Machine.execClz e d r s
  | .kBperm e d r sel zm => Sys2Proof.Machine.execBperm e d r sel zm s
  | .kWfe e d => Sys2Proof.Machine.execWfe e d s
  | .kSev e r => Sys2Proof.Machine.execSev e r s
  | .kWaitc e r => Sys2Proof.Machine.execWaitc e r s
  | .kRdt e d => Sys2Proof.Machine.execRdt e d s
  | .engineEvent e line => Sys2Proof.Machine.execEngineEvent e line s
  | .waitcDeadline e => Sys2Proof.Machine.execWaitcDeadline e s
  | .hsScanRound => Sys2Proof.Machine.execHsScanRound s
  | .hsMeasurement n count startedAt => Sys2Proof.Machine.execHsMeasurement n count startedAt s
  | .hsConfirm n count startedAt => Sys2Proof.Machine.execHsConfirm n count startedAt s
  | .hsRemeasure n count startedAt => Sys2Proof.Machine.execHsRemeasure n count startedAt s
  | .stuckTouch n => Sys2Proof.Machine.execStuckTouch n s
  | .lfFrameStart short => Sys2Proof.Machine.execLfFrameStart short s
  | .lfFrameEnd shorted => Sys2Proof.Machine.execLfFrameEnd shorted s
  | .lfDiag n st res why => Sys2Proof.Machine.execLfDiag n st res why s
  | .bcSessionStart transponder => Sys2Proof.Machine.execBcSessionStart transponder s
  | .bcReply raw => Sys2Proof.Machine.execBcReply raw s
  | .bcSessionEnd => Sys2Proof.Machine.execBcSessionEnd s
  | .uhfWindowOpen => Sys2Proof.Machine.execUhfWindowOpen s
  | .uhfTelegram j raw rssi0 rssi1 => Sys2Proof.Machine.execUhfTelegram j raw rssi0 rssi1 s
  | .uhfWindowEnd heard => Sys2Proof.Machine.execUhfWindowEnd heard s
  | .uwbRoundStart t1 cleared lowLoss => Sys2Proof.Machine.execUwbRoundStart t1 cleared lowLoss s
  | .uwbResponseRx t4c => Sys2Proof.Machine.execUwbResponseRx t4c s
  | .uwbResponseTimeout preamble => Sys2Proof.Machine.execUwbResponseTimeout preamble s
  | .cirRecord r => Sys2Proof.Machine.execCirRecord r s
  | .uwbFinalTx => Sys2Proof.Machine.execUwbFinalTx s
  | .uwbReportRx psdu => Sys2Proof.Machine.execUwbReportRx psdu s
  | .uwbReportTimeout => Sys2Proof.Machine.execUwbReportTimeout s
  | .uwbVerdict => Sys2Proof.Machine.execUwbVerdict s
  | .sessionTimeout => Sys2Proof.Machine.execSessionTimeout s
  | .releasePulseEnd g => Sys2Proof.Machine.execReleasePulseEnd g s
  | .tokenSend => Sys2Proof.Machine.execTokenSend s
  | .eddyEnter wakes => Sys2Proof.Machine.execEddyEnter wakes s
  | .pwTarget src data => Sys2Proof.Machine.execTarget src data s
  | .parkEntry wakes => Sys2Proof.Machine.execParkEntry wakes s
  | .pondTimeout wakes => Sys2Proof.Machine.execPondTimeout wakes s
  | .tarnToDry => Sys2Proof.Machine.execTarnToDry s
  | .pwrgdReturn imagesOk => Sys2Proof.Machine.execPwrgdReturn imagesOk s
  | .parkReturn railOk imagesOk => Sys2Proof.Machine.execParkReturn railOk imagesOk s
  | .lingerEnd wakes => Sys2Proof.Machine.execLingerEnd wakes s
  | .welcomePoll => Sys2Proof.Machine.execWelcomePoll s
  | .wakePin k high samples => Sys2Proof.Machine.execWakePin k high samples s
  | .alarmWake => Sys2Proof.Machine.execAlarmWake s
  | .reservoirCredit vaonNc => Sys2Proof.Machine.execReservoirCredit vaonNc s
  | .reservoirPlan j => Sys2Proof.Machine.execReservoirPlan j s
  | .powerReading mw ack => Sys2Proof.Machine.execPowerReading mw ack s
  | .paceWindow counts => Sys2Proof.Machine.execPaceWindow counts s
  | .avsEvaluate ack hot slow => Sys2Proof.Machine.execAvsEvaluate ack hot slow s
  | .clrPeak src data => Sys2Proof.Machine.execClrPeak src data s
  | .hmClrWait src data => Sys2Proof.Machine.execHmClrWait src data s
  | .hwClrWait src data => Sys2Proof.Machine.execHwClrWait src data s
  | .clrLat src data => Sys2Proof.Machine.execClrLat src data s
  | .refclkLoss r => Sys2Proof.Machine.execRefclkLoss r s
  | .refclkReturn r => Sys2Proof.Machine.execRefclkReturn r s
  | .halfSilent h => Sys2Proof.Machine.execHalfSilent h s
  | .leaseRenewal => Sys2Proof.Machine.execLeaseRenewal s
  | .leaseExpiry => Sys2Proof.Machine.execLeaseExpiry s
  | .compareVerdict k v => Sys2Proof.Machine.execCompareVerdict k v s
  | .lateRecord u => Sys2Proof.Machine.execLateRecord u s
  | .unitWatchdog u parity => Sys2Proof.Machine.execUnitWatchdog u parity s
  | .probationTest u pass => Sys2Proof.Machine.execProbationTest u pass s
  | .bankFail h j testOk => Sys2Proof.Machine.execBankFail h j testOk s
  | .bankRebuilt h j => Sys2Proof.Machine.execBankRebuilt h j s
  | .patrolPage north south tests => Sys2Proof.Machine.execPatrolPage north south tests s
  | .columnRebuild h rows => Sys2Proof.Machine.execColumnRebuild h rows s
  | .pageClear ok => Sys2Proof.Machine.execPageClear ok s
  | .healthWindow h a b => Sys2Proof.Machine.execHealthWindow h a b s
  | .oscillatorCheck h aKhz bKhz isLocked vnBits => Sys2Proof.Machine.execOscillatorCheck h aKhz bKhz isLocked vnBits s
  | .wellheadPhaseEnd h knownAnswer => Sys2Proof.Machine.execWellheadPhaseEnd h knownAnswer s
  | .whTest src data => Sys2Proof.Machine.execTest src data s
  | .rawEn src data => Sys2Proof.Machine.execRawEn src data s
  | .whRawRead src => Sys2Proof.Machine.execWhRawRead src s
  | .bellowsReseed h => Sys2Proof.Machine.execBellowsReseed h s
  | .tamperEvent sensor sub => Sys2Proof.Machine.execTamperEvent sensor sub s
  | .glitchDecide => Sys2Proof.Machine.execGlitchDecide s
  | .guardEnd => Sys2Proof.Machine.execGuardEnd s
  | .alarmEnd => Sys2Proof.Machine.execAlarmEnd s
  | .tpRelease src data => Sys2Proof.Machine.execTpRelease src data s
  | .tapReset => Sys2Proof.Machine.execTapReset s
  | .tapInstruction code => Sys2Proof.Machine.execTapInstruction code s
  | .extest selected cells => Sys2Proof.Machine.execExtest selected cells s
  | .dbgMem dr => Sys2Proof.Machine.execDbgMem dr s
  | .dbgEngRead e r spec => Sys2Proof.Machine.execDbgEngRead e r spec s
  | .dbgEngHalt e => Sys2Proof.Machine.execDbgEngHalt e s
  | .dbgEngStep e => Sys2Proof.Machine.execDbgEngStep e s
  | .dbgEngResume e => Sys2Proof.Machine.execDbgEngResume e s
  | .challengeLapse => Sys2Proof.Machine.execChallengeLapse s
  | .cardInsert => Sys2Proof.Machine.execCardInsert s
  | .cardAtr a => Sys2Proof.Machine.execCardAtr a s
  | .cardAtrTimeout => Sys2Proof.Machine.execCardAtrTimeout s
  | .cardCondPoll resp => Sys2Proof.Machine.execCardCondPoll resp s
  | .cardRemove lost => Sys2Proof.Machine.execCardRemove lost s
  | .cardTxnTimeout => Sys2Proof.Machine.execCardTxnTimeout s
  | .clockStop => Sys2Proof.Machine.execClockStop s
  | .canBusOff n => Sys2Proof.Machine.execCanBusOff n s
  | .busOffRecovery n => Sys2Proof.Machine.execBusOffRecovery n s
  | .pmicAlert rail status => Sys2Proof.Machine.execPmicAlert rail status s
  | .pmicRetry k v => Sys2Proof.Machine.execPmicRetry k v s
  | .vholdReady vholdMv => Sys2Proof.Machine.execVholdReady vholdMv s
  | .serdesSupplyReturn => Sys2Proof.Machine.execSerdesSupplyReturn s
  | .vlfLowChange mv => Sys2Proof.Machine.execVlfLowChange mv s
  | .syncMatch bits => Sys2Proof.Machine.execSyncMatch bits s
  | .hypothesisFailed j raw => Sys2Proof.Machine.execHypothesisFailed j raw s
  | .cardResponse resp => Sys2Proof.Machine.execCardResponse resp s
  | .rejoin h ok => Sys2Proof.Machine.execRejoin h ok s
  | .sensorClear sensor => Sys2Proof.Machine.execSensorClear sensor s
  | .repetitionCountFail h cause => Sys2Proof.Machine.execRepetitionCountFail h cause s
  | .pauseTimerExpiry n => Sys2Proof.Machine.execPauseTimerExpiry n s
  | .railOnRetry railOk imagesOk => Sys2Proof.Machine.execRailOnRetry railOk imagesOk s
  | .tokenTransmitted n tec rec => Sys2Proof.Machine.execTokenTransmitted n tec rec s

end Sys2Proof.Machine
end

