-- ==== Sys2Proof/Machine/Tick.lean ====
section
/-! DEFINITION. What passes while no command waits: one period of the reference that device time counts
(00_scope.md R10-R12; 18_power_and_reservoir.md R640; 02_package_and_electrical.md R79). -/

namespace Sys2Proof.Machine

/-- Device time counts the 38.4 MHz reference: it is not lost, and in a parked state its input buffer has been on for the 1 ms of
its monitor (R12, R640, R645). -/
def State.onRef38 (s : State) : Bool :=
  !s.supply.lostRef38 && (!s.parked || (bit s.domains 8 && decide (s.power.ref38At + 1000000 ≤ s.deviceTime)))

/-- Advance of device time in a period of the 38.4 MHz reference, the k-th of 24 (R11). -/
def refStep (k : Nat) : Nat := if k % 24 = 23 then 27 else 26

/-- Advance on a crystal edge, the k-th of 64: 37 of them add 30,518 ns and 27 add 30,517 ns (R640). -/
def xtalStep (k : Nat) : Nat := (k % 64 + 1) * 1953125 / 64 - k % 64 * 1953125 / 64

/-- Nanoseconds that pass and the next place in the pattern; with both references lost time holds (R79). -/
def State.tickNs (s : State) : Nat × Nat :=
  if s.onRef38 then (refStep s.refPhase, (s.refPhase % 24 + 1) % 24)
  else if s.supply.lostXtal then (0, s.refPhase)
  else (xtalStep s.refPhase, (s.refPhase % 64 + 1) % 64)

/-- One period passes. Device time goes on past 2^64 ns, of which the spec says nothing: the model's choice (notes/assumptions 96).
The RTC runs on the crystal; activity that Eddy waits out goes on (R79, R628). -/
def State.tick (s : State) : State :=
  let t := s.tickNs
  let now := s.deviceTime + t.1
  { s with
    deviceTime := now, refPhase := t.2, rtc := if s.supply.lostXtal then s.rtc else s.rtc + t.1,
    power := if s.eddyIdle then s.power else { s.power with busyAt := now } }

end Sys2Proof.Machine
end

