-- ==== Sys2Proof/Safety.lean ====
section
/-! DEFINITION. What counts as a sound state and a safe run, in the terms the statements use: canonical memories, a step
that goes on, and a fetched command that passes every check of R202. -/

namespace Sys2Proof.Machine

/-- A memory of bytes in its one canonical form: addresses strictly rising, no byte listed that an unlisted address reads
(0 for the EE store and the pools, notes/assumptions 36). -/
def Memory.wf (m : List Host.Cell) : Bool := mapRising 0 m && m.all (fun c => c.2 != 0)

/-- The register map is canonical: addresses strictly rising, no word listed that the register reads after reset (00 R19). -/
def regsWf (m : List (Nat × Word)) : Bool := mapRising 0 m && m.all (fun c => c.2 != regReset c.1)

/-- The sound states: registers, EE store and engine pools are canonical. -/
def State.sound (s : State) : Bool := regsWf s.regs && Memory.wf s.ee.mem && Memory.wf s.kalmel.pools

/-- A run of n steps from s never stops. -/
def State.runsOn : Nat → State → Prop
  | 0, _ => True
  | n + 1, s => ∃ t, step s = .next t ∧ t.runsOn n

/-- Command k is fetched as c, its turn has come, its copies agree, and no reset or fence holds its partition
(05 R186-R188; 04 R153; 01 R32). -/
def State.turn? (s : State) (k : CmdKey) (c : Inflight) : Bool :=
  s.cmd? k == some c && decide (s.boot ≠ .failed) && s.admissible c && !s.halves.lost && s.gatesOpen && !s.disagrees k &&
  (match s.part? k.part with | some q => q.inReset.isNone | none => true)

/-- Command k passes every check of R202 that its opcode's row of R197 asks for, and entropy is there for its draws. -/
def State.passes (s : State) (k : CmdKey) (c : Inflight) (i : OpInfo) (lifeOk : Bool) : Bool :=
  s.turn? k c && c.opcode == i.code && !i.waits s c && (s.preCheck i lifeOk c).isNone && !c.readFail && i.params c &&
  (i.first s c <|> s.deviceCheck i c).isNone && !(i.draws c && s.drawHeld c)

/-- The end of command k: durable with its journal entry, or at once (05 R190; 02 R67). -/
def State.ends (u : State) (k : CmdKey) (c : Inflight) (durable : Bool) (r : Reply) : State :=
  if durable then (u.dropWait k).finish c true r else u.finish c false r

/-- A commit may begin where the end is durable. -/
def State.mayEnd (s : State) (durable : Bool) : Bool := !durable || s.canCommit

/-! ### Frames -/

/-- The message of frame id whose turn it is may be processed as a flow of this kind: nothing holds it, and
its partition's turn in the lane has come (09 R333; 01 R30; 04 R151). -/
def State.mayProcess (s : State) (id kind : Nat) (fl : Flow) : Bool :=
  decide (fl.ctx.kind = kind) && s.gatesOpen && !s.units.waiting.any (fun j => j.owner == .frame id && s.jobHeld j) &&
  s.laneMay id

/-! ### Kalmel instructions -/

/-- The task of slot e may run an instruction of so many words: it takes one now, its budget is not spent, and every word may
be fetched (11 R410; 12 R452, R454). -/
def State.canRun (s : State) (e : EngRef) (t : Task) (words : Nat) : Bool :=
  decide (s.ready e = some t) && decide (kCheck t words = none)

/-- The state after an instruction that changes the task of slot e alone, into u, and goes on in sequence. -/
def State.ran (s : State) (e : EngRef) (t : Task) (words : Nat) (u : Task) : State :=
  s.kCommit e t { s.kCtx e t with t := u } (t.pc + words)

/-- Flags after r = a + b + c, in the words of 12 R456: Z and N from the result, carry out of bit 35, signed overflow. -/
def sumFlags (f : KFlags) (a b : EWord) (c : Nat) (r : EWord) : KFlags :=
  { f with z := decide (r = 0), n := r.getLsbD 35, c := decide (2 ^ 36 ≤ a.toNat + b.toNat + c),
           v := decide (r.toInt ≠ a.toInt + b.toInt + c) }

/-- Flags after r = a - b - c, in the words of 12 R456: a borrow sets C. -/
def diffFlags (f : KFlags) (a b : EWord) (c : Nat) (r : EWord) : KFlags :=
  { f with z := decide (r = 0), n := r.getLsbD 35, c := decide (a.toNat < b.toNat + c),
           v := decide (r.toInt ≠ a.toInt - b.toInt - c) }

/-- Z and N alone follow a result (12 R456). -/
def znFlags (f : KFlags) (r : EWord) : KFlags := { f with z := decide (r = 0), n := r.getLsbD 35 }

/-- q is x / 2^n rounded by RND, in the words of 11 R414. -/
def RoundRule (rnd n : Nat) (x q : Int) : Prop :=
  match rnd with
  | 0 => q * 2 ^ n ≤ x ∧ x < (q + 1) * 2 ^ n
  | 1 => 2 * q * 2 ^ n ≤ 2 * x + 2 ^ n ∧ 2 * x + 2 ^ n < 2 * (q + 1) * 2 ^ n
  | 2 => 2 * (x - q * 2 ^ n).natAbs ≤ 2 ^ n ∧ (2 * (x - q * 2 ^ n).natAbs = 2 ^ n → q % 2 = 0)
  | _ => q.natAbs * 2 ^ n ≤ x.natAbs ∧ x.natAbs < (q.natAbs + 1) * 2 ^ n ∧ 0 ≤ q * x

/-- r and the flags g are what fraction mode makes of the exact value x with flags f before (11 R414, R415; 12 R459). -/
def FracRule (f : KFlags) (x : Int) (r : EWord) (g : KFlags) : Prop :=
  r.toInt = max (-2 ^ 35) (min (2 ^ 35 - 1) x) ∧
  g = { z := decide (r = 0), n := r.getLsbD 35, c := false, v := decide (r.toInt ≠ x), g := decide (2 ^ 31 ≤ r.toInt.natAbs),
        s := f.s || decide (r.toInt ≠ x) }

/-- Flags after a shift: Z and N, and C as given. -/
def shiftFlags (f : KFlags) (r : EWord) (c : Bool) : KFlags := { f with z := decide (r = 0), n := r.getLsbD 35, c := c }

end Sys2Proof.Machine
end

