-- ==== Sys2Proof/WellFormed.lean ====
section
/-! DEFINITION. Well-formed commands: every operand within the range its rule gives it (partitions 0-63, rings 0-255, engine slots
0-31, Kalmel fields by 12 R451). The meanings take any operand; the statements that ask for a well-formed command say so. -/

namespace Sys2Proof

/-- A partition 0-63 or the debug port (04 R122; 20 R702). -/
def srcOk (src : Nat) : Bool := decide (src < 128)

/-- The base address of a page of the device window (04 R128). -/
def pageOk (pg : Nat) : Bool := decide (pg < 2 ^ 24) && decide (pg % 4096 = 0)

/-- Partition, submission ring and entry index in range (04 R115; 05 R168). -/
def CmdKey.ok (k : CmdKey) : Bool := decide (k.part < 64) && decide (k.sq < 256) && decide (k.idx < 4096)

/-- Engine slots 0-31 of a half (01 R40). -/
def EngRef.ok (e : EngRef) : Bool := decide (e.slot < 32)

/-- Units of each kind by their number (17 R625). -/
def UnitRef.ok (u : UnitRef) : Bool :=
  match u.kind with
  | .engine => decide (u.idx < 36)
  | .hammer => decide (u.idx < 16)
  | _ => decide (u.idx < 2)

/-- Rings 0-255 (05 R168). -/
def RingRef.ok : RingRef → Bool
  | .sq i => decide (i < 256)
  | .cq i => decide (i < 256)
  | .evr => true

/-- A window of a partition 0-63 (04 R129). -/
def Win.ok : Win → Bool
  | .dev => true
  | .part p => decide (p < 64)

/-- MSI-X vectors and virtual functions in range (04 R120, R145). -/
def CfgOp.ok : CfgOp → Bool
  | .vecMask v _ => decide (v < 32)
  | .vfEnable _ n => decide (n < 64)
  | _ => true

/-- A register, or a 5-bit amount field (12 R457, R458). -/
def ShiftBy.ok : ShiftBy → Bool
  | .reg r => decide (r < 16)
  | .imm a => decide (a < 32)

/-- Every operand is in its range. -/
def Instr.wf : Instr → Bool
  | .powerOnReset _ => true
  | .bringUp _ => true
  | .brownOut _ _ => true
  | .serdesSupplyLow => true
  | .holdCapMeasure _ => true
  | .deviceWarmReset _ => true
  | .devWarm src _ => srcOk src
  | .linkReset _ => true
  | .perstNRise => true
  | .flr p => decide (p < 64)
  | .partitionReset p _ => decide (p < 64)
  | .pcieConfig p op => decide (p < 64) && op.ok
  | .hostReadError p r _ idx => decide (p < 64) && r.ok && decide (idx < 4096)
  | .registerWrite src w off _ _ => srcOk src && w.ok && decide (off < 2 ^ 24)
  | .resetReq src pg _ => srcOk src && pageOk pg
  | .pageQuiesce src pg _ => srcOk src && pageOk pg
  | .pageEnable src pg _ => srcOk src && pageOk pg
  | .pgLock src pg _ => srcOk src && pageOk pg
  | .intStatClear src pg _ => srcOk src && pageOk pg
  | .intForce src pg _ => srcOk src && pageOk pg
  | .errCapClear src pg _ => srcOk src && pageOk pg
  | .evrEnable p _ => decide (p < 64)
  | .evrDisable p _ => decide (p < 64)
  | .evrHead p _ => decide (p < 64)
  | .sqTail p i _ => decide (p < 64) && decide (i < 256)
  | .cqHead p i _ => decide (p < 64) && decide (i < 256)
  | .ringCreate p => decide (p < 64)
  | .ringDestroy p => decide (p < 64)
  | .sqDrained p i => decide (p < 64) && decide (i < 256)
  | .ringQuery p => decide (p < 64)
  | .sqFetch p i f => decide (p < 64) && decide (i < 256) && decide (f.entry.length = 64)
  | .nopCmd k => k.ok
  | .partCreate k => k.ok
  | .partSet k => k.ok
  | .partDestroy k => k.ok
  | .partReset k => k.ok
  | .powerVote k => k.ok
  | .spillRegionSet k => k.ok
  | .reservoirSet k => k.ok
  | .powerCapSet k => k.ok
  | .keyGenerate k => k.ok
  | .keyImport k => k.ok
  | .keyDerive k => k.ok
  | .keyDestroy k => k.ok
  | .keyExport k => k.ok
  | .keyInfo k => k.ok
  | .counterCreate k => k.ok
  | .counterIncrement k => k.ok
  | .counterRead k => k.ok
  | .sealObject k => k.ok
  | .unsealObject k => k.ok
  | .aeadEncrypt k => k.ok
  | .aeadDecrypt k => k.ok
  | .macGenerate k => k.ok
  | .macVerify k => k.ok
  | .dataWrap k => k.ok
  | .dataUnwrap k => k.ok
  | .digestCmd k => k.ok
  | .pkKeygen k => k.ok
  | .pkSign k => k.ok
  | .pkVerify k => k.ok
  | .pkAgree k => k.ok
  | .kemEncaps k => k.ok
  | .kemDecaps k => k.ok
  | .attest k => k.ok
  | .randomBytes k => k.ok
  | .storeRead k => k.ok
  | .storeWrite k => k.ok
  | .storeSanitize k => k.ok
  | .flowCreate k => k.ok
  | .flowModify k => k.ok
  | .flowDestroy k => k.ok
  | .sakInstall k => k.ok
  | .flowStats k => k.ok
  | .appletLoad k => k.ok
  | .appletInvoke k e base => k.ok && e.ok && decide (base < 65536)
  | .appletUnload k => k.ok
  | .fobPair k => k.ok
  | .fobRemove k => k.ok
  | .accessPolicySet k => k.ok
  | .releaseRequest k => k.ok
  | .immoConfig k => k.ok
  | .lifecycleAdvance k _ _ => k.ok
  | .debugChallenge k => k.ok
  | .debugGrant k => k.ok
  | .cardTransact k => k.ok
  | .halfTest k _ => k.ok
  | .eeTransaction _ => true
  | .vholdWaitTimeout k => k.ok
  | .frameStart n => decide (n < 8)
  | .frameReceive n _ _ => decide (n < 8)
  | .pauseRepeat n => decide (n < 8)
  | .pauseReceive n quanta => decide (n < 8) && decide (quanta < 65536)
  | .laneLinkChange n _ _ => decide (n < 8)
  | .secocVerify _ => true
  | .secocSign _ => true
  | .macsecRx _ => true
  | .macsecTx _ => true
  | .frameTransmit _ => true
  | .checkpointCommit _ => true
  | .checkpointTimeout _ => true
  | .spillRecordRead _ _ => true
  | .writeBack _ => true
  | .hammerSegmentEnd _ i _ => decide (i < 16)
  | .hammerRequestEnd _ i => decide (i < 16)
  | .defenceReseed _ i => decide (i < 16)
  | .digestBlockEnd _ _ => true
  | .anvilOpEnd _ i _ => decide (i < 2)
  | .taskStart e _ => e.ok
  | .kMov e d r => e.ok && decide (d < 16) && decide (r < 16)
  | .kAdd e d r => e.ok && decide (d < 16) && decide (r < 16)
  | .kAdc e d r => e.ok && decide (d < 16) && decide (r < 16)
  | .kSub e d r => e.ok && decide (d < 16) && decide (r < 16)
  | .kSbc e d r => e.ok && decide (d < 16) && decide (r < 16)
  | .kCmp e d r => e.ok && decide (d < 16) && decide (r < 16)
  | .kAnd e d r => e.ok && decide (d < 16) && decide (r < 16)
  | .kOr e d r => e.ok && decide (d < 16) && decide (r < 16)
  | .kXor e d r => e.ok && decide (d < 16) && decide (r < 16)
  | .kShl e d n => e.ok && decide (d < 16) && n.ok
  | .kShr e d n => e.ok && decide (d < 16) && n.ok
  | .kSar e d n => e.ok && decide (d < 16) && n.ok
  | .kRor e d a => e.ok && decide (d < 16) && decide (a < 32)
  | .kMul e d r => e.ok && decide (d < 16) && decide (r < 16)
  | .kMulu e d r => e.ok && decide (d < 16) && decide (r < 16)
  | .kMac e d r => e.ok && decide (d < 16) && decide (r < 16)
  | .kMsb e d r => e.ok && decide (d < 16) && decide (r < 16)
  | .kMovi e d imm => e.ok && decide (d < 16) && decide (imm < 64)
  | .kAddi e d imm => e.ok && decide (d < 16) && decide (imm < 64)
  | .kMovw e d imm => e.ok && decide (d < 16) && decide (imm < 2 ^ 14)
  | .kAddw e d imm => e.ok && decide (d < 16) && decide (imm < 2 ^ 14)
  | .kCmpw e d imm => e.ok && decide (d < 16) && decide (imm < 2 ^ 14)
  | .kAndw e d imm => e.ok && decide (d < 16) && decide (imm < 2 ^ 14)
  | .kOrw e d imm => e.ok && decide (d < 16) && decide (imm < 2 ^ 14)
  | .kXorw e d imm => e.ok && decide (d < 16) && decide (imm < 2 ^ 14)
  | .kMovl e d _ => e.ok && decide (d < 16)
  | .kJmpcc e c target => e.ok && decide (c < 16) && decide (target < 2 ^ 14)
  | .kShortBranch e c disp => e.ok && decide (c < 16) && decide (disp < 128)
  | .kJr e r => e.ok && decide (r < 16)
  | .kCallm e m kt => e.ok && decide (m < 256) && decide (kt < 16)
  | .kRetm e => e.ok
  | .kNopInstruction e => e.ok
  | .kEnd e => e.ok
  | .kSvc e => e.ok
  | .kSvca e => e.ok
  | .serviceRequestEnd e _ => e.ok
  | .kPush e r => e.ok && decide (r < 16)
  | .kPop e r => e.ok && decide (r < 16)
  | .kNot e d => e.ok && decide (d < 16)
  | .kNeg e d => e.ok && decide (d < 16)
  | .kAbs e d => e.ok && decide (d < 16)
  | .kTst e d => e.ok && decide (d < 16)
  | .kPmv e d => e.ok && decide (d < 16)
  | .kMfs e n d => e.ok && decide (n < 16) && decide (d < 16)
  | .kMts e n r => e.ok && decide (n < 16) && decide (r < 16)
  | .kUop e n d => e.ok && decide (n < 16) && decide (d < 16)
  | .kLd e r b off => e.ok && decide (r < 16) && decide (b < 16) && decide (off < 4096)
  | .kSt e r b off => e.ok && decide (r < 16) && decide (b < 16) && decide (off < 4096)
  | .kLdp e r b off => e.ok && decide (r < 16) && decide (b < 16) && decide (off < 4096)
  | .kStp e r b off => e.ok && decide (r < 16) && decide (b < 16) && decide (off < 4096)
  | .kBfi e d r p w => e.ok && decide (d < 16) && decide (r < 16) && decide (p < 64) && decide (w < 64)
  | .kBfx e d r p w => e.ok && decide (d < 16) && decide (r < 16) && decide (p < 64) && decide (w < 64)
  | .kClz e d r => e.ok && decide (d < 16) && decide (r < 16)
  | .kBperm e d r sel zm => e.ok && decide (d < 16) && decide (r < 16) && decide (sel < 256) && decide (zm < 16)
  | .kWfe e d => e.ok && decide (d < 16)
  | .kSev e r => e.ok && decide (r < 16)
  | .kWaitc e r => e.ok && decide (r < 16)
  | .kRdt e d => e.ok && decide (d < 16)
  | .engineEvent e line => e.ok && decide (line < 16)
  | .waitcDeadline e => e.ok
  | .hsScanRound => true
  | .hsMeasurement n count _ => decide (n < 6) && decide (count < 65536)
  | .hsConfirm n count _ => decide (n < 6) && decide (count < 65536)
  | .hsRemeasure n count _ => decide (n < 6) && decide (count < 65536)
  | .stuckTouch n => decide (n < 6)
  | .lfFrameStart short => decide (short < 256)
  | .lfFrameEnd _ => true
  | .lfDiag n st res _ => decide (n < 8) && decide (st < 7) && decide (res < 2 ^ 20)
  | .bcSessionStart _ => true
  | .bcReply _ => true
  | .bcSessionEnd => true
  | .uhfWindowOpen => true
  | .uhfTelegram i raw rssi0 rssi1 => decide (i < 4) && decide (raw.length ≤ 67) && decide (rssi0 < 256) && decide (rssi1 < 256)
  | .uhfWindowEnd heard => decide (heard.length ≤ 16)
  | .uwbRoundStart t1 cleared _ => decide (t1 < 2 ^ 40) && decide (cleared < 16)
  | .uwbResponseRx t4c => decide (t4c < 2 ^ 40)
  | .uwbResponseTimeout _ => true
  | .cirRecord r => decide (r.kind < 2) && decide (r.port < 4) && decide (r.coarse < 2 ^ 40) && decide (r.agree.length = 4) &&
    decide (r.norm.length = 4) && decide (r.taps.length = 1280)
  | .uwbFinalTx => true
  | .uwbReportRx _ => true
  | .uwbReportTimeout => true
  | .uwbVerdict => true
  | .sessionTimeout => true
  | .releasePulseEnd g => decide (g < 12)
  | .tokenSend => true
  | .eddyEnter _ => true
  | .pwTarget src _ => srcOk src
  | .parkEntry _ => true
  | .pondTimeout _ => true
  | .tarnToDry => true
  | .pwrgdReturn _ => true
  | .parkReturn _ _ => true
  | .lingerEnd _ => true
  | .welcomePoll => true
  | .wakePin k _ _ => decide (k < 8)
  | .alarmWake => true
  | .reservoirCredit _ => true
  | .reservoirPlan _ => true
  | .powerReading _ _ => true
  | .paceWindow _ => true
  | .avsEvaluate _ _ _ => true
  | .clrPeak src _ => srcOk src
  | .hmClrWait src _ => srcOk src
  | .hwClrWait src _ => srcOk src
  | .clrLat src _ => srcOk src
  | .refclkLoss _ => true
  | .refclkReturn _ => true
  | .halfSilent _ => true
  | .leaseRenewal => true
  | .leaseExpiry => true
  | .compareVerdict k _ => k.ok || (k.part == 64 && k.sq == 0 && k.idx == 0)
  | .lateRecord u => u.ok
  | .unitWatchdog u _ => u.ok
  | .probationTest u _ => u.ok
  | .bankFail _ i _ => decide (i < 2)
  | .bankRebuilt _ i => decide (i < 2)
  | .patrolPage _ _ _ => true
  | .columnRebuild _ _ => true
  | .pageClear _ => true
  | .healthWindow _ a b => decide (a.length = 1024) && decide (b.length = 1024)
  | .oscillatorCheck _ _ _ _ _ => true
  | .wellheadPhaseEnd _ _ => true
  | .whTest src _ => srcOk src
  | .rawEn src _ => srcOk src
  | .whRawRead src => srcOk src
  | .bellowsReseed _ => true
  | .tamperEvent sensor sub => decide (1 ≤ sensor ∧ sensor ≤ 7) && decide (sub < 256)
  | .glitchDecide => true
  | .guardEnd => true
  | .alarmEnd => true
  | .tpRelease src _ => srcOk src
  | .tapReset => true
  | .tapInstruction code => decide (code < 256)
  | .extest _ cells => decide (cells < 2 ^ 133)
  | .dbgMem _ => true
  | .dbgEngRead e r _ => e.ok && decide (r < 16)
  | .dbgEngHalt e => e.ok
  | .dbgEngStep e => e.ok
  | .dbgEngResume e => e.ok
  | .challengeLapse => true
  | .cardInsert => true
  | .cardAtr _ => true
  | .cardAtrTimeout => true
  | .cardCondPoll _ => true
  | .cardRemove _ => true
  | .cardTxnTimeout => true
  | .clockStop => true
  | .canBusOff n => decide (n < 2)
  | .busOffRecovery n => decide (n < 2)
  | .pmicAlert rail _ => decide (rail < 5)
  | .pmicRetry _ _ => true
  | .vholdReady _ => true
  | .serdesSupplyReturn => true
  | .vlfLowChange _ => true
  | .syncMatch bits => decide (bits < 65536)
  | .hypothesisFailed i raw => decide (i < 4) && decide (raw.length ≤ 67)
  | .cardResponse resp => decide (2 ≤ resp.length ∧ resp.length ≤ 258)
  | .rejoin _ _ => true
  | .sensorClear sensor => decide (1 ≤ sensor ∧ sensor ≤ 7)
  | .repetitionCountFail _ cause => decide (1 ≤ cause ∧ cause ≤ 3)
  | .pauseTimerExpiry n => decide (n < 8)
  | .railOnRetry _ _ => true
  | .tokenTransmitted n _ _ => decide (n < 2)

end Sys2Proof
end

