-- ==== Sys2Proof/Certificates/Slice0/Obligations.lean ====
section
/-! DEFINITION. The statements about the model, for the provers: each names the rules of spec/ it rests on. Where a statement
speaks of a value or a behaviour the model chose, its docstring names the log entry. -/

open Sys2Proof Sys2Proof.Machine

/-! ### Commands of the Crucible, the Hammers, the Anvils (10, 13, 14, 15) -/

/-- KEY_GENERATE, KEY_IMPORT, KEY_DERIVE, KEY_DESTROY, KEY_EXPORT and KEY_INFO, once every check of R202 and of their objects is
passed: the slot filled, the material, the bytes returned (13 R491-R501, R508). The equation is the frame too. COUNTER_CREATE,
COUNTER_INCREMENT and COUNTER_READ: a counter starts at 0, an increment returns the new value, a sum of 2^64 or more leaves it
(13 R485, R491, R502); SEAL and UNSEAL (R503, R504, with 10 R384, R385 for a tag that fails). -/
def Obligations.KeyStoreCommands : Prop :=
  (∀ (s : State) (k : CmdKey) (c : Inflight) (n : Nat),
    s.passes k c keyGenerateInfo s.lifeKeys = true → s.target c.key.part (c.p32 0) = .slot n →
    s.mayEnd (!slotVolatile n) = true →
    exec (.keyGenerate k) s = .next (State.ends
      ((s.draw ((materialLen c.keySpec.ktype).getD 0)).fillSlot c.key.part n c.keySpec (s.drawn ((materialLen c.keySpec.ktype).getD 0)))
      k c (!slotVolatile n) { status := .ok, result := leBytes 4 n })) ∧
  (∀ (s t : State) (k : CmdKey) (c : Inflight) (n : Nat) (w : KeySlot),
    s.passes k c keyImportInfo s.lifeKeys = true →
    s.useSlot c.key.part (c.p32 20) (fun x => isAes x.ktype && bit x.attr atUnwrap) = .ok w →
    s.target c.key.part (c.p32 0) = .slot n → s.takeUse (c.p32 20) false = .ok t → s.mayEnd (!slotVolatile n) = true →
    exec (.keyImport k) s = .next (if Config.primOk .kwCheck [w.aesKey, c.input] then
        State.ends (t.fillSlot c.key.part n c.keySpec (Config.prim .kwUnwrap [w.aesKey, c.input] (c.inLen - 8))) k c
          (!slotVolatile n) { status := .ok, result := leBytes 4 n }
      else (t.bump Fd.HM_CNT_AUTHFAIL_COUNT).finish c false (.fail .authFail))) ∧
  (∀ (s t : State) (k : CmdKey) (c : Inflight) (n : Nat) (w : KeySlot),
    s.passes k c keyDeriveInfo s.lifeKeys = true → s.useSlot c.key.part (c.p32 20) (fun x => bit x.attr atDerive) = .ok w →
    w.binding ≤ c.keySpec.binding → (bit c.keySpec.attr atExportable = true → bit w.attr atExportable = true) →
    s.target c.key.part (c.p32 0) = .slot n → s.takeUse (c.p32 20) false = .ok t → s.mayEnd (!slotVolatile n) = true →
    exec (.keyDerive k) s = .next (State.ends
      (t.fillSlot c.key.part n c.keySpec (childMaterial c.key.part c.keySpec w.material c.input)) k c (!slotVolatile n)
      { status := .ok, result := leBytes 4 n })) ∧
  (∀ (s : State) (k : CmdKey) (c : Inflight) (x : KeySlot),
    s.passes k c keyDestroyInfo true = true → s.ownSlot c.key.part (c.p32 0) = some x →
    s.mayEnd (!slotVolatile (c.p32 0)) = true →
    exec (.keyDestroy k) s = .next (State.ends (s.destroySlot (c.p32 0)) k c (!slotVolatile (c.p32 0)) .done)) ∧
  (∀ (s t : State) (k : CmdKey) (c : Inflight) (x w : KeySlot),
    s.passes k c keyExportInfo true = true → s.useSlot c.key.part (c.p32 0) (fun x => bit x.attr atExportable) = .ok x →
    s.useSlot c.key.part (c.p32 4) (fun x => isAes x.ktype && bit x.attr atWrap) = .ok w →
    x.material.length + 8 ≤ c.outLen → s.takeUse (c.p32 4) false = .ok t →
    exec (.keyExport k) s = .next (t.finish c false
      { status := .ok, out := Config.prim .kwWrap [w.aesKey, x.material] (x.material.length + 8) })) ∧
  (∀ (s : State) (k : CmdKey) (c : Inflight) (x : KeySlot),
    s.passes k c keyInfoInfo true = true → s.ownSlot c.key.part (c.p32 0) = some x →
    exec (.keyInfo k) s = .next (s.finish c false { status := .ok, out := s.keyInfo (c.p32 0) x })) ∧
  (∀ (s : State) (k : CmdKey) (c : Inflight) (n : Nat),
    s.passes k c counterCreateInfo s.lifeKeys = true → s.target c.key.part (c.p16 0) = .slot n → s.canCommit = true →
    exec (.counterCreate k) s = .next (State.ends
      (s.fillSlot c.key.part n { ktype := 0x20, binding := 0, attr := 0, limit := 0 } (List.replicate 8 0)) k c true
      { status := .ok, result := leBytes 4 n })) ∧
  (∀ (s : State) (k : CmdKey) (c : Inflight) (x : KeySlot),
    s.passes k c counterIncrementInfo true = true → s.useCounter c.key.part (c.p16 0) = .ok x → s.canCommit = true →
    exec (.counterIncrement k) s = .next (if leNat x.material + c.p32 4 < 2 ^ 64 then
        State.ends (s.writeSlot (c.p16 0) { x with material := leBytes 8 (leNat x.material + c.p32 4), gen := x.gen + 1 }) k c true
          { status := .ok, result := leBytes 8 (leNat x.material + c.p32 4) }
      else s.finish c false { status := .badParam, detail := 0x0D05 })) ∧
  (∀ (s : State) (k : CmdKey) (c : Inflight) (x : KeySlot),
    s.passes k c counterReadInfo true = true → s.useCounter c.key.part (c.p16 0) = .ok x →
    exec (.counterRead k) s = .next (s.finish c false { status := .ok, result := x.material })) ∧
  (∀ (s t : State) (k : CmdKey) (c : Inflight) (x : KeySlot) (b : Nat),
    s.passes k c sealInfo true = true → s.useSlot c.key.part (c.p32 0) sealFits = .ok x →
    b = (if c.p8 4 = 0xFF then x.binding else c.p8 4) → x.binding ≤ b → s.exactRefused b = false →
    s.takeUse (c.p32 0) false = .ok t →
    exec (.sealObject k) s = .next (State.finish (t.drawAt (t.drawHalf c) 12) c false
      { status := .ok,
        out := t.sealHeader b (if b = 1 then t.keys.svn else 0) (t.drawn 12) c.inLen ++
          (gcmSeal (t.sealKey x.material b (if b = 1 then t.keys.svn else 0)) (t.drawn 12)
            (t.sealHeader b (if b = 1 then t.keys.svn else 0) (t.drawn 12) c.inLen) c.input).1 ++
          (gcmSeal (t.sealKey x.material b (if b = 1 then t.keys.svn else 0)) (t.drawn 12)
            (t.sealHeader b (if b = 1 then t.keys.svn else 0) (t.drawn 12) c.inLen) c.input).2 })) ∧
  (∀ (s t : State) (k : CmdKey) (c : Inflight) (x : KeySlot),
    s.passes k c unsealInfo true = true → s.useSlot c.key.part (c.p32 0) sealFits = .ok x →
    slice c.input 28 16 = s.bindNow (leAt c.input 5 1) → leAt c.input 8 4 ≤ s.keys.svn →
    s.exactRefused (leAt c.input 5 1) = false → s.takeUse (c.p32 0) false = .ok t →
    exec (.unsealObject k) s = .next (
      match gcmOpen (t.sealKey x.material (leAt c.input 5 1) (leAt c.input 8 4)) (slice c.input 12 12) (c.input.take 44)
        (slice c.input 44 (leAt c.input 24 4)) (slice c.input (44 + leAt c.input 24 4) 16) with
      | some pt => t.finish c false { status := .ok, out := pt }
      | none => (t.bump Fd.HM_CNT_AUTHFAIL_COUNT).finish c false
          { status := .authFail, out := if c.compat then [] else List.replicate c.outLen 0 }))

/-- The eight commands of the Hammers, the digest units and the Bellows: what they return, what a failed check writes, and the
use they take of their key (10 R376-R389, R404; 15 R549, R554). The six commands of the Anvils and ATTEST: key pairs, signatures
with one key or two, verification, agreement and encapsulation into a result slot, and the statement with its signature (14
R511-R521, R529-R531). A result slot is created, or the secret is combined into the key derivation key it holds (14 R520, R521).
-/
def Obligations.AlgorithmCommands : Prop :=
  (∀ (s t : State) (k : CmdKey) (c : Inflight) (x : KeySlot),
    s.passes k c aeadEncryptInfo true = true → s.useSlot c.key.part (c.p32 0) (fitsMode c.mode) = .ok x →
    s.takeUse (c.p32 0) c.countsDraw = .ok t →
    exec (.aeadEncrypt k) s = .next ((t.drewNonce c).finish c false
      { status := .ok, result := t.nonceResult c,
        out := aeadText c.mode x.aesKey (t.nonceOf c) (c.input.drop c.aadLen) ++
          aeadTag c.mode c.tagLen x.aesKey (t.nonceOf c) (c.input.take c.aadLen) (c.input.drop c.aadLen)
            (aeadText c.mode x.aesKey (t.nonceOf c) (c.input.drop c.aadLen)) })) ∧
  (∀ (s t : State) (k : CmdKey) (c : Inflight) (x : KeySlot) (n : Nat) (ct pt : Bytes),
    s.passes k c aeadDecryptInfo true = true → s.useSlot c.key.part (c.p32 0) (fitsMode c.mode) = .ok x →
    s.takeUse (c.p32 0) false = .ok t →
    n = c.inLen - c.aadLen - c.tagLen → ct = slice c.input c.aadLen n →
    pt = aeadText c.mode x.aesKey (slice c.param 8 c.nonceLen) ct →
    exec (.aeadDecrypt k) s = .next (
      if aeadTag c.mode c.tagLen x.aesKey (slice c.param 8 c.nonceLen) (c.input.take c.aadLen) pt ct =
          slice c.input (c.aadLen + n) c.tagLen then
        t.finish c false { status := .ok, out := pt }
      else (t.bump Fd.HM_CNT_AUTHFAIL_COUNT).finish c false
        { status := .authFail, out := if c.compat then [] else List.replicate c.outLen 0 })) ∧
  (∀ (s t : State) (k : CmdKey) (c : Inflight) (x : KeySlot),
    s.passes k c macGenerateInfo true = true → s.useSlot c.key.part (c.p32 0) (fitsMode c.mode) = .ok x →
    s.takeUse (c.p32 0) c.countsDraw = .ok t →
    exec (.macGenerate k) s = .next ((t.drewNonce c).finish c false
      { status := .ok, result := t.nonceResult c, out := macTag c.mode c.tagLen x.aesKey (t.nonceOf c) c.input })) ∧
  (∀ (s t : State) (k : CmdKey) (c : Inflight) (x : KeySlot),
    s.passes k c macVerifyInfo true = true → s.useSlot c.key.part (c.p32 0) (fitsMode c.mode) = .ok x →
    s.takeUse (c.p32 0) false = .ok t →
    exec (.macVerify k) s = .next (
      if macTag c.mode c.tagLen x.aesKey (slice c.param 8 c.nonceLen) (c.input.take (c.inLen - c.tagLen)) =
          slice c.input (c.inLen - c.tagLen) c.tagLen then t.finish c false .done
      else (t.bump Fd.HM_CNT_AUTHFAIL_COUNT).finish c false (.fail .authFail))) ∧
  (∀ (s t : State) (k : CmdKey) (c : Inflight) (x : KeySlot),
    s.passes k c dataWrapInfo true = true →
    s.useSlot c.key.part (c.p32 0) (fun x => isAes x.ktype && bit x.attr atWrap) = .ok x → s.takeUse (c.p32 0) false = .ok t →
    exec (.dataWrap k) s = .next (t.finish c false
      { status := .ok, out := Config.prim .kwWrap [x.aesKey, c.input] (c.inLen + 8) })) ∧
  (∀ (s t : State) (k : CmdKey) (c : Inflight) (x : KeySlot),
    s.passes k c dataUnwrapInfo true = true →
    s.useSlot c.key.part (c.p32 0) (fun x => isAes x.ktype && bit x.attr atUnwrap) = .ok x → s.takeUse (c.p32 0) false = .ok t →
    exec (.dataUnwrap k) s = .next (if Config.primOk .kwCheck [x.aesKey, c.input] then
        t.finish c false { status := .ok, out := Config.prim .kwUnwrap [x.aesKey, c.input] (c.inLen - 8) }
      else (t.bump Fd.HM_CNT_AUTHFAIL_COUNT).finish c false
        { status := .authFail, out := if c.compat then [] else List.replicate c.outLen 0 })) ∧
  (∀ (s : State) (k : CmdKey) (c : Inflight) (n : Nat),
    s.passes k c digestInfo true = true → digestLen (c.p8 0) = some n →
    exec (.digestCmd k) s = .next (s.finish c false
      { status := .ok, out := digest (c.p8 0) c.input (if n = 0 then c.outLen else n) })) ∧
  (∀ (s : State) (k : CmdKey) (c : Inflight), s.passes k c randomInfo true = true →
    exec (.randomBytes k) s = .next (State.finish (s.drawAt (s.drawHalf c) c.outLen) c false
      { status := .ok, out := s.drawn c.outLen })) ∧
  (∀ (s : State) (k : CmdKey) (c : Inflight) (n len : Nat),
    s.passes k c pkKeygenInfo s.lifeKeys = true → s.target c.key.part (c.p32 0) = .slot n →
    len = (materialLen (c.p16 4)).getD 0 → s.mayEnd (!slotVolatile n) = true →
    exec (.pkKeygen k) s = .next (State.ends
      (((s.draw len).fillSlot c.key.part n { ktype := c.p16 4, binding := c.p8 6, attr := c.p32 8, limit := 0 } (s.drawn len)).countOp)
      k c (!slotVolatile n) { status := .ok, result := leBytes 4 n, out := publicKey (c.p16 4) (s.drawn len) })) ∧
  (∀ (s t : State) (k : CmdKey) (c : Inflight) (x : KeySlot),
    s.passes k c pkSignInfo true = true → isHybrid (c.p8 8) = false →
    s.usePrivate c.key.part (c.p32 0) ((signType (c.p8 8)).getD 0) atSign = .ok x → s.takeUse (c.p32 0) false = .ok t →
    exec (.pkSign k) s = .next (((t.drawAt (t.drawHalf c) 64).countOp).finish c false
      { status := .ok, out := signOne (c.p8 8) x.material c.input (t.drawn 64) })) ∧
  (∀ (s u : State) (k : CmdKey) (c : Inflight) (x y : KeySlot),
    s.passes k c pkSignInfo true = true → isHybrid (c.p8 8) = true →
    s.usePrivate c.key.part (c.p32 0) ((signType (c.p8 8)).getD 0) atSign = .ok x →
    s.usePrivate c.key.part (c.p32 4) 0x211 atSign = .ok y →
    s.takeUses [c.p32 0, c.p32 4] = .ok u →
    exec (.pkSign k) s = .next (((u.drawAt (u.drawHalf c) 128).countOp).finish c false
      { status := .ok,
        out := signOne (hybridClassic (c.p8 8)) x.material c.input ((u.drawn 128).take 64) ++
          signOne 0x30 y.material c.input ((u.drawn 128).drop 64) })) ∧
  (∀ (s : State) (k : CmdKey) (c : Inflight), s.passes k c pkVerifyInfo true = true →
    exec (.pkVerify k) s = .next (
      if !verifyKeyGood (c.p8 0) (c.input.take (c.p32 4)) then s.finish c false { status := .badParam, detail := 0x0E02 }
      else if sigVerifies (c.p8 0) (c.input.take (c.p32 4)) (slice c.input (c.p32 4) (c.p32 8))
          (c.input.drop (c.p32 4 + c.p32 8)) then s.countOp.finish c false .done
      else (s.countOp.bump Fd.AV_CNT_CHECK_VERIFY_FAIL).finish c false (.fail .authFail))) ∧
  (∀ (s t : State) (k : CmdKey) (c : Inflight) (x : KeySlot) (ty len n : Nat) (z : Bytes),
    s.passes k c pkAgreeInfo s.lifeKeys = true → agreeType (c.p8 8) = some (ty, len) →
    s.usePrivate c.key.part (c.p32 0) ty atAgree = .ok x →
    z = Config.prim .agree [leBytes 1 (c.p8 8), x.material, c.input] len →
    s.secretCheck c.key.part (c.p32 4) none = none → slotIndex (c.p32 4) = 0xFFFF → s.takeUses [c.p32 0] = .ok t →
    t.target c.key.part (c.p32 4) = .slot n → s.mayEnd (!slotVolatile n) = true →
    exec (.pkAgree k) s = .next (
      if c.p8 8 ≠ 0x06 && !(c.input.take 1 == [0x04] && Config.primOk .pointOk [leBytes 1 (c.p8 8), c.input]) then
        s.finish c false { status := .badParam, detail := 0x0E02 }
      else if c.p8 8 = 0x06 && allZero z then s.finish c false { status := .badParam, detail := 0x0E03 }
      else State.ends ((t.fillSlot c.key.part n { ktype := 0x10, binding := x.binding, attr := 0x420, limit := 0 }
          ((sha384 (ascii "FXSS" ++ leBytes 1 (c.p8 8) ++ z)).take 32)).countOp) k c (!slotVolatile n)
        { status := .ok, result := leBytes 4 n })) ∧
  (∀ (s t : State) (k : CmdKey) (c : Inflight) (x w : KeySlot) (ty len n : Nat) (z : Bytes),
    s.passes k c pkAgreeInfo s.lifeKeys = true → agreeType (c.p8 8) = some (ty, len) →
    s.usePrivate c.key.part (c.p32 0) ty atAgree = .ok x →
    z = Config.prim .agree [leBytes 1 (c.p8 8), x.material, c.input] len →
    s.secretCheck c.key.part (c.p32 4) none = none → n = c.p32 4 → (s.combined c.key.part n).isSome = true →
    s.takeUses [c.p32 0, n] = .ok t → t.combined c.key.part n = some w → s.mayEnd (!slotVolatile n) = true →
    exec (.pkAgree k) s = .next (
      if c.p8 8 ≠ 0x06 && !(c.input.take 1 == [0x04] && Config.primOk .pointOk [leBytes 1 (c.p8 8), c.input]) then
        s.finish c false { status := .badParam, detail := 0x0E02 }
      else if c.p8 8 = 0x06 && allZero z then s.finish c false { status := .badParam, detail := 0x0E03 }
      else State.ends ((t.fillSlot c.key.part n { ktype := 0x10, binding := max w.binding x.binding, attr := w.attr, limit := 0 }
          (kdf w.material (ascii "FXHYB") (leBytes 1 (c.p8 8) ++ z) 256)).countOp) k c (!slotVolatile n)
        { status := .ok, result := leBytes 4 n })) ∧
  (∀ (s : State) (k : CmdKey) (c : Inflight) (sk ek ct n : Nat),
    s.passes k c kemEncapsInfo s.lifeKeys = true → kemSizes (c.p8 4) = some (sk, ek, ct) →
    s.secretCheck c.key.part (c.p32 0) none = none → slotIndex (c.p32 0) = 0xFFFF →
    (s.draw 32).target c.key.part (c.p32 0) = .slot n → s.mayEnd (!slotVolatile n) = true →
    exec (.kemEncaps k) s = .next (
      if Config.primOk .pointOk [leBytes 1 (c.p8 4), c.input] then
        State.ends (((s.draw 32).fillSlot c.key.part n { ktype := 0x10, binding := 0, attr := 0x420, limit := 0 }
            ((sha384 (ascii "FXSS" ++ leBytes 1 (c.p8 4) ++
              Config.prim .kemSecret [leBytes 1 (c.p8 4), c.input, s.drawn 32] 32)).take 32)).countOp) k c (!slotVolatile n)
          { status := .ok, result := leBytes 4 n, out := Config.prim .kemCipher [leBytes 1 (c.p8 4), c.input, s.drawn 32] ct }
      else s.finish c false { status := .badParam, detail := 0x0E02 })) ∧
  (∀ (s t : State) (k : CmdKey) (c : Inflight) (w : KeySlot) (sk ek ct n : Nat),
    s.passes k c kemEncapsInfo s.lifeKeys = true → kemSizes (c.p8 4) = some (sk, ek, ct) →
    s.secretCheck c.key.part (c.p32 0) none = none → n = c.p32 0 → (s.combined c.key.part n).isSome = true →
    s.takeUses [n] = .ok t → (t.draw 32).combined c.key.part n = some w → s.mayEnd (!slotVolatile n) = true →
    exec (.kemEncaps k) s = .next (
      if Config.primOk .pointOk [leBytes 1 (c.p8 4), c.input] then
        State.ends (((t.draw 32).fillSlot c.key.part n { ktype := 0x10, binding := w.binding, attr := w.attr, limit := 0 }
            (kdf w.material (ascii "FXHYB") (leBytes 1 (c.p8 4) ++
              Config.prim .kemSecret [leBytes 1 (c.p8 4), c.input, t.drawn 32] 32) 256)).countOp) k c (!slotVolatile n)
          { status := .ok, result := leBytes 4 n, out := Config.prim .kemCipher [leBytes 1 (c.p8 4), c.input, t.drawn 32] ct }
      else s.finish c false { status := .badParam, detail := 0x0E02 })) ∧
  (∀ (s t : State) (k : CmdKey) (c : Inflight) (x y : KeySlot) (alg sk ek ct n : Nat),
    s.passes k c kemDecapsInfo s.lifeKeys = true → s.ownSlot c.key.part (c.p32 0) = some x → kemAlg x.ktype = some alg →
    kemSizes alg = some (sk, ek, ct) → c.inLen = ct →
    s.useSlot c.key.part (c.p32 0) (fun q => bit q.attr atAgree) = .ok y → s.secretCheck c.key.part (c.p32 4) none = none →
    slotIndex (c.p32 4) = 0xFFFF → s.takeUses [c.p32 0] = .ok t → t.target c.key.part (c.p32 4) = .slot n →
    s.mayEnd (!slotVolatile n) = true →
    exec (.kemDecaps k) s = .next (State.ends
      ((t.fillSlot c.key.part n { ktype := 0x10, binding := y.binding, attr := 0x420, limit := 0 }
        ((sha384 (ascii "FXSS" ++ leBytes 1 alg ++ Config.prim .kemDecap [leBytes 1 alg, y.material, c.input] 32)).take 32)).countOp)
      k c (!slotVolatile n) { status := .ok, result := leBytes 4 n })) ∧
  (∀ (s t : State) (k : CmdKey) (c : Inflight) (x y w : KeySlot) (alg sk ek ct n : Nat),
    s.passes k c kemDecapsInfo s.lifeKeys = true → s.ownSlot c.key.part (c.p32 0) = some x → kemAlg x.ktype = some alg →
    kemSizes alg = some (sk, ek, ct) → c.inLen = ct →
    s.useSlot c.key.part (c.p32 0) (fun q => bit q.attr atAgree) = .ok y → s.secretCheck c.key.part (c.p32 4) none = none →
    n = c.p32 4 → (s.combined c.key.part n).isSome = true → s.takeUses [c.p32 0, n] = .ok t → t.combined c.key.part n = some w →
    s.mayEnd (!slotVolatile n) = true →
    exec (.kemDecaps k) s = .next (State.ends
      ((t.fillSlot c.key.part n { ktype := 0x10, binding := max w.binding y.binding, attr := w.attr, limit := 0 }
        (kdf w.material (ascii "FXHYB") (leBytes 1 alg ++ Config.prim .kemDecap [leBytes 1 alg, y.material, c.input] 32) 256)).countOp)
      k c (!slotVolatile n) { status := .ok, result := leBytes 4 n })) ∧
  (∀ (s : State) (k : CmdKey) (c : Inflight), s.passes k c attestInfo (s.life != 1) = true →
    exec (.attest k) s = .next (if bit (c.p32 0) 3 && !s.devCertOk then s.finish c false (.fail .storeFault)
      else ((s.draw 128).countOp).finish c false
        { status := .ok, result := leBytes 4 (statementLen (c.p32 0)),
          out := s.statement c ++ s.sections c ++
            hybridSign s.aliasKeys "FXV-ATT" (s.statement c ++ s.sections c) (s.drawn 128) }))

/-! ### Partitions and the commands of P0 (04, 05, 09, 18) -/

/-- PART_CREATE, PART_SET, PART_RESET and PART_DESTROY of a target that passes R136, R139 or R141: the record in place, the
number named or chosen returned, the target's uncommitted commands counted, the partition reset first and then gone. The checks
of R136 come before the device condition of R202. NOP does nothing (05 R197). POWER_VOTE of resources in VOTE_MASK changes the
issuer's votes as ACTION says, and every resource is evaluated (04 R155-R157); SPILL_REGION_SET registers a region with no
Spillway flow left and a key newly drawn (09 R368); RESERVOIR_SET refills the store and plans (18 R650, R652); POWER_CAP_SET
sets the cap (18 R655). -/
def Obligations.PartitionAndPowerCommands : Prop :=
  (∀ (s : State) (k : CmdKey) (c : Inflight), s.passes k c nopInfo true = true →
    exec (.nopCmd k) s = .next (s.finish c false .done)) ∧
  (∀ (s : State) (k : CmdKey) (c : Inflight) (n : Nat),
    s.passes k c partCreateInfo (s.life == 4 || s.life == 5) = true → s.partNumber (c.p8 0) = some n → s.canCommit = true →
    exec (.partCreate k) s = .next (State.ends
      { s with parts := mapPut s.parts n (PartSt.new (PartCfg.ofRecord c.param) (bit (c.p8 1) 1)) } k c true
      { status := .ok, result := leBytes 1 n })) ∧
  (∀ (s : State) (k : CmdKey) (c : Inflight),
    s.passes k c partSetInfo (s.life == 4 || s.life == 5) = true → s.canCommit = true →
    exec (.partSet k) s = .next (State.ends
      (s.updPart (c.p8 0) (fun x => { x with cfg := PartCfg.ofRecord c.param, compat := bit (c.p8 1) 1 })) k c true .done)) ∧
  (∀ (s : State) (k : CmdKey) (c : Inflight), s.passes k c partResetInfo true = true →
    exec (.partReset k) s = .next ((s.startPartReset (c.p8 0) .partReset).finish c false
      { status := .ok, result := leBytes 2 (s.abortedOf (c.p8 0)).length })) ∧
  (∀ (s : State) (k : CmdKey) (c : Inflight),
    s.passes k c partDestroyInfo true = true → s.readHolds (s.regionPages (c.p8 0)) = false → s.canCommit = true →
    exec (.partDestroy k) s = .next (State.ends ((s.resetTarget c).destroyPart (c.p8 0)) k c true .done)) ∧
  (∀ (s : State) (k : CmdKey) (c : Inflight), s.turn? k c = true → c.opcode = 0x0002 →
    s.preCheck partCreateInfo (s.life == 4 || s.life == 5) c = none → c.readFail = false →
    exec (.partCreate k) s = .next (match partCreateCheck s c <|> s.deviceCheck partCreateInfo c with
      | some st => s.finish c false (.fail st)
      | none => (partCreateWork s c).settle s k c)) ∧
  (∀ (s t u : State) (k : CmdKey) (c : Inflight) (q : PartSt),
    s.passes k c powerVoteInfo true = true → s.part? c.key.part = some q → maskDiff (c.p8 1) q.cfg.voteMask = 0 →
    t = (s.updPart c.key.part (fun x => match c.p8 0 with
      | 0 => { x with hold := x.hold ||| c.p8 1, gate := maskDiff x.gate (c.p8 1) }
      | 1 => { x with hold := maskDiff x.hold (c.p8 1) }
      | 2 => { x with gate := x.gate ||| c.p8 1, hold := maskDiff x.hold (c.p8 1) }
      | _ => { x with gate := maskDiff x.gate (c.p8 1) })) →
    u = t.evalVotes.noteDefer s.deferred →
    exec (.powerVote k) s = .next (u.finish c false
      (if (c.p8 0 = 0 && c.p8 1 &&& u.gated ≠ 0) || (c.p8 0 = 2 && maskDiff (c.p8 1) u.gated ≠ 0) then { status := .deferred }
       else .done))) ∧
  (∀ (s : State) (k : CmdKey) (c : Inflight) (base : Nat),
    s.passes k c spillRegionInfo true = true → s.flows.any (fun f => isSpill f.1) = false → s.canCommit = true →
    base = (if c.p64 8 = 0 then 0 else c.p64 0) →
    exec (.spillRegionSet k) s = .next (State.ends
      (((if c.p64 8 = 0 then
            { s with spill := { base := 0, usable := 0, key := [], versions := [], retired := [], clock := 0 } }
          else State.draw { s with spill := { base := base, usable := min 65536 (c.p64 8 / 256), key := s.drawn 32,
                                              versions := [], retired := [], clock := 0 } } 32).setFld
        Fd.SPILL_BASE_LO_BASE (base % 2 ^ 32)).setFld Fd.SPILL_BASE_HI_BASE (base / 2 ^ 32)) k c true .done)) ∧
  (∀ (s : State) (k : CmdKey) (c : Inflight), s.passes k c reservoirInfo true = true → s.canCommit = true →
    exec (.reservoirSet k) s = .next (State.ends ((s.refill (c.p32 0) (c.p16 4)).plan 3) k c true .done)) ∧
  (∀ (s : State) (k : CmdKey) (c : Inflight), s.passes k c powerCapInfo true = true → s.canCommit = true →
    exec (.powerCapSet k) s = .next (State.ends
      (({ s with power := { s.power with capMw := c.p16 0 } }).setFld Fd.PW_CAP_CAP_MW (c.p16 0)) k c true .done))

/-! ### Rings, doorbells and the event ring (04, 05) -/

/-- Doorbells in range move the tail or the head of their ring and nothing else but, for a CQ left non-empty, its message; out
of range they stop it with RING_ERROR code 5 (05 R173, R174; 18 R628). The mailbox of a partition with no operation in progress:
RING_CREATE of a free CQ or SQ number with an entry of the reserve in hand, RING_DESTROY of a CQ no SQ names and of an SQ with
nothing in flight, and RING_QUERY of a CQ or an SQ it holds (05 R163-R171, R196). -/
def Obligations.DoorbellsAndMailbox : Prop :=
  (∀ (s : State) (p i : Nat) (data : Word) (q : PartSt) (r : Sq),
    s.part? p = some q → q.inReset = none → s.windowOpen p = true → q.sq? i = some r →
    exec (.sqTail p i data) s = .next (if data.toNat % 4096 < 2 ^ r.sizeLog2 then
        ((s.setReg (Reg.SQ_TAIL p i) (BitVec.ofNat 32 (data.toNat % 4096))).updPart p (fun x => { x with
          sqs := updSq i (fun w => { w with tail := data.toNat % 4096 }) x.sqs })).eddyExit
      else (s.errCap (pageOf (Reg.SQ_TAIL p i)) p 0x82 (Reg.SQ_TAIL p i % 0x1000) data.toNat).stopRing p (.sq i) 5
        (data.toNat % 4096))) ∧
  (∀ (s t : State) (p i : Nat) (data : Word) (q : PartSt) (r : Cq),
    s.part? p = some q → q.inReset = none → s.windowOpen p = true → q.cq? i = some r →
    t = (s.setReg (Reg.CQ_HEAD p i) (BitVec.ofNat 32 (data.toNat % 4096))).updPart p (fun x => { x with
      cqs := updCq i (fun w => { w with rd := data.toNat % 4096 }) x.cqs }) →
    exec (.cqHead p i data) s = .next (if data.toNat % 4096 < 2 ^ r.sizeLog2 then
        (if r.wr = data.toNat % 4096 then t else t.sendMsg p r.vec)
      else (s.errCap (pageOf (Reg.CQ_HEAD p i)) p 0x82 (Reg.CQ_HEAD p i % 0x1000) data.toNat).stopRing p (.cq i) 5
        (data.toNat % 4096))) ∧
  (∀ (s t : State) (p n id lg base : Nat) (q : PartSt),
    s.part? p = some q → s.windowOpen p = true → s.fld (Fd.RC_STAT_BUSY p) = 0 → s.fld (Fd.RC_CFG_TYPE p) = 1 →
    id = s.fld (Fd.RC_CFG_ID p) → lg = s.fld (Fd.RC_CFG_SIZE_LOG2 p) → 6 ≤ lg → lg ≤ 12 → q.cq? id = none →
    q.ringCount < q.cfg.ringQuota → s.takeReserve = some (n, t) →
    base = s.fld (Fd.RC_BASE_LO_ADDR p) * 0x1000 + s.fld (Fd.RC_BASE_HI_ADDR p) * 2 ^ 32 →
    exec (.ringCreate p) s = .next ((((t.rcResult p .ok).setFld (Fd.RC_QUEUE_QUEUE p) (n - reserveBase)).setReg
      (Reg.CQ_HEAD p id) 0).updPart p (fun x => { x with cqs := x.cqs ++ [{
        id := id, base := base, sizeLog2 := lg,
        vec := ((t.rcResult p .ok).setFld (Fd.RC_QUEUE_QUEUE p) (n - reserveBase)).fld (Fd.RC_CFG_VEC p), queue := n, wr := 0,
        rd := 0, reserved := 0, phase := true, stopped := false }] }))) ∧
  (∀ (s t : State) (p n id lg cq base : Nat) (q : PartSt) (w : Cq),
    s.part? p = some q → s.windowOpen p = true → s.fld (Fd.RC_STAT_BUSY p) = 0 → s.fld (Fd.RC_CFG_TYPE p) = 0 →
    id = s.fld (Fd.RC_CFG_ID p) → lg = s.fld (Fd.RC_CFG_SIZE_LOG2 p) → cq = s.fld (Fd.RC_CFG_CQ_ID p) → 6 ≤ lg → lg ≤ 12 →
    q.sq? id = none → q.cq? cq = some w → q.ringCount < q.cfg.ringQuota → s.takeReserve = some (n, t) →
    base = s.fld (Fd.RC_BASE_LO_ADDR p) * 0x1000 + s.fld (Fd.RC_BASE_HI_ADDR p) * 2 ^ 32 →
    exec (.ringCreate p) s = .next (((((t.rcResult p .ok).setFld (Fd.RC_QUEUE_QUEUE p) (n - reserveBase)).setReg
      (Reg.SQ_TAIL p id) 0).updPart p (fun x => { x with
        resume := x.resume.map (fun r => if r.sq = id then { r with ordinal := none, durOrdinal := none } else r),
        sqs := x.sqs ++ [{ id := id, base := base, sizeLog2 := lg, cq := cq, queue := n, head := 0, tail := 0, fetched := 0,
                           stopped := false, draining := false }] })).post p 2 p (resumeDetail id q.resume))) ∧
  (∀ (s : State) (p id : Nat) (q : PartSt) (r : Cq),
    s.part? p = some q → s.windowOpen p = true → s.fld (Fd.RC_STAT_BUSY p) = 0 → s.fld (Fd.RC_CFG_TYPE p) = 1 →
    id = s.fld (Fd.RC_CFG_ID p) → q.cq? id = some r → q.sqs.any (fun w => w.cq == id) = false →
    exec (.ringDestroy p) s = .next ((s.updPart p (fun x => { x with cqs := x.cqs.filter (fun w => !(w.id == id)) })).rcResult p .ok)) ∧
  (∀ (s : State) (p id : Nat) (q : PartSt) (r : Sq),
    s.part? p = some q → s.windowOpen p = true → s.fld (Fd.RC_STAT_BUSY p) = 0 → s.fld (Fd.RC_CFG_TYPE p) = 0 →
    id = s.fld (Fd.RC_CFG_ID p) → q.sq? id = some r →
    exec (.ringDestroy p) s = .next (
      if (s.updPart p (fun x => { x with sqs := updSq id (fun w => { w with draining := true }) x.sqs })).sqIdle p id then
        (s.updPart p (fun x => { x with sqs := updSq id (fun w => { w with draining := true }) x.sqs })).freeSq p id
      else (s.updPart p (fun x => { x with sqs := updSq id (fun w => { w with draining := true }) x.sqs })).setFld
        (Fd.RC_STAT_BUSY p) 1)) ∧
  (∀ (s : State) (p i : Nat) (q : PartSt) (r : Sq),
    s.part? p = some q → q.sq? i = some r → r.draining = true → s.ringInflight p i = [] →
    q.heldCompl.all (fun m => !(m.sq == i)) = true →
    exec (.sqDrained p i) s = .next (
      ((s.updPart p (fun x => { x with sqs := x.sqs.filter (fun w => !(w.id == i)) })).setFld (Fd.RC_STAT_BUSY p) 0).setFld
        (Fd.RC_STAT_RESULT p) 0)) ∧
  (∀ (s : State) (p id : Nat) (q : PartSt) (r : Sq),
    s.part? p = some q → s.windowOpen p = true → s.fld (Fd.RC_STAT_BUSY p) = 0 → s.fld (Fd.RC_CFG_TYPE p) = 0 →
    id = s.fld (Fd.RC_CFG_ID p) → q.sq? id = some r →
    exec (.ringQuery p) s = .next ((((((s.rcResult p .ok).setFld (Fd.RC_INFO_ACTIVE p) 1).setFld (Fd.RC_INFO_STOPPED p)
      (b2n r.stopped)).setFld (Fd.RC_INFO_INFLIGHT p) (s.ringInflight p id).length).setFld
      (Fd.RC_INFO_HEAD p) r.head).setFld (Fd.RC_QUEUE_QUEUE p) (r.queue - reserveBase))) ∧
  (∀ (s : State) (p id : Nat) (q : PartSt) (r : Cq),
    s.part? p = some q → s.windowOpen p = true → s.fld (Fd.RC_STAT_BUSY p) = 0 → s.fld (Fd.RC_CFG_TYPE p) = 1 →
    id = s.fld (Fd.RC_CFG_ID p) → q.cq? id = some r →
    exec (.ringQuery p) s = .next ((((((s.rcResult p .ok).setFld (Fd.RC_INFO_ACTIVE p) 1).setFld (Fd.RC_INFO_STOPPED p)
      (b2n r.stopped)).setFld (Fd.RC_INFO_INFLIGHT p) 0).setFld
      (Fd.RC_INFO_HEAD p) r.wr).setFld (Fd.RC_QUEUE_QUEUE p) (r.queue - reserveBase)))

/-- SQ_FETCH of the ring whose turn it is: the entry joins the fetched commands with the partition's class, COMPAT and WORLD of
now, the ring's head moves, a completion entry is reserved, and units are asked for (05 R183, R184; 04 R139, R149; 17 R616). A
failed read for a ring stops that ring alone (04 R121). EVR_ENABLE with a legal size and an entry of the reserve starts the
event ring empty, with PHASE 1 and SEQ 0, and posts what was held; EVR_DISABLE releases it; EVR_HEAD in range consumes events
and lets held ones go (04 R146-R148). -/
def Obligations.FetchAndEventRings : Prop :=
  (∀ (s t : State) (p i : Nat) (f : Fetch) (q : PartSt) (r : Sq) (c : Inflight),
    s.part? p = some q → s.nextSq p q = some i → s.mayAdmit p q = true → q.sq? i = some r →
    c = { s.withImage (Inflight.ofEntry { part := p, sq := i, idx := r.head } r.fetched s.admitted q f) with
          solo := s.fld Fd.HW_ROLE_SOLO == 1 } →
    s.inputUsed + min c.inLen 16777216 ≤ 16777216 → s.canReserve c = true → s.classHeld c.runClass = false →
    s.inflight.any (fun o => o.opcode == 0x0901) = false →
    t = (s.takeTurn p q).emitReads p (c.reads (r.base + 64 * r.head)) →
    exec (.sqFetch p i f) s = .next ((State.admitJobs (State.followCmd
      (State.updPart { t with inflight := t.inflight ++ [c], admitted := t.admitted + 1 } p (fun x => { x with
        lastSq := i, sqs := updSq i (fun w => { w with head := (w.head + 1) % 2 ^ w.sizeLog2, fetched := w.fetched + 1 }) x.sqs,
        cqs := updCq r.cq (fun w => { w with reserved := w.reserved + 1 }) x.cqs })) c) c r.queue).sweepBad 1)) ∧
  (∀ (s : State) (p i idx : Nat) (e : HostErr) (q : PartSt) (r : Sq),
    s.part? p = some q → q.sq? i = some r → r.stopped = false →
    exec (.hostReadError p (.sq i) e idx) s = .next (
      ((s.aerLog p e).updPart p (fun x => { x with sqs := updSq i (fun w => { w with stopped := true }) x.sqs })).post p 3 p
        (leBytes 1 0 ++ leBytes 1 i ++ leBytes 1 (hostErrCode e) ++ [0] ++ leBytes 2 idx))) ∧
  (∀ (s : State) (p i idx : Nat) (e : HostErr) (q : PartSt) (r : Cq),
    s.part? p = some q → q.cq? i = some r → r.stopped = false →
    exec (.hostReadError p (.cq i) e idx) s = .next (
      ((s.aerLog p e).updPart p (fun x => { x with cqs := updCq i (fun w => { w with stopped := true }) x.cqs })).post p 3 p
        (leBytes 1 1 ++ leBytes 1 i ++ leBytes 1 (hostErrCode e) ++ [0] ++ leBytes 2 idx))) ∧
  (∀ (s : State) (p idx : Nat) (e : HostErr) (q : PartSt) (r : Evr),
    s.part? p = some q → q.evr = some r →
    exec (.hostReadError p .evr e idx) s = .next (
      ((s.aerLog p e).updPart p (fun x => { x with evr := none })).post p 3 p
        (leBytes 1 2 ++ leBytes 1 0 ++ leBytes 1 (hostErrCode e) ++ [0] ++ leBytes 2 idx))) ∧
  (∀ (s t u : State) (p n : Nat) (data : Word) (q : PartSt),
    s.part? p = some q → s.pageOpen p (pageOf (Reg.EVR_CFG p)) = true → q.evr = none → 6 ≤ bitsOf data.toNat 3 0 →
    bitsOf data.toNat 3 0 ≤ 12 → q.ringCount < q.cfg.ringQuota →
    t = (s.setFld (Fd.EVR_CFG_VEC p) (bitsOf data.toNat 20 16)).setFld (Fd.EVR_CFG_SIZE_LOG2 p) (bitsOf data.toNat 3 0) →
    t.takeReserve = some (n, u) →
    exec (.evrEnable p data) s = .next (State.drainEvents ((u.setFld (Fd.EVR_HEAD_HEAD p) 0).updPart p (fun x => { x with
      evr := some { base := u.fld (Fd.EVR_BASE_LO_ADDR p) * 0x1000 + u.fld (Fd.EVR_BASE_HI_ADDR p) * 2 ^ 32,
                    sizeLog2 := u.fld (Fd.EVR_CFG_SIZE_LOG2 p), vec := u.fld (Fd.EVR_CFG_VEC p), queue := n, head := 0,
                    tail := 0, seq := 0, phase := true } })) p)) ∧
  (∀ (s : State) (p : Nat) (data : Word) (q : PartSt),
    s.part? p = some q → s.pageOpen p (pageOf (Reg.EVR_CFG p)) = true → q.evr = none →
    exec (.evrDisable p data) s = .next (((s.setFld (Fd.EVR_CFG_SIZE_LOG2 p) (bitsOf data.toNat 3 0)).setFld (Fd.EVR_CFG_VEC p)
      (bitsOf data.toNat 20 16)).updPart p (fun x => { x with evr := none }))) ∧
  (∀ (s : State) (p : Nat) (data : Word) (q : PartSt) (r : Evr),
    s.part? p = some q → s.pageOpen p (pageOf (Reg.EVR_CFG p)) = true → q.evr = some r →
    exec (.evrDisable p data) s = .next (((if bitsOf data.toNat 3 0 = s.fld (Fd.EVR_CFG_SIZE_LOG2 p) then
        s.setFld (Fd.EVR_CFG_SIZE_LOG2 p) (bitsOf data.toNat 3 0)
      else s.errCap (pageOf (Reg.EVR_CFG p)) p 0x05 (Reg.EVR_CFG p % 0x1000) data.toNat).setFld (Fd.EVR_CFG_VEC p)
      (bitsOf data.toNat 20 16)).updPart p (fun x => { x with evr := none }))) ∧
  (∀ (s t : State) (p : Nat) (data : Word) (q : PartSt) (r : Evr),
    s.part? p = some q → s.pageOpen p (pageOf (Reg.EVR_HEAD p)) = true → q.evr = some r → data.toNat % 4096 < 2 ^ r.sizeLog2 →
    t = State.drainEvents ((s.setFld (Fd.EVR_HEAD_HEAD p) (data.toNat % 4096)).updPart p (fun x => { x with
      evr := some { r with head := data.toNat % 4096 } })) p →
    exec (.evrHead p data) s = .next (match (t.part? p).bind (·.evr) with
      | some r' => if r'.head = r'.tail || data.toNat % 4096 = r.tail then t else t.sendMsg p r'.vec
      | none => t))

/-! ### Resets, bring-up, supplies and the link (02, 03, 04) -/

/-- What a device warm reset, a WARM write, a brown-out and a power-on reset leave (03 R104-R106, R112; 02 R61, R62): gates
closed, retry status, no fetched command, volatile keys and sessions gone, the EE store, the fuses and every persistent slot as
they were, RESET_CAUSE showing the cause, and the earliest start of bring-up. RESET_CAUSE shows the cause of a reset: WARM_REQ,
BROWNOUT, TAMPER or LIFECYCLE after a device warm reset, PORST or VAON_LOW alone after a power-on reset (03 R106, R112). -/
def Obligations.DeviceResetsAndCauses : Prop :=
  (∀ (s : State) (c : WarmCause), ∃ t, exec (.deviceWarmReset c) s = .next t ∧
    t.gatesOpen = false ∧ t.retry = true ∧ t.linkUp = false ∧ t.inflight = [] ∧ t.txns = [] ∧ t.acc.session = none ∧
    t.domains = 1 ∧ t.boot = (if s.boot = .power then .power else .warm) ∧ t.bootAt = s.deviceTime + 20000 ∧
    t.deviceTime = s.deviceTime ∧ t.ee = { s.ee with corrections := [], passStart := none, storeOff := none } ∧ t.keys.fuses = s.keys.fuses ∧
    t.keys.slots = s.keys.slots.filter (fun x => !slotVolatile x.1) ∧ t.tamper.log = s.tamper.log ∧
    t.parts.map (fun x => (x.1, x.2.cfg)) = s.parts.map (fun x => (x.1, x.2.cfg)) ∧ t.pending = s.pending) ∧
  (∀ (s : State) (src : Nat) (data : Word), s.pageOpen src 0 = true → s.secure src = true →
    bitsOf data.toNat 31 16 = 0xA5C3 → bit data.toNat 0 = true →
    exec (.devWarm src data) s = exec (.deviceWarmReset .request) s) ∧
  (∀ (s : State) (m : Monitor) (mv : Nat), s.monitorsOn = true → ∃ t, exec (.brownOut m mv) s = .next t ∧
    t.gatesOpen = false ∧ t.retry = true ∧ t.inflight = [] ∧ t.supply.brownout = true ∧ t.supply.vholdMv = mv ∧
    t.bootAt = s.deviceTime + 1000000 ∧ t.ee = { s.ee with corrections := [], passStart := none, storeOff := none } ∧ t.keys.fuses = s.keys.fuses ∧
    t.keys.slots = s.keys.slots.filter (fun x => !slotVolatile x.1)) ∧
  (∀ (s : State) (c : PorCause), ∃ t, exec (.powerOnReset c) s = .next t ∧
    t.gatesOpen = false ∧ t.retry = true ∧ t.inflight = [] ∧ t.deviceTime = 0 ∧ t.boot = .power ∧ t.bootAt = 0 ∧ t.domains = 1 ∧
    t.ee = { s.ee with corrections := [], passStart := none, storeOff := none } ∧ t.keys.fuses = s.keys.fuses ∧
    t.keys.slots = s.keys.slots.filter (fun x => !slotVolatile x.1) ∧ t.tamper.log = s.tamper.log ∧
    t.tamper.hold = (s.tamper.hold && decide (c = .porst))) ∧
  (∀ (s t : State) (c : WarmCause), regsWf s.regs = true → exec (.deviceWarmReset c) s = .next t →
    t.fld (match c with | .request => Fd.RESET_CAUSE_WARM_REQ | .brownout => Fd.RESET_CAUSE_BROWNOUT
                        | .tamper => Fd.RESET_CAUSE_TAMPER | .lifecycle => Fd.RESET_CAUSE_LIFECYCLE) = 1) ∧
  (∀ (s t : State) (c : PorCause), exec (.powerOnReset c) s = .next t →
    t.reg Reg.RESET_CAUSE = (match c with | .porst => 1#32 | .vaonLow => 2#32))

/-- BRING_UP of a part in reset whose start has come runs the steps of R89 from the one it stands at. Where its images, UDS
copies and store are good, a half passes, VHOLD allows the writes of steps 6 and 7, and there is neither HOLD nor SCRAP nor a
transition to finish, one that runs to step 11 is ready: gates open, no retry status. One whose Shore image fails ends failed at
step 2 with FAIL_CODE 3, and offers no partition window (03 R89-R101, R112). HOLD_CAP_MEASURE, once in a bring-up, shows the
capacitance that a drop of so many microvolts means, whether it is low, and VHOLD at 3.0 V (02 R66, R80). -/
def Obligations.BringUpEnds : Prop :=
  (∀ (s : State) (b : BringUp), s.bootDue b = true →
    exec (.bringUp b) s = .next ((s.setVhold b.vholdMv).runBoot b (s.fld Fd.BOOT_STAT_STEP) 11)) ∧
  (∀ (s : State) (b : BringUp), regsWf s.regs = true → s.bootDue b = true → s.fld Fd.BOOT_STAT_STEP = 0 → 11 ≤ b.upTo →
    2850 ≤ b.vholdMv → s.tamper.hold = false → s.lc.fused ≠ 7 → b.straps.toNat < 8 → b.shoreImageFail = false →
    b.udsDiffer = false → b.storeLost = false → (b.northFail = none ∨ b.southFail = none) → b.spareFails = [] →
    (mapGet s.keys.fuses 0).isSome = true → s.keys.seed.isSome = true → s.lc.progress = none → s.tamper.quench = 0 →
    s.ee.lostPages.any (fun c => decide (c.1 < 1024)) = false →
    ∃ t, exec (.bringUp b) s = .next t ∧ t.boot = .up ∧ t.gatesOpen = true ∧ t.retry = false) ∧
  (∀ (s : State) (b : BringUp), regsWf s.regs = true → s.bootDue b = true → s.fld Fd.BOOT_STAT_STEP = 0 → 2 ≤ b.upTo →
    b.shoreImageFail = true → ∃ t, exec (.bringUp b) s = .next t ∧ t.boot = .failed ∧ t.retry = false ∧
      t.windowOpen 0 = false ∧ t.fld Fd.BOOT_STAT_STEP = 2 ∧ t.fld Fd.BOOT_STAT_FAILED = 1 ∧ t.fld Fd.BOOT_STAT_FAIL_CODE = 3) ∧
  (∀ (s : State) (uv uf : Nat), s.capDone = false → s.supply.brownout = false →
    uf = (if uv = 0 then 1023 else min 1023 (2000000 / uv)) →
    exec (.holdCapMeasure uv) s = .next (State.setFld
      { (s.setFld Fd.HOLD_STAT_HOLD_CAP_UF uf).setFld Fd.HOLD_STAT_CAP_LOW (b2n (decide (uf < 56))) with
        capDone := true, supply := { s.supply with capAt := some s.deviceTime, vholdMv := 3000 } }
      Fd.HOLD_STAT_HOLD_OK (b2n (decide (56 ≤
        ((s.setFld Fd.HOLD_STAT_HOLD_CAP_UF uf).setFld Fd.HOLD_STAT_CAP_LOW (b2n (decide (uf < 56)))).fld
          Fd.HOLD_STAT_HOLD_CAP_UF))))) ∧
  (∀ (s : State) (uv uf : Nat), regsWf s.regs = true → s.capDone = false → s.supply.brownout = false →
    uf = (if uv = 0 then 1023 else min 1023 (2000000 / uv)) → ∃ t, exec (.holdCapMeasure uv) s = .next t ∧
    t.fld Fd.HOLD_STAT_HOLD_CAP_UF = uf ∧ t.fld Fd.HOLD_STAT_CAP_LOW = b2n (decide (uf < 56)) ∧
    t.fld Fd.HOLD_STAT_HOLD_OK = b2n (decide (56 ≤ uf)))

/-- LINK_RESET outside a wider reset shows its cause and resets every function and partition window; afterwards no partition has
a ring or a fetched command, VF Enable is clear, and the partitions keep their configurations; within a wider reset it is
absorbed (03 R103, R106, R111). FLR begins a partition reset of its function, and one of P0 takes P1-P63 away; PARTITION_RESET
runs a reset to its end. PERST_N_RISE releases PCIE_WAKE_N, latches the wake, and ends Pond or lets the link train (03 R94,
R109; 04 R153; 18 R628, R641). PCIE_CONFIG_ACCESS after ready, of a function that is reached: the value a read returns, each
field a write changes, and what the change lets out (04 R113, R114, R120, R123, R145, R747). Before ready the request is retried
and nothing changes (03 R95). VDD_SERDES low takes lanes and link down, and its return lets the link train; a lost reference
shows its LOSS bit in CLKMON_STAT and stops what it serves, one of REF38_IN or the crystal with a tamper log entry; its return
lets that start again (02 R60, R78-R80; 19 R663). -/
def Obligations.LinkAndSupplies : Prop :=
  (∀ (s u : State) (c : LinkCause), s.boot ≠ .power → s.boot ≠ .warm →
    u = (if c = .perst then { s with power := { s.power with perstLow := true } } else s) →
    exec (.linkReset c) s = .next ((u.setFld (if c = .perst then Fd.RESET_CAUSE_PERST else Fd.RESET_CAUSE_LINK) 1).linkReset)) ∧
  (∀ (s : State) (c : LinkCause), s.boot ≠ .power → s.boot ≠ .warm → ∃ t, exec (.linkReset c) s = .next t ∧
    t.vfEnable = false ∧ t.numVfs = 0 ∧ t.d3hot = false ∧ (∀ x ∈ t.inflight, 64 ≤ x.key.part) ∧
    (∀ p : Nat, (t.part? p).map (fun q => q.cfg) = (s.part? p).map (fun q => q.cfg)) ∧
    (∀ (p : Nat) (q : PartSt), p < 64 → t.part? p = some q → q.sqs = [] ∧ q.cqs = [] ∧ q.evr = none)) ∧
  (∀ (s : State) (c : LinkCause), (s.boot = .power ∨ s.boot = .warm) → exec (.linkReset c) s = .next
    (if c = .perst then { s with power := { s.power with perstLow := true } } else s)) ∧
  (∀ (s : State) (p : Nat), s.retry = false → s.reachable p = true → (s.part? p).isSome = true → p ≠ 0 →
    exec (.flr p) s = .next (s.startPartReset p .flr)) ∧
  (∀ (s : State), s.retry = false → s.reachable 0 = true → (s.part? 0).isSome = true →
    exec (.flr 0) s = .next { (s.startPartReset 0 .flr).linkResetOf ((List.range 63).map (· + 1)) with
      vfEnable := false, numVfs := 0, d3hot := false }) ∧
  (∀ (s : State) (p : Nat) (c : PartCause) (q : PartSt), s.part? p = some q → q.inReset = some c → c ≠ .partDestroy →
    exec (.partitionReset p c) s = .next (s.endPartReset p c)) ∧
  (∀ (s : State) (p : Nat) (c : PartCause) (q : PartSt), s.part? p = some q → q.inReset = none → s.retry = false →
    c ≠ .partDestroy → exec (.partitionReset p c) s = .next ((s.startPartReset p c).endPartReset p c)) ∧
  (∀ (s u : State), s.power.perstLow = true →
    u = State.latchWake { s with power := { s.power with perstLow := false, wakeLow := false } } .perst →
    exec .perstNRise s = .next (if u.fld Fd.PW_STAT_STATE = 2 then u.pondToFlow else { u with linkUp := u.linkCan })) ∧
  (∀ (s : State) (p : Nat) (op : CfgOp), s.retry = true → exec (.pcieConfig p op) s = .next s) ∧
  (∀ (s : State) (p : Nat) (r : CfgReg), s.retry = false → s.reachable p = true →
    exec (.pcieConfig p (.read r)) s = .next { s with out := .cfgRead p (s.cfgField p r) :: s.out }) ∧
  (∀ (s : State) (p k a : Nat), s.retry = false → s.reachable p = true →
    exec (.pcieConfig p (.bar k a)) s = .next (s.setFn p { s.fn p with bars := (s.fn p).bars.set k (barBase p k a) })) ∧
  (∀ (s : State) (p n : Nat), s.retry = false → s.reachable p = true →
    exec (.pcieConfig p (.maxPayload n)) s = .next (if n = 128 ∨ n = 256 ∨ n = 512 then s.setFn p { s.fn p with mps := n } else s)) ∧
  (∀ (s : State) (p n : Nat), s.retry = false → s.reachable p = true →
    exec (.pcieConfig p (.maxRead n)) s = .next (if n ∈ [128, 256, 512, 1024, 2048, 4096] then s.setFn p { s.fn p with mrrs := n }
      else s)) ∧
  (∀ (s : State) (p m : Nat), s.retry = false → s.reachable p = true →
    exec (.pcieConfig p (.aerClear m)) s = .next (s.setFn p { s.fn p with
      aer := maskDiff (s.fn p).aer m, aerHdr := if maskDiff (s.fn p).aer m = 0 then [] else (s.fn p).aerHdr })) ∧
  (∀ (s : State) (p : Nat) (b : Bool), s.retry = false → s.reachable p = true →
    exec (.pcieConfig p (.busMaster b)) s = .next ((s.setFn p { s.fn p with busMaster := b }).release p)) ∧
  (∀ (s : State) (p : Nat) (b : Bool), s.retry = false → s.reachable p = true →
    exec (.pcieConfig p (.msixEnable b)) s = .next ((s.setFn p { s.fn p with msixEnable := b }).flushMsgs p)) ∧
  (∀ (s : State) (p : Nat) (b : Bool), s.retry = false → s.reachable p = true →
    exec (.pcieConfig p (.fnMask b)) s = .next ((s.setFn p { s.fn p with fnMask := b }).flushMsgs p)) ∧
  (∀ (s : State) (p v : Nat) (b : Bool), s.retry = false → s.reachable p = true →
    exec (.pcieConfig p (.vecMask v b)) s = .next ((s.setFld (Fd.msixMask p v) (b2n b)).flushMsgs p)) ∧
  (∀ (s : State) (n : Nat), s.retry = false → s.reachable 0 = true →
    exec (.pcieConfig 0 (.vfEnable true n)) s = .next { s with vfEnable := true, numVfs := min n 63 }) ∧
  (∀ (s : State) (n : Nat), s.retry = false → s.reachable 0 = true →
    exec (.pcieConfig 0 (.vfEnable false n)) s =
      .next { s.linkResetOf ((List.range 63).map (· + 1)) with vfEnable := false, numVfs := n }) ∧
  (∀ (s : State) (n : Nat), s.retry = false → s.reachable 0 = true → ∃ t,
    exec (.pcieConfig 0 (.vfEnable false n)) s = .next t ∧ t.vfEnable = false ∧
    ∀ c ∈ t.inflight, ¬ (1 ≤ c.key.part ∧ c.key.part ≤ 63)) ∧
  (∀ (s : State) (b : Bool), s.retry = false → s.reachable 0 = true →
    exec (.pcieConfig 0 (.d3hot b)) s = .next (State.releaseAll { s with d3hot := b } (s.parts.map (fun c => c.1)))) ∧
  (∀ (s : State), s.supply.serdesLow = false → exec .serdesSupplyLow s =
    .next (State.dataLinkDown (State.lanesDown { s with supply := { s.supply with serdesLow := true } }))) ∧
  (∀ (s : State), s.supply.serdesLow = false → ∃ t, exec .serdesSupplyLow s = .next t ∧
    t.supply.serdesLow = true ∧ t.linkUp = false) ∧
  (∀ (s : State), exec .serdesSupplyReturn s = .next { s with
    supply := { s.supply with serdesLow := false },
    linkUp := !s.power.perstLow && !s.supply.lostPcie && !s.supply.brownout && decide (2 ≤ s.fld Fd.BOOT_STAT_STEP) &&
      decide (s.fld Fd.PW_STAT_STATE ≤ 1) }) ∧
  (∀ (s : State), s.supply.lostPcie = false → exec (.refclkLoss .pcie) s =
    .next (State.dataLinkDown (State.setFld { s with supply := { s.supply with lostPcie := true } } Fd.CLKMON_STAT_PCIE_LOSS 1))) ∧
  (∀ (s : State), s.supply.lostPcie = false → ∃ t, exec (.refclkLoss .pcie) s = .next t ∧ t.supply.lostPcie = true ∧
    t.linkUp = false) ∧
  (∀ (s : State), s.supply.lostLane = false → exec (.refclkLoss .lane) s =
    .next (State.lanesDown (State.setFld { s with supply := { s.supply with lostLane := true } } Fd.CLKMON_STAT_LANE_LOSS 1))) ∧
  (∀ (s : State), s.supply.lostXtal = false → exec (.refclkLoss .xtal) s =
    .next ((State.setFld { s with supply := { s.supply with lostXtal := true } } Fd.CLKMON_STAT_XTAL_LOSS 1).logTamper 4 3 0 false)) ∧
  (∀ (s : State), s.supply.lostRef38 = false → exec (.refclkLoss .ref38) s =
    .next ((State.setFld { s with supply := { s.supply with lostRef38 := true } } Fd.CLKMON_STAT_REF38_LOSS
      1).stopRef38.logTamper 4 2 0 false)) ∧
  (∀ (s u : State) (r : RefClk), s.supply.lost r = true → u = { s with supply := s.supply.setLost r false } →
    exec (.refclkReturn r) s = .next (match r with
      | .ref38 => u.canSettleAll.cardSettle
      | .pcie => { u with linkUp := u.linkCan }
      | .xtal | .lane => u))

/-! ### Page headers and registers (00, 04) -/

/-- The page-header rows on a page that is open to the source: RESET_REQ, QUIESCE, ENABLE, PG_LOCK, INT_STAT, INT_FORCE and
ERR_CAP0 (04 R124, R125; 06 R244); a page not open to it takes nothing (04 R128-R133). The clearing writes on a page open to
their source: CLR_PEAK, CLR_LAT and HM_CLR_WAIT put their registers at 0, HW_CLR_WAIT the longest waits that HW_WEIR_WAITN and
HW_WEIR_WAITS show, and change nothing else (10 R408; 17 R626; 18 R660; 22 R741). -/
def Obligations.PageRows : Prop :=
  (∀ (s : State) (src p : Nat) (data : Word), s.pageOpen src (winBase p) = true → bit data.toNat 2 = true →
    exec (.resetReq src (winBase p) data) s = .next (s.startPartReset p .resetReq)) ∧
  (∀ (s : State) (src pg : Nat) (data : Word), s.pageOpen src pg = true → bit data.toNat 2 = true → pg < 0x1000000 →
    exec (.resetReq src pg data) s = .next ((s.pageReset pg).canSettleAll.cardSettle)) ∧
  (∀ (s : State) (src pg : Nat) (data : Word), s.pageOpen src pg = true → bit data.toNat 2 = true → 0x1000000 ≤ pg →
    pg % 0x1000000 ≠ 0 → exec (.resetReq src pg data) s = .next (s.pageReset pg)) ∧
  (∀ (s : State) (src pg : Nat) (data : Word), s.pageOpen src pg = true →
    exec (.pageQuiesce src pg data) s = .next (s.setFld (Fd.PG_CTL_QUIESCE pg) (data.toNat / 2 % 2))) ∧
  (∀ (s : State) (src pg : Nat) (data : Word), s.pageOpen src pg = true →
    (0x1000000 ≤ pg → pg % 0x1000000 ≠ 0 ∨ data.toNat % 2 = 0) →
    exec (.pageEnable src pg data) s = .next (s.setFld (Fd.PG_CTL_ENABLE pg) (data.toNat % 2))) ∧
  (∀ (s : State) (src p : Nat) (data : Word), s.pageOpen src (winBase p) = true → data.toNat % 2 = 1 →
    exec (.pageEnable src (winBase p) data) s = .next ((s.setFld (Fd.PG_CTL_ENABLE (winBase p)) 1).release p)) ∧
  (∀ (s : State) (src pg : Nat) (data : Word), s.pageOpen src pg = true → bit data.toNat 0 = true → s.locked pg = false →
    (pg = pgEe → tableBad (s.stagedTable.map (fun (w : Word) => { Region.none with word := w })) = false) →
    exec (.pgLock src pg data) s = .next (if journalled.contains pg then (s.setFld (Fd.PG_LOCK_LOCK pg) 1).journalPage pg
      else s.setFld (Fd.PG_LOCK_LOCK pg) 1)) ∧
  (∀ (s t : State) (src pg : Nat) (data : Word), s.pageOpen src pg = true →
    t = s.setFld (Fd.INT_RAW_RAW pg) (maskDiff (s.fld (Fd.INT_RAW_RAW pg)) data.toNat) →
    exec (.intStatClear src pg data) s = .next (if t.intStat pg = 0 || t.fld (Fd.INT_VEC_EVT pg) = 1 then t
      else t.sendMsg (t.receiver pg) (t.fld (Fd.INT_VEC_VEC pg)))) ∧
  (∀ (s : State) (src pg : Nat) (data : Word), s.pageOpen src pg = true →
    exec (.intForce src pg data) s = .next (s.raise pg data.toNat)) ∧
  (∀ (s : State) (src pg : Nat) (data : Word), s.pageOpen src pg = true → bit data.toNat 31 = true →
    exec (.errCapClear src pg data) s = .next (s.resetRegs (fun a => decide (pg + 0x40 ≤ a) && decide (a < pg + 0x50)))) ∧
  (∀ (s : State) (src pg : Nat) (data : Word), s.pageOpen src pg = false →
    exec (.resetReq src pg data) s = .next s ∧ exec (.pageQuiesce src pg data) s = .next s ∧
    exec (.pageEnable src pg data) s = .next s ∧ exec (.pgLock src pg data) s = .next s ∧
    exec (.intStatClear src pg data) s = .next s ∧ exec (.intForce src pg data) s = .next s ∧
    exec (.errCapClear src pg data) s = .next s) ∧
  (∀ (s : State) (src : Nat) (data : Word), s.pageOpen src 0x0E0000 = true → bit data.toNat 0 = true →
    exec (.clrPeak src data) s = .next (s.setFld Fd.PW_POWER_PEAK_MW 0)) ∧
  (∀ (s : State) (src : Nat) (data : Word), s.pageOpen src 0x110000 = true → bit data.toNat 0 = true →
    exec (.clrLat src data) s = .next (s.setFld Fd.TM_LAT_MAX_NS 0)) ∧
  (∀ (s : State) (src : Nat) (data : Word), s.pageOpen src 0x070000 = true → bit data.toNat 0 = true →
    exec (.hmClrWait src data) s = .next ((((s.setFld (Fd.HM_WAITMAX_NS 0) 0).setFld (Fd.HM_WAITMAX_NS 1) 0).setFld
      (Fd.HM_WAITMAX_NS 2) 0).setFld (Fd.HM_WAITMAX_NS 3) 0)) ∧
  (∀ (s : State) (src : Nat) (data : Word), s.pageOpen src 0x0D0000 = true → bit data.toNat 0 = true →
    exec (.hwClrWait src data) s =
      .next { s with halves := { s.halves with weirs := s.halves.weirs.map (fun w => { w with longest := 0 }) } })

/-- REGISTER_WRITE: before ready or from a source that does not reach the address nothing changes (03 R95; 04 R128); an access
to no page is recorded with cause 5, one without all four byte enables with cause 6, one of a register with no writable field
with cause 1 (04 R117, R126, R130; 00 R748), and none of these changes anything but the capture registers. The access codes of
00 R17 in a whole-word write of a device register without a row or a value range of its own: RO and WO fields keep their value,
RW takes the data, RWL takes it unless the page is locked, RWS takes it from the SECURE world, 1s in W1C clear and in W1S set; a
locked RWL field and a NORMAL-world write of RWS are recorded with causes 2 and 3. -/
def Obligations.RegisterAccess : Prop :=
  (∀ (s : State) (src off : Nat) (w : Win) (be : BitVec 4) (data : Word),
    (s.retry = true ∨ srcReaches src (Win.base w + off % 0x1000000 / 4 * 4) = false ∨ s.reachable src = false) →
    exec (.registerWrite src w off be data) s = .next s) ∧
  (∀ (s : State) (src off a : Nat) (w : Win) (be : BitVec 4) (data : Word),
    s.reachable src = true → s.retry = false → s.boot = .up → a = Win.base w + off % 0x1000000 / 4 * 4 →
    srcReaches src a = true → (s.part? src).isSome = true → s.pageExists (pageOf a) = false →
    exec (.registerWrite src w off be data) s = .next (s.errCap (Win.base w) src 0x05 (a % 0x1000) (off % 0x1000000 / 4 * 4))) ∧
  (∀ (s : State) (src off a : Nat) (w : Win) (be : BitVec 4) (data : Word),
    s.reachable src = true → s.retry = false → s.boot = .up → a = Win.base w + off % 0x1000000 / 4 * 4 →
    srcReaches src a = true → (s.part? src).isSome = true → s.pageExists (pageOf a) = true → be ≠ 0xF#4 →
    exec (.registerWrite src w off be data) s = .next (s.errCap (pageOf a) src 0x06 (a % 0x1000) data.toNat)) ∧
  (∀ (s : State) (src off a : Nat) (w : Win) (data : Word) (d : RegDesc),
    s.reachable src = true → s.retry = false → s.boot = .up → a = Win.base w + off % 0x1000000 / 4 * 4 →
    srcReaches src a = true → (s.part? src).isSome = true → s.pageExists (pageOf a) = true → addrPart a = none →
    s.writeRow src a data = none → regDesc a = some d → d.fields.all (fun f => f.acc = .ro) = true →
    exec (.registerWrite src w off 0xF#4 data) s = .next (s.errCap (pageOf a) src 0x01 (a % 0x1000) data.toNat)) ∧
  (∀ (s : State) (src off : Nat) (data : Word) (d : RegDesc) (f : FieldDesc),
    regsWf s.regs = true → s.reachable src = true → s.retry = false → s.boot = .up → off < 0x1000000 → off % 4 = 0 → src = 0 →
    (s.part? src).isSome = true → s.pageExists (pageOf off) = true → s.writeRow src off data = none → off % 0x1000 ≠ 0x24 →
    [0x040000, 0x060000, 0x061000, 0x070000, 0x080000].contains (pageOf off) = true → regDesc off = some d → f ∈ d.fields →
    d.fields.all (fun x => decide (x.lo ≤ x.hi) && decide (x.hi < 32)) = true →
    d.fields.Pairwise (fun x y => x.hi < y.lo ∨ y.hi < x.lo) →
    d.fields.any (fun x => x.acc != .ro) = true →
    ∃ t, exec (.registerWrite src .dev off 0xF#4 data) s = .next t ∧
      t.fld ⟨off, f.hi, f.lo⟩ = (match f.acc with
        | .ro | .wo => s.fld ⟨off, f.hi, f.lo⟩
        | .rw => bitsOf data.toNat f.hi f.lo
        | .rwl => if s.locked (pageOf off) then s.fld ⟨off, f.hi, f.lo⟩ else bitsOf data.toNat f.hi f.lo
        | .rws => if s.secure src then bitsOf data.toNat f.hi f.lo else s.fld ⟨off, f.hi, f.lo⟩
        | .w1c => maskDiff (s.fld ⟨off, f.hi, f.lo⟩) (bitsOf data.toNat f.hi f.lo)
        | .w1s => s.fld ⟨off, f.hi, f.lo⟩ ||| bitsOf data.toNat f.hi f.lo))

/-! ### Kalmel engines: computations (11, 12) -/

/-- The instructions that behave alike in both modes: moves, logic, comparisons, ADC, SBC, ROR, SHR, products and NOP write
their register and flags and no other, one instruction passes in R416's count and one step is spent (12 R452, R454, R456-R458,
R460-R464). -/
def Obligations.KalmelComputations : Prop :=
  (∀ (s : State) (e : EngRef) (t : Task) (d r : Nat), s.canRun e t 1 = true →
    exec (.kMov e d r) s = .next (s.ran e t 1 (t.setReg d (t.reg r))) ∧
    exec (.kAnd e d r) s = .next (s.ran e t 1 { t.setReg d (t.reg d &&& t.reg r) with fl := znFlags t.fl (t.reg d &&& t.reg r) }) ∧
    exec (.kOr e d r) s = .next (s.ran e t 1 { t.setReg d (t.reg d ||| t.reg r) with fl := znFlags t.fl (t.reg d ||| t.reg r) }) ∧
    exec (.kXor e d r) s = .next (s.ran e t 1 { t.setReg d (t.reg d ^^^ t.reg r) with fl := znFlags t.fl (t.reg d ^^^ t.reg r) }) ∧
    exec (.kAdc e d r) s = .next (s.ran e t 1 { t.setReg d (t.reg d + t.reg r + BitVec.ofNat 36 (b2n t.fl.c)) with
      fl := sumFlags t.fl (t.reg d) (t.reg r) (b2n t.fl.c) (t.reg d + t.reg r + BitVec.ofNat 36 (b2n t.fl.c)) }) ∧
    exec (.kSbc e d r) s = .next (s.ran e t 1 { t.setReg d (t.reg d - t.reg r - BitVec.ofNat 36 (b2n t.fl.c)) with
      fl := diffFlags t.fl (t.reg d) (t.reg r) (b2n t.fl.c) (t.reg d - t.reg r - BitVec.ofNat 36 (b2n t.fl.c)) }) ∧
    exec (.kCmp e d r) s = .next (s.ran e t 1 { t with fl := diffFlags t.fl (t.reg d) (t.reg r) 0 (t.reg d - t.reg r) })) ∧
  (∀ (s : State) (e : EngRef) (t : Task) (d r : Nat), s.canRun e t 1 = true →
    exec (.kMul e d r) s = .next (s.ran e t 1 { t with p1 := BitVec.ofInt 72 ((t.reg d).toInt * (t.reg r).toInt) }) ∧
    exec (.kMulu e d r) s = .next (s.ran e t 1 { t with p1 := BitVec.ofNat 72 ((t.reg d).toNat * (t.reg r).toNat) }) ∧
    exec (.kMac e d r) s = .next (s.ran e t 1 { t with p1 := BitVec.ofInt 72 (t.p1.toInt + (t.reg d).toInt * (t.reg r).toInt) }) ∧
    exec (.kMsb e d r) s = .next (s.ran e t 1 { t with p1 := BitVec.ofInt 72 (t.p1.toInt - (t.reg d).toInt * (t.reg r).toInt) })) ∧
  (∀ (s : State) (e : EngRef) (t : Task) (d imm : Nat), s.canRun e t 1 = true →
    exec (.kMovi e d imm) s = .next (s.ran e t 1 (t.setReg d ((BitVec.ofNat 6 imm).signExtend 36))) ∧
    exec (.kNot e d) s = .next (s.ran e t 1 { t.setReg d (~~~ t.reg d) with fl := znFlags t.fl (~~~ t.reg d) }) ∧
    exec (.kTst e d) s = .next (s.ran e t 1 { t with fl := znFlags t.fl (t.reg d) }) ∧
    exec (.kNopInstruction e) s = .next (s.ran e t 1 t)) ∧
  (∀ (s : State) (e : EngRef) (t : Task) (d imm : Nat), s.canRun e t 2 = true →
    exec (.kMovw e d imm) s = .next (s.ran e t 2 (t.setReg d ((BitVec.ofNat 14 imm).signExtend 36))) ∧
    exec (.kCmpw e d imm) s = .next (s.ran e t 2 { t with
      fl := diffFlags t.fl (t.reg d) ((BitVec.ofNat 14 imm).signExtend 36) 0 (t.reg d - (BitVec.ofNat 14 imm).signExtend 36) }) ∧
    exec (.kAndw e d imm) s = .next (s.ran e t 2 { t.setReg d (t.reg d &&& (BitVec.ofNat 14 imm).setWidth 36) with
      fl := znFlags t.fl (t.reg d &&& (BitVec.ofNat 14 imm).setWidth 36) }) ∧
    exec (.kOrw e d imm) s = .next (s.ran e t 2 { t.setReg d (t.reg d ||| (BitVec.ofNat 14 imm).setWidth 36) with
      fl := znFlags t.fl (t.reg d ||| (BitVec.ofNat 14 imm).setWidth 36) }) ∧
    exec (.kXorw e d imm) s = .next (s.ran e t 2 { t.setReg d (t.reg d ^^^ (BitVec.ofNat 14 imm).setWidth 36) with
      fl := znFlags t.fl (t.reg d ^^^ (BitVec.ofNat 14 imm).setWidth 36) })) ∧
  (∀ (s : State) (e : EngRef) (t : Task) (d : Nat) (imm : EWord), s.canRun e t 4 = true →
    exec (.kMovl e d imm) s = .next (s.ran e t 4 (t.setReg d imm)))

/-- Integer mode (FMODE.FRAC 0): ADD, ADDI, ADDW, SUB, NEG and ABS wrap modulo 2^36, C is the carry or the borrow, V signed
overflow, ABS leaves C, and G and S never change (11 R413; 12 R456, R457, R460, R461, R464). -/
def Obligations.KalmelIntegerArithmetic : Prop :=
  ∀ (s : State) (e : EngRef) (t : Task), t.fmode.getLsbD 0 = false →
  (∀ (d r imm : Nat), s.canRun e t 1 = true →
    exec (.kAdd e d r) s = .next (s.ran e t 1 { t.setReg d (t.reg d + t.reg r) with
      fl := sumFlags t.fl (t.reg d) (t.reg r) 0 (t.reg d + t.reg r) }) ∧
    exec (.kAddi e d imm) s = .next (s.ran e t 1 { t.setReg d (t.reg d + (BitVec.ofNat 6 imm).signExtend 36) with
      fl := sumFlags t.fl (t.reg d) ((BitVec.ofNat 6 imm).signExtend 36) 0 (t.reg d + (BitVec.ofNat 6 imm).signExtend 36) }) ∧
    exec (.kSub e d r) s = .next (s.ran e t 1 { t.setReg d (t.reg d - t.reg r) with
      fl := diffFlags t.fl (t.reg d) (t.reg r) 0 (t.reg d - t.reg r) }) ∧
    exec (.kNeg e d) s = .next (s.ran e t 1 { t.setReg d (0 - t.reg d) with
      fl := diffFlags t.fl 0 (t.reg d) 0 (0 - t.reg d) }) ∧
    ∃ a : EWord, a.toNat = (t.reg d).toInt.natAbs ∧
      exec (.kAbs e d) s = .next (s.ran e t 1 { t.setReg d a with
        fl := { znFlags t.fl a with v := decide ((t.reg d).toInt = -2 ^ 35) } })) ∧
  (∀ (d imm : Nat), s.canRun e t 2 = true →
    exec (.kAddw e d imm) s = .next (s.ran e t 2 { t.setReg d (t.reg d + (BitVec.ofNat 14 imm).signExtend 36) with
      fl := sumFlags t.fl (t.reg d) ((BitVec.ofNat 14 imm).signExtend 36) 0 (t.reg d + (BitVec.ofNat 14 imm).signExtend 36) }))

/-- Shifts in integer mode, and SHR and ROR in either mode: the value shifted by n places, n from a register or an immediate
whose 0 means 32, and the last bit shifted out in C; a shift by 0 leaves the register and C (12 R456-R458). -/
def Obligations.KalmelShifts : Prop :=
  ∀ (s : State) (e : EngRef) (t : Task) (d : Nat) (m : ShiftBy) (n : Nat), s.canRun e t 1 = true →
    n = (match m with | .reg r => (t.reg r).toNat | .imm a => if a % 32 = 0 then 32 else a % 32) →
  (t.fmode.getLsbD 0 = false → ∃ r : EWord, r.toNat = (t.reg d).toNat * 2 ^ n % 2 ^ 36 ∧
    exec (.kShl e d m) s = .next (s.ran e t 1 { t.setReg d r with
      fl := shiftFlags t.fl r (if n = 0 then t.fl.c else decide (2 ^ 35 ≤ (t.reg d).toNat * 2 ^ (n - 1) % 2 ^ 36)) })) ∧
  (∃ r : EWord, r.toNat = (t.reg d).toNat / 2 ^ n ∧
    exec (.kShr e d m) s = .next (s.ran e t 1 { t.setReg d r with
      fl := shiftFlags t.fl r (if n = 0 then t.fl.c else decide ((t.reg d).toNat / 2 ^ (n - 1) % 2 = 1)) })) ∧
  (t.fmode.getLsbD 0 = false → ∃ r : EWord, r.toInt = (t.reg d).toInt / 2 ^ n ∧
    exec (.kSar e d m) s = .next (s.ran e t 1 { t.setReg d r with
      fl := shiftFlags t.fl r (if n = 0 then t.fl.c else decide ((t.reg d).toInt / 2 ^ (n - 1) % 2 = 1)) })) ∧
  (∀ a : Nat, m = .imm a → ∃ r : EWord, r.toNat = (t.reg d).toNat / 2 ^ n + (t.reg d).toNat * 2 ^ (36 - n) % 2 ^ 36 ∧
    exec (.kRor e d a) s = .next (s.ran e t 1 { t.setReg d r with fl := shiftFlags t.fl r (r.getLsbD 35) }))

/-- Fraction mode (FMODE.FRAC 1): ADD, ADDI, ADDW, SUB, NEG, ABS, SHL, SAR and PMV take their exact value, rounded by RND where
bits are dropped, saturated to 36 bits, with V, S and G as R415 and R459 say and C 0. -/
def Obligations.KalmelFractionMode : Prop :=
  ∀ (s : State) (e : EngRef) (t : Task), t.fmode.getLsbD 0 = true →
  (∀ (d r imm : Nat), s.canRun e t 1 = true →
    (∃ w f, FracRule t.fl ((t.reg d).toInt + (t.reg r).toInt) w f ∧
      exec (.kAdd e d r) s = .next (s.ran e t 1 { t.setReg d w with fl := f })) ∧
    (∃ w f, FracRule t.fl ((t.reg d).toInt + (BitVec.ofNat 6 imm).toInt) w f ∧
      exec (.kAddi e d imm) s = .next (s.ran e t 1 { t.setReg d w with fl := f })) ∧
    (∃ w f, FracRule t.fl ((t.reg d).toInt - (t.reg r).toInt) w f ∧
      exec (.kSub e d r) s = .next (s.ran e t 1 { t.setReg d w with fl := f })) ∧
    (∃ w f, FracRule t.fl (-(t.reg d).toInt) w f ∧
      exec (.kNeg e d) s = .next (s.ran e t 1 { t.setReg d w with fl := f })) ∧
    (∃ w f, FracRule t.fl ((t.reg d).toInt.natAbs : Int) w f ∧
      exec (.kAbs e d) s = .next (s.ran e t 1 { t.setReg d w with fl := f })) ∧
    (∃ q w f, RoundRule (t.fmode.toNat / 2) 31 t.p3.toInt q ∧ FracRule t.fl q w f ∧
      exec (.kPmv e d) s = .next (s.ran e t 1 { t.setReg d w with fl := f }))) ∧
  (∀ (d imm : Nat), s.canRun e t 2 = true →
    ∃ w f, FracRule t.fl ((t.reg d).toInt + (BitVec.ofNat 14 imm).toInt) w f ∧
      exec (.kAddw e d imm) s = .next (s.ran e t 2 { t.setReg d w with fl := f })) ∧
  (∀ (d : Nat) (m : ShiftBy) (n : Nat), s.canRun e t 1 = true → n = shiftAmount m t →
    (∃ w f, FracRule t.fl ((t.reg d).toInt * 2 ^ n) w f ∧
      exec (.kShl e d m) s = .next (s.ran e t 1 { t.setReg d w with fl := f })) ∧
    (∃ q w f, RoundRule (t.fmode.toNat / 2) n (t.reg d).toInt q ∧ FracRule t.fl q w f ∧
      exec (.kSar e d m) s = .next (s.ran e t 1 { t.setReg d w with fl := f })))

/-- PMV in integer mode, and MFS, which also reads the special registers: a product is visible to the third instruction after
MUL, MULU, MAC or MSB and not to the two before it (11 R412, R416; 12 R462, R465). MTS writes FLAGS, FMODE and WMASK and causes
ILLEGAL at any other number. UOPn with an active decode table whose first step is not STOP runs its steps as one instruction;
without one it causes ILLEGAL (12 R473, R474). -/
def Obligations.KalmelSpecialRegistersAndUserOpcodes : Prop :=
  (∀ (s : State) (e : EngRef) (t : Task) (d : Nat), s.canRun e t 1 = true → t.fmode.getLsbD 0 = false →
    exec (.kPmv e d) s = .next (s.ran e t 1 { t.setReg d (t.p3.setWidth 36) with fl := znFlags t.fl (t.p3.setWidth 36) })) ∧
  (∀ (s s1 s2 s3 s4 : State) (e : EngRef) (t : Task) (a b d : Nat), s.canRun e t 4 = true → (t.steps.getD 4 ≥ 4) →
    t.fmode.getLsbD 0 = false →
    exec (.kMul e a b) s = .next s1 → exec (.kNopInstruction e) s1 = .next s2 → exec (.kNopInstruction e) s2 = .next s3 →
    exec (.kPmv e d) s3 = .next s4 →
    (s4.task? e).map (fun u => u.reg d) = some (if d % 16 < t.k.length then
      BitVec.ofInt 36 ((t.reg a).toInt * (t.reg b).toInt) else 0) ∧
    (∀ s5 s6, exec (.kPmv e d) s1 = .next s5 → exec (.kPmv e d) s2 = .next s6 →
      (s5.task? e).map (fun u => u.reg d) = some (if d % 16 < t.k.length then t.p2.setWidth 36 else 0) ∧
      (s6.task? e).map (fun u => u.reg d) = some (if d % 16 < t.k.length then t.p1.setWidth 36 else 0))) ∧
  (∀ (s : State) (e : EngRef) (t : Task) (n d : Nat), s.canRun e t 1 = true →
    exec (.kMfs e n d) s = .next (s.ran e t 1 (t.setReg d (match n % 16 with
      | 0 => t.fl.word
      | 1 => t.fmode.setWidth 36
      | 2 => BitVec.ofNat 36 (t.p3.toNat / 2 ^ 36)
      | 3 => BitVec.ofNat 36 t.p3.toNat
      | 4 => BitVec.ofNat 36 (logicalEng e + 64 * s.engHalf e + 128 * b2n t.start.profile +
          256 * (match t.start.priv with | .f => 0 | .p => 1 | .a => 2) + 1024 * b2n t.start.paired)
      | 5 => BitVec.ofNat 36 (s.eng e).gen
      | 6 => t.dthi.setWidth 36
      | 7 => t.wmask.setWidth 36
      | 8 => t.evpend.setWidth 36
      | 9 => BitVec.ofNat 36 t.start.poolBase
      | 10 => BitVec.ofNat 36 t.start.poolLim
      | 11 => BitVec.ofNat 36 (t.steps.getD (2 ^ 36 - 1))
      | _ => 0)))) ∧
  (∀ (s : State) (e : EngRef) (t : Task) (n r : Nat), s.canRun e t 1 = true →
    exec (.kMts e n r) s = .next (match n % 16 with
      | 0 => s.ran e t 1 { t with fl := { z := (t.reg r).getLsbD 0, n := (t.reg r).getLsbD 1, c := (t.reg r).getLsbD 2,
                                          v := (t.reg r).getLsbD 3, g := (t.reg r).getLsbD 4, s := (t.reg r).getLsbD 5 } }
      | 1 => s.ran e t 1 { t with fmode := (t.reg r).setWidth 3 }
      | 7 => s.ran e t 1 { t with wmask := (t.reg r).setWidth 16 }
      | _ => s.kFault e t .illegal)) ∧
  (∀ (s : State) (e : EngRef) (t : Task) (n d : Nat), s.canRun e t 1 = true →
    (∀ l : List Nat, s.kalmel.decode = some l → (l.drop (8 * (n % 16))).headD 0x1800 ≠ 0x1800 →
      exec (.kUop e n d) s = .next (s.ran e t 1 (microRun d ((l.drop (8 * (n % 16))).take 8) 0 t))) ∧
    (s.kalmel.decode = none → exec (.kUop e n d) s = .next (s.kFault e t .illegal)))

/-! ### Kalmel engines: memory, stack and control transfer (11, 12) -/

/-- LD, ST, LDP and STP: the address is zx(kb) + OFF in data memory and zx(kb) + 4 OFF in the window; a load writes its
register, a store its one word, and what the privilege may not reach, or an unaligned or outer offset, causes PROTECT before any
effect (11 R418-R420; 12 R466). PUSH writes the register below k14 and POP reads it back at k14; a PUSH that would take k14
below 0x800 or a POP that would take it above 0xC00 causes STACK, with nothing written (11 R421; 12 R464). -/
def Obligations.KalmelMemory : Prop :=
  (∀ (s : State) (e : EngRef) (t : Task) (r b off a w : Nat), s.canRun e t 2 = true → a = (t.reg b).toNat + off →
    w = (t.reg b).toNat + 4 * off →
    exec (.kLd e r b off) s = .next (if dmRead t.start.priv a then
        s.ran e t 2 (t.setReg r (mapRead 0 (s.eng e).dm a)) else s.kFault e t .protect) ∧
    exec (.kLdp e r b off) s = .next (if w % 4 = 0 ∧ w + 4 ≤ t.start.poolLim then
        s.ran e t 2 (t.setReg r (BitVec.ofNat 36 (leNat ((s.kCtx e t).poolBytes w 4)))) else s.kFault e t .protect) ∧
    (dmWrite t.start.priv a = false → exec (.kSt e r b off) s = .next (s.kFault e t .protect)) ∧
    (¬ (w % 4 = 0 ∧ w + 4 ≤ t.start.poolLim) → exec (.kStp e r b off) s = .next (s.kFault e t .protect)) ∧
    (dmWrite t.start.priv a = true → ∃ u, exec (.kSt e r b off) s = .next u ∧
      u = s.kCommit e t ((s.kCtx e t).setDm a [t.reg r]) (t.pc + 2) ∧
      (∀ x, x ≠ a → mapRead 0 (u.eng e).dm x = mapRead 0 (s.eng e).dm x) ∧
      (mapRising 0 (s.eng e).dm = true → mapRead 0 (u.eng e).dm a = t.reg r)) ∧
    (w % 4 = 0 ∧ w + 4 ≤ t.start.poolLim → ∃ u, exec (.kStp e r b off) s = .next u ∧
      u = s.kCommit e t ((s.kCtx e t).setPool w (leBytes 4 (t.reg r).toNat)) (t.pc + 2) ∧
      (∀ x, x < (s.kCtx e t).at w ∨ (s.kCtx e t).at w + 4 ≤ x → mapRead 0 u.kalmel.pools x = mapRead 0 s.kalmel.pools x) ∧
      (mapRising 0 s.kalmel.pools = true → ((u.kCtx e t).poolBytes w 4) = leBytes 4 (t.reg r).toNat))) ∧
  (∀ (s : State) (e : EngRef) (t : Task) (r a : Nat), s.canRun e t 1 = true → a = (t.reg 14).toNat →
    (0x801 ≤ a → a ≤ 0xC00 → exec (.kPush e r) s = .next
      (s.kCommit e t (({ s.kCtx e t with t := t.setReg 14 (BitVec.ofNat 36 (a - 1)) } : KCtx).setDm (a - 1) [t.reg r]) (t.pc + 1))) ∧
    (a ≤ 0xBFF → exec (.kPop e r) s = .next
      (s.ran e t 1 ((t.setReg 14 (BitVec.ofNat 36 (a + 1))).setReg r (mapRead 0 (s.eng e).dm a)))) ∧
    (a < 0x801 → exec (.kPush e r) s = .next (s.kFault e t .stack)) ∧
    (0xC00 ≤ a → exec (.kPop e r) s = .next (s.kFault e t .stack)))

/-- CALLM saves the masked registers and the header and jumps; RETM at a k14 that points to that frame, whatever happened to the
registers in between, restores them, takes the frame off and returns to the instruction after the CALLM (11 R424-R428; 12 R468).
-/
def Obligations.KalmelCallAndReturn : Prop :=
  ∀ (s : State) (e : EngRef) (t : Task) (m kt n : Nat), s.canRun e t 1 = true → m < 256 → n = ((List.range 8).filter m.testBit).length →
    t.k.length = 16 → mapRising 0 (s.eng e).dm = true → canExec t.start.priv (t.reg kt).toNat = true →
    canExec t.start.priv (t.pc + 1) = true → 0x800 + n + 1 ≤ (t.reg 14).toNat → (t.reg 14).toNat ≤ 0xC00 →
    ∃ (u : State) (v : Task), exec (.kCallm e m kt) s = .next u ∧ u.task? e = some v ∧ v.pc = (t.reg kt).toNat ∧
      (v.reg 14).toNat = (t.reg 14).toNat - n - 1 ∧
      (∀ i, i ≠ 14 → i < 16 → v.reg i = t.reg i) ∧
      mapRead 0 (u.eng e).dm ((t.reg 14).toNat - n - 1) = BitVec.ofNat 36 (m * 2 ^ 28 + (t.pc + 1)) ∧
      (∀ x, x < (t.reg 14).toNat - n - 1 ∨ (t.reg 14).toNat ≤ x → mapRead 0 (u.eng e).dm x = mapRead 0 (s.eng e).dm x) ∧
      (∀ (w : State) (c : Task), w.canRun e c 1 = true → c.k.length = 16 → c.reg 14 = v.reg 14 → c.start.priv = t.start.priv →
        (w.eng e).dm = (u.eng e).dm →
        ∃ (w' : State) (c' : Task), exec (.kRetm e) w = .next w' ∧ w'.task? e = some c' ∧ c'.pc = t.pc + 1 ∧
          c'.reg 14 = t.reg 14 ∧ (∀ i, i < 8 → c'.reg (4 + i) = if m.testBit i then t.reg (4 + i) else c.reg (4 + i)))

/-- Branches: JMPcc, the short branch and JR go to a target in the X regions of the privilege when their condition holds, go on
when it does not, and cause PROTECT without effect for another target (12 R455, R461, R467). The faults of CALLM and RETM,
before any effect: a target outside the X regions is PROTECT, a frame that does not fit the stack is STACK, and RETM's k14 above
0xBFF and a header with one of bits [27:13] set are STACK (11 R421, R428; 12 R468). -/
def Obligations.KalmelBranchesAndFrameFaults : Prop :=
  (∀ (s : State) (e : EngRef) (t : Task) (c a disp r : Nat),
    (s.canRun e t 2 = true → a < 0x2000 → exec (.kJmpcc e c a) s = .next (
      if condHolds c t.fl then (if canExec t.start.priv a then s.kCommit e t (s.kCtx e t) a else s.kFault e t .protect)
      else s.ran e t 2 t)) ∧
    (s.canRun e t 1 = true → disp < 128 → t.pc < 8192 →
      (condHolds c t.fl = false → exec (.kShortBranch e c disp) s = .next (s.ran e t 1 t)) ∧
      (condHolds c t.fl = true → ∃ p : Nat, p < 8192 ∧
        (p : Int) = ((t.pc : Int) + 1 + (if disp < 64 then (disp : Int) else disp - 128)) % 8192 ∧
        exec (.kShortBranch e c disp) s = .next (if canExec t.start.priv p then s.kCommit e t (s.kCtx e t) p
          else s.kFault e t .protect))) ∧
    (s.canRun e t 1 = true → exec (.kJr e r) s = .next (if canExec t.start.priv (t.reg r).toNat then
        s.kCommit e t (s.kCtx e t) (t.reg r).toNat else s.kFault e t .protect))) ∧
  (∀ (s : State) (e : EngRef) (t : Task) (m kt : Nat), s.canRun e t 1 = true →
    (canExec t.start.priv (t.reg kt).toNat = false → exec (.kCallm e m kt) s = .next (s.kFault e t .protect)) ∧
    (canExec t.start.priv (t.reg kt).toNat = true → (t.reg 14).toNat < 0x801 →
      exec (.kCallm e m kt) s = .next (s.kFault e t .stack)) ∧
    (0xC00 ≤ (t.reg 14).toNat → exec (.kRetm e) s = .next (s.kFault e t .stack)) ∧
    ((t.reg 14).toNat < 0xC00 → ((mapRead 0 (s.eng e).dm (t.reg 14).toNat).toNat / 2 ^ 13) % 2 ^ 15 ≠ 0 →
      exec (.kRetm e) s = .next (s.kFault e t .stack)))

/-! ### Kalmel engines: profile group, faults, tasks, services (11, 12) -/

/-- The SHAPE group under profile SHAPE: BFI, BFX, CLZ and BPERM compute as R471 says, bit by bit; BFI and BFX with another p
and w cause ILLEGAL. The TIME group under profile TIME: WFE takes the pending events of its mask or waits, WAITC ends at a
deadline with C 1, by an event with C 0 or waits, RDT reads device time and latches its upper bits, SEV sets an event of the
slot it names (11 R430-R432; 12 R472). -/
def Obligations.KalmelProfileGroups : Prop :=
  (∀ (s : State) (e : EngRef) (t : Task) (d r p w : Nat), s.canRun e t 2 = true → t.start.profile = false → p < 64 → w < 64 →
    (1 ≤ w → p + w ≤ 36 →
      (∃ v : EWord, (∀ i, i < 36 → v.getLsbD i = if p ≤ i ∧ i < p + w then (t.reg r).getLsbD (i - p) else (t.reg d).getLsbD i) ∧
        exec (.kBfi e d r p w) s = .next (s.ran e t 2 { t.setReg d v with fl := znFlags t.fl v })) ∧
      (∃ v : EWord, v.toNat = (t.reg r).toNat / 2 ^ p % 2 ^ w ∧
        exec (.kBfx e d r p w) s = .next (s.ran e t 2 { t.setReg d v with fl := znFlags t.fl v }))) ∧
    (w = 0 ∨ 36 < p + w → exec (.kBfi e d r p w) s = .next (s.kFault e t .illegal) ∧
      exec (.kBfx e d r p w) s = .next (s.kFault e t .illegal)) ∧
    (∃ (v : EWord) (n : Nat), n ≤ 36 ∧ v.toNat = n ∧ (t.reg r).toNat < 2 ^ (36 - n) ∧ (n < 36 → 2 ^ (35 - n) ≤ (t.reg r).toNat) ∧
      exec (.kClz e d r) s = .next (s.ran e t 2 { t.setReg d v with fl := znFlags t.fl v })) ∧
    (∀ sel zm : Nat, sel < 256 → zm < 16 → ∃ v : EWord, v.toNat < 2 ^ 32 ∧
      (∀ i, i < 4 → v.toNat / 256 ^ i % 256 = if zm.testBit i then 0 else (t.reg r).toNat / 256 ^ (sel / 4 ^ i % 4) % 256) ∧
      exec (.kBperm e d r sel zm) s = .next (s.ran e t 2 { t.setReg d v with fl := znFlags t.fl v }))) ∧
  (∀ (s : State) (e : EngRef) (t : Task) (d r : Nat) (m : BitVec 16) (now : EWord), s.canRun e t 2 = true → t.start.profile = true →
    m = (t.reg d).setWidth 16 → now = BitVec.ofNat 36 s.deviceTime →
    exec (.kWfe e d) s = .next (s.ran e t 2 (if t.evpend &&& m = 0 then { t with wait := .wfe d }
      else { t.setReg d ((t.evpend &&& m).setWidth 36) with evpend := t.evpend &&& ~~~m })) ∧
    exec (.kWaitc e r) s = .next (s.ran e t 2 (
      if (now - t.reg r).toNat < 2 ^ 35 then { t with fl := { t.fl with c := true } }
      else if t.evpend &&& t.wmask = 0 then { t with wait := .waitc (t.reg r) }
      else { t with fl := { t.fl with c := false } })) ∧
    exec (.kRdt e d) s = .next (s.ran e t 2 { t.setReg d now with dthi := BitVec.ofNat 28 (s.deviceTime / 2 ^ 36) }) ∧
    (t.start.priv = .f ∨ sevSlot (t.reg r) = e.slot % 32 →
      exec (.kSev e r) s = .next ((s.ran e t 2 t).setEvent ⟨e.half, sevSlot (t.reg r)⟩ (8 + (t.reg r).toNat % 8))) ∧
    (t.start.priv ≠ .f → sevSlot (t.reg r) ≠ e.slot % 32 → exec (.kSev e r) s = .next (s.kFault e t .protect)))

/-- A task starts in the state of R435, in an engine whose memory is zeroed between partitions (R422); END of a task of firmware
or a parse program frees its slot, END of an invocation with a status R447 allows completes its command, on OK with its staged
effects at the commit point, another status is RESULT; the engine's result reaches its port of the Weir (11 R422, R435, R436,
R447, R448; 16 R569; 17 R613). An instruction that finds STEPS at 0 causes STEPS, and one whose words leave the X regions
PROTECT, before any effect; a fault at privilege A ends the invocation with R448's status, one at P or F frees the slot, and a
halted or waiting task takes no instruction (11 R410, R448; 12 R452, R454). -/
def Obligations.KalmelTasksAndFaults : Prop :=
  (∀ (s : State) (e : EngRef) (b : TaskStart), s.slotFree e = true → (b.paired = true → s.slotFree (s.copySlot e) = true) →
    b.priv ≠ .a → (s.claimed e = true → b.profile = true) → s.gatesOpen = true → s.pageAdmits 0x080000 = true →
    exec (.taskStart e b) s = .next (s.startTask e b)) ∧
  (∀ (s : State) (e : EngRef) (b : TaskStart), engIdx e < s.kalmel.engines.length → b.args.length ≤ 4 →
    ∃ t, (s.startTask e b).task? e = some t ∧ t.pc = b.entry ∧ t.reg 14 = 0xC00 ∧ t.reg 15 = 0 ∧
      (∀ i, i < 4 → t.reg i = b.args.getD i 0) ∧ (∀ i, 4 ≤ i → i < 14 → t.reg i = 0) ∧
      t.fl.word = 0 ∧ t.fmode = b.fmode ∧ t.p1 = 0 ∧ t.p2 = 0 ∧ t.p3 = 0 ∧ t.wmask = 0 ∧ t.evpend = 0 ∧ t.steps = b.steps ∧
      ((s.startTask e b).eng e).gen = (s.eng e).gen) ∧
  (∀ (s u : State) (e : EngRef) (t : Task), s.canRun e t 1 = true → u = s.arrive ⟨.engine, e.half, s.physOf e.half e.slot⟩ →
    (t.start.priv ≠ .a → exec (.kEnd e) s = .next (u.updEng e (fun x => { x with task := none }))) ∧
    (t.start.priv = .a → endStatus t.status = none → exec (.kEnd e) s = .next (u.kFault e t .result)) ∧
    (∀ (k : CmdKey) (c : Inflight) (st : Status), t.start.priv = .a → endStatus t.status = some st → t.start.cmd = some k →
      u.cmd? k = some c →
      (st ≠ .ok → exec (.kEnd e) s = .next (State.finish (u.updEng e (fun x => { x with task := none })) c false
        { status := st, result := t.result })) ∧
      (st = .ok → (t.start.paired = true → u.disagrees c.key = false ∧ u.canCommit = true) →
        exec (.kEnd e) s = .next (State.finish (State.dropWait
          (t.staged.foldl (fun v g => v.applyStaged t g) (u.updEng e (fun x => { x with task := none }))) c.key) c t.start.paired
        { status := .ok, result := t.result, parts := t.outParts })) ∧
      (st = .ok → t.start.paired = true → u.disagrees c.key = false → u.canCommit = false →
        exec (.kEnd e) s = .next ((u.setTask e { t with wait := .ended }).waitCommit c.key)))) ∧
  (∀ (s : State) (e : EngRef) (t : Task) (d r : Nat), s.ready e = some t →
    (t.steps = some 0 → exec (.kAdd e d r) s = .next (s.kFault e t .steps) ∧ exec (.kNopInstruction e) s = .next (s.kFault e t .steps) ∧
      exec (.kEnd e) s = .next ((s.arrive ⟨.engine, e.half, s.physOf e.half e.slot⟩).kFault e t .steps)) ∧
    (t.steps ≠ some 0 → canExec t.start.priv t.pc = false → exec (.kAdd e d r) s = .next (s.kFault e t .protect)) ∧
    (t.steps ≠ some 0 → t.pc = 0x1FFF → exec (.kMovw e d r) s = .next (s.kFault e t .protect))) ∧
  (∀ (s : State) (e : EngRef) (t : Task) (f : KFault) (k : CmdKey) (c : Inflight), t.start.priv = .a → t.start.cmd = some k →
    (State.updEng ((s.bump Fd.EN_CNT_FAULT_COUNT).raise 0x080000 4) e (fun x => { x with task := none })).cmd? k = some c →
    s.kFault e t f = (State.updEng ((s.bump Fd.EN_CNT_FAULT_COUNT).raise 0x080000 4) e (fun x => { x with task := none })).finish c false
      (match f with
        | .illegal => { status := .badParam, detail := 0x0A01 }
        | .protect => { status := .notPermitted, detail := 0x0A02 }
        | .stack => { status := .badParam, detail := 0x0A03 }
        | .steps => { status := .badParam, detail := 0x0A04 }
        | .result => { status := .badParam, detail := 0x0A05 })) ∧
  (∀ (s : State) (e : EngRef) (d r : Nat), s.ready e = none → exec (.kAdd e d r) s = .next s ∧ exec (.kLd e d r 0) s = .next s ∧
    exec (.kJr e r) s = .next s ∧ exec (.kSev e r) s = .next s ∧ exec (.kEnd e) s = .next s)

/-- SVC with its request region in the window waits on it, SVCA at privilege F issues it and goes on, at another privilege it is
ILLEGAL; SERVICE_REQUEST_END writes the completion at the region's end, and STATUS to k0 for SVC, EV1 for SVCA, of which a fifth
then goes on; a task that twin 31 was claimed from leaves it then (11 R440, R446; 12 R469). Events and deadlines end waits: an
event in the mask of a WFE is taken, one in WMASK ends a WAITC with C 0, one outside stays pending; a deadline reached ends a
WAITC with C 1 and consumes no event (11 R429, R430, R432); a record is written to both engines of a claimed twin 31, and RECORD
is set there (07 R278). -/
def Obligations.KalmelServicesAndEvents : Prop :=
  (∀ (s : State) (e : EngRef) (t : Task), s.canRun e t 1 = true → (t.reg 1).toNat % 4 = 0 → (t.reg 1).toNat + 96 ≤ t.start.poolLim →
    exec (.kSvc e) s = .next (s.ran e t 1 { t with wait := .svc ((s.kCtx e t).poolBytes (t.reg 1).toNat 64) (t.reg 1).toNat }) ∧
    (t.start.priv = .f → t.svca.length < 4 → exec (.kSvca e) s = .next (s.ran e t 1 { t with
      svca := t.svca ++ [((s.kCtx e t).poolBytes (t.reg 1).toNat 64, (t.reg 1).toNat)] }))) ∧
  (∀ (s : State) (e : EngRef) (t : Task), s.canRun e t 1 = true → t.start.priv ≠ .f →
    exec (.kSvca e) s = .next (s.kFault e t .illegal)) ∧
  (∀ (s u : State) (e : EngRef) (t : Task) (req : Bytes) (off : Nat) (r : Reply) (g : List Staged), s.task? e = some t →
    t.wait = .svc req off → s.service e t req = .done u r g →
    exec (.serviceRequestEnd e none) s = .next (((u.putReply e t req off r).setTask e
      { t.setReg 0 (BitVec.ofNat 36 r.status.code) with staged := t.staged ++ g, wait := .none }).leaveClaimed e)) ∧
  (∀ (s u : State) (e : EngRef) (t v : Task) (i : Nat) (req : Bytes) (off : Nat) (r : Reply) (g : List Staged),
    s.task? e = some t → t.svca[i]? = some (req, off) → t.wait = .none → s.service e t req = .done u r g →
    v = { t with svca := t.svca.eraseIdx i, staged := t.staged ++ g } →
    exec (.serviceRequestEnd e (some i)) s =
      .next (((u.putReply e v req off r).setTask e { v with evpend := v.evpend ||| 2 }).leaveClaimed e)) ∧
  (∀ (s u : State) (e : EngRef) (t v : Task) (i : Nat) (req q : Bytes) (off o : Nat) (r : Reply) (g : List Staged),
    s.task? e = some t → t.svca[i]? = some (req, off) → t.wait = .svca q o → s.service e t req = .done u r g →
    v = { t with svca := t.svca.eraseIdx i ++ [(q, o)], staged := t.staged ++ g, wait := .none } →
    exec (.serviceRequestEnd e (some i)) s =
      .next (((u.putReply e v req off r).setTask e { v with evpend := v.evpend ||| 2 }).leaveClaimed e)) ∧
  (∀ (s : State) (e : EngRef) (t : Task) (n : Nat) (p : BitVec 16), s.task? e = some t → n < 3 ∨ (8 ≤ n ∧ n < 16) →
    p = t.evpend ||| BitVec.ofNat 16 (2 ^ n) →
    exec (.engineEvent e n) s = .next (s.setTask e (match t.wait with
      | .wfe d => if p &&& (t.reg d).setWidth 16 = 0 then { t with evpend := p }
        else { t.setReg d ((p &&& (t.reg d).setWidth 16).setWidth 36) with
          evpend := p &&& ~~~(t.reg d).setWidth 16, wait := .none }
      | .waitc _ => if p &&& t.wmask = 0 then { t with evpend := p }
        else { t with evpend := p, wait := .none, fl := { t.fl with c := false } }
      | _ => { t with evpend := p }))) ∧
  (∀ (s : State) (e : EngRef) (t : Task) (d : EWord), s.task? e = some t → t.wait = .waitc d → reached s.time36 d = true →
    exec (.waitcDeadline e) s = .next (s.setTask e { t with wait := .none, fl := { t.fl with c := true } })) ∧
  (∀ (s : State) (r : CirRec), s.uwb.twinClaimed = true →
    exec (.cirRecord r) s = .next ((s.twin31.foldl (fun t e => t.putRecord e r) s).takeRecord r))

/-! ### Applets (11) -/

/-- APPLET_LOAD of an image that verifies stores it, the applet's state region kept on a replacement; an image that does not
verify, another owner or an older SVN refuses it; APPLET_UNLOAD frees the number once no invocation of it runs or was admitted
before it; APPLET_INVOKE starts the image fixed at its admission in the slot and window it names (11 R441-R445). -/
def Obligations.AppletCommands : Prop :=
  (∀ (s : State) (k : CmdKey) (c : Inflight), c.p16 0 < 32 → s.passes k c (appletLoadInfo false) s.lifeKeys = true →
    s.canCommit = true → s.applet? (c.p16 0) = none →
    exec (.appletLoad k) s = .next (if s.imageSigned 3 c.input = false then s.finish c false (.fail .authFail)
      else State.ends (s.setApplets (mapPut s.kalmel.applets (c.p16 0)
        { owner := c.key.part, image := readImage c.input, state := List.replicate 4096 0 })) k c true .done)) ∧
  (∀ (s : State) (k : CmdKey) (c : Inflight) (a : Applet), c.p16 0 < 32 → s.passes k c (appletLoadInfo false) s.lifeKeys = true →
    s.canCommit = true → s.applet? (c.p16 0) = some a →
    exec (.appletLoad k) s = .next (if s.imageSigned 3 c.input = false then s.finish c false (.fail .authFail)
      else if a.owner ≠ c.key.part ∨ (readImage c.input).svn < a.image.svn then s.finish c false (.fail .notPermitted)
      else State.ends (s.setApplets (mapPut s.kalmel.applets (c.p16 0) { a with image := readImage c.input })) k c true .done)) ∧
  (∀ (s : State) (k : CmdKey) (c : Inflight) (n : Nat), n < 3 → c.p16 0 = 0xFFF0 + n →
    s.passes k c (appletLoadInfo true) true = true → s.canCommit = true →
    exec (.appletLoad k) s = .next (if s.imageSigned ((imageType (c.p16 0)).getD 0) c.input then
        State.ends { s with kalmel := { s.kalmel with staged := mapPut s.kalmel.staged n c.input } } k c true .done
      else s.finish c false (.fail .authFail))) ∧
  (∀ (s : State) (k : CmdKey) (c : Inflight) (a : Applet), s.passes k c appletUnloadInfo true = true →
    s.applet? (c.p16 0) = some a → a.owner = c.key.part → s.appletBusy (c.p16 0) c = false → s.canCommit = true →
    exec (.appletUnload k) s = .next (State.ends (s.setApplets (mapDel s.kalmel.applets (c.p16 0))) k c true .done)) ∧
  (∀ (s : State) (k : CmdKey) (e : EngRef) (base : Nat) (c : Inflight) (a : Applet) (i : Image),
    s.passes k c (invokeInfo i.state) true = true → s.invocation c.key = none → s.applet? (c.p16 0) = some a → c.image = some i →
    c.p16 2 < i.entries.length → a.owner = c.key.part ∨ i.share = true →
    s.appletLost (c.p16 0) = false ∨ s.holdsApplet e (c.p16 0) i = true →
    s.placeOk e (c.p16 0) i (if i.state then s.fld Fd.HW_ROLE_LEAD else s.cmdHome c) = true →
    s.windowFree e.half base i.poolBytes = true → (i.state = true → s.slotFree (s.copySlot e) = true) →
    exec (.appletInvoke k e base) s = .next (s.startTask e (invokeStart i (c.p16 0) c base) (some i)))

/-! ### Access commands and tokens (08, 21) -/

/-- ACCESS_POLICY_SET, FOB_REMOVE, RELEASE_REQUEST and IMMO_CONFIG, once their checks are passed: the record in force, the FOB
and its nonces gone, the release or its refusal, the token configuration (08 R305, R309, R316, R317). FOB_PAIR: a good record
opens the pairing with its first PAIR frame and two tries left, a key that does not unwrap is AUTH_FAIL; a valid PAIR_CONFIRM
commits the record with the next generation; after the third frame without one the command ends AUTH_FAIL (08 R306, R307). -/
def Obligations.AccessCommands : Prop :=
  (∀ (s : State) (k : CmdKey) (c : Inflight), s.passes k c accessPolicyInfo true = true → s.canCommit = true →
    exec (.accessPolicySet k) s = .next (if s.policyGpios c.input then
        State.ends (s.setAcc (fun a => { a with policy := some c.input })) k c true .done
      else s.finish c false (.fail .badParam))) ∧
  (∀ (s : State) (k : CmdKey) (c : Inflight) (r : FobRec), s.passes k c fobRemoveInfo true = true → s.fob? (c.p8 0) = some r →
    s.canCommit = true →
    exec (.fobRemove k) s = .next (State.ends (s.setAcc (fun a => { a with
      fobs := a.fobs.filter (fun r => !(r.id == c.p8 0)), nonceLog := a.nonceLog.filter (fun l => !(l.fob == c.p8 0)) }))
      k c true .done)) ∧
  (∀ (s : State) (k : CmdKey) (c : Inflight) (t : Nat), s.passes k c releaseInfo true = true → t = c.p16 0 % 8 →
    (bit (c.p16 0) 4 = true → bit (c.p16 0) 8 = false →
      exec (.releaseRequest k) s = .next (s.finish c false (.fail .notPermitted))) ∧
    (bit (c.p16 0) 4 = true → bit (c.p16 0) 8 = true →
      exec (.releaseRequest k) s = .next (s.revokeStream.finish c false .done)) ∧
    (bit (c.p16 0) 4 = false → tgtEnabled (polTarget s.policy t) = true → tgtHostRelease (polTarget s.policy t) = true →
      bit (c.p16 0) 8 = false → exec (.releaseRequest k) s = .next (if s.level = 4 then s.finish c false (.fail .outOfBudget)
        else State.finish ((s.postDecision {
          target := t, fob := 0xFF, status := .ok, reason := 7, zone := 0xFF, bound := 0xFFFF, score := 0, rng := 0xFF,
          source := .command }).releaseOutputs t 0xFF false) c false .done)) ∧
    (bit (c.p16 0) 4 = false → (tgtEnabled (polTarget s.policy t) && tgtHostRelease (polTarget s.policy t)) = false →
      exec (.releaseRequest k) s = .next (s.finish c false (.fail .notPermitted)))) ∧
  (∀ (s : State) (k : CmdKey) (c : Inflight) (q : PartSt) (x : KeySlot), s.passes k c immoInfo true = true →
    s.part? c.key.part = some q → s.useSlot c.key.part (leAt c.input 0 4) fitsToken = .ok x → leAt c.input 16 4 = 0xFFFFFFFF →
    s.canCommit = true →
    exec (.immoConfig k) s = .next (State.ends
      (State.setFld { s with immo := { s.immo with config := some c.input, v1 := q.compat } } Fd.IM_STAT_EXHAUSTED 0) k c true .done)) ∧
  (∀ (s t : State) (k : CmdKey) (c : Inflight) (w : KeySlot), s.passes k c fobPairInfo true = true → s.acc.pairing = none →
    s.acc.session = none → s.fob? (c.p8 0) = none → leAt c.input 4 1 ≤ s.fld Fd.UHF_SLOT_SLOTS →
    s.useSlot c.key.part (leAt c.input 8 4) (fun k => isAes k.ktype && bit k.attr atUnwrap) = .ok w →
    s.takeUse (leAt c.input 8 4) false = .ok t →
    exec (.fobPair k) s = .next (if Config.primOk .kwCheck [w.aesKey, slice c.input 16 24] then
        t.sendPair {
          key := c.key, fob := c.p8 0, fobId := leAt c.input 0 4, slot := leAt c.input 4 1, rights := leAt c.input 6 2,
          kFob := Config.prim .kwUnwrap [w.aesKey, slice c.input 16 24] 16, nonceV := [], triesLeft := 3, started := false }
      else (t.bump Fd.HM_CNT_AUTHFAIL_COUNT).finish c false (.fail .authFail))) ∧
  (∀ (s : State) (p : Pairing), 0 < p.triesLeft → ((s.sendPair p).acc.pairing.map (·.triesLeft)) = some (p.triesLeft - 1)) ∧
  (∀ (s : State) (k : CmdKey) (c : Inflight) (p : Pairing), s.passes k c fobPairInfo true = true → s.acc.pairing = some p →
    p.key = c.key → p.started = true → s.canCommit = true →
    exec (.fobPair k) s = .next (State.ends (State.endPairing (s.setAcc (fun a => { a with
      fobs := a.fobs ++ [{ id := p.fob, fobId := p.fobId, slot := p.slot, rights := p.rights, key := p.kFob,
                           gen := s.acc.fobGen + 1 }], fobGen := a.fobGen + 1 }))) k c true .done)) ∧
  (∀ (s : State) (k : CmdKey) (c : Inflight) (p : Pairing), s.passes k c fobPairInfo true = true → s.acc.pairing = some p →
    p.key = c.key → p.started = false → s.pairIdle = true →
    exec (.fobPair k) s = .next (if p.triesLeft = 0 then s.endPairing.finish c false (.fail .authFail) else s.sendPair p))

/-- TOKEN_SEND with a token due and its key in hand composes it with the counter's value, which then rises by one; the mark J
rises by 1,024 before a value it stands at is used, and where that commit may not begin the token waits; a key at its limit
sends no token and ends the stream (08 R318, R320-R322). TOKEN_TRANSMITTED takes the frame off the controller and sets its error
counters. CAN_BUS_OFF takes a running controller to BUS_OFF with TEC 255 and its waiting tokens; BUS_OFF_RECOVERY under AUTO_BOR
takes it back with both counters 0 (21 R720, R723). -/
def Obligations.TokensAndCan : Prop :=
  (∀ (s u : State) (t : Token) (cfg : Bytes) (x : KeySlot) (n : Nat), s.gatesOpen = true → s.dueToken = some t →
    s.immo.config = some cfg → n = leAt cfg (if t.door then 16 else 0) 4 → s.slot? n = some x → fitsToken x = true →
    s.bindOk n x = true →
    (s.immo.counter < s.immo.markJ → s.takeUse n false = .ok u → exec .tokenSend s = .next (u.sendToken cfg t x.aesKey)) ∧
    (s.immo.markJ ≤ s.immo.counter → s.canCommit = true →
      State.takeUse { s with immo := { s.immo with markJ := s.immo.markJ + 1024 } } n false = .ok u →
      exec .tokenSend s = .next (u.sendToken cfg t x.aesKey)) ∧
    (s.immo.markJ ≤ s.immo.counter → s.canCommit = false → s.txns.contains (.own .tokenMark) = false →
      exec .tokenSend s = .next { s with txns := s.txns ++ [.own .tokenMark] }) ∧
    (s.immo.counter < s.immo.markJ → s.takeUse n false = .exhausted u → exec .tokenSend s = .next (u.tokenExhausted cfg t))) ∧
  (∀ (s : State) (cfg key : Bytes) (t : Token), (s.sendToken cfg t key).immo.counter = (s.immo.counter + 1) % 2 ^ 48) ∧
  (∀ (s : State), s.gatesOpen = false → exec .tokenSend s = .next s) ∧
  (∀ (s : State) (n tec rec' : Nat) (f : CanFrame) (rest : List CanFrame), (s.canOf n).waiting = f :: rest →
    s.fld (Fd.CAN_STAT_STATE n) ≠ 0 → s.fld (Fd.CAN_STAT_STATE n) ≠ 3 → (s.canOf n).readyAt ≤ s.deviceTime →
    exec (.tokenTransmitted n tec rec') s = .next
      ((((s.updCan n (fun c => { c with waiting := rest })).emit (.canFrame n f.ident f.fd
        (f.fd && s.fld (Fd.CAN_CFG_BRS n) == 1) f.data)).canErrors n tec rec').canSettle n)) ∧
  (∀ (s : State) (n : Nat), n < 2 → s.fld (Fd.CAN_STAT_STATE n) ≠ 0 → s.fld (Fd.CAN_STAT_STATE n) ≠ 3 →
    exec (.canBusOff n) s = .next ((((s.setFld (Fd.CAN_STAT_STATE n) 3).setFld (Fd.CAN_STAT_TEC n) 255).raise pgCan 1).canFlush n)) ∧
  (∀ (s : State) (n : Nat), n < 2 → s.fld (Fd.CAN_STAT_STATE n) = 3 → s.fld (Fd.CAN_CFG_AUTO_BOR n) = 1 →
    exec (.busOffRecovery n) s = .next
      ((((s.setFld (Fd.CAN_STAT_STATE n) 1).setFld (Fd.CAN_STAT_TEC n) 0).setFld (Fd.CAN_STAT_REC n) 0).canSettle n)) ∧
  (∀ (s : State) (n tec rec' : Nat), s.fld (Fd.CAN_STAT_STATE n) = 0 ∨ s.fld (Fd.CAN_STAT_STATE n) = 3 →
    exec (.tokenTransmitted n tec rec') s = .next s) ∧
  (∀ (s : State) (n : Nat), 1 < n ∨ s.fld (Fd.CAN_STAT_STATE n) = 0 ∨ s.fld (Fd.CAN_STAT_STATE n) = 3 →
    exec (.canBusOff n) s = .next s)

/-! ### Flows (09) -/

/-- FLOW_CREATE places a new flow at the lowest free entry, in the lent reserve, or in the Spillway with status SPILLED, and a
clash or a full quota refuses it; FLOW_MODIFY, FLOW_DESTROY and SAK_INSTALL act on a flow of the issuer no message of which is
under way; FLOW_STATS reads the counters and with CLEAR zeroes them (09 R336-R341, R354, R362, R364, R365). -/
def Obligations.FlowCommands : Prop :=
  (∀ (s : State) (k : CmdKey) (c : Inflight) (q : PartSt) (h : Nat) (f : Flow), s.passes k c flowCreateInfo true = true →
    f = Flow.ofDesc c.input c.key.part (c.p8 0) → s.flowKeyBad f = none → s.flows.any (fun o => o.2.clashes f) = false →
    s.part? c.key.part = some q → s.flowsOf c.key.part < q.cfg.flowQuota → s.placeFlow = some h → s.canCommit = true →
    exec (.flowCreate k) s = .next (if isSpill h then
        State.ends ((s.enterSpill (h - 262144) f).checkCkpt h) k c true { status := .spilled, result := leBytes 4 h }
      else State.ends (State.checkCkpt { s with flows := mapPut s.flows h f } h) k c true { status := .ok, result := leBytes 4 h })) ∧
  (∀ (s : State) (k : CmdKey) (c : Inflight) (f : Flow), s.passes k c flowCreateInfo true = true →
    f = Flow.ofDesc c.input c.key.part (c.p8 0) → s.flowKeyBad f = none → s.flows.any (fun o => o.2.clashes f) = true →
    exec (.flowCreate k) s = .next (s.finish c false { status := .badParam, detail := 0x0101 })) ∧
  (∀ (s : State) (k : CmdKey) (c : Inflight) (q : PartSt) (f : Flow), s.passes k c flowCreateInfo true = true →
    f = Flow.ofDesc c.input c.key.part (c.p8 0) → s.flowKeyBad f = none → s.flows.any (fun o => o.2.clashes f) = false →
    s.part? c.key.part = some q → q.cfg.flowQuota ≤ s.flowsOf c.key.part →
    exec (.flowCreate k) s = .next (s.finish c false (.fail .queueFull))) ∧
  (∀ (s : State) (k : CmdKey) (c : Inflight), s.passes k c flowDestroyInfo true = true →
    (s.ownFlow c.key.part (c.p32 0)).isSome = true → s.midFrame (c.p32 0) = true → exec (.flowDestroy k) s = .next s) ∧
  (∀ (s : State) (k : CmdKey) (c : Inflight) (f n : Flow) (fv : Bool), s.passes k c flowModifyInfo true = true →
    s.ownFlow c.key.part (c.p32 0) = some f → n = Flow.ofDesc c.input c.key.part f.ctx.cls → fv = bit (leAt c.input 6 1) 0 →
    descOk c.input f.ctx.cls true = true → n.ctx.kind = f.ctx.kind → n.ctx.carry = f.ctx.carry → n.key = f.key →
    (fv = true → f.ctx.fv0 ≤ n.ctx.fv0) → s.flowKeyBad n = none →
    s.flows.any (fun o => o.1 != c.p32 0 && o.2.clashes n) = false → s.midFrame (c.p32 0) = false → s.canCommit = true →
    exec (.flowModify k) s = .next (State.ends ((s.writeFlow (c.p32 0) (f.modified n fv)).checkCkpt (c.p32 0)) k c true .done)) ∧
  (∀ (s : State) (k : CmdKey) (c : Inflight) (f : Flow), s.passes k c flowDestroyInfo true = true →
    s.ownFlow c.key.part (c.p32 0) = some f → s.midFrame (c.p32 0) = false → s.canCommit = true →
    exec (.flowDestroy k) s = .next (State.ends (s.destroyFlow (c.p32 0)) k c true .done)) ∧
  (∀ (s : State) (k : CmdKey) (c : Inflight) (f : Flow) (x : KeySlot) (i : Nat), s.passes k c sakInstallInfo true = true →
    s.ownFlow c.key.part (c.p32 0) = some f → s.midFrame (c.p32 0) = false → f.ctx.isSecoc = false → (f.ctx.xpn = true ∨ c.p64 16 ≤ 0xFFFFFFFF) →
    c.p32 4 ≠ 0xFFFFFFFF → s.ownSlot c.key.part (c.p32 4) = some x → f.ctx.suiteFits x.ktype = true → bit x.attr atTraffic = true →
    (List.range 2).find? (fun i => f.ctx.saValid i && f.ctx.an i == c.p8 8 % 4) = none →
    (List.range 2).find? (fun i => !f.ctx.saValid i) = some i →
    exec (.sakInstall k) s = .next (State.finish (s.writeFlow (c.p32 0) { f with
      ctx := if bit (c.p8 8) 7 then
          { f.ctx.setSa i (c.p8 8 % 4) (c.p32 4) (c.p64 16) with
            param := clrBit (f.ctx.setSa i (c.p8 8 % 4) (c.p32 4) (c.p64 16)).param 9 + i * 512 }
        else f.ctx.setSa i (c.p8 8 % 4) (c.p32 4) (c.p64 16) }) c false .done)) ∧
  (∀ (s : State) (k : CmdKey) (c : Inflight) (f : Flow), s.passes k c flowStatsInfo true = true →
    s.ownFlow c.key.part (c.p32 0) = some f →
    exec (.flowStats k) s = .next (State.finish (if c.p8 4 = 1 then
        (s.writeFlow (c.p32 0) { f with ctx := { f.ctx with okCnt := 0, failCnt := 0, lastFail := 0 } }).replicate c.key .ok
          (s.flowStats (c.p32 0) f) else s) c false
      { status := .ok, out := s.flowStats (c.p32 0) f }))

/-! ### Life cycle and debug commands (20) -/

/-- LIFECYCLE_ADVANCE past its checks commits the transition, does its work and warm-resets the device; where power does not
last it stops at the commit point; a refused one ends with its status. DEBUG_CHALLENGE issues a nonce; DEBUG_GRANT that answers
it within its state's scopes opens them; CHALLENGE_LAPSE drops it after 600 s (20 R687-R701). -/
def Obligations.LifeAndDebugCommands : Prop :=
  (∀ (s : State) (k : CmdKey) (c : Inflight) (rb whole : Bool) (st : Status), s.cmd? k = some c → c.opcode = 0x0901 →
    s.inflight.length ≤ 1 → s.halves.lost = false → s.gatesOpen = true → (s.part? k.part).any (fun q => q.inReset.isSome) = false →
    s.lc.progress = none →
    (s.advanceRefused c = some st → exec (.lifecycleAdvance k rb whole) s = .next (s.finish c false (.fail st))) ∧
    (s.advanceRefused c = none → c.p8 0 = 4 → allZero (c.input.take 48) = false → s.canCommit = true →
      exec (.lifecycleAdvance k rb whole) s = .next (
        if whole then ((((s.dropWait c.key).lifeCommit c 4).lifeWork 4).lifeEnd c) else (s.dropWait c.key).lifeCommit c 4))) ∧
  (∀ (s : State) (k : CmdKey) (c : Inflight), s.passes k c debugChallengeInfo true = true →
    exec (.debugChallenge k) s = .next (State.finish
      { s.draw 32 with lc := { (s.draw 32).lc with challenge := some (s.drawn 32, s.deviceTime, s.epochNow) } } c false
      { status := .ok, out := s.challengeBytes (s.drawn 32) })) ∧
  (∀ (s : State) (k : CmdKey) (c : Inflight), s.passes k c debugGrantInfo true = true → 2 < s.life → s.keys.grant = none →
    bit (grantScope c.input) 15 = false → maskDiff (grantScope c.input) (scopesOf s.life) = 0 →
    exec (.debugGrant k) s = .next (
      if s.grantBound c.input && s.grantSigned c.input then (s.useChallenge.acceptGrant c.input).finish c false .done
      else State.finish ((s.useChallenge.bump Fd.DBG_CNT_REFUSED).raise pgLc 4) c false (.fail .authFail))) ∧
  (∀ (s : State) (n : Bytes) (t e : Nat), s.lc.challenge = some (n, t, e) →
    exec .challengeLapse s = .next (if t + 600000000000 ≤ s.deviceTime then { s with lc := { s.lc with challenge := none } } else s))

/-! ### Store, card and half-test commands (16, 17, 21) -/

/-- STORE_READ, STORE_WRITE and STORE_SANITIZE on a region whose check passes; the new passwords of a CTL write; the counted
mismatch of a wrong credential (16 R562-R568, R571, R578). CARD_TRANSACT with no card is CARD_REMOVED's DETAIL; with a READY
card its APDU goes out, BEGIN opens the transaction; its response ends it. HALF_TEST names the units that fail, and a fenced
half answers FENCED (17 R624; 21 R712-R715). -/
def Obligations.StoreAndCardCommands : Prop :=
  (∀ (s t : State) (k : CmdKey) (c : Inflight) (a : Nat), s.passes k c s.storeReadInfo true = true →
    s.storeCheck c (·.rdPw) = .ok t → a = (s.region c.regionNo).addr (c.p32 4) → s.cardHolds (pagesOf a c.outLen) = false →
    (pagesOf a c.outLen).any (fun p => !(s.lostWords p).isEmpty) = false →
    exec (.storeRead k) s = .next (t.finish c false { status := .ok, out := s.eeBytes a c.outLen })) ∧
  (∀ (s t : State) (k : CmdKey) (c : Inflight) (a : Nat), s.passes k c s.storeWriteInfo true = true →
    s.storeCheck c (·.wrPw) = .ok t → c.ctl = false → a = (s.region c.regionNo).addr (c.p32 4) →
    s.cardHolds (pagesOf a c.inLen) = false → s.readHolds (pagesOf a c.inLen) = false → s.canCommit = true →
    exec (.storeWrite k) s = .next (State.ends (t.storeBytes a c.input) k c true .done)) ∧
  (∀ (s t : State) (k : CmdKey) (c : Inflight), s.passes k c s.storeWriteInfo true = true →
    s.storeCheck c (·.wrPw) = .ok t → c.ctl = true → s.canCommit = true →
    exec (.storeWrite k) s = .next (State.ends (t.setRegion c.regionNo { s.region c.regionNo with
      rdPw := pwKept c.regionNo (c.input.take 16), wrPw := pwKept c.regionNo (c.input.drop 16), misses := 0, refuseUntil := 0 })
      k c true .done)) ∧
  (∀ (s t : State) (k : CmdKey) (c : Inflight) (ps : List Nat), s.passes k c s.storeSanitizeInfo true = true →
    s.storeCheck c (·.wrPw) = .ok t → ps = pagesOf ((s.region c.regionNo).addr (c.p32 4)) (c.p32 8) → s.cardHolds ps = false →
    s.readHolds ps = false → s.canCommit = true →
    exec (.storeSanitize k) s = .next (State.ends (t.markPages ps) k c true
      { status := .ok, result := leBytes 4 (ps.filter (fun p => !s.marked p)).length })) ∧
  (∀ (s : State) (k : CmdKey) (c : Inflight) (r : Region), s.passes k c s.storeReadInfo true = true → r = s.region c.regionNo →
    r.en = true → r.owner = c.key.part ∨ r.shared = true → s.deviceTime ≥ r.refuseUntil →
    exec (.storeRead k) s = .next (if credOk c.regionNo r.rdPw c.cred then
        storeReadWork s c |>.settle s k c
      else State.finish (((s.setRegion c.regionNo { r with
          misses := r.misses + 1, refuseUntil := refusalEnd s.deviceTime (r.misses + 1) }).bump Fd.EE_CREDFAIL_COUNT).raise
          0x0C0000 4) c false { status := .notPermitted, detail := 0x0C01 })) ∧
  (∀ (s : State) (k : CmdKey) (c : Inflight), s.passes k c s.cardInfo true = true → s.card.busy = none →
    s.fld Fd.CD_STAT_PRESENT = 0 ∨ s.fld Fd.CD_STAT_STATE = 4 →
    exec (.cardTransact k) s = .next ((s.cardFree c.key).finish c false { status := .badParam, detail := 0x1001 })) ∧
  (∀ (s : State) (k : CmdKey) (c : Inflight), s.passes k c s.cardInfo true = true → s.card.busy = none →
    s.fld Fd.CD_STAT_PRESENT = 1 → s.fld Fd.CD_STAT_STATE = 3 → s.card.gated = false → s.pageAdmits pgCard = true →
    c.cardStore = false →
    (c.cardBegin = true → s.card.txn = none) →
    exec (.cardTransact k) s = .next (s.cardSend c)) ∧
  (∀ (s : State) (k : CmdKey) (c : Inflight) (r : Bytes), s.passes k c s.cardInfo true = true → s.card.busy = some c.key →
    s.card.resp = some r → s.card.txn = none →
    exec (.cardTransact k) s = .next ((s.cardFree c.key).finish c false { status := .ok, out := r })) ∧
  (∀ (s : State) (k : CmdKey) (c : Inflight) (f : TestFind) (h : Half) (fails : List UnitRef), s.passes k c halfTestInfo true = true →
    h = (if c.p8 0 = 0 then .north else .south) → fails = (f.fails.filter (fun u => u.half = h && s.inService u)).eraseDups →
    exec (.halfTest k f) s = .next (if s.halfUp h then (fails.foldl State.testFailed s).finish c false
        { status := .ok, result := leBytes 4 (s.testWord h f fails) }
      else s.finish c false (.fail .fenced)))

/-! ### Lanes (09) -/

/-- FRAME_START on a lane that is up, its group not gated and its page admitting work, reserves room for the greatest frame or
drops the frame at its first byte; FRAME_RECEIVE discards what R329 names, drops an unclassified frame of a lane set so, admits
the rest with its messages, and then lets a gated group go down (09 R329, R330, R334; 04 R124, R159). PAUSE frames and link
changes: the repeat every 3.3 ms above XON, the transmitter stopped for the quanta received and set going at zero or at the
timer's end; a lane that goes down cuts off the frame arriving (09 R327-R331). FRAME_TRANSMIT of a finished frame whose order
has come sends it with a new FCS, padded to 60 bytes, on its lane, or loses it where the lane is down; a paused transmitter
keeps it; one a fenced half made is discarded and made again (09 R326, R329, R332, R333; 01 R33). -/
def Obligations.Lanes : Prop :=
  (∀ (s : State) (n : Nat), s.laneUp n = true → (s.lane n).arriving = none →
    bit s.gated (n / 4) = false → s.pageAdmits 0x030000 = true →
    exec (.frameStart n) s = .next (match s.eddyExit.roomFor n with
      | some sh => s.eddyExit.setLane n { s.eddyExit.lane n with arriving := some sh }
      | none => (s.eddyExit.bump (Fd.LANE_CNTB_BUF_DROP n)).raise 0x030000 2)) ∧
  (∀ (s t : State) (n : Nat) (data : Bytes) (cut sh : Bool), (s.lane n).arriving = some sh →
    t = s.setLane n { s.lane n with arriving := none } →
    (cut = true ∨ data.length < 64 ∨ 9216 < data.length →
      exec (.frameReceive n data cut) s = .next (t.bump (Fd.LANE_CNTA_LEN_ERR n)).settleLanes) ∧
    (cut = false → 64 ≤ data.length → data.length ≤ 9216 → exec (.frameReceive n data cut) s = .next (State.settleLanes <|
      if fcs (data.take (data.length - 4)) ≠ data.drop (data.length - 4) then t.bump (Fd.LANE_CNTA_FCS_ERR n)
      else if (t.classify n (data.take (data.length - 4))).msgs.all (fun m => m.flow.isNone) then
        (if (t.bump (Fd.LANE_CNTB_UNCLASSIFIED n)).fld (Fd.LANE_CFG_UNKNOWN n) = 1 then t.bump (Fd.LANE_CNTB_UNCLASSIFIED n)
         else (t.bump (Fd.LANE_CNTB_UNCLASSIFIED n)).addFrame n sh data true (t.classify n (data.take (data.length - 4))))
      else t.addFrame n sh data false (t.classify n (data.take (data.length - 4)))))) ∧
  (∀ (s : State) (n : Nat), s.fld (Fd.LANE_STAT_XOFF n) = 1 → (s.lane n).pauseSent + 3300000 ≤ s.deviceTime →
    s.fld (Fd.LANE_CFG_XON_4K n) * 4096 < s.occupancy n →
    exec (.pauseRepeat n) s = .next ((s.emit (.pause n 0xFFFF)).setLane n { s.lane n with pauseSent := s.deviceTime })) ∧
  (∀ (s : State) (n quanta : Nat), s.laneUp n = true → s.fld (Fd.LANE_CFG_PAUSE_RX n) = 1 →
    exec (.pauseReceive n quanta) s = .next (
      if quanta = 0 then (s.setFld (Fd.LANE_STAT_PAUSED n) 0).setLane n { s.lane n with pausedUntil := none }
      else (s.setFld (Fd.LANE_STAT_PAUSED n) 1).setLane n { s.lane n with
        pausedUntil := some (s.deviceTime + quanta % 65536 * 512 / 10) })) ∧
  (∀ (s : State) (n t : Nat), (s.lane n).pausedUntil = some t → t ≤ s.deviceTime →
    exec (.pauseTimerExpiry n) s = .next ((s.setFld (Fd.LANE_STAT_PAUSED n) 0).setLane n { s.lane n with pausedUntil := none })) ∧
  (∀ (s : State) (n : Nat), s.laneFree n = true → s.fld (Fd.LANE_STAT_UP n) = 0 →
    exec (.laneLinkChange n true false) s = .next
      (((s.setFld (Fd.LANE_STAT_MISMATCH n) 0).setFld (Fd.LANE_STAT_UP n) 1).raise 0x030000 1)) ∧
  (∀ (s t : State) (n : Nat), n < 8 → s.fld (Fd.LANE_STAT_UP n) = 1 →
    t = ((s.setFld (Fd.LANE_STAT_MISMATCH n) 0).setFld (Fd.LANE_STAT_UP n) 0).raise 0x030000 1 →
    exec (.laneLinkChange n false false) s = .next (if (t.lane n).arriving.isSome then
        (t.setLane n { t.lane n with arriving := none }).bump (Fd.LANE_CNTA_LEN_ERR n) else t)) ∧
  (∀ (s : State) (id : Nat) (f : Frame) (b : Bytes), s.frame? id = some f → f.msgs.all (·.done) = true → s.inOrder f = true →
    s.gatesOpen = true → b = (if f.build.length < 60 then padTo 60 f.build else f.build) →
    (s.fld (Fd.LANE_STAT_PAUSED (s.outLane f)) = 0 → f.unknown = true ∨ f.epoch = s.halves.epoch →
      exec (.frameTransmit id) s = .next (
        if s.laneUp (s.outLane f) then ((s.emit (.laneTx (s.outLane f) (b ++ fcs b))).noteLatency f).endFrame f else s.endFrame f)) ∧
    (s.fld (Fd.LANE_STAT_PAUSED (s.outLane f)) = 0 → f.unknown = false → f.epoch ≠ s.halves.epoch →
      exec (.frameTransmit id) s = .next (s.remakeFrame f)) ∧
    (s.fld (Fd.LANE_STAT_PAUSED (s.outLane f)) = 1 → exec (.frameTransmit id) s = .next s))

/-! ### SecOC and MACsec (09) -/

/-- SECOC_VERIFY of a message whose turn it is: a trailer that does not fit or with padding set fails FORMAT, a stale or far
candidate or one of 2^64 or more FRESHNESS, a gone key KEY_GONE, a wrong MAC MAC_FAIL, and an accepted one passes unchanged with
FV0 at its value (09 R349, R356, R360, R363). The authentic part ends at AUTH_LEN on a CAN FD message that has one, else before
the trailer. SECOC_SIGN sends FV0 in its trailer, a CAN FD message padded to the next length, and increments it; a message that
would not fit its carrier fails OVERSIZE; at 2^64 - 1 it fails FRESHNESS and FV0 stays; a value at or above K + 1,024 waits with
STALLED (09 R347, R348, R356). -/
def Obligations.SecureOnboardCommunication : Prop :=
  (∀ (s u : State) (id i h n cand v pad cut : Nat) (f : Frame) (m : Msg) (fl : Flow), s.turn id = some (f, i, m, h, fl) →
    s.mayProcess id 1 fl = true → fl.spill = none → fl.ctx.lost = false → m.waitSince = none →
    u = (s.laneTake id).touchFlow h → n = fl.ctx.trailerLen →
    cut = (if fl.ctx.carry = 2 && fl.ctx.authLen ≠ 0 then fl.ctx.authLen else m.body.length - n) →
    pad = 8 * n - fl.ctx.fvBits - fl.ctx.macBits → v = beNat (slice m.body cut n) →
    cand = candidate fl.ctx.fvBits fl.ctx.fv0 (v / 2 ^ pad / 2 ^ fl.ctx.macBits) →
    (m.body.length < cut + n ∨ v % 2 ^ pad ≠ 0 → exec (.secocVerify id) s = .next (u.failMsg f i h fl.ctx m .format 0)) ∧
    (cut + n ≤ m.body.length → v % 2 ^ pad = 0 → 2 ^ 64 ≤ cand →
      exec (.secocVerify id) s = .next (u.failMsg f i h fl.ctx m .freshness 0)) ∧
    (cut + n ≤ m.body.length → v % 2 ^ pad = 0 → cand < 2 ^ 64 →
      (cand ≤ fl.ctx.fv0 ∨ (fl.ctx.acceptWin ≠ 0 ∧ fl.ctx.acceptWin < cand - fl.ctx.fv0)) →
      exec (.secocVerify id) s = .next (u.failMsg f i h fl.ctx m .freshness cand)) ∧
    (cut + n ≤ m.body.length → v % 2 ^ pad = 0 → cand < 2 ^ 64 → fl.ctx.fv0 < cand →
      (fl.ctx.acceptWin = 0 ∨ cand - fl.ctx.fv0 ≤ fl.ctx.acceptWin) → u.trafficKey fl.ctx.part fl.ctx.key0 (· == 1) = none →
      exec (.secocVerify id) s = .next (u.failMsg f i h fl.ctx m .keyGone cand)) ∧
    (∀ (t : State) (x : KeySlot) (g : Flow), cut + n ≤ m.body.length → v % 2 ^ pad = 0 → cand < 2 ^ 64 → fl.ctx.fv0 < cand →
      (fl.ctx.acceptWin = 0 ∨ cand - fl.ctx.fv0 ≤ fl.ctx.acceptWin) →
      u.trafficKey fl.ctx.part fl.ctx.key0 (· == 1) = some x → u.takeUse fl.ctx.key0 false = .ok t →
      mapGet t.flows h = some g → cand < g.ctx.ckpt + 1024 →
      exec (.secocVerify id) s = .next (
        if secocMac fl.ctx x.aesKey (m.body.take cut) cand ≠ v / 2 ^ pad % 2 ^ fl.ctx.macBits then
          t.failMsg f i h fl.ctx m .macFail cand
        else ((t.updFlow h (fun f => { f with ctx := { f.ctx with fv0 := cand } })).checkCkpt h).passMsg f i h fl.ctx m m.raw cand))) ∧
  (∀ (s u : State) (id i h : Nat) (f : Frame) (m : Msg) (fl : Flow) (fits : Bool) (out : Bytes → Bytes),
    s.turn id = some (f, i, m, h, fl) → s.mayProcess id 2 fl = true → fl.spill = none → fl.ctx.lost = false →
    u = (s.laneTake id).touchFlow h →
    out = (fun tr => rebuildMsg fl.ctx.carry m.hdr (if fl.ctx.carry = 2 then
      padTo ((canFdLen (m.body ++ tr).length).getD (m.body ++ tr).length) (m.body ++ tr) else m.body ++ tr)) →
    fits = (!(fl.ctx.carry == 2 && (canFdLen (m.body.length + fl.ctx.trailerLen)).isNone) &&
      decide (f.build.length + 4 + (out (List.replicate fl.ctx.trailerLen 0)).length - m.raw.length ≤ 9216)) →
    (fits = false → exec (.secocSign id) s = .next (u.failMsg f i h fl.ctx m .oversize fl.ctx.fv0)) ∧
    (fits = true → 2 ^ 64 - 1 ≤ fl.ctx.fv0 → exec (.secocSign id) s = .next (u.failMsg f i h fl.ctx m .freshness fl.ctx.fv0)) ∧
    (fits = true → fl.ctx.fv0 < 2 ^ 64 - 1 → fl.ctx.ckpt + 1024 ≤ fl.ctx.fv0 → exec (.secocSign id) s = .next
      (((u.askCkpt h (ckptBelow fl.ctx.fv0)).stall h).updFrame id (fun g => { g with
        msgs := g.msgs.set i { m with cand := fl.ctx.fv0, waitSince := m.waitSince <|> some u.deviceTime } }))) ∧
    (∀ (t : State) (x : KeySlot), fits = true → fl.ctx.fv0 < 2 ^ 64 - 1 → fl.ctx.fv0 < fl.ctx.ckpt + 1024 →
      u.trafficKey fl.ctx.part fl.ctx.key0 (· == 1) = some x → u.takeUse fl.ctx.key0 false = .ok t →
      exec (.secocSign id) s = .next
        (((t.updFlow h (fun g => { g with ctx := { g.ctx with fv0 := fl.ctx.fv0 + 1 } })).checkCkpt h).passMsg f i h fl.ctx m
          (out (secocTrailer fl.ctx fl.ctx.fv0 (secocMac fl.ctx x.aesKey m.body fl.ctx.fv0))) fl.ctx.fv0)))

/-- The candidate of R349 for 0 < FV_BITS < 64: the least value above the last one whose low bits are those received. -/
def Obligations.FreshnessCandidate : Prop :=
  ∀ (w last t : Nat), 0 < w → w < 64 → t < 2 ^ w →
    last < candidate w last t ∧ candidate w last t % 2 ^ w = t ∧ candidate w last t ≤ last + 2 ^ w ∧
    (∀ x, last < x → x % 2 ^ w = t → candidate w last t ≤ x)

/-- MACSEC_RX fails FORMAT on a malformed tag, NO_SA without a valid SA, FRESHNESS on a late PN, MAC_FAIL on a wrong ICV, and
else sets FV to max(FV, PN + 1) and forwards the plain frame; MACSEC_TX protects at PN = FV and increments it, after its last PN
fails PN_EXHAUSTED, and fails OVERSIZE on a frame its tag and ICV would make too long (09 R351-R353). -/
def Obligations.MacsecFrames : Prop :=
  (∀ (s u : State) (id i h off : Nat) (f : Frame) (m : Msg) (fl : Flow), s.turn id = some (f, i, m, h, fl) →
    s.mayProcess id 3 fl = true → fl.spill = none → fl.ctx.lost = false → u = (s.laneTake id).touchFlow h → off = (parseL2 m.raw).off →
    (parseSecTag m.raw off fl.ctx.xpn = none → exec (.macsecRx id) s = .next (u.failMsg f i h fl.ctx m .format 0)) ∧
    (∀ (t : SecTag) (n : Nat), parseSecTag m.raw off fl.ctx.xpn = some t →
      n = (if t.sl = 0 then m.raw.length - (off + t.len) - 16 else t.sl) → off + t.len + n + 16 ≤ m.raw.length →
      ((List.range 2).find? (fun i => fl.ctx.saValid i && fl.ctx.an i == t.an) = none →
        exec (.macsecRx id) s = .next (u.failMsg f i h fl.ctx m .noSa 0)) ∧
      (∀ (j pn : Nat), (List.range 2).find? (fun i => fl.ctx.saValid i && fl.ctx.an i == t.an) = some j →
        pn = (if fl.ctx.xpn then recoverPn (fl.ctx.saFv j - fl.ctx.aux) t.pn else t.pn) →
        (pn < fl.ctx.saFv j - fl.ctx.aux → exec (.macsecRx id) s = .next (u.failMsg f i h fl.ctx m .freshness pn)) ∧
        (∀ (w : State) (x : KeySlot), fl.ctx.saFv j - fl.ctx.aux ≤ pn →
          u.trafficKey fl.ctx.part (fl.ctx.saKey j) fl.ctx.suiteFits = some x → u.takeUse (fl.ctx.saKey j) false = .ok w →
          exec (.macsecRx id) s = .next (
            match (if t.e then gcmOpen x.aesKey (macsecIv fl.ctx x t.sci pn) (m.raw.take (off + t.len)) (slice m.raw (off + t.len) n)
                (slice m.raw (off + t.len + n) 16)
              else (gcmOpen x.aesKey (macsecIv fl.ctx x t.sci pn) (m.raw.take (off + t.len) ++ slice m.raw (off + t.len) n) []
                (slice m.raw (off + t.len + n) 16)).map (fun _ => slice m.raw (off + t.len) n)) with
            | none => w.failMsg f i h fl.ctx m .macFail pn
            | some p => (w.movePn h f.lane j (max (fl.ctx.saFv j) (pn + 1))).passMsg f i h fl.ctx m (m.raw.take (off - 2) ++ p)
                pn))))) ∧
  (∀ (s u : State) (id i h j : Nat) (f : Frame) (m : Msg) (fl : Flow), s.turn id = some (f, i, m, h, fl) →
    s.mayProcess id 4 fl = true → fl.spill = none → fl.ctx.lost = false → u = (s.laneTake id).touchFlow h → j = fl.ctx.txSa →
    (fl.ctx.saValid j = false → exec (.macsecTx id) s = .next (u.failMsg f i h fl.ctx m .noSa 0)) ∧
    (fl.ctx.saValid j = true → fl.ctx.pnLast ≤ fl.ctx.saFv j →
      exec (.macsecTx id) s = .next (u.failMsg f i h fl.ctx m .pnExhausted (fl.ctx.saFv j))) ∧
    (fl.ctx.saValid j = true → fl.ctx.saFv j < fl.ctx.pnLast →
      9216 < m.raw.length + 4 + 16 + (if fl.ctx.sciExplicit then 16 else 8) →
      exec (.macsecTx id) s = .next (u.failMsg f i h fl.ctx m .oversize (fl.ctx.saFv j))) ∧
    (∀ (w : State) (x : KeySlot), fl.ctx.saValid j = true → fl.ctx.saFv j < fl.ctx.pnLast →
      m.raw.length + 4 + 16 + (if fl.ctx.sciExplicit then 16 else 8) ≤ 9216 → 12 ≤ m.raw.length →
      u.trafficKey fl.ctx.part (fl.ctx.saKey j) fl.ctx.suiteFits = some x → u.takeUse (fl.ctx.saKey j) false = .ok w →
      ∃ raw, exec (.macsecTx id) s = .next ((w.movePn h f.lane j (fl.ctx.saFv j + 1)).passMsg f i h fl.ctx m raw (fl.ctx.saFv j)) ∧
        raw.take 14 = m.raw.take 12 ++ [0x88, 0xE5] ∧
        raw.length = m.raw.length + 16 + (if fl.ctx.sciExplicit then 16 else 8)))

/-- Checkpoints and spill records: a commit of the waiting checkpoint, a message that waited 1 ms, a record read back, which
after a restart starts from its checkpoint, one that cannot be had or does not open, a write-back and a spent version (09
R356-R359, R370-R374). A message of a LOST flow fails SPILL_LOST, whatever its kind; one of a Spillway flow not in the cache
begins a cold miss and waits (09 R371, R373). -/
def Obligations.CheckpointsAndSpillRecords : Prop :=
  (∀ (s : State) (h : Nat), exec (.checkpointCommit h) s = .next (if s.canCommit then s.commitCkpt h else s)) ∧
  (∀ (s : State) (h k : Nat) (f : Flow), mapRising 0 s.flows = true → mapGet s.flows h = some f → f.ckptTo = some k → h < 262144 →
    k % 1024 = 0 → k ≤ 2 ^ 64 - 1024 →
    ∃ g, mapGet (s.commitCkpt h).flows h = some g ∧ g.ctx.ckpt = k ∧ g.ckptTo = none ∧ g.ctx.stalled = false ∧
      g.ctx.fv0 = f.ctx.fv0) ∧
  (∀ (s : State) (id i h t : Nat) (f : Frame) (m : Msg) (fl : Flow), s.turn id = some (f, i, m, h, fl) → m.waitSince = some t →
    exec (.checkpointTimeout id) s = .next (if t + 1000000 ≤ s.deviceTime then s.failMsg f i h fl.ctx m .checkpoint m.cand else s)) ∧
  (∀ (s : State) (h : Nat) (f : Flow) (x : SpillInfo), mapGet s.flows h = some f → f.spill = some x → x.loading = true →
    s.canMaster 0 = true →
    exec (.spillRecordRead h none) s = .next (s.loseFlow h) ∧
    (∀ r : Bytes, s.openRecord (h - 262144) r = none →
      exec (.spillRecordRead h (some r)) s = .next (((s.bump Fd.SPILL_CNT2_REJECTED).raise 0x021000 1).loseFlow h)) ∧
    (∀ (r : Bytes) (c d : Ctx) (t : State), s.openRecord (h - 262144) r = some c →
      d = (if f.restart then Ctx.restarted (if c.isSecoc then { c with aux := f.ctx.aux } else c)
        else if c.isSecoc then { c with aux := f.ctx.aux } else c) →
      t = s.updFlow h (fun g => { g with
          ctx := { d with stalled := false }, restart := false,
          spill := some { x with cached := true, loading := false, changed := f.restart } }) →
      exec (.spillRecordRead h (some r)) s = .next (
        if f.restart && d.isSecoc then t.askCkpt h (d.ckpt + 1024) else t))) ∧
  (∀ (s : State) (h : Nat) (f : Flow) (x : SpillInfo), mapGet s.flows h = some f → f.spill = some x → x.cached = true →
    x.changed = true → s.canWriteBack h = true →
    exec (.writeBack h) s = .next (if 0xFFFFFFFF ≤ s.spillVersion (h - 262144) then s.retireIndex h f
      else ((s.sealNext (h - 262144) f.ctx).bump Fd.SPILL_CNT1_COUNT).updFlow h
        (fun f => { f with spill := some { x with cached := false, changed := false } }))) ∧
  (∀ (s : State) (id i h : Nat) (f : Frame) (m : Msg) (fl : Flow) (x : Nat × Instr), s.turn id = some (f, i, m, h, fl) →
    x ∈ [(1, Instr.secocVerify id), (2, .secocSign id), (3, .macsecRx id), (4, .macsecTx id)] → s.mayProcess id x.1 fl = true →
    (fl.ctx.lost = true →
      exec x.2 s = .next (((s.laneTake id).touchFlow h).failMsg f i h fl.ctx m .spillLost 0)) ∧
    (∀ y : SpillInfo, fl.ctx.lost = false → fl.spill = some y → y.cached = false →
      exec x.2 s = .next ((s.laneTake id).coldMiss h y)))

/-! ### Hammers, digest units, Anvils (10, 14) -/

/-- The ends of segments, requests, blocks and operations, whose results arrive at their ports of the Weir: a passed check moves
the save record on, a failed one goes back to it and strikes the units, a request's end lets the next one in, and a result of a
unit that runs nothing is late; DEFENCE_RESEED takes 16 bytes of the Bellows after 4,096 blocks (10 R393, R396-R406; 14 R519; 17
R613). -/
def Obligations.UnitRowsEnd : Prop :=
  (∀ (s : State) (h : Half) (i : Nat) (r : Running), s.runningOn .hammer h i = some r →
    (r.job.inRequest = true →
      exec (.hammerSegmentEnd h i true) s = .next
        (((s.arrive ⟨.hammer, h, i⟩).countBlocks h r.occupies 16).boundary r r.job.seg) ∧
      exec (.hammerSegmentEnd h i false) s = .next (r.occupies.foldl (fun t u => t.strike ⟨.hammer, h, u⟩)
        (((s.bump Fd.HM_CNT_MISMATCH_COUNT).raise 0x070000 1).restart r h))) ∧
    exec (.hammerRequestEnd h i) s = .next
      ((((s.arrive ⟨.hammer, h, i⟩).countBlocks h r.occupies r.job.lastBlocks).endRequest r).ownNext h)) ∧
  (∀ (s : State) (h : Half) (r : Running) (j : Job), s.runningOn .digest h 0 = some r →
    j = { r.job with done := r.job.done + r.job.seg, inReq := r.job.inReq + r.job.seg } →
    exec (.digestBlockEnd h true) s = .next (if j.inRequest then (s.arrive ⟨.digest, h, 0⟩).boundary r r.job.seg
      else ((s.arrive ⟨.digest, h, 0⟩).setRun r j).endRequest { r with job := j }) ∧
    exec (.digestBlockEnd h false) s = .next ([0, 1].foldl (fun t u => t.strike ⟨.digest, h, u⟩)
      (((s.bump Fd.DG_STAT_MISMATCH).raise 0x070000 1).restart r (otherHalf h)))) ∧
  (∀ (s : State) (h : Half) (i : Nat) (r : Running), s.runningOn .anvil h i = some r →
    exec (.anvilOpEnd h i none) s = .next (((s.arrive ⟨.anvil, h, i⟩).stopRun r).serve 4) ∧
    (∀ (vh : Half) (vi : Nat), exec (.anvilOpEnd h i (some (vh, vi))) s = .next
      (((((s.bump Fd.AV_CNT_CHECK_SELFCHECK).raise 0x0A0000 1).restart r h).strike ⟨.anvil, h, i⟩).strike ⟨.anvil, vh, vi⟩))) ∧
  (∀ (s : State) (h : Half) (i : Nat) (ok : Bool), s.runningOn .hammer h i = none →
    exec (.hammerSegmentEnd h i ok) s = .next (s.lateItem ⟨.hammer, h, i⟩) ∧
    exec (.hammerRequestEnd h i) s = .next (s.lateItem ⟨.hammer, h, i⟩)) ∧
  (∀ (s : State) (h : Half) (i : Nat), i < 16 → 4096 ≤ mapRead 0 s.units.blocks (16 * halfNum h + i) →
    s.drawWaits (halfNum h) = false → s.noEntropy = false →
    exec (.defenceReseed h i) s = .next (State.drawAt { s with units := { s.units with
      blocks := mapSet 0 s.units.blocks (16 * halfNum h + i) 0 } } (halfNum h) 16))

/-! ### EE store work (16) -/

/-- EE_TRANSACTION and VHOLD_READY run the transactions that waited, in their order; VHOLD_WAIT_TIMEOUT ends a command that
waited 50 ms with STORE_FAULT; the patrol, clearing and column repair move on (16 R566, R569, R572-R580). -/
def Obligations.StoreWork : Prop :=
  (∀ (s : State) (mv : Nat) (x : Txn) (l : List Txn), (s.setVhold mv).txns = x :: l →
    exec (.eeTransaction mv) s = .next ((s.setVhold mv).beginTxn x)) ∧
  (∀ (s : State) (mv : Nat), exec (.vholdReady mv) s = .next ((s.setVhold mv).txns.foldl State.beginTxn (s.setVhold mv))) ∧
  (∀ (s : State) (k : CmdKey) (c : Inflight) (t : Nat), s.cmd? k = some c → s.txns.contains (.cmd k t) = true →
    t + 50000000 ≤ s.deviceTime → s.storeReady = false →
    exec (.vholdWaitTimeout k) s = .next (State.finish ((s.dropWait k).abandonCmd c) c false (.fail .storeFault))) ∧
  (∀ (s : State) (north south : CopyFind) (tests : List ColTest), s.storePower = true → s.halvesOn = true →
    s.passWaits = false → mapRising 0 s.regs = true →
    ∃ t, exec (.patrolPage north south tests) s = .next t ∧
      t.fld Fd.EE_PATROL_PROGRESS = (s.fld Fd.EE_PATROL_PROGRESS + 1) % 32768) ∧
  (∀ (s : State) (p : Nat), s.nextClear = some p → s.storePower = true → s.halvesOn = true → s.storeReady = true →
    exec (.pageClear true) s = .next (s.clearPage p) ∧ exec (.pageClear false) s = .next (s.failClear p)) ∧
  (∀ (s : State) (h : Half) (rows : Nat) (r : Remap), s.halfUp h = true → s.storeOn h = true → s.storeReady = true →
    s.ee.remaps.find? (fun (r : Remap) => r.half = h && r.row.isSome) = some r →
    exec (.columnRebuild h rows) s = .next (s.rebuildRows r rows))

/-! ### Access front end (06) -/

/-- Scan rounds and touches: a due round reads the configuration and measures the planned, enabled channels not under
confirmation, in ascending order; a measurement that overlaps LF is discarded and repeated 250 us later; confirming measurements
come 16 crystal periods apart, and the last one makes a touch, one below TOUCH_TH or with a FAULT ends the confirmation; a touch
that lasts STUCK_S is rebased (06 R207, R209-R219). -/
def Obligations.HandleSensing : Prop :=
  (∀ (s : State), s.fld Fd.HS_PLAN_PERIOD ≠ 0 → s.fld Fd.PW_STAT_STATE ≠ 4 → s.pageAdmits 0x040000 = true →
    s.fld Fd.HS_PLAN_PERIOD * 1000000000 ≤ (s.deviceTime - s.hs.lastRound) * 32768 →
    ∃ t, exec .hsScanRound s = .next t ∧ t.hs.lastRound = s.deviceTime ∧ t.hs.cfg = s.pageCfg 0x040000 ∧
      t.hs.ssc = s.fld Fd.SSC_CTL_HS_SSC ∧ t.regs = s.regs ∧ t.hs.chans = s.hs.chans ∧
      (∀ n, n ∈ t.hs.round ↔ n < 6 ∧ bit (s.fld Fd.HS_PLAN_SCANNED) n = true ∧ s.fld (Fd.HS_CFG_EN n) = 1 ∧
        (s.hsChan n).confirm = none) ∧ t.hs.round.Pairwise (· < ·)) ∧
  (∀ (s u : State) (n count startedAt : Nat) (rest : List Nat), s.hs.round = n :: rest →
    u = State.book { s with hs := { s.hs with round := rest } } .scan →
    exec (.hsMeasurement n count startedAt) s = .next (
      if u.lfOverlap startedAt then u.setHsChan n (fun c => { c with discarded := true }) else u.hsMeasure n count startedAt)) ∧
  (∀ (s u v w : State) (n count startedAt left stamp : Nat), (s.hsChan n).confirm = some (left, stamp) →
    s.hsMeasured n = true → 16 * 1000000000 ≤ (startedAt - (s.hsChan n).lastAt) * 32768 →
    u = s.book .scan → (u.hsChan n).confirm = some (left, stamp) → u.lfOverlap startedAt = false →
    v = (u.setHsChan n (fun c => { c with count := count, discarded := false, lastAt := startedAt })).hsFault n count →
    w = (if (v.hsChan n).delta count < (cfgFld (v.hsChan n).cfg (Fd.HS_CFG_REL_TH n) : Int) * 256 then
      v.setFldBit Fd.HS_STAT_STUCK n false else v) →
    ((bit (w.fld Fd.HS_STAT_FAULT) n = true ∨ (v.hsChan n).delta count < (cfgFld (v.hsChan n).cfg (Fd.HS_CFG_TOUCH_TH n) : Int) * 256) →
      exec (.hsConfirm n count startedAt) s = .next (w.hsReturn n)) ∧
    (bit (w.fld Fd.HS_STAT_FAULT) n = false → (cfgFld (v.hsChan n).cfg (Fd.HS_CFG_TOUCH_TH n) : Int) * 256 ≤ (v.hsChan n).delta count →
      exec (.hsConfirm n count startedAt) s = .next (if left ≤ 1 then w.hsTouch (v.hsChan n).cfg n stamp
        else w.setHsChan n (fun c => { c with confirm := some (left - 1, stamp) })))) ∧
  (∀ (s : State) (n count startedAt : Nat), (s.hsChan n).discarded = true → s.hsMeasured n = true → s.lf.air = none → s.bc = none →
    s.lf.lastEnd + 250000 ≤ startedAt → exec (.hsRemeasure n count startedAt) s = .next (
      if ((s.book .scan).hsChan n).confirm.isSome then (s.book .scan).hsConfirm n count startedAt
      else (s.book .scan).hsMeasure n count startedAt)) ∧
  (∀ (s : State) (n t : Nat), (s.hsChan n).touchedAt = some t → cfgFld s.hs.cfg Fd.HS_DRIFT_STUCK_S ≠ 0 →
    t + cfgFld s.hs.cfg Fd.HS_DRIFT_STUCK_S * 1000000000 ≤ s.deviceTime → exec (.stuckTouch n) s = .next
      ((((s.setHsChan n (fun c => { c with base := c.count * 256, touchedAt := none, lowRun := 0 })).setFldBit
        Fd.HS_STAT_STUCK n true).setFldBit Fd.HS_STAT_TOUCHED n false).raise 0x040000 2))

/-- The baseline of an untouched channel with a count in range and no FAULT mark, by the configuration its round read: it starts
confirmation with the baseline frozen, moves by delta / 2^DRIFT_SHIFT inside the band, rebases on the fourth low count, and else
stays (06 R217). -/
def Obligations.BaselineTracking : Prop :=
  ∀ (s t : State) (n count st : Nat) (c d : HsChan), n < 6 → s.hs.chans[n]? = some c → c.touchedAt = none →
    bit (s.fld Fd.HS_STAT_FAULT) n = false → 4196 ≤ count → count < 60000 → t = s.hsMeasure n count st →
    t.hs.chans[n]? = some d →
    d.count = count ∧ d.touchedAt = none ∧ (∀ m, m ≠ n → t.hs.chans[m]? = s.hs.chans[m]?) ∧
    ((cfgFld s.hs.cfg (Fd.HS_CFG_TOUCH_TH n) : Int) * 256 ≤ (count : Int) * 256 - c.base →
      d.confirm = some (max 1 (cfgFld s.hs.cfg (Fd.HS_CFG_DEB n)), st) ∧ d.base = c.base ∧ d.lowRun = c.lowRun) ∧
    ((count : Int) * 256 - c.base < (cfgFld s.hs.cfg (Fd.HS_CFG_TOUCH_TH n) : Int) * 256 → d.confirm = c.confirm ∧
      (((count : Int) * 256 - c.base).natAbs ≤ cfgFld s.hs.cfg Fd.HS_DRIFT_DRIFT_BAND * 256 →
        (d.base : Int) = max 0 ((c.base : Int) + ((count : Int) * 256 - c.base) / 2 ^ cfgFld s.hs.cfg Fd.HS_DRIFT_DRIFT_SHIFT) ∧ d.lowRun = 0) ∧
      ((count : Int) * 256 - c.base < -(cfgFld s.hs.cfg Fd.HS_DRIFT_DRIFT_BAND * 256 : Int) →
        (c.lowRun + 1 = 4 → d.base = count * 256 ∧ d.lowRun = 0) ∧ (c.lowRun + 1 ≠ 4 → d.base = c.base ∧ d.lowRun = c.lowRun + 1)) ∧
      ((cfgFld s.hs.cfg Fd.HS_DRIFT_DRIFT_BAND * 256 : Int) < (count : Int) * 256 - c.base → d.base = c.base ∧ d.lowRun = c.lowRun))

/-- LF frames: with VLF low the first frame waiting is reported not sent, else it starts, unless R227 defers it; a frame that
starts has the broadcast set and the bursts of its usable channels; its end, once its duration is over, excludes the shorted
channels and is booked; a diagnostic that is due excludes a channel or returns it; VLF_LOW follows VLF (06 R221-R229). UHF
windows: a window opens DELAY after its frame with the configured slots; a word within SYNC_ERR bits of SYNC opens a hypothesis,
and a fifth ends the oldest and counts HYP_DROP; a hypothesis fails or delivers its telegram, which LEN and CRC frame; at the
end each slot has its outcome (06 R234-R242). -/
def Obligations.LfFramesAndUhfWindows : Prop :=
  (∀ (s : State) (short : Nat) (r : LfReq) (rest : List LfReq), s.lf.waiting = r :: rest → s.lf.air = none →
    s.supply.lostRef38 = false → s.level ≠ 4 → s.pageAdmits 0x041000 = true →
    (s.lf.vlfMv < 6000 → exec (.lfFrameStart short) s = .next (State.pollOver (State.advance (State.updSession
      (State.showVlf { s with lf := { s.lf with waiting := rest, notSent := s.lf.notSent + 1 } }) (fun x => { x with polling := false }))))) ∧
    (6000 ≤ s.lf.vlfMv → s.welcomeDeferred r = false → exec (.lfFrameStart short) s = .next (s.lfStart (s.lfCompose r) short)) ∧
    (6000 ≤ s.lf.vlfMv → s.welcomeDeferred r = true → exec (.lfFrameStart short) s = .next s)) ∧
  (∀ (s : State) (short : Nat) (r : LfReq), ∃ a : LfAir, (s.lfStart r short).lf.air = some a ∧ a.req = r ∧ a.startedAt = s.deviceTime ∧
    a.asked = r.bursts ∧ (s.lfStart r short).lf.waiting = s.lf.waiting.tail ∧ (s.lfStart r short).lf.cfg = s.pageCfg 0x041000 ∧
    (∀ n, n < 8 → (bit a.broadcast n = true ↔ s.lfUsable n = true ∧ s.fld (Fd.LF_CH_BCAST n) = 1 ∧ bit r.bcast n = true) ∧
      (bit a.bursts n = true ↔ bit r.bursts n = true ∧ s.lfUsable n = true))) ∧
  (∀ (s u : State) (shorted l : List (Nat × Nat)) (a e : LfAir), s.lf.air = some a →
    a.startedAt + lfDuration s.lf.cfg a.req.data.length (maskList a.asked 8).length ≤ s.deviceTime →
    l = shorted.filter (fun c => decide (2 ≤ c.2 ∧ c.2 ≤ 4) && bit (a.broadcast ||| a.bursts) c.1) →
    u = l.foldl (fun t c => t.lfDiagnose c.1 c.2) s → e = a.ended (listMask (l.map (·.1))) u.deviceTime →
    exec (.lfFrameEnd shorted) s = .next (State.book
      (State.noteBursts { u with lf := { u.lf with air := none, lastEnd := u.deviceTime, ended := some e } } e)
      (.lf (min 2000 (lfCurrent (State.noteBursts { u with lf := { u.lf with air := none, lastEnd := u.deviceTime, ended := some e } } e).lf.cfg
          a.broadcast))
        (lfDuration (State.noteBursts { u with lf := { u.lf with air := none, lastEnd := u.deviceTime, ended := some e } } e).lf.cfg
          a.req.data.length 0 / 1000)))) ∧
  (∀ (s : State) (n st res : Nat) (why : DiagCause), s.fld (Fd.LF_CH_EN n) = 1 → st < 6 → bit (bankChannels s.domains) n = true →
    s.lfRuns = true → s.diagDue n why = true → exec (.lfDiag n st res why) s = .next
      { (s.lfDiagnose n st).setFld (Fd.LF_DIAG_RES_HZ n) res with
        lf := { s.lf with diagAt := s.lf.diagAt.set n s.deviceTime, tested := setBit s.lf.tested n } }) ∧
  (∀ (s : State) (n st : Nat), regsWf s.regs = true → n < 8 → st < 6 →
    (bit ((s.lfDiagnose n st).fld Fd.LF_STAT_EXCLUDED) n = true ↔ 1 ≤ st ∧ st ≤ 4)) ∧
  (∀ (s : State) (mv : Nat), exec (.vlfLowChange mv) s = .next (
    let t := State.setFld { s with lf := { s.lf with vlfMv := mv } } Fd.LF_STAT_VLF_LOW (if mv < 6000 then 1 else 0)
    if s.fld Fd.LF_STAT_VLF_LOW = (if mv < 6000 then 1 else 0) then t else t.raise 0x041000 2)) ∧
  (∀ (s : State) (a : LfAir) (w : UhfWindow), s.lf.ended = some a → s.windowOn = false → s.supply.lostRef38 = false →
    s.pageAdmits 0x042000 = true → a.endedAt + s.fld Fd.UHF_SLOT_DELAY_100US * 100000 ≤ s.deviceTime →
    w = { opensAt := a.endedAt + s.fld Fd.UHF_SLOT_DELAY_100US * 100000,
          slots := (match a.req.kind with | .repoll _ | .pair => 1 | _ => s.fld Fd.UHF_SLOT_SLOTS + 1),
          repoll := (match a.req.kind with | .repoll f => some f | _ => none),
          hyps := [], passed := [], failed := [], cfg := s.pageCfg 0x042000, past := a.past } →
    exec .uhfWindowOpen s = .next (State.updSession { s with uhf := some w, lf := { s.lf with ended := none } } (fun x =>
      if a.past.isNone && (a.req.kind == .challenge || a.req.kind == .welcome) then { x with polling := false } else x))) ∧
  (∀ (s : State) (w : UhfWindow) (word : Nat), s.uhf = some w → w.slotAt s.deviceTime < w.slots →
    (bitsDiffer word (cfgFld w.cfg Fd.UHF_SYNC_SYNC) ≤ cfgFld w.cfg Fd.UHF_MOD_SYNC_ERR → w.hyps.length < 4 →
      exec (.syncMatch word) s = .next { s with uhf := some { w with hyps := w.hyps ++ [(w.slotAt s.deviceTime, s.deviceTime)] } }) ∧
    (∀ h l, bitsDiffer word (cfgFld w.cfg Fd.UHF_SYNC_SYNC) ≤ cfgFld w.cfg Fd.UHF_MOD_SYNC_ERR → w.hyps = h :: l →
      4 ≤ w.hyps.length → exec (.syncMatch word) s = .next
      (((State.bump { s with uhf := some { w with
        hyps := l ++ [(w.slotAt s.deviceTime, s.deviceTime)], failed := h.1 :: w.failed } } Fd.UHF_CNT1_HYP_DROP).bump
        Fd.UHF_CNT0_FAILED).raise 0x042000 4)) ∧
    (cfgFld w.cfg Fd.UHF_MOD_SYNC_ERR < bitsDiffer word (cfgFld w.cfg Fd.UHF_SYNC_SYNC) → exec (.syncMatch word) s = .next s)) ∧
  (∀ (s : State) (w : UhfWindow) (i : Nat) (h : Nat × Nat) (raw : Bytes), s.uhf = some w → w.hyps[i]? = some h →
    exec (.hypothesisFailed i raw) s = .next (if telegramFails raw then
      State.bump { s with uhf := some { w with hyps := w.hyps.eraseIdx i, failed := h.1 :: w.failed } } Fd.UHF_CNT0_FAILED else s)) ∧
  (∀ (s u : State) (w v : UhfWindow) (i r0 r1 inp : Nat) (k : Nat × Nat) (h : Heard) (raw p : Bytes), s.uhf = some w →
    w.hyps[i]? = some k → telegramPayload raw = some p → inp = uhfInput w.cfg r0 r1 →
    h = { slot := k.1, payload := p, syncAt := k.2, input := inp, rssi := if inp = 0 then r0 else r1 } →
    v = { w with hyps := w.hyps.eraseIdx i, passed := w.passed ++ [h] } →
    u = ((((State.bump { s with uhf := some v } Fd.UHF_CNT0_PASSED).setFld Fd.UHF_RSSI_INPUT inp).setFld Fd.UHF_RSSI_RSSI_IN0
      r0).setFld Fd.UHF_RSSI_RSSI_IN1 r1).raise 0x042000 1 →
    exec (.uhfTelegram i raw r0 r1) s = .next (u.deliver v h)) ∧
  (∀ p : Bytes, 1 ≤ p.length → p.length ≤ 64 →
    telegramPayload (leBytes 1 p.length ++ p ++ beBytes 2 (crc16 (leBytes 1 p.length ++ p))) = some p) ∧
  (∀ (s v : State) (w : UhfWindow) (l : List (List (Nat × Nat))), s.uhf = some w → w.hyps = [] →
    w.opensAt + w.slots * w.slotUs * 1000 ≤ s.deviceTime →
    v = (State.showOutcomes { s with uhf := none } ((List.range w.slots).map (w.outcome (w.heard l)))).book
      (.uhf ((s.deviceTime + 300000 - w.opensAt) / 1000)) →
    (w.past.isSome = true → exec (.uhfWindowEnd l) s = .next v) ∧
    (w.past = none → v.acc.session = none → exec (.uhfWindowEnd l) s = .next v.pollOver) ∧
    (∀ x f, w.past = none → v.acc.session = some x → w.repoll = some f → 0 < w.slots →
      exec (.uhfWindowEnd l) s = .next (v.closeRepoll x w f (w.outcome (w.heard l) 0))) ∧
    (∀ x, w.past = none → v.acc.session = some x → w.repoll = none → exec (.uhfWindowEnd l) s = .next (
      (v.updSession (fun x => { x with
        polled := x.polled ++ x.repolls.map (fun r => (r.fob, r.count)),
        repolls := v.listRepolls x w (w.heard l) l })).nextRepoll))) ∧
  (∀ (s : State) (oc : List Nat) (n : Nat), n = (oc.filter (· == 2)).length →
    s.showOutcomes oc = (
      let u := (s.setFld Fd.UHF_SLOTRES_OUTCOME (((List.range oc.length).map (fun k => oc.getD k 0 * 4 ^ k)).sum)).bump
        Fd.UHF_CNT1_CORRUPT n
      if n = 0 then u else u.raise 0x042000 2)) ∧
  (∀ (w : UhfWindow) (heard k : Nat), w.outcome heard k =
    if ∃ t ∈ w.passed, t.slot = k then (if k ∈ w.failed ∧ bit heard k = true then 3 else 1) else if bit heard k = true then 2 else 0)

/-- The backup coil: LF7 drives for a session on START, with VLF at 6.0 V or more, which is the model's choice
(notes/assumptions 111); after the charging time it ends NO_TRANSPONDER or sends the BACKUP frame with a fresh nonce; a VALID
reply in time is kept for the decision, another one is answered by R300 and steps 3 and 4 repeat while retries are left
(notes/assumptions 112); once the field is off the session ends DONE, and AUTH_FAIL where it brought no key (06 R231; 08 R295,
R312). Ends on time: SESSION_MS after it opened a session ends with the reason of the last check it failed, a ranging under way
or owed counting as its outcome (notes/assumptions 115), a welcome session in silence, and none while no decision may be taken;
a release pulse that is over returns its pin (06 R206; 08 R288, R313, R315). -/
def Obligations.BackupCoilAndSessionEnds : Prop :=
  (∀ (s u : State) (x : Session) (k : Bool), s.fld Fd.BC_CFG_EN ≠ 0 → s.bc = none → s.supply.lostRef38 = false → 6000 ≤ s.lf.vlfMv →
    s.pageAdmits 0x043000 = true → u = (if s.acc.session.isNone then s.openSession .backupCoil 16 else s) → u.acc.session = some x →
    x.target = 16 → u.lf.air = none →
    exec (.bcSessionStart k) s = .next (State.setFld { u with bc := some {
      startedAt := u.deviceTime, nonceV := [], exchange := false, downEnd := 0, till := u.deviceTime + 100000000,
      cfg := u.pageCfg 0x043000 } } Fd.BC_STAT_STATE 1)) ∧
  (∀ (s u : State) (b : BcSession), s.bc = some b → b.exchange = false → s.drawWaits (s.fld Fd.HW_ROLE_LEAD) = false →
    b.startedAt + cfgFld b.cfg Fd.BC_CFG_POWERUP_MS * 1000000 ≤ s.deviceTime →
    u = (s.draw 8).updSession (fun x => { x with source := .backupCoil, nonceV := s.drawn 8, cmd := 0x14, bursts := 0, sent := 0 }) →
    exec (.bcSessionStart false) s = .next ((s.bcOff 4).bcDecide) ∧
    exec (.bcSessionStart true) s = .next (State.emit (State.setFld (State.setFld { u with bc := some { b with
        exchange := true, nonceV := s.drawn 8, downEnd := u.deviceTime + 88 * 250000,
        till := max b.till (u.deviceTime + 88 * 250000 + 36000000) } } Fd.AC_STAT_SOURCE 3) Fd.BC_STAT_STATE 2)
      (.backupCoil ([0x14] ++ u.vidBytes ++ s.drawn 8)))) ∧
  (∀ (s u : State) (b : BcSession) (x : Session) (raw p : Bytes), s.bc = some b → s.acc.session = some x →
    telegramPayload raw = some p → s.bcInTime b p.length = true → u = s.askOwn (answerCmacBytes p) →
    exec (.bcReply raw) s = .next (
      match u.classifyAnswer x (u.fob? (leAt p 0 1 % 16)) p 0x14 0 true, u.fob? (leAt p 0 1 % 16) with
      | .valid, some r => ((u.acceptAnswer r p).updSession (fun x => { x with bcFob := some r.id })).advance
      | c, _ => (u.rejectAnswer x c (leAt p 0 1 % 16) 0 0 (slice p 1 5)).bcAgain b)) ∧
  (∀ (s : State) (b : BcSession), s.bc = some b → b.till ≤ s.deviceTime → exec .bcSessionEnd s = .next ((s.bcOff 3).bcDecide)) ∧
  (∀ (s : State) (x : Session), s.acc.session = some x → x.source = .backupCoil → s.decisionHeld = false → x.bcFob = none →
    s.bcDecide = s.decision {
      target := 16, fob := 0xFF, status := .authFail, reason := 1, zone := 0xFF, bound := 0xFFFF, score := 0, rng := 0xFF,
      source := .backupCoil }) ∧
  (∀ (s : State) (x : Session), s.acc.session = some x → x.openedAt + polSessionMs s.policy * 1000000 ≤ s.deviceTime →
    exec .sessionTimeout s = .next (if s.decisionHeld then s else if x.source = .welcome then s.endSession
      else s.settle (s.cutOff x).failure)) ∧
  (∀ (s : State) (g t : Nat), mapGet s.acc.pulses g = some t → t ≤ s.deviceTime → ∃ u, exec (.releasePulseEnd g) s = .next u ∧
    u.acc.pulses = mapDel s.acc.pulses g ∧ u.regs = s.regs ∧ u.acc.session = s.acc.session)

/-! ### Ranging (07) and the access sessions' ends (08) -/

/-- A ranging round: POLL on the next usable plan entry, with the domains of its ports alone on and tested, or the request ends
ABORTED; a RESPONSE in its window gives a coarse time less RX_DELAY; FINAL goes out on the 512-unit grid after the reply time;
then the REPORT; a timeout of either window and the verdict end the round. The timestamp unit holds the STS of the frame it
awaits alone (07 R253-R265, R275). -/
def Obligations.RangingRounds : Prop :=
  (∀ (s : State) (t1 cleared fob : Nat) (low : Bool) (y : Session), s.uwb.fob = some fob → s.acc.session = some y →
    s.uwb.round = none → s.pageAdmits 0x050000 = true →
    (s.rangingOver y = true ∨ s.planEntry s.uwb.planIdx = none →
      exec (.uwbRoundStart t1 cleared low) s = .next (s.rangingDone fob { outcome := .aborted })) ∧
    (∀ (r need : Nat) (u v : State) (x : Round), s.rangingOver y = false → s.planEntry s.uwb.planIdx = some r →
      need = portMask [(s.planPorts r).1, (s.planPorts r).2] → u = (s.testPorts need cleared).portsPower need →
      x = { idx := u.uwb.roundsRun, n := y.rounds, txPort := (s.planPorts r).1, rxPort := (s.planPorts r).2,
            t1 := (t1 / 512 * 512 + u.uwbFld (Fd.UWB_CAL_TX_DELAY (s.planPorts r).1)) % 2 ^ 40, responseSeen := false, t4c := 0,
            t5 := 0, finalSent := false, reportSeen := false, report := [], startedAt := u.deviceTime, found := none,
            reportC1 := none } →
      v = { u with uwb := { u.uwb with planIdx := r + 1, twinClaimed := true } } →
      exec (.uwbRoundStart t1 cleared true) s = .next
        (((v.setFldBit Fd.RNG_PORT_FAULT x.txPort true).raise 0x051000 4).endRound x { outcome := .aborted } false) ∧
      (∀ w : State, w = v.askOwn (2 * v.stsBytes) → exec (.uwbRoundStart t1 cleared false) s = .next (State.emit
        { w with uwb := { w.uwb with round := some x, stsHeld := [(1, w.sts y.rounds 1)] } }
        (.uwbPoll x.txPort fob (w.sts y.rounds 0)))))) ∧
  (∀ (s : State) (x : Round) (t4c : Nat), s.uwb.round = some x → x.responseSeen = false → exec (.uwbResponseRx t4c) s = .next (
    let t := (t4c + 2 ^ 40 - s.uwbFld (Fd.UWB_CAL_RX_DELAY x.rxPort)) % 2 ^ 40
    let d := (t + 2 ^ 40 - x.t1 % 2 ^ 40) % 2 ^ 40 * 10
    if (s.uwbFld Fd.UWB_KEYWIN_REPLY_MIN_US - s.uwbFld Fd.UWB_TIMING_GUARD_US) * 638976 ≤ d ∧
       d ≤ (s.uwbFld Fd.UWB_KEYWIN_REPLY_MAX_US + s.uwbFld Fd.UWB_TIMING_GUARD_US) * 638976 then
      { s with uwb := { s.uwb with round := some { x with responseSeen := true, t4c := t }, stsHeld := [] } }
    else s)) ∧
  (∀ (s : State) (x : Round) (p : Bool), s.uwb.round = some x → x.responseSeen = false → x.startedAt + s.windowNs ≤ s.deviceTime →
    exec (.uwbResponseTimeout p) s = .next
    (s.endRound x { outcome := if p then .sfdFail else .noResponse } false)) ∧
  (∀ (s u : State) (x : Round) (fob : Nat), s.uwb.round = some x → s.uwb.fob = some fob → x.responseSeen = true → x.finalSent = false →
    x.timeOf (s.finalGrid x.t4c) ≤ s.deviceTime → u = s.askOwn (2 * s.stsBytes) →
    exec .uwbFinalTx s = .next (State.emit { u with uwb := { u.uwb with
      round := some { x with
        finalSent := true,
        t5 := ((x.t4c + u.uwbFld Fd.UWB_TIMING_REPLY_US * 638976 / 10 + 511) / 512 * 512 % 2 ^ 40 +
          u.uwbFld (Fd.UWB_CAL_TX_DELAY x.txPort)) % 2 ^ 40 },
      stsHeld := [(3, u.sts x.n 3)] } } (.uwbFinal x.txPort fob (u.sts x.n 2)))) ∧
  (∀ (s : State) (x : Round) (p : Bytes), s.uwb.round = some x → x.finalSent = true → x.reportSeen = false →
    exec (.uwbReportRx p) s = .next { s with uwb := { s.uwb with
      round := some { x with reportSeen := true, report := p }, stsHeld := [] } }) ∧
  (∀ (s : State) (x : Round) (c : Candidate), s.uwb.round = some x → s.rangedCandidate = some c →
    (x.finalSent = true → x.reportSeen = false ∨ x.reportC1 = none →
      x.timeOf x.t5 + s.windowNs ≤ s.deviceTime → exec .uwbReportTimeout s = .next (s.endRound x (s.judge x c none) true)) ∧
    (x.reportSeen = true → s.decisionHeld = false →
      exec .uwbVerdict s = .next (s.endRound x (s.judge x c (some x.report)) true)))

/-- The detector on a record: the first path is looked for at the first tap of 64-255 whose energy reaches the greater of the
two thresholds, squared; C4 is the greatest whole number at or below 255 - 12 (q + 20); a record of RESPONSE gives the round its
components by the thresholds that the request read, one of REPORT gives C1. The model rounds components down and reads the taps
of C4 as notes/assumptions 25 has them (07 R270, R272, R279, R283). -/
def Obligations.FirstPathDetector : Prop :=
  (∀ (ntm pmult i : Nat) (es : List Nat), fpIndex (fpThreshold ntm pmult es) es = some i ↔
    64 ≤ i ∧ i < 256 ∧
    (∀ j, 64 ≤ j → j ≤ i → (j = i ↔ ntm ^ 2 * (es.take 64).sum * 256 ≤ 65536 * es.getD j 0 ∧
      (es.drop 64).all (fun e => pmult ^ 2 * e ≤ 65536 * es.getD j 0) = true))) ∧
  (∀ (p e fr n : Nat), 0 < p ∨ 0 < e → 1 ≤ n → n ≤ 255 →
    (n ≤ cirC4 p e fr ↔ p ^ 120 * 10 ^ n ≤ 10 ^ 15 * (29 * e) ^ 120)) ∧
  (∀ (n : Nat), root n ^ 2 ≤ n ∧ (n < 2 ^ 128 → n < (root n + 1) ^ 2)) ∧
  (∀ (s : State) (x : Round) (r : CirRec), s.uwb.round = some x →
    (r.kind = 0 → x.responseSeen = true → ∃ m, (s.takeRecord r).uwb.round = some { x with found := some m } ∧
      m = measureCir (s.uwbFld Fd.UWB_DETECT_NTM) (s.uwbFld Fd.UWB_DETECT_PMULT) r (fun k => Config.freeNat (s.draws + k))) ∧
    (r.kind = 1 → x.finalSent = true → (s.takeRecord r).uwb.round = some { x with reportC1 := some (cirC1 r.norm) }))

/-- DIST_CM is num / den times 0.469176 rounded to the nearest centimetre, halves away from zero (07 R268). -/
def Obligations.DistanceRounding : Prop :=
  ∀ (num : Int) (den : Nat), 0 < den →
    2 * (distCm num den * (den * 1000000) - num * 469176).natAbs ≤ den * 1000000 ∧
    (2 * (distCm num den * (den * 1000000) - num * 469176).natAbs = den * 1000000 →
      (num * 469176).natAbs ≤ (distCm num den * (den * 1000000)).natAbs)

/-- A VALID round has every component, REPORT's C1 and KEY_SCORE at MIN_SCORE or more, its distance between the two limits, and
the lowest of the six as its score, a reply time within the key's window and a clock offset within PPM_MAX; the bound is max(0,
DIST_CM) + MARGIN_CM (07 R248, R272, R275). -/
def Obligations.ValidRound : Prop :=
  (∀ (s : State) (x : Round) (c : Candidate) (rep : Option Bytes), s.judge x c rep =
    s.judgeOpened x (x.found.getD CirFound.none) x.reportC1 (rep.bind (openReport c x.n))) ∧
  (∀ (s : State) (x : Round) (m : CirFound) (c1 : Option Nat) (t4 tround1 treply2 : Nat) (opened : Option (Nat × Nat × Nat × Nat)) (r : RngResult),
    r = s.judgeOpened x m c1 opened → r.outcome = .valid → s.uwbFld Fd.UWB_POLICY_MIN_SCORE ≤ 255 →
    (t4 : Int) = ((x.t4c : Int) + m.firstPath - 6144) % 2 ^ 40 → tround1 = (t4 + 2 ^ 40 - x.t1 % 2 ^ 40) % 2 ^ 40 →
    treply2 = (x.t5 + 2 ^ 40 - t4) % 2 ^ 40 →
    s.uwbFld Fd.UWB_POLICY_MIN_SCORE ≤ c1.getD 0 ∧ s.uwbFld Fd.UWB_POLICY_MIN_SCORE ≤ r.score ∧
    (∀ v ∈ [r.comps.c1, r.comps.c2, r.comps.c3, r.comps.c4, r.comps.c5, r.keyScore], r.score ≤ v) ∧
    r.score ∈ [255, r.comps.c1, r.comps.c2, r.comps.c3, r.comps.c4, r.comps.c5, r.keyScore] ∧ r.comps = m.comps ∧
    -(s.uwbFld Fd.UWB_POLICY_NEG_LIMIT_CM : Int) ≤ r.dist ∧ r.dist ≤ s.uwbFld Fd.UWB_LIMIT_D_LIMIT_CM ∧
    (s.bound r : Int) = max 0 r.dist + s.uwbFld Fd.UWB_POLICY_MARGIN_CM ∧
    ∃ treply1 tround2 flags num den, opened = some (treply1, tround2, r.keyScore, flags) ∧
      s.uwbFld Fd.UWB_KEYWIN_REPLY_MIN_US * 638976 ≤ treply1 * 10 ∧ treply1 * 10 ≤ s.uwbFld Fd.UWB_KEYWIN_REPLY_MAX_US * 638976 ∧
      num = tofNum tround1 tround2 treply1 treply2 ∧ den = tofDen tround1 tround2 treply1 treply2 ∧ r.dist = distCm num den ∧
      ((clockOffset tround2 treply2 num den).1.natAbs : Int) * 1000000 ≤
        (s.uwbFld Fd.UWB_POLICY_PPM_MAX : Int) * (clockOffset tround2 treply2 num den).2)

/-! ### Power states (18) -/

/-- Entries and returns: each parked state is entered, left or given up where its conditions hold; a pause of LINGER_MS above
10,000 counts as 10,000, which is the model's choice (log 119) (18 R628-R634, R637, R638, R645). Wakes: a pin that has been at
the level POL names for as many samples as its filter asks for is active, an armed one that becomes so is latched as source 2 +
k, the alarm once as source 10; a wake is latched with its time; a welcome poll opens a session, or in Tarn uses a staged nonce
or asks for an excursion (18 R639, R641-R643). -/
def Obligations.PowerStates : Prop :=
  (∀ (s : State) (w : List WakeIn), s.fld Fd.PW_CFG_EDDY_IDLE_US ≠ 0 → s.fld Fd.PW_STAT_STATE = 0 → s.gatesOpen = true →
    s.eddyIdle = true → s.power.busyAt + s.fld Fd.PW_CFG_EDDY_IDLE_US * 1000 ≤ s.deviceTime → exec (.eddyEnter w) s = .next
      (((s.setPowerState 1).setDomains (maskDiff s.domains eddyOff)).afterEntry w)) ∧
  (∀ (s : State) (src : Nat) (data : Word), s.pageOpen src 0x0E0000 = true →
    (data.toNat % 8 = 4 → s.secure src = false → exec (.pwTarget src data) s = .next (s.errCap 0x0E0000 src 0x80 0x100 data.toNat)) ∧
    (data.toNat % 8 = 1 ∨ 4 < data.toNat % 8 → exec (.pwTarget src data) s = .next s) ∧
    (data.toNat % 8 ≠ 1 → data.toNat % 8 ≤ 4 → (data.toNat % 8 = 4 → s.secure src = true) → exec (.pwTarget src data) s = .next
      (((s.setFld Fd.PW_REQ_TARGET (data.toNat % 8)).updPower (fun p => { p with reqNormal := !s.secure src })).noteDefer s.deferred))) ∧
  (∀ (s : State) (w : List WakeIn) (t : Nat), t = s.fld Fd.PW_REQ_TARGET → t ≠ 0 → s.fld Fd.PW_STAT_STATE ≤ 1 → s.gatesOpen = true →
    (∀ n, n < 7 → s.parkCond t n = true) → exec (.parkEntry w) s = .next
      ((if t = 2 then s.enterPond else s.enterTarn t).afterEntry w)) ∧
  (∀ (s : State) (w : List WakeIn), s.fld Fd.PW_STAT_STATE = 2 → s.fld Fd.PW_CFG_POND_MAX_S ≠ 0 →
    s.power.pondAt + s.fld Fd.PW_CFG_POND_MAX_S * 1000000000 ≤ s.deviceTime → (∀ n, n < 7 → s.parkCond 3 n = true) →
    exec (.pondTimeout w) s = .next ((s.enterTarn 3).afterEntry w)) ∧
  (∀ (s : State) (w : List WakeIn), s.fld Fd.PW_STAT_EXCURSION ≠ 0 → s.power.perstLow = true → s.acc.queued = [] →
    (∀ n, 1 ≤ n → n < 7 → s.parkCond 3 n = true) →
    s.power.lingerAt + min 10000 (s.fld Fd.PW_MISC_LINGER_MS) * 1000000 ≤ s.deviceTime → exec (.lingerEnd w) s = .next ((s.enterTarn 3).afterEntry w)) ∧
  (∀ (s u : State), s.fld Fd.PW_STAT_STATE = 3 → s.fld Fd.PW_STAT_EXCURSION = 0 →
    u = { s with
      supply := { s.supply with io33Low := true, charger := false }, uhf := none,
      lf := { s.lf with air := none, waiting := [], ended := none }, power := { s.power with poll := none, heard := [] } } →
    exec .tarnToDry s = .next (((u.hsOff.setPowerState 4).setDomains 1).levelPins)) ∧
  (∀ (s : State) (rail images : Bool), s.returnWanted = true → s.retrying .rail = false →
    (s.power.railFails = 0 → exec (.parkReturn rail images) s = .next (s.parkReturn rail images)) ∧
    (1 ≤ s.power.railFails → s.power.railFails ≤ 2 → s.power.railAt + 10000000 ≤ s.deviceTime →
      exec (.railOnRetry rail images) s = .next (s.parkReturn rail images))) ∧
  (∀ (s u : State) (images : Bool), s.fld Fd.PW_STAT_STATE = 4 →
    u = State.latchWake { s with supply := { s.supply with io33Low := false, pwrgdLow := false, charger := true } } .pwrgd →
    exec (.pwrgdReturn images) s = .next (if u.power.perstLow then ((u.setPowerState 3).setDomains 3).levelPins
      else if images then u.returnFlow else u.abandonReturn)) ∧
  (∀ (s u : State) (k n : Nat) (high active : Bool), k < 8 →
    active = (high == decide (s.fld (Fd.PW_WAKE_POL k) = 1)) →
    u = s.updPower (fun p => { p with pins := if active then setBit p.pins k else clrBit p.pins k }) →
    exec (.wakePin k high n) s = .next (
      if n < [1, 4, 33].getD (s.fld (Fd.PW_WAKE_FILT k)) 328 then s
      else if active = true ∧ bit s.power.pins k = false then u.pinWake k else u)) ∧
  (∀ (s : State) (k : Nat), s.pinArmed k = true → s.startPin k = false → s.pinWake k = s.latchWake (.pin k)) ∧
  (∀ (s : State) (k : Nat), s.pinArmed k = false → s.pinWake k = s) ∧
  (∀ (s : State), s.alarmAt ≠ 0 → s.power.alarmed = false → s.alarmAt ≤ s.deviceTime → exec .alarmWake s = .next
    ((s.updPower (fun p => { p with alarmed := true })).latchWake .alarm)) ∧
  (∀ (s u : State), s.fld Fd.RV_PLAN_WELCOME_S ≠ 0 → s.level = 1 →
    s.power.welcomeAt + s.fld Fd.RV_PLAN_WELCOME_S * 1000000000 ≤ s.deviceTime → s.acc.session = none → s.acc.pairing = none →
    s.power.poll = none → u = s.updPower (fun p => { p with welcomeAt := s.deviceTime }) → exec .welcomePoll s = .next (
      if s.gatesOpen then u.eddyExit.openSession .welcome 32
      else if s.fld Fd.PW_STAT_STATE = 3 then
        match s.power.nonces with
        | n :: rest => u.tarnPoll n rest
        | [] => u.setAcc (fun a => { a with queued := queueInsert ⟨.welcome, 32, s.deviceTime⟩ a.queued })
      else u)) ∧
  (∀ (s : State) (w : WakeSrc), regsWf s.regs = true → bit ((s.latchWake w).fld Fd.PW_WAKE_STAT_SRC) w.code = true ∧
    (s.fld Fd.PW_WAKE_STAT_SRC = 0 → (s.latchWake w).fld Fd.PW_WAKE_TIME_LO_TIME = s.deviceTime % 2 ^ 32))

/-- The Reservoir's credit: each second adds B x 1,000 / 86,400 nAh with the rest carried, never above the cap; a plan of each
minute takes the measured figures (18 R650-R652). Power readings, pace windows, the voltage request and the PMIC: a reading due
is judged or its NACK noted, a window recomputes every pace value (M0 and M1 with PD13 on, the model's choice, log 95), the
request moves by 5 mV within 720 mV and VMAX, for a hot slow part whatever AVS_EN says, and a NACKed transaction has three
retries (01 R36-R38; 02 R86; 18 R648, R655, R656; 21 R724, R725). -/
def Obligations.PowerAndReservoir : Prop :=
  (∀ (s : State) (nc : Nat), s.ledger.creditAt + 1000000000 ≤ s.deviceTime → exec (.reservoirCredit nc) s = .next (
    let t := State.showStore { s with ledger := s.ledger.creditSecond }
    if t.parked then t.spend nc else t)) ∧
  (∀ (l : LedgerSt), l.budget ≠ noLimit → l.credit < 86400 → l.creditSecond.credit < 86400 ∧
    l.creditSecond.store ≤ l.cap ∧ (l.creditSecond.store ≠ l.cap →
      86400 * (l.creditSecond.store - l.store) + (l.creditSecond.credit : Int) = l.credit + 1000 * l.budget)) ∧
  (∀ (s u : State) (i : PlanIn), s.ledger.planAt + 60000000000 ≤ s.deviceTime →
    u = { s with ledger := { s.ledger with
      measureNc := i.measureNc, refilled := false,
      demand := s.ledger.demand.filter (fun (c : Nat × Nat) => decide (s.deviceTime < c.1 + 7 * 86400000000000)) } } →
    exec (.reservoirPlan i) s = .next ((((u.setFld Fd.RV_BASE_BASE_NA (min 65535 i.baseNa)).setFld Fd.RV_BASE_QW_UC
      (min 65535 i.welcomeUc)).setFld Fd.RV_DEMAND_NAH_DAY (min 0xFFFFFFFF u.meanDemand)).plan (if s.ledger.refilled then 4 else 0))) ∧
  (∀ (s u : State) (mw : Option Nat) (ack : Bool), s.power.readAt + s.readEvery ≤ s.deviceTime → s.retrying .telemetry = false →
    u = (s.updPower (fun p => { p with readAt := s.deviceTime })).readRails → exec (.powerReading mw ack) s = .next (
      match mw with
      | some v => if u.fld Fd.PW_STAT_STATE = 0 then u.capReading v ack
          else if u.parked then u.spend (u.railCharge v s.readEvery) else u
      | none => u.pmicNack .telemetry)) ∧
  (∀ (s : State) (counts : List Nat), s.power.paceAt + 106666 ≤ s.deviceTime → s.supply.lostRef38 = false →
    regsWf s.regs = true → ∃ t, exec (.paceWindow counts) s = .next t ∧ t.power.paceAt = s.deviceTime ∧ t.power.paceOn = s.domains ∧
      (∀ n, n < 14 → t.fld (Fd.PACE_M_PACE n) =
        if bit s.domains (meterDomain n) then min 65535 (1024 * counts.getD n 0 / Config.paceDivisor n) else 0)) ∧
  (∀ (s u : State) (ack : Bool), s.power.avsAt + 1000000 ≤ s.deviceTime → s.avsPlace = true → s.retrying .vout = false →
    s.power.hot = 0 → s.capped = false → u = s.updPower (fun p => { p with avsAt := s.deviceTime }) →
    exec (.avsEvaluate ack true true) s = .next
      (u.askCore (min (max 720 (min 900 (s.fld Fd.AVS_CTL_VMAX_MV))) (s.fld Fd.PACE_STAT_VCORE_MV + 5)) ack)) ∧
  (∀ (s u : State) (ack : Bool), s.power.avsAt + 1000000 ≤ s.deviceTime → s.avsRuns = true → s.retrying .vout = false →
    s.power.hot = 0 → s.power.tookPart ≠ 0 → u = s.updPower (fun p => { p with avsAt := s.deviceTime, hot := 0 }) →
    exec (.avsEvaluate ack false false) s = .next (
      if s.fld Fd.PACE_STAT_PACE_MIN < 1024 then
        (if s.capped then u else u.askCore (min (max 720 (min 900 (s.fld Fd.AVS_CTL_VMAX_MV))) (s.fld Fd.PACE_STAT_VCORE_MV + 5)) ack)
      else if 1075 < s.fld Fd.PACE_STAT_PACE_MIN then u.askCore (max 720 (s.fld Fd.PACE_STAT_VCORE_MV - 5)) ack else u)) ∧
  (∀ (s : State) (rail : Nat) (st : Option Nat), exec (.pmicAlert rail st) s = .next (
    let u := (s.setFld Fd.PM_STAT_RAIL (rail % 8)).pmbus rail 0x79 []
    match st with
    | some v => u.pmicStatus v
    | none => u.pmicNack .status)) ∧
  (∀ (s : State) (k : PmicKind) (r : PmicKind × Nat × Nat), s.power.retries = [r] → r.1 = k → r.2.2 + 1000000 ≤ s.deviceTime →
    (r.2.1 < 2 → exec (.pmicRetry k none) s = .next (s.updPower (fun p => { p with retries := [(k, r.2.1 + 1, s.deviceTime)] }))) ∧
    (2 ≤ r.2.1 → exec (.pmicRetry k none) s = .next ((s.updPower (fun p => { p with retries := [] })).pmicFail k)) ∧
    (∀ v, k = .status → exec (.pmicRetry k (some v)) s = .next ((s.updPower (fun p => { p with retries := [] })).pmicStatus v)))

/-! ### Halves and comparators (17) -/

/-- The warden: a silent half is fenced for cause SILENT; the Lead's lease is renewed for 2 ms; with half a millisecond left
commits stop, and an expired lease is shown as held no more; late or stuck units are retired, by parity under the debugger too
(log 120); probation ends BAD at a failed test and after three passes in service, an engine in a slot that had none; a bank
fails over, is tested and comes back; a half rejoins or is left out (01 R42, R49; 17 R595-R597, R607, R610-R612, R621-R623; 19
R667). COMPARE_VERDICT, on a command in paired duty or a decision of the access session that runs: with both verdicts EQUAL and
the folds agreeing, what was compared takes effect on this record; any infrastructure fault is charged; UNEQUAL by both paths is
a mismatch, kept until a run agrees (06 R206; 17 R604-R606). -/
def Obligations.HalvesAndComparators : Prop :=
  (∀ (s : State) (h : Half), s.halfUp h = true → s.halvesOn = true → exec (.halfSilent h) s = .next (s.fence h .silent)) ∧
  (∀ (s u : State), s.halves.lost = false → s.halvesOn = true → s.halfUp s.lead = true → s.txns.contains (.own .epoch) = false →
    u = { s with halves := { s.halves with leaseEnd := s.deviceTime + 2000000, stopped := false } } →
    exec .leaseRenewal s = .next
      ((((u.setFld Fd.HW_ROLE_LEASE 1).setFld Fd.HW_ROLE_LEAD (halfNum s.lead)).bump Fd.HW_LEASE_RENEWALS).advance)) ∧
  (∀ (s u : State), s.halves.leaseEnd ≤ s.deviceTime + 500000 → s.halvesOn = true →
    u = { s with halves := { s.halves with stopped := true } } → u.canCommit = false ∧ exec .leaseExpiry s = .next
      (if s.deviceTime < s.halves.leaseEnd then u else u.setFld Fd.HW_ROLE_LEASE 0)) ∧
  (∀ (s : State) (u : UnitRef), s.halfUp u.half = true → exec (.unitWatchdog u true) s = .next (s.retire u 2) ∧
    (s.heldByDebug u = false → exec (.unitWatchdog u false) s = .next (s.retire u 3) ∧
      (u.half ≠ s.lead → exec (.lateRecord u) s = .next (s.retire u 4)))) ∧
  (∀ (s v : State) (u : UnitRef) (r : Retired), s.halves.retired.find? (fun r => r.unit == u) = some r → r.bad = false →
    r.testAt ≤ s.deviceTime → s.halfUp u.half = true →
    v = (((s.updRetired u (fun _ => none)).setProbation u false).setService u true).unitProbation u 3 r.late 0 →
    exec (.probationTest u false) s = .next
      (((s.updRetired u (fun x => some { x with bad := true })).setProbation u false).unitProbation u 4 r.late 0) ∧
    (r.passes < 2 → exec (.probationTest u true) s = .next
      (s.updRetired u (fun x => some { x with passes := x.passes + 1, testAt := s.deviceTime + 1000000000 }))) ∧
    (2 ≤ r.passes → (u.kind ≠ .engine → exec (.probationTest u true) s = .next (v.setSpares.serve 16)) ∧
      (u.kind = .engine → exec (.probationTest u true) s = .next (
        match (List.range 32).find? (fun j => v.fld (match u.half with
          | .north => Fd.EN_MAP_N_REMOTE j | .south => Fd.EN_MAP_S_REMOTE j) == 1) with
        | some j => (v.refillSlot u.half j).setSpares
        | none => v.setSpares.serve 16)))) ∧
  (∀ (s u v : State) (h : Half) (i b : Nat) (ok : Bool), i < 2 → s.halfUp h = true → b = 2 * halfNum h + i →
    u = ((((s.setFld Fd.HW_PATHS_BANKS (clrBit (s.fld Fd.HW_PATHS_BANKS) b)).bump Fd.HW_CNT_FAILOVER_BANK).post 0 0x0032 srcDevice
      (leBytes 1 5 ++ leBytes 1 (halfNum h) ++ leBytes 1 i ++ leBytes 1 2 ++ [0xFF, 0xFF])).raise 0x0D0000 4) →
    v = (if i = halfNum h ∧ u.halfUp (otherHalf h) = true then ((u.moveJobs .hammer h).moveJobs .digest h).moveJobs .anvil h else u) →
    exec (.bankFail h i ok) s = .next (
      if bit (s.fld Fd.HW_PATHS_BANKS) b = false then s
      else if ok then v.setFld Fd.HW_PATHS_REBUILD (setBit (v.fld Fd.HW_PATHS_REBUILD) b)
      else ((v.post 0 0x0032 srcDevice (leBytes 1 5 ++ leBytes 1 (halfNum h) ++ leBytes 1 i ++ leBytes 1 7 ++ [0xFF, 0xFF])).raise
        0x0D0000 4).fence h .beyondRepair)) ∧
  (∀ (s u : State) (h : Half) (i b : Nat), i < 2 → b = 2 * halfNum h + i → bit (s.fld Fd.HW_PATHS_REBUILD) b = true →
    u = s.setFld Fd.HW_PATHS_REBUILD (clrBit (s.fld Fd.HW_PATHS_REBUILD) b) →
    exec (.bankRebuilt h i) s = .next (u.setFld Fd.HW_PATHS_BANKS (setBit (u.fld Fd.HW_PATHS_BANKS) b))) ∧
  (∀ (s u v : State) (h : Half) (since : Nat), s.halves.resyncAt = some (h, since) →
    u = { (s.fence h .resyncFail) with halves := { (s.fence h .resyncFail).halves with resyncAt := none } } →
    v = (((((State.halfUnitsOn { s with halves := { s.halves with resyncAt := none } } h).setFld (roleField h) 1).setFld
        (Fd.WH_STAT_STATE (halfNum h)) 2).setFld (Fd.BW_STAT_INST (halfNum h)) 1).setFld Fd.HW_ROLE_SOLO 0) →
    ((s.fld (Fd.WH_STAT_STATE (halfNum h)) = 6 → exec (.rejoin h true) s = exec (.rejoin h false) s) ∧
      exec (.rejoin h false) s = .next ((u.setFld (roleField h) 0).rejoinEvent h 1 ((s.deviceTime - since) / 1000))) ∧
    (s.fld (Fd.WH_STAT_STATE (halfNum h)) ≠ 6 → exec (.rejoin h true) s = .next
      (((((v.catchUp h).drawLink h).drawCheck).drawMesh.rejoinEvent h 0 ((s.deviceTime - since) / 1000)).serve 16))) ∧
  (∀ (s : State) (k : CmdKey) (v : Verdict) (x : Compare), s.halves.lost = false → s.gatesOpen = true → x = s.compareOf k →
    (k = ownKey → s.acc.session.isSome = true) →
    (k ≠ ownKey → ∃ c, s.cmd? k = some c ∧ s.pairedCmd c = true ∧ s.admissible c = true) →
    (v.parity = none → v.check434 = none → v.eqN = true → v.eqS = true → v.folds = true →
      (k = ownKey → exec (.compareVerdict k v) s = .next
        (((s.attribute x.runs (s.resultRecord k v.unitL v.effL)).endCompare k).advance)) ∧
      (k ≠ ownKey → exec (.compareVerdict k v) s = .next
        (((s.attribute x.runs (s.resultRecord k v.unitL v.effL)).endCompare k).runOpcode k))) ∧
    (v.parity = none → v.check434 = none → v.eqN = false → v.eqS = false → v.folds = true →
      exec (.compareVerdict k v) s = .next (s.mismatch x v)) ∧
    (v.parity = none → v.check434 = none → v.eqN ≠ v.eqS → exec (.compareVerdict k v) s = .next
      (s.infraFault x v 1 (s.chargedHalves k [if v.eqN then .south else .north]))) ∧
    (v.parity = none → v.check434 = none → v.eqN = v.eqS → v.folds = false → exec (.compareVerdict k v) s = .next
      (s.infraFault x v 2 (s.chargedHalves k [.north, .south]))) ∧
    (∀ h, v.parity = some h → exec (.compareVerdict k v) s = .next (s.infraFault x v 3 (s.chargedHalves k [h]))) ∧
    (∀ h, v.parity = none → v.check434 = some h → exec (.compareVerdict k v) s = .next
      (s.infraFault x v 4 (s.chargedHalves k [h]))))

/-! ### Entropy (15) -/

/-- Health tests and phases: a window with 41 equal samples in a row fails with the cause of its stream, one whose first value
occurs 800 times with cause 4, a passing one in SERVICE adds its von Neumann bits; the fourth failure of a second in SERVICE
halts the source; repetition counts, dead and locked oscillators fail with their cause; a phase ends in SERVICE (15 R536-R541,
R552). WH_CTL and the raw FIFO: a refused RAW_EN is recorded with cause 0x80, an admitted one takes the half to RAW, TEST marks
the halves; a read takes the next word, 0 while it is empty; a reseed is the Bellows's own (15 R541, R546-R548, R552). -/
def Obligations.Wellheads : Prop :=
  (∀ (s : State) (h : Half) (a b : List Bool), a.length = 1024 → b.length = 1024 → s.whState (halfNum h) = 2 →
    exec (.healthWindow h a b) s = .next (
      if longRun true 0 a then s.whFail (halfNum h) 1 else if longRun true 0 b then s.whFail (halfNum h) 2
      else if longRun true 0 (xSamples a b) then s.whFail (halfNum h) 3
      else if proportionFails (xSamples a b) then s.whFail (halfNum h) 4
      else (s.updWell (halfNum h) (fun w => { w with pool := min 1024 (w.pool + (vonNeumann (xSamples a b)).length) })).bellows
        (halfNum h))) ∧
  (∀ (x : List Bool) (p : Bool), x.head? = some p → (proportionFails x = true ↔ 800 ≤ x.count p)) ∧
  (∀ (x : List Bool), longRun true 0 x = true ↔ ∃ (n : Nat) (p : Bool), ((x.drop n).take 41) = List.replicate 41 p) ∧
  (∀ (p q : Bool) (t : List Bool), vonNeumann (p :: q :: t) = if p = q then vonNeumann t else p :: vonNeumann t) ∧
  (∀ (s : State) (h : Half) (c : Nat), 1 ≤ s.whState (halfNum h) → s.whState (halfNum h) ≤ 5 → 1 ≤ c → c ≤ 3 →
    exec (.repetitionCountFail h c) s = .next (s.whFail (halfNum h) c)) ∧
  (∀ (s u : State) (h : Half) (a b vn : Nat) (lck : Bool), 1 ≤ s.whState (halfNum h) → s.whState (halfNum h) ≤ 5 →
    u = s.setFld (Fd.WH_STAT_RATE (halfNum h)) (min 255 (vn / 10)) → exec (.oscillatorCheck h a b lck vn) s = .next (
      if a < 10000 ∨ 150000 < a ∨ b < 10000 ∨ 150000 < b then u.whFail (halfNum h) 5 else if lck then u.whFail (halfNum h) 6
      else u)) ∧
  (∀ (s : State) (h : Half) (ka : Bool),
    (s.whState (halfNum h) = 1 → exec (.wellheadPhaseEnd h ka) s = .next
      (if ka then ((s.setWhState (halfNum h) 2).bellows (halfNum h)).startTest else s.whFail (halfNum h) 7)) ∧
    (s.whState (halfNum h) = 3 → exec (.wellheadPhaseEnd h ka) s = .next
      ((s.setWhState (halfNum h) 2).bump Fd.WH_CNT_RECOVERED).startTest) ∧
    (s.whState (halfNum h) = 4 → exec (.wellheadPhaseEnd h ka) s = .next (s.setWhState (halfNum h) 2).startTest)) ∧
  (∀ (s : State) (n c : Nat), (s.whState n = 1 ∨ s.whState n = 3 ∨ s.whState n = 4 → s.whFail n c = (s.whHalt n c).startTest) ∧
    (s.whState n = 2 → s.whFail n c = if 4 ≤ ((s.countFail n c).well n).fails.length then ((s.countFail n c).whHalt n 8).startTest
      else (s.countFail n c).setWhState n 3)) ∧
  (∀ (s : State) (src : Nat) (data : Word), s.pageOpen src 0x0B0000 = true →
    (bit data.toNat 7 = true → exec (.whTest src data) s = .next (s.writeWhCtl src data.toNat)) ∧
    (bit data.toNat 7 = false → exec (.rawEn src data) s = .next (s.writeWhCtl src data.toNat)) ∧
    (s.rawRefused src data.toNat = true → s.writeWhCtl src data.toNat = s.errCap 0x0B0000 src 0x80 0x100 data.toNat) ∧
    (s.rawRefused src data.toNat = false → s.secure src = false → bit data.toNat 7 = false →
      s.writeWhCtl src data.toNat = s.errCap 0x0B0000 src 3 0x100 data.toNat)) ∧
  (∀ (s : State) (src d : Nat), regsWf s.regs = true → s.secure src = true → s.fld Fd.WH_CTL_RAW_EN = 0 → bit d 0 = true →
    bit d 7 = false → (s.life = 2 ∨ s.life = 4) → s.halfUp (halfOf (1 - bitsOf d 4 4)) = true → s.whState (1 - bitsOf d 4 4) = 2 →
    s.cannotTest (bitsOf d 4 4) = false → (s.writeWhCtl src d).whState (bitsOf d 4 4) = 5 ∧ (s.writeWhCtl src d).fld Fd.WH_CTL_RAW_EN = 1) ∧
  (∀ (s : State) (src : Nat), s.pageOpen src 0x0B0000 = true →
    ((s.well (s.fld Fd.WH_CTL_RAW_HALF)).raw = [] → exec (.whRawRead src) s = .next (s.emit (.regRead src 0))) ∧
    (∀ w t, (s.well (s.fld Fd.WH_CTL_RAW_HALF)).raw = w :: t → exec (.whRawRead src) s = .next
      ((s.updWell (s.fld Fd.WH_CTL_RAW_HALF) (fun x => { x with raw := t })).emit (.regRead src w)))) ∧
  (∀ (s : State) (h : Half), exec (.bellowsReseed h) s = .next (s.bellows (halfNum h)).challengeDue)

/-! ### Tamper (19) -/

/-- Tamper rows: an event of an acting sensor is decided at once, a dip under guard until it is judged; a cleared sensor starts
the ends of its guards; GUARD of 100 ms is WARM; ALARM_N ends on time; a HOLD is released by the key outside FIELD (19
R663-R669, R675, R679). -/
def Obligations.TamperRows : Prop :=
  (∀ (s : State) (sensor sub : Nat), s.sensorOn sensor sub = true → (sensor = 3 → 128 ≤ sub) →
    exec (.tamperEvent sensor sub) s = .next
      ((s.updTamper (fun t => { t with active := setBit t.active (sensor - 1) })).decideTamper s.deviceTime sensor sub)) ∧
  (∀ (s u : State) (sub : Nat), s.sensorOn 3 sub = true → sub < 128 → s.tamper.dip = none → s.halvesOn = true →
    u = (s.updTamper (fun t => { t with active := setBit t.active 2 })).updTamper (fun t => { t with dip := some (sub, s.deviceTime) }) →
    exec (.tamperEvent 3 sub) s = .next (if u.halvesOn then u.beginGuard 3 else u)) ∧
  (∀ (s : State) (sub time : Nat), s.tamper.dip = some (sub, time) →
    (s.deviceTime < time + 3000 → exec .glitchDecide s = .next s) ∧
    (time + 3000 ≤ s.deviceTime → exec .glitchDecide s = .next
      ((s.updTamper (fun t => { t with dip := none })).dropDipGuard.decideTamper time 3 sub).endGuard)) ∧
  (∀ (s : State) (n : Nat), 1 ≤ n → n ≤ 7 → exec (.sensorClear n) s = .next (s.updTamper (fun t => { t with
    active := clrBit t.active (n - 1),
    guards := t.guards.map (fun (g : Nat × Option Nat) => if g.1 = n && g.2.isNone then (g.1, some s.deviceTime) else g) }))) ∧
  (∀ (s u : State), u = (s.updTamper (fun t => { t with
      guards := t.guards.filter (fun (g : Nat × Option Nat) => !guardOver s.deviceTime g) })).endGuard →
    exec .guardEnd s = .next (match u.tamper.guardFrom with
      | none => u
      | some t => if u.deviceTime < t + 100000000 || u.tamper.steady.isEmpty || !u.halvesOn then u
        else if u.boot = .up then u.respond 0 (u.escalate 2) else u.respondBooting 0 (u.escalate 2))) ∧
  (∀ (s : State) (t : Nat), s.tamper.alarmTill = some t → t ≤ s.deviceTime →
    exec .alarmEnd s = .next (s.updTamper (fun u => { u with alarmTill := none }))) ∧
  (∀ (s : State) (src : Nat) (data : Word), s.pageOpen src 0x0F0000 = true →
    (bitsOf data.toNat 31 16 = 0x5A3C → s.tamper.hold = true → s.life ≠ 5 → bit data.toNat 0 = true →
      exec (.tpRelease src data) s = .next (s.updTamper (fun t => { t with hold := false })).tamperWarm) ∧
    (bitsOf data.toNat 31 16 ≠ 0x5A3C ∨ s.tamper.hold = false ∨ s.life = 5 →
      exec (.tpRelease src data) s = .next (s.errCap 0x0F0000 src 0x04 0x10C data.toNat)))

/-- The first response by life cycle (1 BLANK to 7 SCRAP) and sensor (1 MESH to 7 STRAP), with 0 LOG, 1 GUARD, 3 HOLD, 4 Q3 (19
R670). -/
def Obligations.FirstResponses : Prop :=
  ∀ (life sensor : Nat), 1 ≤ life → life ≤ 7 → 1 ≤ sensor → sensor ≤ 7 →
    firstResponse life sensor = (([[0, 0, 3, 3, 4, 4, 0], [0, 0, 3, 3, 4, 4, 0], [0, 0, 1, 1, 1, 0, 0], [0, 0, 1, 1, 1, 0, 0],
      [0, 0, 1, 1, 1, 0, 0], [0, 0, 1, 1, 1, 1, 0], [0, 0, 0, 0, 0, 0, 0]] : List (List Nat)).getD (sensor - 1) []).getD (life - 1) 9

/-- Responses escalate and never fall: the fourth event within 1 s gives WARM instead of GUARD, the third WARM within 1 h HOLD
in SEALED and MAKER and Q3 in FIELD, a Q3 in FIELD after two Q4; in FIELD no response is below TP_RAISE (19 R671, R672). -/
def Obligations.TamperEscalation : Prop :=
  (∀ (s : State) (r : Nat), r ≤ 5 → r ≤ s.escalate r ∧ s.escalate r ≤ 5 ∧ (s.escalate r ≠ r → 3 ≤ s.life ∧ s.life ≤ 5)) ∧
  (∀ (s : State), 2 ≤ s.warmsInHour → (s.life = 3 ∨ s.life = 4 → s.escalate 2 = 3) ∧
    (s.life = 5 → s.tpLifeQ3 < 2 → s.escalate 2 = 4)) ∧
  (∀ (s : State), s.life = 5 → 2 ≤ s.tpLifeQ3 → s.escalate 4 = 5) ∧
  (∀ (s : State) (n : Nat), 3 ≤ s.life → s.life ≤ 5 → firstResponse s.life n = 1 → 4 ≤ s.tpRecent n → s.raised n ≤ 2 →
    s.warmsInHour < 2 → s.response n = (2, true)) ∧
  (∀ (s : State) (n : Nat), firstResponse s.life n ≤ (s.response n).1 ∧ (s.life = 5 → 1 ≤ n → n ≤ 6 →
    bitsOf (s.reg Reg.TP_RAISE).toNat (3 * n - 1) (3 * n - 3) ≤ (s.response n).1))

/-! ### Test and debug port (20) -/

/-- TAP and debug: TAP reset selects IDCODE, an instruction is selected and its data register captured (at that moment: log
121), EXTEST sets the cells; DBG_MEM reads and writes the device window as the scope allows; DBG_ENG reads, halts, steps and
resumes a task the scope covers, and answers 0 of one whose engine holds ranging data (01 R26; 20 R694-R703). -/
def Obligations.DebugPort : Prop :=
  (∀ (s : State), exec .tapReset s = .next (s.selectTap 1)) ∧
  (∀ (s u : State) (c : Nat), u = s.selectTap c →
    (u.tapNow = 1 → exec (.tapInstruction c) s = .next (u.emit (.tdo (leBytes 4 0x1644054F)))) ∧
    (u.tapNow = 0xFF → exec (.tapInstruction c) s = .next (if u.tapOpen then u.emit (.tdo [0]) else u)) ∧
    (u.tapNow ≠ 1 → u.tapNow ≠ 2 → u.tapNow ≠ 0xFF → exec (.tapInstruction c) s = .next u) ∧
    (u.tapNow = 2 → exec (.tapInstruction c) s = .next (u.free.2.emit (.tdo (leBytes 17 (u.free.1 % 2 ^ 133)))))) ∧
  (∀ (s : State) (c : Nat), exec (.extest false c) s = .next (s.selectTap 0xFF) ∧
    exec (.extest true c) s = .next (if (s.selectTap 0).lc.extest then
      { (s.selectTap 0) with lc := { (s.selectTap 0).lc with boundary := c % 2 ^ 133 } } else s.selectTap 0)) ∧
  (∀ (s : State) (dr : BitVec 56), s.tapNow = 0x10 →
    (bitsOf dr.toNat 21 1 % 4 ≠ 0 ∨ (bit dr.toNat 0 = true ∧ bit s.lc.scope 2 = false) → ∃ t : State, exec (.dbgMem dr) s = .next
      (t.emit (.tdo (dbgMemBytes (bit dr.toNat 0) (bitsOf dr.toNat 21 1) true (bitsOf dr.toNat 55 24)))) ∧
      t = s.dbgRefuse (bitsOf dr.toNat 21 1) (bitsOf dr.toNat 55 24)) ∧
    (bitsOf dr.toNat 21 1 % 4 = 0 → bit dr.toNat 0 = false → bitsOf dr.toNat 21 1 ≠ Reg.WH_RAW → exec (.dbgMem dr) s = .next
      ((s.readReg dbgSrc (bitsOf dr.toNat 21 1) 0 4).2.emit
        (.tdo (dbgMemBytes false (bitsOf dr.toNat 21 1) false (leAt (s.readReg dbgSrc (bitsOf dr.toNat 21 1) 0 4).1 0 4))))) ∧
    (bitsOf dr.toNat 21 1 = Reg.WH_RAW → bit dr.toNat 0 = false → ∃ t : State, exec (.dbgMem dr) s = .next
      (t.emit (.tdo (dbgMemBytes false Reg.WH_RAW false (s.view Reg.WH_RAW).toNat))) ∧
      (t.well (s.fld Fd.WH_CTL_RAW_HALF)).raw = (s.well (s.fld Fd.WH_CTL_RAW_HALF)).raw.tail ∧ t.regs = s.regs) ∧
    (bitsOf dr.toNat 21 1 % 4 = 0 → bit dr.toNat 0 = true → bit s.lc.scope 2 = true → ∃ err, exec (.dbgMem dr) s = .next
      ((s.dbgWrite (bitsOf dr.toNat 21 1) (bitsOf dr.toNat 55 24)).1.emit
        (.tdo (dbgMemBytes true (bitsOf dr.toNat 21 1) err (bitsOf dr.toNat 55 24)))))) ∧
  (∀ (s : State) (e : EngRef) (t : Task) (r : Nat), s.dbgTask e = some t → s.tapNow = 0x11 →
    exec (.dbgEngRead e r false) s = .next (s.emit (.tdo (dbgEngBytes e 0 r false (t.reg r).toNat))) ∧
    exec (.dbgEngRead e r true) s = .next (s.emit (.tdo (dbgEngBytes e 0 r true
      (special r (einfo (logicalEng e) (s.engHalf e) t) (s.eng e).gen t).toNat))) ∧
    (t.wait ≠ .ended → exec (.dbgEngHalt e) s = .next (s.setTask e { t with halted := true })) ∧
    (t.halted = true → exec (.dbgEngStep e) s = .next (s.dbgStep e t) ∧ exec (.dbgEngResume e) s = .next (s.engineLost e))) ∧
  (∀ (s : State) (e : EngRef) (r : Nat) (spec : Bool), s.rangingSlot e = true → s.tapNow = 0x11 →
    exec (.dbgEngRead e r spec) s = .next (s.emit (.tdo (dbgEngBytes e 0 r spec 0))) ∧
    exec (.dbgEngHalt e) s = .next (s.emit (.tdo (dbgEngBytes e 1 0 false 0))) ∧
    exec (.dbgEngStep e) s = .next (s.emit (.tdo (dbgEngBytes e 2 0 false 0))) ∧
    exec (.dbgEngResume e) s = .next (s.emit (.tdo (dbgEngBytes e 3 0 false 0))))

/-! ### Card port (21) -/

/-- The card: insertion, the ATR and its timeout, the conditions poll, a response, removal and loss with rollback, the
transaction's timeout, and clock stop (21 R706-R718). -/
def Obligations.CardPort : Prop :=
  (∀ (s : State), s.fld Fd.CD_STAT_PRESENT = 0 → exec .cardInsert s = .next
    ((s.setFld Fd.CD_STAT_PRESENT 1).raise 0x100000 1).cardSettle) ∧
  (∀ (s : State), s.fld Fd.CD_STAT_STATE = 1 → exec .cardAtrTimeout s = .next s.cardFail) ∧
  (∀ (s : State) (a : Atr), s.fld Fd.CD_STAT_STATE = 1 →
    ((a.edge < 894 ∨ 1338 < a.edge ∨ a.longGap = true) → exec (.cardAtr a) s = .next s.cardFail) ∧
    (894 ≤ a.edge → a.edge ≤ 1338 → a.longGap = false → exec (.cardAtr a) s = .next (match parseAtr a.chars with
      | none => s.cardFail
      | some x => match x.taOf 2 with
        | some ta2 => s.cardSpecific x ta2
        | none => s.cardNegotiate x a.pps))) ∧
  (∀ (s u : State) (r : Bytes), s.fld Fd.CD_STAT_STATE = 2 →
    s.deviceTime < s.card.atrAt + s.fld Fd.CD_CFG_COND_MS * 1000000 → s.card.pollAt ≤ s.deviceTime →
    u = (s.emit (.cardApdu [0x80, 0xC4, 0x00, 0x00, 0x08])).updCard (fun c => { c with lastChar := s.deviceTime }) →
    (r.length = 10 → r.drop 8 = [0x90, 0x00] → leAt r 0 1 = 1 →
      (leAt r 1 1 = 1 → exec (.cardCondPoll r) s = .next
        (((u.updCard (fun c => { c with cardId := beAt r 2 4 })).setFld Fd.CD_STAT_STATE 3).raise 0x100000 2)) ∧
      (leAt r 1 1 = 0 → exec (.cardCondPoll r) s = .next
        (u.updCard (fun c => { c with pollAt := s.deviceTime + max 10 (10 * leAt r 6 1) * 1000000 })))) ∧
    (r.length ≠ 10 ∨ r.drop 8 ≠ [0x90, 0x00] ∨ leAt r 0 1 ≠ 1 ∨ 1 < leAt r 1 1 → exec (.cardCondPoll r) s = .next (u.cardOff 4))) ∧
  (∀ (s : State), s.fld Fd.CD_STAT_STATE = 2 → s.card.atrAt + s.fld Fd.CD_CFG_COND_MS * 1000000 ≤ s.deviceTime →
    ∀ r, exec (.cardCondPoll r) s = .next (s.cardOff 4)) ∧
  (∀ (s u : State) (k : CmdKey) (r : Bytes), s.card.busy = some k → s.card.resp = none → 2 ≤ r.length → r.length ≤ 258 →
    u = s.updCard (fun c => { c with resp := some r, lastChar := s.deviceTime }) →
    exec (.cardResponse r) s = .next (u.runCmd u.cardInfo true cardWork k)) ∧
  (∀ (s u : State), s.fld Fd.CD_STAT_PRESENT = 1 →
    u = ((((s.bump Fd.CD_CNT_REMOVALS).updCard (fun c => { c with busy := none, resp := none })).setFld Fd.CD_STAT_PRESENT 0).cardOff
      0).raise 0x100000 1 →
    exec (.cardRemove false) s = .next (if u.gatesOpen then u.cardRollback 1 s.card.busy else u)) ∧
  (∀ (s u : State), s.fld Fd.CD_STAT_PRESENT = 1 → s.fld Fd.CD_STAT_STATE ∈ [2, 3, 5] →
    u = ((s.bump Fd.CD_CNT_REMOVALS).updCard (fun c => { c with busy := none, resp := none })).cardOff 4 →
    exec (.cardRemove true) s = .next (if u.gatesOpen then u.cardRollback 2 s.card.busy else u)) ∧
  (∀ (s : State) (x : CardTxn), s.card.txn = some x → s.gatesOpen = true → s.card.busy = none →
    x.lastAt + max 1 (s.fld Fd.CD_CFG_TXN_S) * 1000000000 ≤ s.deviceTime → exec .cardTxnTimeout s = .next (s.cardRollback 3 none)) ∧
  (∀ (s : State), s.card.stopOk = true → s.fld Fd.CD_STAT_STATE = 3 → s.card.busy = none →
    s.card.lastChar + 387500 / 2 ^ s.fld Fd.CD_STAT_CLK ≤ s.deviceTime → exec .clockStop s = .next (s.setFld Fd.CD_STAT_STATE 5))

/-! ### The whole block -/

/-- The front command of the queue takes effect on the state with the queue's rest, whatever it is; with none waiting a period
of the reference passes, which is the model's choice (log 7). -/
def Obligations.FrontCommandRuns : Prop :=
  (∀ (s : State) (c : Instr) (rest : List Instr), s.pending = c :: rest → step s = exec c { s with pending := rest }) ∧
  (∀ (s : State), s.pending = [] → step s = .next s.tick ∧ s.tick.regs = s.regs ∧ s.tick.pending = [])

/-- Every command ends in a next state, from every state, and so does every step: the model stops nowhere (its own reading of
the rows; NOTES.md, Stops). -/
def Obligations.NoCommandStops : Prop :=
  (∀ (c : Instr) (s : State), ∃ t, exec c s = .next t) ∧ ∀ (s : State) (n : Nat), s.runsOn n

/-- While device time counts the 38.4 MHz reference, which in a parked state has been on for the 1 ms of its monitor, a period
adds 26 ns and every 24th adds 27, so 24 periods add exactly 625 ns; on the crystal 64 periods add exactly 1,953,125 ns; with
both lost time holds (00 R11, R12; 02 R79; 18 R640, R645). -/
def Obligations.ReferencePeriods : Prop :=
  (∀ (s : State), s.supply.lostRef38 = false →
    (s.fld Fd.PW_STAT_STATE < 2 ∨ (bit s.domains 8 = true ∧ s.power.ref38At + 1000000 ≤ s.deviceTime)) → s.refPhase < 24 →
    s.tick.deviceTime = s.deviceTime + (if s.refPhase = 23 then 27 else 26) ∧
    (Nat.repeat State.tick 24 s).deviceTime = s.deviceTime + 625 ∧ (Nat.repeat State.tick 24 s).refPhase = s.refPhase) ∧
  (∀ (s : State), s.supply.lostXtal = false → (s.supply.lostRef38 = true ∨ (2 ≤ s.fld Fd.PW_STAT_STATE ∧ bit s.domains 8 = false)) →
    s.refPhase < 64 → (s.tick.deviceTime = s.deviceTime + 30517 ∨ s.tick.deviceTime = s.deviceTime + 30518) ∧
    (Nat.repeat State.tick 64 s).deviceTime = s.deviceTime + 1953125 ∧ (Nat.repeat State.tick 64 s).rtc = s.rtc + 1953125) ∧
  (∀ (s : State), s.supply.lostXtal = true → s.supply.lostRef38 = true → s.tick.deviceTime = s.deviceTime ∧ s.tick.rtc = s.rtc)

/-- Right after a power-on reset device time and RTC are zero, the gates are closed, nothing waits, P0 alone exists, no command
is admitted, every register but RESET_CAUSE reads its reset value, and the state is sound (00 R10, R19; 03 R88, R106, R112). -/
def Obligations.ResetState : Prop :=
  State.reset.deviceTime = 0 ∧ State.reset.rtc = 0 ∧ State.reset.gatesOpen = false ∧ State.reset.pending = [] ∧
  State.reset.inflight = [] ∧ State.reset.parts.map (·.1) = [0] ∧ State.reset.flows = [] ∧ State.reset.frames = [] ∧
  (∀ a, a ≠ Reg.RESET_CAUSE → State.reset.reg a = regReset a) ∧ State.reset.sound = true

/-- A fetched command whose turn has come meets the checks in order: issuer, world and class; life cycle; the whole entry, the
lists that could not be read and the opcode's parameters; the checks its chapter puts first, tamper hold, entropy, store; then
its own rules. After a bring-up that failed every command ends with STORE_FAULT (03 R99; 04 R136; 05 R179, R202, steps 2 to 5).
-/
def Obligations.CheckOrder : Prop :=
  (∀ (s : State) (i : OpInfo) (lifeOk : Bool) (body : State → Inflight → Work) (k : CmdKey) (c : Inflight), s.cmd? k = some c →
    s.boot = .failed → s.runCmd i lifeOk body k = s.finish c false (.fail .storeFault)) ∧
  (∀ (s : State) (i : OpInfo) (lifeOk above : Bool) (body : State → Inflight → Work) (k : CmdKey) (c : Inflight),
    s.turn? k c = true → c.opcode = i.code → i.waits s c = false →
    above = (c.classAbove || (match i.clsAt with | some o => decide (leAt c.param o 1 < c.cls) | none => false)) →
    (i.issuer = .access → s.issuerOk .access c = false → s.runCmd i lifeOk body k = s.finish c false (.fail .badOpcode)) ∧
    ((i.issuer = .access → s.issuerOk .access c = true) → s.issuerOk i.issuer c = false ∨ above = true →
      s.runCmd i lifeOk body k = s.finish c false (.fail .notPermitted)) ∧
    (s.issuerOk i.issuer c = true → above = false →
      (lifeOk = false ∨ i.lifeAlso s c = false → s.runCmd i lifeOk body k = s.finish c false (.fail .lifecycle)) ∧
      (lifeOk = true → i.lifeAlso s c = true →
        (entryOk i c = false → s.runCmd i lifeOk body k = s.finish c false (.fail .badParam)) ∧
        (entryOk i c = true →
          (c.readFail = true → s.runCmd i lifeOk body k = s.finish c false { status := .badParam, detail := 1 }) ∧
          (c.readFail = false → i.params c = false →
            s.runCmd i lifeOk body k = s.finish c false { status := .badParam, detail := i.paramDetail c }) ∧
          (c.readFail = false → i.params c = true →
            (∀ st, i.first s c = some st → s.runCmd i lifeOk body k = s.finish c false (.fail st)) ∧
            (i.first s c = none →
              (s.tamperHold = true → s.runCmd i lifeOk body k = s.finish c false (.fail .tamperHold)) ∧
              (s.tamperHold = false → i.draws c = true → s.noEntropy = true →
                s.runCmd i lifeOk body k = s.finish c false (.fail .entropyHalt)) ∧
              (s.tamperHold = false → (i.draws c = false ∨ s.noEntropy = false) → i.isDurable c = true → s.holdOk = false →
                s.runCmd i lifeOk body k = s.finish c false (.fail .storeFault)) ∧
              (s.tamperHold = false → (i.draws c = false ∨ s.noEntropy = false) → (i.isDurable c = false ∨ s.holdOk = true) →
                s.runCmd i lifeOk body k = if i.draws c = true ∧ s.drawHeld c = true then s.waitDraw k
                  else (body s c).settle s k c)))))))

/-- A completion entry is 32 bytes with its fields at the offsets of the table, little-endian (05 R180). -/
def Obligations.CompletionEntry : Prop :=
  ∀ (m : Compl) (head : Nat) (phase : Bool) (b : Bytes), m.result.length ≤ 16 → b = complBytes m head phase →
    b.length = 32 ∧ leAt b 0 4 = m.tag % 2 ^ 32 ∧ leAt b 4 2 = m.status % 2 ^ 16 ∧ leAt b 6 1 = m.sq % 256 ∧
    leAt b 7 1 = (if phase then 1 else 0) ∧ leAt b 8 2 = head % 2 ^ 16 ∧ leAt b 10 2 = m.detail % 2 ^ 16 ∧
    leAt b 12 4 = m.written % 2 ^ 32 ∧ (b.drop 16).take m.result.length = m.result ∧ ∀ x ∈ b.drop (16 + m.result.length), x = 0

/-- The resume record over the entries that have committed: it names the last in submission order, and bit i of MISSING says
whether the entry 1 + i places before it has not committed (05 R194). -/
def Obligations.ResumeRecord : Prop :=
  ∀ (r : Resume) (c : Inflight) (durable : Bool) (done : List Nat), c.ordinal ∉ done → r.missing < 2 ^ 63 →
    (r.ordinal = none → done = []) → (∀ m, r.ordinal = some m → m ∈ done ∧ (∀ x ∈ done, x ≤ m) ∧
      ∀ i, i < 63 → (bit r.missing i = true ↔ i < m ∧ m - 1 - i ∉ done)) →
    ∃ m, (r.commit c durable).ordinal = some m ∧ m ∈ c.ordinal :: done ∧ (∀ x ∈ c.ordinal :: done, x ≤ m) ∧
      (r.commit c durable).missing < 2 ^ 63 ∧
      (∀ i, i < 63 → (bit (r.commit c durable).missing i = true ↔ i < m ∧ m - 1 - i ∉ c.ordinal :: done)) ∧
      (m = c.ordinal → (r.commit c durable).index = c.key.idx ∧ (r.commit c durable).tag = c.tag) ∧
      (m ≠ c.ordinal → (r.commit c durable).index = r.index ∧ (r.commit c durable).tag = r.tag)

/-- The words of every well-formed Kalmel instruction, fetched as base and extension words, run exactly that instruction: every
operand is read back from its field at every value the encoding admits (12 R451, R457-R472). -/
def Obligations.KalmelWordsRunTheirInstruction : Prop :=
  ∀ (s : State) (i : Instr) (e : EngRef) (w x1 x2 x3 : Nat), i.wf = true → kalmelWords i = some (e, w, x1, x2, x3) →
    w < 2 ^ 14 ∧ x1 < 2 ^ 14 ∧ x2 < 2 ^ 14 ∧ x3 < 2 ^ 14 ∧ exec i s = .next (s.runWord e w x1 x2 x3)

/-- Every step keeps a sound state sound: registers, EE store and engine pools stay in their canonical form, whatever command is
at the front of the queue. -/
def Obligations.StepsKeepSoundness : Prop :=
  ∀ (s t : State), s.sound = true → step s = .next t → t.sound = true
end

