-- ==== Sys2Proof/Laws/Command.lean ====
section
/-! SUPPORT. Laws of the life of a command: what `runCmd` answers once every check is passed, how an answer settles, and
what the end of a command leaves alone. -/

namespace Sys2Proof.Machine

/-- A command whose every check is passed runs its own rules. -/
theorem runCmd_passes {s : State} {k : CmdKey} {c : Inflight} {i : OpInfo} {lifeOk : Bool}
    (h : s.passes k c i lifeOk = true) (body : State → Inflight → Work) :
    s.runCmd i lifeOk body k = (body s c).settle s k c := by
  simp only [State.passes, State.turn?, Bool.and_eq_true, Bool.not_eq_true', beq_iff_eq, Option.isNone_iff_eq_none,
    decide_eq_true_eq] at h
  obtain ⟨⟨⟨⟨⟨⟨⟨⟨⟨⟨⟨⟨⟨h1, h2⟩, h3⟩, h4⟩, h5⟩, h6⟩, h7⟩, h8⟩, h9⟩, h10⟩, h11⟩, h12⟩, h13⟩, h14⟩ := h
  unfold State.runCmd
  cases hp : s.part? k.part <;>
    simp_all only [ne_eq, not_true_eq_false, decide_false, Bool.not_true, Bool.or_false, Bool.false_eq_true, if_false,
      Option.isNone_iff_eq_none, Option.isSome_none]

@[simp] theorem settle_finish (s t : State) (k : CmdKey) (c : Inflight) (r : Reply) :
    (Work.finish t r).settle s k c = t.finish c false r := rfl

@[simp] theorem settle_more (s t : State) (k : CmdKey) (c : Inflight) : (Work.more t).settle s k c = t := rfl

/-- A commit that may begin ends the command durably. -/
theorem settle_commit {s : State} (h : s.canCommit = true) (t : State) (k : CmdKey) (c : Inflight) (r : Reply) :
    (Work.commit t r).settle s k c = State.ends t k c true r := by simp [Work.settle, State.ends, h]

/-- A commit that may not begin waits, and nothing else changes. -/
theorem settle_wait {s : State} (h : s.canCommit = false) (t : State) (k : CmdKey) (c : Inflight) (r : Reply) :
    (Work.commit t r).settle s k c = s.waitCommit k := by simp [Work.settle, h]

/-- The end of a change of slot n, durable where the slot is persistent. -/
theorem settle_commitSlot {s : State} {n : Nat} (h : s.mayEnd (!slotVolatile n) = true) (t : State) (k : CmdKey) (c : Inflight)
    (r : Reply) : (commitSlot n t r).settle s k c = State.ends t k c (!slotVolatile n) r := by
  unfold commitSlot
  cases hv : slotVolatile n <;> simp_all [State.mayEnd, State.ends, Work.settle]

end Sys2Proof.Machine
end

