-- ==== Sys2Proof/Laws/FirstPath.lean ====
section
/-! SUPPORT. What the first-path detector's operations can do (07_ranging.md R270, R278, R279). -/

namespace Sys2Proof.Machine

/-- From a root not above n, the search stays at or below it and ends within one of the root where n is in its reach. -/
theorem rootFrom_bounds (b r n : Nat) (h : r * r ≤ n) :
    rootFrom b r n * rootFrom b r n ≤ n ∧
    (n < (r + 2 ^ b) * (r + 2 ^ b) → n < (rootFrom b r n + 1) * (rootFrom b r n + 1)) := by
  induction b generalizing r with
  | zero => simp [rootFrom, h]
  | succ b ih =>
    simp only [rootFrom]
    split
    · rename_i h2
      refine ⟨(ih _ h2).1, fun h3 => (ih _ h2).2 ?_⟩
      rw [show r + 2 ^ b + 2 ^ b = r + 2 ^ (b + 1) by ring]
      exact h3
    · rename_i h2
      exact ⟨(ih _ h).1, fun _ => (ih _ h).2 (by omega)⟩

/-- A multiple of a largest element is within a bound when each multiple is. -/
theorem mul_foldl_max_le (l : List Nat) (a x k : Nat) :
    k * l.foldl max a ≤ x ↔ k * a ≤ x ∧ ∀ e ∈ l, k * e ≤ x := by
  induction l generalizing a with
  | nil => simp
  | cons b l ih =>
    simp only [List.foldl_cons, ih, List.mem_cons, forall_eq_or_imp]
    rw [← Nat.mul_max_mul_left, Nat.max_le, and_assoc]

/-- A record changes the round in progress and the free draws alone. -/
theorem takeRecord_frame (s : State) (r : CirRec) :
    ∃ x n, s.takeRecord r = { s with uwb := { s.uwb with round := x }, draws := n } := by
  unfold State.takeRecord
  split
  · exact ⟨s.uwb.round, s.draws, rfl⟩
  · split
    · exact ⟨_, _, rfl⟩
    · split
      · exact ⟨_, s.draws, rfl⟩
      · exact ⟨s.uwb.round, s.draws, rfl⟩

end Sys2Proof.Machine
end

