-- ==== Sys2Proof/Laws/Kalmel.lean ====
section
/-! SUPPORT. What running one Kalmel instruction can do: its four ways to end, once (12 R452, R454). -/

namespace Sys2Proof.Machine

variable {s : State} {e : EngRef} {t : Task} {w : Nat} {f : KCtx → KOut}

theorem canRun_ready (h : s.canRun e t w = true) : s.ready e = some t := by
  simp only [State.canRun, Bool.and_eq_true, decide_eq_true_eq] at h
  exact h.1

theorem canRun_check (h : s.canRun e t w = true) : kCheck t w = none := by
  simp only [State.canRun, Bool.and_eq_true, decide_eq_true_eq] at h
  exact h.2

/-- What a ready task is: in its slot, waiting for nothing, not halted, with the gates open. -/
theorem ready_spec (h : s.ready e = some t) : s.task? e = some t ∧ t.wait = .none ∧ t.halted = false ∧ s.gatesOpen = true := by
  unfold State.ready at h
  split at h
  · split at h
    · rename_i u hu hc
      simp only [Option.some.injEq] at h
      subst h
      simp only [Bool.and_eq_true, Bool.not_eq_true', decide_eq_true_eq] at hc
      exact ⟨hu, hc.1.1, hc.1.2, hc.2⟩
    · simp at h
  · simp at h

theorem instr_none (h : s.ready e = none) : s.instr e w f = s := by simp only [State.instr, h]

/-- An instruction whose effect goes on in sequence. -/
theorem instr_go (h : s.canRun e t w = true) {k : KCtx} (hf : f (s.kCtx e t) = .go k) :
    s.instr e w f = s.kCommit e t k (t.pc + w) := by
  simp only [State.instr, canRun_ready h, State.runInstr, canRun_check h, hf]

/-- An instruction that jumps. -/
theorem instr_to (h : s.canRun e t w = true) {k : KCtx} {a : Nat} (hf : f (s.kCtx e t) = .goto k a) :
    s.instr e w f = s.kCommit e t k a := by
  simp only [State.instr, canRun_ready h, State.runInstr, canRun_check h, hf]

/-- An instruction that faults. -/
theorem instr_fault (h : s.canRun e t w = true) {x : KFault} (hf : f (s.kCtx e t) = .fault x) :
    s.instr e w f = s.kFault e t x := by
  simp only [State.instr, canRun_ready h, State.runInstr, canRun_check h, hf]

/-- A fault of the budget or the fetch, before any effect. -/
theorem instr_check (h : s.ready e = some t) {x : KFault} (hx : kCheck t w = some x) : s.instr e w f = s.kFault e t x := by
  simp only [State.instr, h, State.runInstr, hx]

/-- An instruction that computes on its task alone. -/
theorem instr_compute (h : s.canRun e t w = true) (g : Task → Task) : s.instr e w (compute g) = s.ran e t w (g t) :=
  instr_go h rfl

theorem eng_updEng {f : Eng → Eng} (h : engIdx e < s.kalmel.engines.length) : (s.updEng e f).eng e = f (s.eng e) := by
  simp [State.eng, State.updEng, h]

/-- A slot that holds a task is one of the engines. -/
theorem engIdx_lt (h : s.task? e = some t) : engIdx e < s.kalmel.engines.length := by
  rcases Nat.lt_or_ge (engIdx e) s.kalmel.engines.length with hc | hc
  · exact hc
  · simp [State.task?, State.eng, List.getElem?_eq_none hc, Eng.idle] at h

/-- What an instruction leaves in its slot. -/
theorem eng_kCommit (h : s.task? e = some t) (o : Task) (k : KCtx) (pc : Nat) :
    (s.kCommit e o k pc).eng e = { s.eng e with
      task := some { k.t with pc := pc, steps := o.steps.map (· - 1), p2 := o.p1, p3 := o.p2 }, dm := k.dm } := by
  unfold State.kCommit
  exact eng_updEng (engIdx_lt h)

theorem task_kCommit (h : s.task? e = some t) (o : Task) (k : KCtx) (pc : Nat) :
    (s.kCommit e o k pc).task? e = some { k.t with pc := pc, steps := o.steps.map (· - 1), p2 := o.p1, p3 := o.p2 } := by
  unfold State.task?
  rw [eng_kCommit h]

@[simp] theorem kCommit_pools (o : Task) (k : KCtx) (pc : Nat) : (s.kCommit e o k pc).kalmel.pools = k.pool := rfl

@[simp] theorem kCommit_gates (o : Task) (k : KCtx) (pc : Nat) : (s.kCommit e o k pc).gatesOpen = s.gatesOpen := rfl

@[simp] theorem kCommit_regs (o : Task) (k : KCtx) (pc : Nat) : (s.kCommit e o k pc).regs = s.regs := rfl

@[simp] theorem kCtx_t : (s.kCtx e t).t = t := rfl
@[simp] theorem kCtx_dm : (s.kCtx e t).dm = (s.eng e).dm := rfl
@[simp] theorem kCtx_pool : (s.kCtx e t).pool = s.kalmel.pools := rfl

end Sys2Proof.Machine
end

