-- ==== Sys2Proof/Laws/Maps.lean ====
section
/-! SUPPORT. Laws of the sparse maps: a read after a write, and the canonical form that every map operation keeps. -/

namespace Sys2Proof.Machine

variable {α : Type}

/-! ### Reads after writes -/

theorem mapGet_mapPut (m : List (Nat × α)) (a b : Nat) (v : α) :
    mapGet (mapPut m a v) b = if a = b then some v else mapGet m b := by
  induction m with
  | nil => simp [mapPut, mapGet]
  | cons c m ih =>
    obtain ⟨k, w⟩ := c
    simp only [mapPut]
    split
    · simp [mapGet]
    · split
      · subst_vars; simp only [mapGet]; split <;> simp_all
      · simp only [mapGet, ih]; split <;> split <;> simp_all

theorem mapRising_mono {b c : Nat} {m : List (Nat × α)} (h : b ≤ c) (hm : mapRising c m = true) : mapRising b m = true := by
  cases m with
  | nil => rfl
  | cons x m => simp only [mapRising, Bool.and_eq_true, decide_eq_true_eq] at *; exact ⟨by omega, hm.2⟩

theorem mapGet_lt {c a : Nat} {m : List (Nat × α)} (hm : mapRising c m = true) (h : a < c) : mapGet m a = none := by
  induction m generalizing c with
  | nil => rfl
  | cons x m ih =>
    simp only [mapRising, Bool.and_eq_true, decide_eq_true_eq] at hm
    simp only [mapGet]
    split
    · omega
    · exact ih hm.2 (by omega)

theorem mapGet_mapDel {c : Nat} {m : List (Nat × α)} (hm : mapRising c m = true) (a b : Nat) :
    mapGet (mapDel m a) b = if a = b then none else mapGet m b := by
  induction m generalizing c with
  | nil => simp [mapDel, mapGet]
  | cons x m ih =>
    obtain ⟨k, w⟩ := x
    simp only [mapRising, Bool.and_eq_true, decide_eq_true_eq] at hm
    simp only [mapDel]
    by_cases hk : k = a
    · subst hk
      simp only [if_true, mapGet]
      split
      · subst_vars; exact mapGet_lt hm.2 (by omega)
      · rfl
    · simp only [hk, if_false, mapGet, ih hm.2]
      split <;> split <;> simp_all

theorem mapGet_mapSet [DecidableEq α] {c : Nat} (d : α) {m : List (Nat × α)} (hm : mapRising c m = true) (a b : Nat) (v : α) :
    mapGet (mapSet d m a v) b = if a = b then (if v = d then none else some v) else mapGet m b := by
  simp only [mapSet]
  split
  · rw [mapGet_mapDel hm]
  · rw [mapGet_mapPut]

/-- Reading a map at the address written gives the value written, in a canonical map. -/
theorem mapRead_mapSet [DecidableEq α] {c : Nat} (d : α) {m : List (Nat × α)} (hm : mapRising c m = true) (a b : Nat) (v : α) :
    mapRead d (mapSet d m a v) b = if a = b then v else mapRead d m b := by
  simp only [mapRead, mapGet_mapSet d hm]
  split
  · split <;> simp_all
  · rfl

/-! ### The canonical form -/

theorem mapRising_mapPut {c : Nat} {m : List (Nat × α)} (hm : mapRising c m = true) {a : Nat} (ha : c ≤ a) (v : α) :
    mapRising c (mapPut m a v) = true := by
  induction m generalizing c with
  | nil => simp [mapPut, mapRising, ha]
  | cons x m ih =>
    obtain ⟨k, w⟩ := x
    simp only [mapRising, Bool.and_eq_true, decide_eq_true_eq] at hm
    simp only [mapPut]
    split
    · simp only [mapRising, Bool.and_eq_true, decide_eq_true_eq]; exact ⟨ha, by omega, hm.2⟩
    · split
      · subst_vars; simp only [mapRising, Bool.and_eq_true, decide_eq_true_eq]; exact ⟨ha, hm.2⟩
      · simp only [mapRising, Bool.and_eq_true, decide_eq_true_eq]; exact ⟨hm.1, ih hm.2 (by omega)⟩

theorem mapRising_mapDel {c : Nat} {m : List (Nat × α)} (hm : mapRising c m = true) (a : Nat) :
    mapRising c (mapDel m a) = true := by
  induction m generalizing c with
  | nil => rfl
  | cons x m ih =>
    obtain ⟨k, w⟩ := x
    simp only [mapRising, Bool.and_eq_true, decide_eq_true_eq] at hm
    simp only [mapDel]
    split
    · exact mapRising_mono (by omega) hm.2
    · simp only [mapRising, Bool.and_eq_true, decide_eq_true_eq]; exact ⟨hm.1, ih hm.2⟩

theorem mapRising_mapSet [DecidableEq α] {c : Nat} (d : α) {m : List (Nat × α)} (hm : mapRising c m = true) {a : Nat} (ha : c ≤ a)
    (v : α) : mapRising c (mapSet d m a v) = true := by
  simp only [mapSet]
  split
  · exact mapRising_mapDel hm a
  · exact mapRising_mapPut hm ha v

theorem mapRising_mapUpd {c : Nat} {m : List (Nat × α)} (hm : mapRising c m = true) {a : Nat} (ha : c ≤ a) (f : α → α) :
    mapRising c (mapUpd m a f) = true := by
  simp only [mapUpd]
  split
  · exact mapRising_mapPut hm ha _
  · exact hm

theorem mapRising_filter {c : Nat} {m : List (Nat × α)} (hm : mapRising c m = true) (p : Nat × α → Bool) :
    mapRising c (m.filter p) = true := by
  induction m generalizing c with
  | nil => rfl
  | cons x m ih =>
    simp only [mapRising, Bool.and_eq_true, decide_eq_true_eq] at hm
    simp only [List.filter_cons]
    split
    · simp only [mapRising, Bool.and_eq_true, decide_eq_true_eq]; exact ⟨hm.1, ih hm.2⟩
    · exact mapRising_mono (by omega) (ih hm.2)

theorem mapRising_mapVals {β : Type} {c : Nat} {m : List (Nat × α)} (hm : mapRising c m = true) (g : Nat × α → β) :
    mapRising c (m.map (fun x => (x.1, g x))) = true := by
  induction m generalizing c with
  | nil => rfl
  | cons x m ih =>
    simp only [mapRising, Bool.and_eq_true, decide_eq_true_eq] at hm
    simp only [List.map_cons, mapRising, Bool.and_eq_true, decide_eq_true_eq]
    exact ⟨hm.1, ih hm.2⟩

/-! ### No entry is the default -/

theorem mem_mapDel {m : List (Nat × α)} {a : Nat} {x : Nat × α} (h : x ∈ mapDel m a) : x ∈ m := by
  induction m with
  | nil => simp [mapDel] at h
  | cons y m ih =>
    obtain ⟨k, w⟩ := y
    simp only [mapDel] at h
    split at h
    · exact List.mem_cons_of_mem _ h
    · rcases List.mem_cons.mp h with h | h
      · simp [h]
      · exact List.mem_cons_of_mem _ (ih h)

theorem mem_mapPut {m : List (Nat × α)} {a : Nat} {v : α} {x : Nat × α} (h : x ∈ mapPut m a v) : x = (a, v) ∨ x ∈ m := by
  induction m with
  | nil => simp [mapPut] at h; exact Or.inl h
  | cons y m ih =>
    obtain ⟨k, w⟩ := y
    simp only [mapPut] at h
    split at h
    · simpa using h
    · split at h
      · rcases List.mem_cons.mp h with h | h
        · exact Or.inl h
        · exact Or.inr (List.mem_cons_of_mem _ h)
      · rcases List.mem_cons.mp h with h | h
        · simp [h]
        · rcases ih h with h | h
          · exact Or.inl h
          · exact Or.inr (List.mem_cons_of_mem _ h)

theorem mem_mapSet [DecidableEq α] {d : α} {m : List (Nat × α)} {a : Nat} {v : α} {x : Nat × α} (h : x ∈ mapSet d m a v) :
    (x = (a, v) ∧ v ≠ d) ∨ x ∈ m := by
  simp only [mapSet] at h
  split at h
  · exact Or.inr (mem_mapDel h)
  · rename_i hv
    rcases mem_mapPut h with h | h
    · exact Or.inl ⟨h, hv⟩
    · exact Or.inr h

end Sys2Proof.Machine
end

