-- ==== Sys2Proof/Laws/Regs.lean ====
section
/-! SUPPORT. Laws of the register map (00 R15-R19): a read after a write, fields, and the canonical form. -/

namespace Sys2Proof.Machine

variable {α : Type}

theorem mapGet_mapDel_ne (m : List (Nat × α)) {a b : Nat} (h : a ≠ b) : mapGet (mapDel m a) b = mapGet m b := by
  induction m with
  | nil => rfl
  | cons x m ih =>
    obtain ⟨k, w⟩ := x
    simp only [mapDel]
    split
    · subst_vars; simp [mapGet, h]
    · simp only [mapGet, ih]

theorem mapRead_mapSet_ne [DecidableEq α] (d d' : α) (m : List (Nat × α)) {a b : Nat} (h : a ≠ b) (v : α) :
    mapRead d' (mapSet d m a v) b = mapRead d' m b := by
  simp only [mapRead, mapSet]
  split
  · rw [mapGet_mapDel_ne m h]
  · rw [mapGet_mapPut, if_neg h]

/-! ### Whole words -/

/-- A write of one register leaves every other as it was. -/
theorem reg_setReg_ne (s : State) {a b : Nat} (h : a ≠ b) (w : Word) : (s.setReg a w).reg b = s.reg b :=
  mapRead_mapSet_ne _ _ _ h w

/-- A register reads what was written to it. -/
theorem reg_setReg {s : State} (h : mapRising 0 s.regs = true) (a : Nat) (w : Word) : (s.setReg a w).reg a = w := by
  simp only [State.reg, State.setReg]
  rw [mapRead_mapSet _ h]
  simp

/-! ### Fields -/

theorem bitsOf_lt (v hi lo : Nat) : bitsOf v hi lo < 2 ^ (hi - lo + 1) := Nat.mod_lt _ (by positivity)

/-- The bits of a word with a field replaced: the field reads the value, modulo its width. -/
theorem bitsOf_insertBits (w : Word) {hi lo : Nat} (h : lo ≤ hi) (h32 : hi < 32) (v : Nat) :
    bitsOf (insertBits w hi lo v).toNat hi lo = v % 2 ^ (hi - lo + 1) := by
  set n := hi - lo + 1 with hn
  have hw := w.isLt
  have hsplit : w.toNat = w.toNat % 2 ^ lo + 2 ^ lo * (w.toNat / 2 ^ lo % 2 ^ n) + 2 ^ lo * 2 ^ n * (w.toNat / 2 ^ lo / 2 ^ n) := by
    have h1 := Nat.mod_add_div w.toNat (2 ^ lo)
    have h2 := Nat.mod_add_div (w.toNat / 2 ^ lo) (2 ^ n)
    calc w.toNat = w.toNat % 2 ^ lo + 2 ^ lo * (w.toNat / 2 ^ lo) := h1.symm
      _ = w.toNat % 2 ^ lo + 2 ^ lo * (w.toNat / 2 ^ lo % 2 ^ n + 2 ^ n * (w.toNat / 2 ^ lo / 2 ^ n)) := by rw [h2]
      _ = _ := by ring
  have hlow : w.toNat % 2 ^ lo < 2 ^ lo := Nat.mod_lt _ (by positivity)
  have hv : v % 2 ^ n < 2 ^ n := Nat.mod_lt _ (by positivity)
  have hpow : 2 ^ lo * 2 ^ n * 2 ^ (32 - lo - n) = 2 ^ 32 := by rw [← pow_add, ← pow_add]; congr 1; omega
  have htop : w.toNat / 2 ^ lo / 2 ^ n < 2 ^ (32 - lo - n) := by
    rw [Nat.div_div_eq_div_mul, Nat.div_lt_iff_lt_mul (by positivity), mul_comm]
    exact lt_of_lt_of_eq hw hpow.symm
  set l := w.toNat % 2 ^ lo
  set t := w.toNat / 2 ^ lo / 2 ^ n
  set m := w.toNat / 2 ^ lo % 2 ^ n
  have hsum : w.toNat - m * 2 ^ lo + v % 2 ^ n * 2 ^ lo = l + 2 ^ lo * (v % 2 ^ n + 2 ^ n * t) := by
    rw [hsplit]; have : m * 2 ^ lo = 2 ^ lo * m := mul_comm _ _
    have h3 : l + 2 ^ lo * m + 2 ^ lo * 2 ^ n * t - m * 2 ^ lo = l + 2 ^ lo * 2 ^ n * t := by omega
    rw [h3]; ring
  have hlt : l + 2 ^ lo * (v % 2 ^ n + 2 ^ n * t) < 2 ^ 32 := by
    have h4 : v % 2 ^ n + 2 ^ n * t + 1 ≤ 2 ^ n * 2 ^ (32 - lo - n) := by
      calc v % 2 ^ n + 2 ^ n * t + 1 ≤ 2 ^ n + 2 ^ n * t := by omega
        _ = 2 ^ n * (t + 1) := by ring
        _ ≤ 2 ^ n * 2 ^ (32 - lo - n) := Nat.mul_le_mul_left _ htop
    calc l + 2 ^ lo * (v % 2 ^ n + 2 ^ n * t) < 2 ^ lo + 2 ^ lo * (v % 2 ^ n + 2 ^ n * t) := by omega
      _ = 2 ^ lo * (v % 2 ^ n + 2 ^ n * t + 1) := by ring
      _ ≤ 2 ^ lo * (2 ^ n * 2 ^ (32 - lo - n)) := Nat.mul_le_mul_left _ h4
      _ = 2 ^ 32 := by rw [← mul_assoc]; exact hpow
  simp only [insertBits, bitsOf, ← hn, BitVec.toNat_ofNat]
  rw [show w.toNat / 2 ^ lo % 2 ^ n = m from rfl, hsum, Nat.mod_eq_of_lt hlt, Nat.add_mul_div_left _ _ (by positivity),
    Nat.div_eq_of_lt hlow, Nat.zero_add, Nat.add_mul_mod_self_left, Nat.mod_eq_of_lt hv]

/-- A field reads the value written to it, modulo its width. -/
theorem fld_setFld {s : State} (hs : mapRising 0 s.regs = true) {f : Fld} (h : f.lo ≤ f.hi) (h32 : f.hi < 32) (v : Nat) :
    (s.setFld f v).fld f = v % 2 ^ (f.hi - f.lo + 1) := by
  simp only [State.fld, State.setFld, reg_setReg hs]
  exact bitsOf_insertBits _ h h32 v

/-- A field of another register is left alone. -/
theorem fld_setFld_ne (s : State) {f g : Fld} (h : f.addr ≠ g.addr) (v : Nat) : (s.setFld f v).fld g = s.fld g := by
  simp only [State.fld, State.setFld, reg_setReg_ne s h]

/-! ### The canonical form -/

theorem regsWf_mapSet {m : List (Nat × Word)} (h : regsWf m = true) (a : Nat) (w : Word) :
    regsWf (mapSet (regReset a) m a w) = true := by
  simp only [regsWf, Bool.and_eq_true, List.all_eq_true, bne_iff_ne] at *
  refine ⟨mapRising_mapSet _ h.1 (Nat.zero_le _) w, fun x hx => ?_⟩
  rcases mem_mapSet hx with ⟨rfl, hv⟩ | hx
  · exact hv
  · exact h.2 x hx

theorem regsWf_filter {m : List (Nat × Word)} (h : regsWf m = true) (p : Nat × Word → Bool) : regsWf (m.filter p) = true := by
  simp only [regsWf, Bool.and_eq_true, List.all_eq_true, bne_iff_ne] at *
  exact ⟨mapRising_filter h.1 p, fun x hx => h.2 x (List.mem_filter.mp hx).1⟩

theorem regsWf_setReg {s : State} (h : regsWf s.regs = true) (a : Nat) (w : Word) : regsWf (s.setReg a w).regs = true :=
  regsWf_mapSet h a w

theorem regsWf_setFld {s : State} (h : regsWf s.regs = true) (f : Fld) (v : Nat) : regsWf (s.setFld f v).regs = true :=
  regsWf_mapSet h _ _

theorem regsWf_resetRegs {s : State} (h : regsWf s.regs = true) (p : Nat → Bool) : regsWf (s.resetRegs p).regs = true :=
  regsWf_filter h _

end Sys2Proof.Machine
end

