-- ==== Sys2Proof/Laws/State.lean ====
section
/-! SUPPORT. Laws of the named updates of State: which field each changes, and that it leaves every other field alone; what keeps a
state sound. -/

namespace Sys2Proof.Machine

variable (s : State)

/-! ### State.setReg -/

@[simp] theorem setReg_pending (a : Nat) (w : Word) : (s.setReg a w).pending = s.pending := rfl
@[simp] theorem setReg_out (a : Nat) (w : Word) : (s.setReg a w).out = s.out := rfl
@[simp] theorem setReg_draws (a : Nat) (w : Word) : (s.setReg a w).draws = s.draws := rfl
@[simp] theorem setReg_deviceTime (a : Nat) (w : Word) : (s.setReg a w).deviceTime = s.deviceTime := rfl
@[simp] theorem setReg_refPhase (a : Nat) (w : Word) : (s.setReg a w).refPhase = s.refPhase := rfl
@[simp] theorem setReg_regs (a : Nat) (w : Word) : (s.setReg a w).regs = mapSet (regReset a) s.regs a w := rfl
@[simp] theorem setReg_supply (a : Nat) (w : Word) : (s.setReg a w).supply = s.supply := rfl
@[simp] theorem setReg_gatesOpen (a : Nat) (w : Word) : (s.setReg a w).gatesOpen = s.gatesOpen := rfl
@[simp] theorem setReg_retry (a : Nat) (w : Word) : (s.setReg a w).retry = s.retry := rfl
@[simp] theorem setReg_linkUp (a : Nat) (w : Word) : (s.setReg a w).linkUp = s.linkUp := rfl
@[simp] theorem setReg_vfEnable (a : Nat) (w : Word) : (s.setReg a w).vfEnable = s.vfEnable := rfl
@[simp] theorem setReg_numVfs (a : Nat) (w : Word) : (s.setReg a w).numVfs = s.numVfs := rfl
@[simp] theorem setReg_d3hot (a : Nat) (w : Word) : (s.setReg a w).d3hot = s.d3hot := rfl
@[simp] theorem setReg_fns (a : Nat) (w : Word) : (s.setReg a w).fns = s.fns := rfl
@[simp] theorem setReg_parts (a : Nat) (w : Word) : (s.setReg a w).parts = s.parts := rfl
@[simp] theorem setReg_inflight (a : Nat) (w : Word) : (s.setReg a w).inflight = s.inflight := rfl
@[simp] theorem setReg_admitted (a : Nat) (w : Word) : (s.setReg a w).admitted = s.admitted := rfl
@[simp] theorem setReg_gated (a : Nat) (w : Word) : (s.setReg a w).gated = s.gated := rfl
@[simp] theorem setReg_txns (a : Nat) (w : Word) : (s.setReg a w).txns = s.txns := rfl
@[simp] theorem setReg_noEntropy (a : Nat) (w : Word) : (s.setReg a w).noEntropy = s.noEntropy := rfl
@[simp] theorem setReg_life (a : Nat) (w : Word) : (s.setReg a w).life = s.life := rfl
@[simp] theorem setReg_domains (a : Nat) (w : Word) : (s.setReg a w).domains = s.domains := rfl
@[simp] theorem setReg_strapCompat (a : Nat) (w : Word) : (s.setReg a w).strapCompat = s.strapCompat := rfl
@[simp] theorem setReg_keys (a : Nat) (w : Word) : (s.setReg a w).keys = s.keys := rfl
@[simp] theorem setReg_units (a : Nat) (w : Word) : (s.setReg a w).units = s.units := rfl
@[simp] theorem setReg_wells (a : Nat) (w : Word) : (s.setReg a w).wells = s.wells := rfl
@[simp] theorem setReg_halves (a : Nat) (w : Word) : (s.setReg a w).halves = s.halves := rfl
@[simp] theorem setReg_ee (a : Nat) (w : Word) : (s.setReg a w).ee = s.ee := rfl
@[simp] theorem setReg_kalmel (a : Nat) (w : Word) : (s.setReg a w).kalmel = s.kalmel := rfl
@[simp] theorem setReg_flows (a : Nat) (w : Word) : (s.setReg a w).flows = s.flows := rfl
@[simp] theorem setReg_spill (a : Nat) (w : Word) : (s.setReg a w).spill = s.spill := rfl
@[simp] theorem setReg_lanes (a : Nat) (w : Word) : (s.setReg a w).lanes = s.lanes := rfl
@[simp] theorem setReg_frames (a : Nat) (w : Word) : (s.setReg a w).frames = s.frames := rfl
@[simp] theorem setReg_nextFrame (a : Nat) (w : Word) : (s.setReg a w).nextFrame = s.nextFrame := rfl
@[simp] theorem setReg_hs (a : Nat) (w : Word) : (s.setReg a w).hs = s.hs := rfl
@[simp] theorem setReg_lf (a : Nat) (w : Word) : (s.setReg a w).lf = s.lf := rfl
@[simp] theorem setReg_bc (a : Nat) (w : Word) : (s.setReg a w).bc = s.bc := rfl
@[simp] theorem setReg_uhf (a : Nat) (w : Word) : (s.setReg a w).uhf = s.uhf := rfl
@[simp] theorem setReg_uwb (a : Nat) (w : Word) : (s.setReg a w).uwb = s.uwb := rfl
@[simp] theorem setReg_acc (a : Nat) (w : Word) : (s.setReg a w).acc = s.acc := rfl
@[simp] theorem setReg_immo (a : Nat) (w : Word) : (s.setReg a w).immo = s.immo := rfl
@[simp] theorem setReg_power (a : Nat) (w : Word) : (s.setReg a w).power = s.power := rfl
@[simp] theorem setReg_ledger (a : Nat) (w : Word) : (s.setReg a w).ledger = s.ledger := rfl
@[simp] theorem setReg_tamper (a : Nat) (w : Word) : (s.setReg a w).tamper = s.tamper := rfl
@[simp] theorem setReg_lc (a : Nat) (w : Word) : (s.setReg a w).lc = s.lc := rfl
@[simp] theorem setReg_card (a : Nat) (w : Word) : (s.setReg a w).card = s.card := rfl
@[simp] theorem setReg_can (a : Nat) (w : Word) : (s.setReg a w).can = s.can := rfl
@[simp] theorem setReg_journals (a : Nat) (w : Word) : (s.setReg a w).journals = s.journals := rfl
@[simp] theorem setReg_boot (a : Nat) (w : Word) : (s.setReg a w).boot = s.boot := rfl
@[simp] theorem setReg_bootAt (a : Nat) (w : Word) : (s.setReg a w).bootAt = s.bootAt := rfl
@[simp] theorem setReg_capDone (a : Nat) (w : Word) : (s.setReg a w).capDone = s.capDone := rfl
@[simp] theorem setReg_rtc (a : Nat) (w : Word) : (s.setReg a w).rtc = s.rtc := rfl

/-! ### State.setFld -/

@[simp] theorem setFld_pending (f : Fld) (v : Nat) : (s.setFld f v).pending = s.pending := rfl
@[simp] theorem setFld_out (f : Fld) (v : Nat) : (s.setFld f v).out = s.out := rfl
@[simp] theorem setFld_draws (f : Fld) (v : Nat) : (s.setFld f v).draws = s.draws := rfl
@[simp] theorem setFld_deviceTime (f : Fld) (v : Nat) : (s.setFld f v).deviceTime = s.deviceTime := rfl
@[simp] theorem setFld_refPhase (f : Fld) (v : Nat) : (s.setFld f v).refPhase = s.refPhase := rfl
@[simp] theorem setFld_supply (f : Fld) (v : Nat) : (s.setFld f v).supply = s.supply := rfl
@[simp] theorem setFld_gatesOpen (f : Fld) (v : Nat) : (s.setFld f v).gatesOpen = s.gatesOpen := rfl
@[simp] theorem setFld_retry (f : Fld) (v : Nat) : (s.setFld f v).retry = s.retry := rfl
@[simp] theorem setFld_linkUp (f : Fld) (v : Nat) : (s.setFld f v).linkUp = s.linkUp := rfl
@[simp] theorem setFld_vfEnable (f : Fld) (v : Nat) : (s.setFld f v).vfEnable = s.vfEnable := rfl
@[simp] theorem setFld_numVfs (f : Fld) (v : Nat) : (s.setFld f v).numVfs = s.numVfs := rfl
@[simp] theorem setFld_d3hot (f : Fld) (v : Nat) : (s.setFld f v).d3hot = s.d3hot := rfl
@[simp] theorem setFld_fns (f : Fld) (v : Nat) : (s.setFld f v).fns = s.fns := rfl
@[simp] theorem setFld_parts (f : Fld) (v : Nat) : (s.setFld f v).parts = s.parts := rfl
@[simp] theorem setFld_inflight (f : Fld) (v : Nat) : (s.setFld f v).inflight = s.inflight := rfl
@[simp] theorem setFld_admitted (f : Fld) (v : Nat) : (s.setFld f v).admitted = s.admitted := rfl
@[simp] theorem setFld_gated (f : Fld) (v : Nat) : (s.setFld f v).gated = s.gated := rfl
@[simp] theorem setFld_txns (f : Fld) (v : Nat) : (s.setFld f v).txns = s.txns := rfl
@[simp] theorem setFld_noEntropy (f : Fld) (v : Nat) : (s.setFld f v).noEntropy = s.noEntropy := rfl
@[simp] theorem setFld_life (f : Fld) (v : Nat) : (s.setFld f v).life = s.life := rfl
@[simp] theorem setFld_domains (f : Fld) (v : Nat) : (s.setFld f v).domains = s.domains := rfl
@[simp] theorem setFld_strapCompat (f : Fld) (v : Nat) : (s.setFld f v).strapCompat = s.strapCompat := rfl
@[simp] theorem setFld_keys (f : Fld) (v : Nat) : (s.setFld f v).keys = s.keys := rfl
@[simp] theorem setFld_units (f : Fld) (v : Nat) : (s.setFld f v).units = s.units := rfl
@[simp] theorem setFld_wells (f : Fld) (v : Nat) : (s.setFld f v).wells = s.wells := rfl
@[simp] theorem setFld_halves (f : Fld) (v : Nat) : (s.setFld f v).halves = s.halves := rfl
@[simp] theorem setFld_ee (f : Fld) (v : Nat) : (s.setFld f v).ee = s.ee := rfl
@[simp] theorem setFld_kalmel (f : Fld) (v : Nat) : (s.setFld f v).kalmel = s.kalmel := rfl
@[simp] theorem setFld_flows (f : Fld) (v : Nat) : (s.setFld f v).flows = s.flows := rfl
@[simp] theorem setFld_spill (f : Fld) (v : Nat) : (s.setFld f v).spill = s.spill := rfl
@[simp] theorem setFld_lanes (f : Fld) (v : Nat) : (s.setFld f v).lanes = s.lanes := rfl
@[simp] theorem setFld_frames (f : Fld) (v : Nat) : (s.setFld f v).frames = s.frames := rfl
@[simp] theorem setFld_nextFrame (f : Fld) (v : Nat) : (s.setFld f v).nextFrame = s.nextFrame := rfl
@[simp] theorem setFld_hs (f : Fld) (v : Nat) : (s.setFld f v).hs = s.hs := rfl
@[simp] theorem setFld_lf (f : Fld) (v : Nat) : (s.setFld f v).lf = s.lf := rfl
@[simp] theorem setFld_bc (f : Fld) (v : Nat) : (s.setFld f v).bc = s.bc := rfl
@[simp] theorem setFld_uhf (f : Fld) (v : Nat) : (s.setFld f v).uhf = s.uhf := rfl
@[simp] theorem setFld_uwb (f : Fld) (v : Nat) : (s.setFld f v).uwb = s.uwb := rfl
@[simp] theorem setFld_acc (f : Fld) (v : Nat) : (s.setFld f v).acc = s.acc := rfl
@[simp] theorem setFld_immo (f : Fld) (v : Nat) : (s.setFld f v).immo = s.immo := rfl
@[simp] theorem setFld_power (f : Fld) (v : Nat) : (s.setFld f v).power = s.power := rfl
@[simp] theorem setFld_ledger (f : Fld) (v : Nat) : (s.setFld f v).ledger = s.ledger := rfl
@[simp] theorem setFld_tamper (f : Fld) (v : Nat) : (s.setFld f v).tamper = s.tamper := rfl
@[simp] theorem setFld_lc (f : Fld) (v : Nat) : (s.setFld f v).lc = s.lc := rfl
@[simp] theorem setFld_card (f : Fld) (v : Nat) : (s.setFld f v).card = s.card := rfl
@[simp] theorem setFld_can (f : Fld) (v : Nat) : (s.setFld f v).can = s.can := rfl
@[simp] theorem setFld_journals (f : Fld) (v : Nat) : (s.setFld f v).journals = s.journals := rfl
@[simp] theorem setFld_boot (f : Fld) (v : Nat) : (s.setFld f v).boot = s.boot := rfl
@[simp] theorem setFld_bootAt (f : Fld) (v : Nat) : (s.setFld f v).bootAt = s.bootAt := rfl
@[simp] theorem setFld_capDone (f : Fld) (v : Nat) : (s.setFld f v).capDone = s.capDone := rfl
@[simp] theorem setFld_rtc (f : Fld) (v : Nat) : (s.setFld f v).rtc = s.rtc := rfl

/-! ### State.resetRegs -/

@[simp] theorem resetRegs_pending (p : Nat → Bool) : (s.resetRegs p).pending = s.pending := rfl
@[simp] theorem resetRegs_out (p : Nat → Bool) : (s.resetRegs p).out = s.out := rfl
@[simp] theorem resetRegs_draws (p : Nat → Bool) : (s.resetRegs p).draws = s.draws := rfl
@[simp] theorem resetRegs_deviceTime (p : Nat → Bool) : (s.resetRegs p).deviceTime = s.deviceTime := rfl
@[simp] theorem resetRegs_refPhase (p : Nat → Bool) : (s.resetRegs p).refPhase = s.refPhase := rfl
@[simp] theorem resetRegs_regs (p : Nat → Bool) : (s.resetRegs p).regs = s.regs.filter (fun c => !p c.1) := rfl
@[simp] theorem resetRegs_supply (p : Nat → Bool) : (s.resetRegs p).supply = s.supply := rfl
@[simp] theorem resetRegs_gatesOpen (p : Nat → Bool) : (s.resetRegs p).gatesOpen = s.gatesOpen := rfl
@[simp] theorem resetRegs_retry (p : Nat → Bool) : (s.resetRegs p).retry = s.retry := rfl
@[simp] theorem resetRegs_linkUp (p : Nat → Bool) : (s.resetRegs p).linkUp = s.linkUp := rfl
@[simp] theorem resetRegs_vfEnable (p : Nat → Bool) : (s.resetRegs p).vfEnable = s.vfEnable := rfl
@[simp] theorem resetRegs_numVfs (p : Nat → Bool) : (s.resetRegs p).numVfs = s.numVfs := rfl
@[simp] theorem resetRegs_d3hot (p : Nat → Bool) : (s.resetRegs p).d3hot = s.d3hot := rfl
@[simp] theorem resetRegs_fns (p : Nat → Bool) : (s.resetRegs p).fns = s.fns := rfl
@[simp] theorem resetRegs_parts (p : Nat → Bool) : (s.resetRegs p).parts = s.parts := rfl
@[simp] theorem resetRegs_inflight (p : Nat → Bool) : (s.resetRegs p).inflight = s.inflight := rfl
@[simp] theorem resetRegs_admitted (p : Nat → Bool) : (s.resetRegs p).admitted = s.admitted := rfl
@[simp] theorem resetRegs_gated (p : Nat → Bool) : (s.resetRegs p).gated = s.gated := rfl
@[simp] theorem resetRegs_txns (p : Nat → Bool) : (s.resetRegs p).txns = s.txns := rfl
@[simp] theorem resetRegs_noEntropy (p : Nat → Bool) : (s.resetRegs p).noEntropy = s.noEntropy := rfl
@[simp] theorem resetRegs_life (p : Nat → Bool) : (s.resetRegs p).life = s.life := rfl
@[simp] theorem resetRegs_domains (p : Nat → Bool) : (s.resetRegs p).domains = s.domains := rfl
@[simp] theorem resetRegs_strapCompat (p : Nat → Bool) : (s.resetRegs p).strapCompat = s.strapCompat := rfl
@[simp] theorem resetRegs_keys (p : Nat → Bool) : (s.resetRegs p).keys = s.keys := rfl
@[simp] theorem resetRegs_units (p : Nat → Bool) : (s.resetRegs p).units = s.units := rfl
@[simp] theorem resetRegs_wells (p : Nat → Bool) : (s.resetRegs p).wells = s.wells := rfl
@[simp] theorem resetRegs_halves (p : Nat → Bool) : (s.resetRegs p).halves = s.halves := rfl
@[simp] theorem resetRegs_ee (p : Nat → Bool) : (s.resetRegs p).ee = s.ee := rfl
@[simp] theorem resetRegs_kalmel (p : Nat → Bool) : (s.resetRegs p).kalmel = s.kalmel := rfl
@[simp] theorem resetRegs_flows (p : Nat → Bool) : (s.resetRegs p).flows = s.flows := rfl
@[simp] theorem resetRegs_spill (p : Nat → Bool) : (s.resetRegs p).spill = s.spill := rfl
@[simp] theorem resetRegs_lanes (p : Nat → Bool) : (s.resetRegs p).lanes = s.lanes := rfl
@[simp] theorem resetRegs_frames (p : Nat → Bool) : (s.resetRegs p).frames = s.frames := rfl
@[simp] theorem resetRegs_nextFrame (p : Nat → Bool) : (s.resetRegs p).nextFrame = s.nextFrame := rfl
@[simp] theorem resetRegs_hs (p : Nat → Bool) : (s.resetRegs p).hs = s.hs := rfl
@[simp] theorem resetRegs_lf (p : Nat → Bool) : (s.resetRegs p).lf = s.lf := rfl
@[simp] theorem resetRegs_bc (p : Nat → Bool) : (s.resetRegs p).bc = s.bc := rfl
@[simp] theorem resetRegs_uhf (p : Nat → Bool) : (s.resetRegs p).uhf = s.uhf := rfl
@[simp] theorem resetRegs_uwb (p : Nat → Bool) : (s.resetRegs p).uwb = s.uwb := rfl
@[simp] theorem resetRegs_acc (p : Nat → Bool) : (s.resetRegs p).acc = s.acc := rfl
@[simp] theorem resetRegs_immo (p : Nat → Bool) : (s.resetRegs p).immo = s.immo := rfl
@[simp] theorem resetRegs_power (p : Nat → Bool) : (s.resetRegs p).power = s.power := rfl
@[simp] theorem resetRegs_ledger (p : Nat → Bool) : (s.resetRegs p).ledger = s.ledger := rfl
@[simp] theorem resetRegs_tamper (p : Nat → Bool) : (s.resetRegs p).tamper = s.tamper := rfl
@[simp] theorem resetRegs_lc (p : Nat → Bool) : (s.resetRegs p).lc = s.lc := rfl
@[simp] theorem resetRegs_card (p : Nat → Bool) : (s.resetRegs p).card = s.card := rfl
@[simp] theorem resetRegs_can (p : Nat → Bool) : (s.resetRegs p).can = s.can := rfl
@[simp] theorem resetRegs_journals (p : Nat → Bool) : (s.resetRegs p).journals = s.journals := rfl
@[simp] theorem resetRegs_boot (p : Nat → Bool) : (s.resetRegs p).boot = s.boot := rfl
@[simp] theorem resetRegs_bootAt (p : Nat → Bool) : (s.resetRegs p).bootAt = s.bootAt := rfl
@[simp] theorem resetRegs_capDone (p : Nat → Bool) : (s.resetRegs p).capDone = s.capDone := rfl
@[simp] theorem resetRegs_rtc (p : Nat → Bool) : (s.resetRegs p).rtc = s.rtc := rfl

/-! ### State.emit -/

@[simp] theorem emit_pending (o : Output) : (s.emit o).pending = s.pending := rfl
@[simp] theorem emit_out (o : Output) : (s.emit o).out = o :: s.out := rfl
@[simp] theorem emit_draws (o : Output) : (s.emit o).draws = s.draws := rfl
@[simp] theorem emit_deviceTime (o : Output) : (s.emit o).deviceTime = s.deviceTime := rfl
@[simp] theorem emit_refPhase (o : Output) : (s.emit o).refPhase = s.refPhase := rfl
@[simp] theorem emit_regs (o : Output) : (s.emit o).regs = s.regs := rfl
@[simp] theorem emit_supply (o : Output) : (s.emit o).supply = s.supply := rfl
@[simp] theorem emit_gatesOpen (o : Output) : (s.emit o).gatesOpen = s.gatesOpen := rfl
@[simp] theorem emit_retry (o : Output) : (s.emit o).retry = s.retry := rfl
@[simp] theorem emit_linkUp (o : Output) : (s.emit o).linkUp = s.linkUp := rfl
@[simp] theorem emit_vfEnable (o : Output) : (s.emit o).vfEnable = s.vfEnable := rfl
@[simp] theorem emit_numVfs (o : Output) : (s.emit o).numVfs = s.numVfs := rfl
@[simp] theorem emit_d3hot (o : Output) : (s.emit o).d3hot = s.d3hot := rfl
@[simp] theorem emit_fns (o : Output) : (s.emit o).fns = s.fns := rfl
@[simp] theorem emit_parts (o : Output) : (s.emit o).parts = s.parts := rfl
@[simp] theorem emit_inflight (o : Output) : (s.emit o).inflight = s.inflight := rfl
@[simp] theorem emit_admitted (o : Output) : (s.emit o).admitted = s.admitted := rfl
@[simp] theorem emit_gated (o : Output) : (s.emit o).gated = s.gated := rfl
@[simp] theorem emit_txns (o : Output) : (s.emit o).txns = s.txns := rfl
@[simp] theorem emit_noEntropy (o : Output) : (s.emit o).noEntropy = s.noEntropy := rfl
@[simp] theorem emit_life (o : Output) : (s.emit o).life = s.life := rfl
@[simp] theorem emit_domains (o : Output) : (s.emit o).domains = s.domains := rfl
@[simp] theorem emit_strapCompat (o : Output) : (s.emit o).strapCompat = s.strapCompat := rfl
@[simp] theorem emit_keys (o : Output) : (s.emit o).keys = s.keys := rfl
@[simp] theorem emit_units (o : Output) : (s.emit o).units = s.units := rfl
@[simp] theorem emit_wells (o : Output) : (s.emit o).wells = s.wells := rfl
@[simp] theorem emit_halves (o : Output) : (s.emit o).halves = s.halves := rfl
@[simp] theorem emit_ee (o : Output) : (s.emit o).ee = s.ee := rfl
@[simp] theorem emit_kalmel (o : Output) : (s.emit o).kalmel = s.kalmel := rfl
@[simp] theorem emit_flows (o : Output) : (s.emit o).flows = s.flows := rfl
@[simp] theorem emit_spill (o : Output) : (s.emit o).spill = s.spill := rfl
@[simp] theorem emit_lanes (o : Output) : (s.emit o).lanes = s.lanes := rfl
@[simp] theorem emit_frames (o : Output) : (s.emit o).frames = s.frames := rfl
@[simp] theorem emit_nextFrame (o : Output) : (s.emit o).nextFrame = s.nextFrame := rfl
@[simp] theorem emit_hs (o : Output) : (s.emit o).hs = s.hs := rfl
@[simp] theorem emit_lf (o : Output) : (s.emit o).lf = s.lf := rfl
@[simp] theorem emit_bc (o : Output) : (s.emit o).bc = s.bc := rfl
@[simp] theorem emit_uhf (o : Output) : (s.emit o).uhf = s.uhf := rfl
@[simp] theorem emit_uwb (o : Output) : (s.emit o).uwb = s.uwb := rfl
@[simp] theorem emit_acc (o : Output) : (s.emit o).acc = s.acc := rfl
@[simp] theorem emit_immo (o : Output) : (s.emit o).immo = s.immo := rfl
@[simp] theorem emit_power (o : Output) : (s.emit o).power = s.power := rfl
@[simp] theorem emit_ledger (o : Output) : (s.emit o).ledger = s.ledger := rfl
@[simp] theorem emit_tamper (o : Output) : (s.emit o).tamper = s.tamper := rfl
@[simp] theorem emit_lc (o : Output) : (s.emit o).lc = s.lc := rfl
@[simp] theorem emit_card (o : Output) : (s.emit o).card = s.card := rfl
@[simp] theorem emit_can (o : Output) : (s.emit o).can = s.can := rfl
@[simp] theorem emit_journals (o : Output) : (s.emit o).journals = s.journals := rfl
@[simp] theorem emit_boot (o : Output) : (s.emit o).boot = s.boot := rfl
@[simp] theorem emit_bootAt (o : Output) : (s.emit o).bootAt = s.bootAt := rfl
@[simp] theorem emit_capDone (o : Output) : (s.emit o).capDone = s.capDone := rfl
@[simp] theorem emit_rtc (o : Output) : (s.emit o).rtc = s.rtc := rfl

/-! ### State.updPart -/

@[simp] theorem updPart_pending (p : Nat) (f : PartSt → PartSt) : (s.updPart p f).pending = s.pending := rfl
@[simp] theorem updPart_out (p : Nat) (f : PartSt → PartSt) : (s.updPart p f).out = s.out := rfl
@[simp] theorem updPart_draws (p : Nat) (f : PartSt → PartSt) : (s.updPart p f).draws = s.draws := rfl
@[simp] theorem updPart_deviceTime (p : Nat) (f : PartSt → PartSt) : (s.updPart p f).deviceTime = s.deviceTime := rfl
@[simp] theorem updPart_refPhase (p : Nat) (f : PartSt → PartSt) : (s.updPart p f).refPhase = s.refPhase := rfl
@[simp] theorem updPart_regs (p : Nat) (f : PartSt → PartSt) : (s.updPart p f).regs = s.regs := rfl
@[simp] theorem updPart_supply (p : Nat) (f : PartSt → PartSt) : (s.updPart p f).supply = s.supply := rfl
@[simp] theorem updPart_gatesOpen (p : Nat) (f : PartSt → PartSt) : (s.updPart p f).gatesOpen = s.gatesOpen := rfl
@[simp] theorem updPart_retry (p : Nat) (f : PartSt → PartSt) : (s.updPart p f).retry = s.retry := rfl
@[simp] theorem updPart_linkUp (p : Nat) (f : PartSt → PartSt) : (s.updPart p f).linkUp = s.linkUp := rfl
@[simp] theorem updPart_vfEnable (p : Nat) (f : PartSt → PartSt) : (s.updPart p f).vfEnable = s.vfEnable := rfl
@[simp] theorem updPart_numVfs (p : Nat) (f : PartSt → PartSt) : (s.updPart p f).numVfs = s.numVfs := rfl
@[simp] theorem updPart_d3hot (p : Nat) (f : PartSt → PartSt) : (s.updPart p f).d3hot = s.d3hot := rfl
@[simp] theorem updPart_fns (p : Nat) (f : PartSt → PartSt) : (s.updPart p f).fns = s.fns := rfl
@[simp] theorem updPart_parts (p : Nat) (f : PartSt → PartSt) : (s.updPart p f).parts = mapUpd s.parts p f := rfl
@[simp] theorem updPart_inflight (p : Nat) (f : PartSt → PartSt) : (s.updPart p f).inflight = s.inflight := rfl
@[simp] theorem updPart_admitted (p : Nat) (f : PartSt → PartSt) : (s.updPart p f).admitted = s.admitted := rfl
@[simp] theorem updPart_gated (p : Nat) (f : PartSt → PartSt) : (s.updPart p f).gated = s.gated := rfl
@[simp] theorem updPart_txns (p : Nat) (f : PartSt → PartSt) : (s.updPart p f).txns = s.txns := rfl
@[simp] theorem updPart_noEntropy (p : Nat) (f : PartSt → PartSt) : (s.updPart p f).noEntropy = s.noEntropy := rfl
@[simp] theorem updPart_life (p : Nat) (f : PartSt → PartSt) : (s.updPart p f).life = s.life := rfl
@[simp] theorem updPart_domains (p : Nat) (f : PartSt → PartSt) : (s.updPart p f).domains = s.domains := rfl
@[simp] theorem updPart_strapCompat (p : Nat) (f : PartSt → PartSt) : (s.updPart p f).strapCompat = s.strapCompat := rfl
@[simp] theorem updPart_keys (p : Nat) (f : PartSt → PartSt) : (s.updPart p f).keys = s.keys := rfl
@[simp] theorem updPart_units (p : Nat) (f : PartSt → PartSt) : (s.updPart p f).units = s.units := rfl
@[simp] theorem updPart_wells (p : Nat) (f : PartSt → PartSt) : (s.updPart p f).wells = s.wells := rfl
@[simp] theorem updPart_halves (p : Nat) (f : PartSt → PartSt) : (s.updPart p f).halves = s.halves := rfl
@[simp] theorem updPart_ee (p : Nat) (f : PartSt → PartSt) : (s.updPart p f).ee = s.ee := rfl
@[simp] theorem updPart_kalmel (p : Nat) (f : PartSt → PartSt) : (s.updPart p f).kalmel = s.kalmel := rfl
@[simp] theorem updPart_flows (p : Nat) (f : PartSt → PartSt) : (s.updPart p f).flows = s.flows := rfl
@[simp] theorem updPart_spill (p : Nat) (f : PartSt → PartSt) : (s.updPart p f).spill = s.spill := rfl
@[simp] theorem updPart_lanes (p : Nat) (f : PartSt → PartSt) : (s.updPart p f).lanes = s.lanes := rfl
@[simp] theorem updPart_frames (p : Nat) (f : PartSt → PartSt) : (s.updPart p f).frames = s.frames := rfl
@[simp] theorem updPart_nextFrame (p : Nat) (f : PartSt → PartSt) : (s.updPart p f).nextFrame = s.nextFrame := rfl
@[simp] theorem updPart_hs (p : Nat) (f : PartSt → PartSt) : (s.updPart p f).hs = s.hs := rfl
@[simp] theorem updPart_lf (p : Nat) (f : PartSt → PartSt) : (s.updPart p f).lf = s.lf := rfl
@[simp] theorem updPart_bc (p : Nat) (f : PartSt → PartSt) : (s.updPart p f).bc = s.bc := rfl
@[simp] theorem updPart_uhf (p : Nat) (f : PartSt → PartSt) : (s.updPart p f).uhf = s.uhf := rfl
@[simp] theorem updPart_uwb (p : Nat) (f : PartSt → PartSt) : (s.updPart p f).uwb = s.uwb := rfl
@[simp] theorem updPart_acc (p : Nat) (f : PartSt → PartSt) : (s.updPart p f).acc = s.acc := rfl
@[simp] theorem updPart_immo (p : Nat) (f : PartSt → PartSt) : (s.updPart p f).immo = s.immo := rfl
@[simp] theorem updPart_power (p : Nat) (f : PartSt → PartSt) : (s.updPart p f).power = s.power := rfl
@[simp] theorem updPart_ledger (p : Nat) (f : PartSt → PartSt) : (s.updPart p f).ledger = s.ledger := rfl
@[simp] theorem updPart_tamper (p : Nat) (f : PartSt → PartSt) : (s.updPart p f).tamper = s.tamper := rfl
@[simp] theorem updPart_lc (p : Nat) (f : PartSt → PartSt) : (s.updPart p f).lc = s.lc := rfl
@[simp] theorem updPart_card (p : Nat) (f : PartSt → PartSt) : (s.updPart p f).card = s.card := rfl
@[simp] theorem updPart_can (p : Nat) (f : PartSt → PartSt) : (s.updPart p f).can = s.can := rfl
@[simp] theorem updPart_journals (p : Nat) (f : PartSt → PartSt) : (s.updPart p f).journals = s.journals := rfl
@[simp] theorem updPart_boot (p : Nat) (f : PartSt → PartSt) : (s.updPart p f).boot = s.boot := rfl
@[simp] theorem updPart_bootAt (p : Nat) (f : PartSt → PartSt) : (s.updPart p f).bootAt = s.bootAt := rfl
@[simp] theorem updPart_capDone (p : Nat) (f : PartSt → PartSt) : (s.updPart p f).capDone = s.capDone := rfl
@[simp] theorem updPart_rtc (p : Nat) (f : PartSt → PartSt) : (s.updPart p f).rtc = s.rtc := rfl

/-! ### State.setFn -/

@[simp] theorem setFn_pending (p : Nat) (f : FnSt) : (s.setFn p f).pending = s.pending := rfl
@[simp] theorem setFn_out (p : Nat) (f : FnSt) : (s.setFn p f).out = s.out := rfl
@[simp] theorem setFn_draws (p : Nat) (f : FnSt) : (s.setFn p f).draws = s.draws := rfl
@[simp] theorem setFn_deviceTime (p : Nat) (f : FnSt) : (s.setFn p f).deviceTime = s.deviceTime := rfl
@[simp] theorem setFn_refPhase (p : Nat) (f : FnSt) : (s.setFn p f).refPhase = s.refPhase := rfl
@[simp] theorem setFn_regs (p : Nat) (f : FnSt) : (s.setFn p f).regs = s.regs := rfl
@[simp] theorem setFn_supply (p : Nat) (f : FnSt) : (s.setFn p f).supply = s.supply := rfl
@[simp] theorem setFn_gatesOpen (p : Nat) (f : FnSt) : (s.setFn p f).gatesOpen = s.gatesOpen := rfl
@[simp] theorem setFn_retry (p : Nat) (f : FnSt) : (s.setFn p f).retry = s.retry := rfl
@[simp] theorem setFn_linkUp (p : Nat) (f : FnSt) : (s.setFn p f).linkUp = s.linkUp := rfl
@[simp] theorem setFn_vfEnable (p : Nat) (f : FnSt) : (s.setFn p f).vfEnable = s.vfEnable := rfl
@[simp] theorem setFn_numVfs (p : Nat) (f : FnSt) : (s.setFn p f).numVfs = s.numVfs := rfl
@[simp] theorem setFn_d3hot (p : Nat) (f : FnSt) : (s.setFn p f).d3hot = s.d3hot := rfl
@[simp] theorem setFn_fns (p : Nat) (f : FnSt) : (s.setFn p f).fns = mapSet FnSt.init s.fns p f := rfl
@[simp] theorem setFn_parts (p : Nat) (f : FnSt) : (s.setFn p f).parts = s.parts := rfl
@[simp] theorem setFn_inflight (p : Nat) (f : FnSt) : (s.setFn p f).inflight = s.inflight := rfl
@[simp] theorem setFn_admitted (p : Nat) (f : FnSt) : (s.setFn p f).admitted = s.admitted := rfl
@[simp] theorem setFn_gated (p : Nat) (f : FnSt) : (s.setFn p f).gated = s.gated := rfl
@[simp] theorem setFn_txns (p : Nat) (f : FnSt) : (s.setFn p f).txns = s.txns := rfl
@[simp] theorem setFn_noEntropy (p : Nat) (f : FnSt) : (s.setFn p f).noEntropy = s.noEntropy := rfl
@[simp] theorem setFn_life (p : Nat) (f : FnSt) : (s.setFn p f).life = s.life := rfl
@[simp] theorem setFn_domains (p : Nat) (f : FnSt) : (s.setFn p f).domains = s.domains := rfl
@[simp] theorem setFn_strapCompat (p : Nat) (f : FnSt) : (s.setFn p f).strapCompat = s.strapCompat := rfl
@[simp] theorem setFn_keys (p : Nat) (f : FnSt) : (s.setFn p f).keys = s.keys := rfl
@[simp] theorem setFn_units (p : Nat) (f : FnSt) : (s.setFn p f).units = s.units := rfl
@[simp] theorem setFn_wells (p : Nat) (f : FnSt) : (s.setFn p f).wells = s.wells := rfl
@[simp] theorem setFn_halves (p : Nat) (f : FnSt) : (s.setFn p f).halves = s.halves := rfl
@[simp] theorem setFn_ee (p : Nat) (f : FnSt) : (s.setFn p f).ee = s.ee := rfl
@[simp] theorem setFn_kalmel (p : Nat) (f : FnSt) : (s.setFn p f).kalmel = s.kalmel := rfl
@[simp] theorem setFn_flows (p : Nat) (f : FnSt) : (s.setFn p f).flows = s.flows := rfl
@[simp] theorem setFn_spill (p : Nat) (f : FnSt) : (s.setFn p f).spill = s.spill := rfl
@[simp] theorem setFn_lanes (p : Nat) (f : FnSt) : (s.setFn p f).lanes = s.lanes := rfl
@[simp] theorem setFn_frames (p : Nat) (f : FnSt) : (s.setFn p f).frames = s.frames := rfl
@[simp] theorem setFn_nextFrame (p : Nat) (f : FnSt) : (s.setFn p f).nextFrame = s.nextFrame := rfl
@[simp] theorem setFn_hs (p : Nat) (f : FnSt) : (s.setFn p f).hs = s.hs := rfl
@[simp] theorem setFn_lf (p : Nat) (f : FnSt) : (s.setFn p f).lf = s.lf := rfl
@[simp] theorem setFn_bc (p : Nat) (f : FnSt) : (s.setFn p f).bc = s.bc := rfl
@[simp] theorem setFn_uhf (p : Nat) (f : FnSt) : (s.setFn p f).uhf = s.uhf := rfl
@[simp] theorem setFn_uwb (p : Nat) (f : FnSt) : (s.setFn p f).uwb = s.uwb := rfl
@[simp] theorem setFn_acc (p : Nat) (f : FnSt) : (s.setFn p f).acc = s.acc := rfl
@[simp] theorem setFn_immo (p : Nat) (f : FnSt) : (s.setFn p f).immo = s.immo := rfl
@[simp] theorem setFn_power (p : Nat) (f : FnSt) : (s.setFn p f).power = s.power := rfl
@[simp] theorem setFn_ledger (p : Nat) (f : FnSt) : (s.setFn p f).ledger = s.ledger := rfl
@[simp] theorem setFn_tamper (p : Nat) (f : FnSt) : (s.setFn p f).tamper = s.tamper := rfl
@[simp] theorem setFn_lc (p : Nat) (f : FnSt) : (s.setFn p f).lc = s.lc := rfl
@[simp] theorem setFn_card (p : Nat) (f : FnSt) : (s.setFn p f).card = s.card := rfl
@[simp] theorem setFn_can (p : Nat) (f : FnSt) : (s.setFn p f).can = s.can := rfl
@[simp] theorem setFn_journals (p : Nat) (f : FnSt) : (s.setFn p f).journals = s.journals := rfl
@[simp] theorem setFn_boot (p : Nat) (f : FnSt) : (s.setFn p f).boot = s.boot := rfl
@[simp] theorem setFn_bootAt (p : Nat) (f : FnSt) : (s.setFn p f).bootAt = s.bootAt := rfl
@[simp] theorem setFn_capDone (p : Nat) (f : FnSt) : (s.setFn p f).capDone = s.capDone := rfl
@[simp] theorem setFn_rtc (p : Nat) (f : FnSt) : (s.setFn p f).rtc = s.rtc := rfl

/-! ### State.updWell -/

@[simp] theorem updWell_pending (n : Nat) (f : WellSt → WellSt) : (s.updWell n f).pending = s.pending := rfl
@[simp] theorem updWell_out (n : Nat) (f : WellSt → WellSt) : (s.updWell n f).out = s.out := rfl
@[simp] theorem updWell_draws (n : Nat) (f : WellSt → WellSt) : (s.updWell n f).draws = s.draws := rfl
@[simp] theorem updWell_deviceTime (n : Nat) (f : WellSt → WellSt) : (s.updWell n f).deviceTime = s.deviceTime := rfl
@[simp] theorem updWell_refPhase (n : Nat) (f : WellSt → WellSt) : (s.updWell n f).refPhase = s.refPhase := rfl
@[simp] theorem updWell_regs (n : Nat) (f : WellSt → WellSt) : (s.updWell n f).regs = s.regs := rfl
@[simp] theorem updWell_supply (n : Nat) (f : WellSt → WellSt) : (s.updWell n f).supply = s.supply := rfl
@[simp] theorem updWell_gatesOpen (n : Nat) (f : WellSt → WellSt) : (s.updWell n f).gatesOpen = s.gatesOpen := rfl
@[simp] theorem updWell_retry (n : Nat) (f : WellSt → WellSt) : (s.updWell n f).retry = s.retry := rfl
@[simp] theorem updWell_linkUp (n : Nat) (f : WellSt → WellSt) : (s.updWell n f).linkUp = s.linkUp := rfl
@[simp] theorem updWell_vfEnable (n : Nat) (f : WellSt → WellSt) : (s.updWell n f).vfEnable = s.vfEnable := rfl
@[simp] theorem updWell_numVfs (n : Nat) (f : WellSt → WellSt) : (s.updWell n f).numVfs = s.numVfs := rfl
@[simp] theorem updWell_d3hot (n : Nat) (f : WellSt → WellSt) : (s.updWell n f).d3hot = s.d3hot := rfl
@[simp] theorem updWell_fns (n : Nat) (f : WellSt → WellSt) : (s.updWell n f).fns = s.fns := rfl
@[simp] theorem updWell_parts (n : Nat) (f : WellSt → WellSt) : (s.updWell n f).parts = s.parts := rfl
@[simp] theorem updWell_inflight (n : Nat) (f : WellSt → WellSt) : (s.updWell n f).inflight = s.inflight := rfl
@[simp] theorem updWell_admitted (n : Nat) (f : WellSt → WellSt) : (s.updWell n f).admitted = s.admitted := rfl
@[simp] theorem updWell_gated (n : Nat) (f : WellSt → WellSt) : (s.updWell n f).gated = s.gated := rfl
@[simp] theorem updWell_txns (n : Nat) (f : WellSt → WellSt) : (s.updWell n f).txns = s.txns := rfl
@[simp] theorem updWell_noEntropy (n : Nat) (f : WellSt → WellSt) : (s.updWell n f).noEntropy = s.noEntropy := rfl
@[simp] theorem updWell_life (n : Nat) (f : WellSt → WellSt) : (s.updWell n f).life = s.life := rfl
@[simp] theorem updWell_domains (n : Nat) (f : WellSt → WellSt) : (s.updWell n f).domains = s.domains := rfl
@[simp] theorem updWell_strapCompat (n : Nat) (f : WellSt → WellSt) : (s.updWell n f).strapCompat = s.strapCompat := rfl
@[simp] theorem updWell_keys (n : Nat) (f : WellSt → WellSt) : (s.updWell n f).keys = s.keys := rfl
@[simp] theorem updWell_units (n : Nat) (f : WellSt → WellSt) : (s.updWell n f).units = s.units := rfl
@[simp] theorem updWell_wells (n : Nat) (f : WellSt → WellSt) : (s.updWell n f).wells = s.wells.modify n f := rfl
@[simp] theorem updWell_halves (n : Nat) (f : WellSt → WellSt) : (s.updWell n f).halves = s.halves := rfl
@[simp] theorem updWell_ee (n : Nat) (f : WellSt → WellSt) : (s.updWell n f).ee = s.ee := rfl
@[simp] theorem updWell_kalmel (n : Nat) (f : WellSt → WellSt) : (s.updWell n f).kalmel = s.kalmel := rfl
@[simp] theorem updWell_flows (n : Nat) (f : WellSt → WellSt) : (s.updWell n f).flows = s.flows := rfl
@[simp] theorem updWell_spill (n : Nat) (f : WellSt → WellSt) : (s.updWell n f).spill = s.spill := rfl
@[simp] theorem updWell_lanes (n : Nat) (f : WellSt → WellSt) : (s.updWell n f).lanes = s.lanes := rfl
@[simp] theorem updWell_frames (n : Nat) (f : WellSt → WellSt) : (s.updWell n f).frames = s.frames := rfl
@[simp] theorem updWell_nextFrame (n : Nat) (f : WellSt → WellSt) : (s.updWell n f).nextFrame = s.nextFrame := rfl
@[simp] theorem updWell_hs (n : Nat) (f : WellSt → WellSt) : (s.updWell n f).hs = s.hs := rfl
@[simp] theorem updWell_lf (n : Nat) (f : WellSt → WellSt) : (s.updWell n f).lf = s.lf := rfl
@[simp] theorem updWell_bc (n : Nat) (f : WellSt → WellSt) : (s.updWell n f).bc = s.bc := rfl
@[simp] theorem updWell_uhf (n : Nat) (f : WellSt → WellSt) : (s.updWell n f).uhf = s.uhf := rfl
@[simp] theorem updWell_uwb (n : Nat) (f : WellSt → WellSt) : (s.updWell n f).uwb = s.uwb := rfl
@[simp] theorem updWell_acc (n : Nat) (f : WellSt → WellSt) : (s.updWell n f).acc = s.acc := rfl
@[simp] theorem updWell_immo (n : Nat) (f : WellSt → WellSt) : (s.updWell n f).immo = s.immo := rfl
@[simp] theorem updWell_power (n : Nat) (f : WellSt → WellSt) : (s.updWell n f).power = s.power := rfl
@[simp] theorem updWell_ledger (n : Nat) (f : WellSt → WellSt) : (s.updWell n f).ledger = s.ledger := rfl
@[simp] theorem updWell_tamper (n : Nat) (f : WellSt → WellSt) : (s.updWell n f).tamper = s.tamper := rfl
@[simp] theorem updWell_lc (n : Nat) (f : WellSt → WellSt) : (s.updWell n f).lc = s.lc := rfl
@[simp] theorem updWell_card (n : Nat) (f : WellSt → WellSt) : (s.updWell n f).card = s.card := rfl
@[simp] theorem updWell_can (n : Nat) (f : WellSt → WellSt) : (s.updWell n f).can = s.can := rfl
@[simp] theorem updWell_journals (n : Nat) (f : WellSt → WellSt) : (s.updWell n f).journals = s.journals := rfl
@[simp] theorem updWell_boot (n : Nat) (f : WellSt → WellSt) : (s.updWell n f).boot = s.boot := rfl
@[simp] theorem updWell_bootAt (n : Nat) (f : WellSt → WellSt) : (s.updWell n f).bootAt = s.bootAt := rfl
@[simp] theorem updWell_capDone (n : Nat) (f : WellSt → WellSt) : (s.updWell n f).capDone = s.capDone := rfl
@[simp] theorem updWell_rtc (n : Nat) (f : WellSt → WellSt) : (s.updWell n f).rtc = s.rtc := rfl

/-! ### State.setDomains -/

@[simp] theorem setDomains_pending (d : Nat) : (s.setDomains d).pending = s.pending := rfl
@[simp] theorem setDomains_out (d : Nat) : (s.setDomains d).out = s.out := rfl
@[simp] theorem setDomains_draws (d : Nat) : (s.setDomains d).draws = s.draws := rfl
@[simp] theorem setDomains_deviceTime (d : Nat) : (s.setDomains d).deviceTime = s.deviceTime := rfl
@[simp] theorem setDomains_refPhase (d : Nat) : (s.setDomains d).refPhase = s.refPhase := rfl
@[simp] theorem setDomains_regs (d : Nat) : (s.setDomains d).regs = s.regs := rfl
@[simp] theorem setDomains_supply (d : Nat) : (s.setDomains d).supply = s.supply := rfl
@[simp] theorem setDomains_gatesOpen (d : Nat) : (s.setDomains d).gatesOpen = s.gatesOpen := rfl
@[simp] theorem setDomains_retry (d : Nat) : (s.setDomains d).retry = s.retry := rfl
@[simp] theorem setDomains_linkUp (d : Nat) : (s.setDomains d).linkUp = s.linkUp := rfl
@[simp] theorem setDomains_vfEnable (d : Nat) : (s.setDomains d).vfEnable = s.vfEnable := rfl
@[simp] theorem setDomains_numVfs (d : Nat) : (s.setDomains d).numVfs = s.numVfs := rfl
@[simp] theorem setDomains_d3hot (d : Nat) : (s.setDomains d).d3hot = s.d3hot := rfl
@[simp] theorem setDomains_fns (d : Nat) : (s.setDomains d).fns = s.fns := rfl
@[simp] theorem setDomains_parts (d : Nat) : (s.setDomains d).parts = s.parts := rfl
@[simp] theorem setDomains_inflight (d : Nat) : (s.setDomains d).inflight = s.inflight := rfl
@[simp] theorem setDomains_admitted (d : Nat) : (s.setDomains d).admitted = s.admitted := rfl
@[simp] theorem setDomains_gated (d : Nat) : (s.setDomains d).gated = s.gated := rfl
@[simp] theorem setDomains_txns (d : Nat) : (s.setDomains d).txns = s.txns := rfl
@[simp] theorem setDomains_noEntropy (d : Nat) : (s.setDomains d).noEntropy = s.noEntropy := rfl
@[simp] theorem setDomains_life (d : Nat) : (s.setDomains d).life = s.life := rfl
@[simp] theorem setDomains_domains (d : Nat) : (s.setDomains d).domains = d := rfl
@[simp] theorem setDomains_strapCompat (d : Nat) : (s.setDomains d).strapCompat = s.strapCompat := rfl
@[simp] theorem setDomains_keys (d : Nat) : (s.setDomains d).keys = s.keys := rfl
@[simp] theorem setDomains_units (d : Nat) : (s.setDomains d).units = s.units := rfl
@[simp] theorem setDomains_wells (d : Nat) : (s.setDomains d).wells = s.wells := rfl
@[simp] theorem setDomains_halves (d : Nat) : (s.setDomains d).halves = s.halves := rfl
@[simp] theorem setDomains_ee (d : Nat) : (s.setDomains d).ee = s.ee.power s.deviceTime (bit s.domains 28 && bit s.domains 46) (bit d 28 && bit d 46) := rfl
@[simp] theorem setDomains_kalmel (d : Nat) : (s.setDomains d).kalmel = s.kalmel := rfl
@[simp] theorem setDomains_flows (d : Nat) : (s.setDomains d).flows = s.flows := rfl
@[simp] theorem setDomains_spill (d : Nat) : (s.setDomains d).spill = s.spill := rfl
@[simp] theorem setDomains_lanes (d : Nat) : (s.setDomains d).lanes = s.lanes := rfl
@[simp] theorem setDomains_frames (d : Nat) : (s.setDomains d).frames = s.frames := rfl
@[simp] theorem setDomains_nextFrame (d : Nat) : (s.setDomains d).nextFrame = s.nextFrame := rfl
@[simp] theorem setDomains_hs (d : Nat) : (s.setDomains d).hs = s.hs := rfl
@[simp] theorem setDomains_lf (d : Nat) : (s.setDomains d).lf = { s.lf with tested := s.lf.tested &&& bankChannels d } := rfl
@[simp] theorem setDomains_bc (d : Nat) : (s.setDomains d).bc = s.bc := rfl
@[simp] theorem setDomains_uhf (d : Nat) : (s.setDomains d).uhf = s.uhf := rfl
@[simp] theorem setDomains_uwb (d : Nat) : (s.setDomains d).uwb = s.uwb := rfl
@[simp] theorem setDomains_acc (d : Nat) : (s.setDomains d).acc = s.acc := rfl
@[simp] theorem setDomains_immo (d : Nat) : (s.setDomains d).immo = s.immo := rfl
@[simp] theorem setDomains_power (d : Nat) : (s.setDomains d).power = { s.power with paceOn := s.power.paceOn &&& d, ref38At := if bit d 8 && !bit s.domains 8 then s.deviceTime else s.power.ref38At } := rfl
@[simp] theorem setDomains_ledger (d : Nat) : (s.setDomains d).ledger = s.ledger := rfl
@[simp] theorem setDomains_tamper (d : Nat) : (s.setDomains d).tamper = s.tamper := rfl
@[simp] theorem setDomains_lc (d : Nat) : (s.setDomains d).lc = s.lc := rfl
@[simp] theorem setDomains_card (d : Nat) : (s.setDomains d).card = s.card := rfl
@[simp] theorem setDomains_can (d : Nat) : (s.setDomains d).can = s.can := rfl
@[simp] theorem setDomains_journals (d : Nat) : (s.setDomains d).journals = s.journals := rfl
@[simp] theorem setDomains_boot (d : Nat) : (s.setDomains d).boot = s.boot := rfl
@[simp] theorem setDomains_bootAt (d : Nat) : (s.setDomains d).bootAt = s.bootAt := rfl
@[simp] theorem setDomains_capDone (d : Nat) : (s.setDomains d).capDone = s.capDone := rfl
@[simp] theorem setDomains_rtc (d : Nat) : (s.setDomains d).rtc = s.rtc := rfl

/-! ### State.updPower -/

@[simp] theorem updPower_pending (f : PowerSt → PowerSt) : (s.updPower f).pending = s.pending := rfl
@[simp] theorem updPower_out (f : PowerSt → PowerSt) : (s.updPower f).out = s.out := rfl
@[simp] theorem updPower_draws (f : PowerSt → PowerSt) : (s.updPower f).draws = s.draws := rfl
@[simp] theorem updPower_deviceTime (f : PowerSt → PowerSt) : (s.updPower f).deviceTime = s.deviceTime := rfl
@[simp] theorem updPower_refPhase (f : PowerSt → PowerSt) : (s.updPower f).refPhase = s.refPhase := rfl
@[simp] theorem updPower_regs (f : PowerSt → PowerSt) : (s.updPower f).regs = s.regs := rfl
@[simp] theorem updPower_supply (f : PowerSt → PowerSt) : (s.updPower f).supply = s.supply := rfl
@[simp] theorem updPower_gatesOpen (f : PowerSt → PowerSt) : (s.updPower f).gatesOpen = s.gatesOpen := rfl
@[simp] theorem updPower_retry (f : PowerSt → PowerSt) : (s.updPower f).retry = s.retry := rfl
@[simp] theorem updPower_linkUp (f : PowerSt → PowerSt) : (s.updPower f).linkUp = s.linkUp := rfl
@[simp] theorem updPower_vfEnable (f : PowerSt → PowerSt) : (s.updPower f).vfEnable = s.vfEnable := rfl
@[simp] theorem updPower_numVfs (f : PowerSt → PowerSt) : (s.updPower f).numVfs = s.numVfs := rfl
@[simp] theorem updPower_d3hot (f : PowerSt → PowerSt) : (s.updPower f).d3hot = s.d3hot := rfl
@[simp] theorem updPower_fns (f : PowerSt → PowerSt) : (s.updPower f).fns = s.fns := rfl
@[simp] theorem updPower_parts (f : PowerSt → PowerSt) : (s.updPower f).parts = s.parts := rfl
@[simp] theorem updPower_inflight (f : PowerSt → PowerSt) : (s.updPower f).inflight = s.inflight := rfl
@[simp] theorem updPower_admitted (f : PowerSt → PowerSt) : (s.updPower f).admitted = s.admitted := rfl
@[simp] theorem updPower_gated (f : PowerSt → PowerSt) : (s.updPower f).gated = s.gated := rfl
@[simp] theorem updPower_txns (f : PowerSt → PowerSt) : (s.updPower f).txns = s.txns := rfl
@[simp] theorem updPower_noEntropy (f : PowerSt → PowerSt) : (s.updPower f).noEntropy = s.noEntropy := rfl
@[simp] theorem updPower_life (f : PowerSt → PowerSt) : (s.updPower f).life = s.life := rfl
@[simp] theorem updPower_domains (f : PowerSt → PowerSt) : (s.updPower f).domains = s.domains := rfl
@[simp] theorem updPower_strapCompat (f : PowerSt → PowerSt) : (s.updPower f).strapCompat = s.strapCompat := rfl
@[simp] theorem updPower_keys (f : PowerSt → PowerSt) : (s.updPower f).keys = s.keys := rfl
@[simp] theorem updPower_units (f : PowerSt → PowerSt) : (s.updPower f).units = s.units := rfl
@[simp] theorem updPower_wells (f : PowerSt → PowerSt) : (s.updPower f).wells = s.wells := rfl
@[simp] theorem updPower_halves (f : PowerSt → PowerSt) : (s.updPower f).halves = s.halves := rfl
@[simp] theorem updPower_ee (f : PowerSt → PowerSt) : (s.updPower f).ee = s.ee := rfl
@[simp] theorem updPower_kalmel (f : PowerSt → PowerSt) : (s.updPower f).kalmel = s.kalmel := rfl
@[simp] theorem updPower_flows (f : PowerSt → PowerSt) : (s.updPower f).flows = s.flows := rfl
@[simp] theorem updPower_spill (f : PowerSt → PowerSt) : (s.updPower f).spill = s.spill := rfl
@[simp] theorem updPower_lanes (f : PowerSt → PowerSt) : (s.updPower f).lanes = s.lanes := rfl
@[simp] theorem updPower_frames (f : PowerSt → PowerSt) : (s.updPower f).frames = s.frames := rfl
@[simp] theorem updPower_nextFrame (f : PowerSt → PowerSt) : (s.updPower f).nextFrame = s.nextFrame := rfl
@[simp] theorem updPower_hs (f : PowerSt → PowerSt) : (s.updPower f).hs = s.hs := rfl
@[simp] theorem updPower_lf (f : PowerSt → PowerSt) : (s.updPower f).lf = s.lf := rfl
@[simp] theorem updPower_bc (f : PowerSt → PowerSt) : (s.updPower f).bc = s.bc := rfl
@[simp] theorem updPower_uhf (f : PowerSt → PowerSt) : (s.updPower f).uhf = s.uhf := rfl
@[simp] theorem updPower_uwb (f : PowerSt → PowerSt) : (s.updPower f).uwb = s.uwb := rfl
@[simp] theorem updPower_acc (f : PowerSt → PowerSt) : (s.updPower f).acc = s.acc := rfl
@[simp] theorem updPower_immo (f : PowerSt → PowerSt) : (s.updPower f).immo = s.immo := rfl
@[simp] theorem updPower_power (f : PowerSt → PowerSt) : (s.updPower f).power = f s.power := rfl
@[simp] theorem updPower_ledger (f : PowerSt → PowerSt) : (s.updPower f).ledger = s.ledger := rfl
@[simp] theorem updPower_tamper (f : PowerSt → PowerSt) : (s.updPower f).tamper = s.tamper := rfl
@[simp] theorem updPower_lc (f : PowerSt → PowerSt) : (s.updPower f).lc = s.lc := rfl
@[simp] theorem updPower_card (f : PowerSt → PowerSt) : (s.updPower f).card = s.card := rfl
@[simp] theorem updPower_can (f : PowerSt → PowerSt) : (s.updPower f).can = s.can := rfl
@[simp] theorem updPower_journals (f : PowerSt → PowerSt) : (s.updPower f).journals = s.journals := rfl
@[simp] theorem updPower_boot (f : PowerSt → PowerSt) : (s.updPower f).boot = s.boot := rfl
@[simp] theorem updPower_bootAt (f : PowerSt → PowerSt) : (s.updPower f).bootAt = s.bootAt := rfl
@[simp] theorem updPower_capDone (f : PowerSt → PowerSt) : (s.updPower f).capDone = s.capDone := rfl
@[simp] theorem updPower_rtc (f : PowerSt → PowerSt) : (s.updPower f).rtc = s.rtc := rfl

/-! ### State.updTamper -/

@[simp] theorem updTamper_pending (f : TamperSt → TamperSt) : (s.updTamper f).pending = s.pending := rfl
@[simp] theorem updTamper_out (f : TamperSt → TamperSt) : (s.updTamper f).out = s.out := rfl
@[simp] theorem updTamper_draws (f : TamperSt → TamperSt) : (s.updTamper f).draws = s.draws := rfl
@[simp] theorem updTamper_deviceTime (f : TamperSt → TamperSt) : (s.updTamper f).deviceTime = s.deviceTime := rfl
@[simp] theorem updTamper_refPhase (f : TamperSt → TamperSt) : (s.updTamper f).refPhase = s.refPhase := rfl
@[simp] theorem updTamper_regs (f : TamperSt → TamperSt) : (s.updTamper f).regs = s.regs := rfl
@[simp] theorem updTamper_supply (f : TamperSt → TamperSt) : (s.updTamper f).supply = s.supply := rfl
@[simp] theorem updTamper_gatesOpen (f : TamperSt → TamperSt) : (s.updTamper f).gatesOpen = s.gatesOpen := rfl
@[simp] theorem updTamper_retry (f : TamperSt → TamperSt) : (s.updTamper f).retry = s.retry := rfl
@[simp] theorem updTamper_linkUp (f : TamperSt → TamperSt) : (s.updTamper f).linkUp = s.linkUp := rfl
@[simp] theorem updTamper_vfEnable (f : TamperSt → TamperSt) : (s.updTamper f).vfEnable = s.vfEnable := rfl
@[simp] theorem updTamper_numVfs (f : TamperSt → TamperSt) : (s.updTamper f).numVfs = s.numVfs := rfl
@[simp] theorem updTamper_d3hot (f : TamperSt → TamperSt) : (s.updTamper f).d3hot = s.d3hot := rfl
@[simp] theorem updTamper_fns (f : TamperSt → TamperSt) : (s.updTamper f).fns = s.fns := rfl
@[simp] theorem updTamper_parts (f : TamperSt → TamperSt) : (s.updTamper f).parts = s.parts := rfl
@[simp] theorem updTamper_inflight (f : TamperSt → TamperSt) : (s.updTamper f).inflight = s.inflight := rfl
@[simp] theorem updTamper_admitted (f : TamperSt → TamperSt) : (s.updTamper f).admitted = s.admitted := rfl
@[simp] theorem updTamper_gated (f : TamperSt → TamperSt) : (s.updTamper f).gated = s.gated := rfl
@[simp] theorem updTamper_txns (f : TamperSt → TamperSt) : (s.updTamper f).txns = s.txns := rfl
@[simp] theorem updTamper_noEntropy (f : TamperSt → TamperSt) : (s.updTamper f).noEntropy = s.noEntropy := rfl
@[simp] theorem updTamper_life (f : TamperSt → TamperSt) : (s.updTamper f).life = s.life := rfl
@[simp] theorem updTamper_domains (f : TamperSt → TamperSt) : (s.updTamper f).domains = s.domains := rfl
@[simp] theorem updTamper_strapCompat (f : TamperSt → TamperSt) : (s.updTamper f).strapCompat = s.strapCompat := rfl
@[simp] theorem updTamper_keys (f : TamperSt → TamperSt) : (s.updTamper f).keys = s.keys := rfl
@[simp] theorem updTamper_units (f : TamperSt → TamperSt) : (s.updTamper f).units = s.units := rfl
@[simp] theorem updTamper_wells (f : TamperSt → TamperSt) : (s.updTamper f).wells = s.wells := rfl
@[simp] theorem updTamper_halves (f : TamperSt → TamperSt) : (s.updTamper f).halves = s.halves := rfl
@[simp] theorem updTamper_ee (f : TamperSt → TamperSt) : (s.updTamper f).ee = s.ee := rfl
@[simp] theorem updTamper_kalmel (f : TamperSt → TamperSt) : (s.updTamper f).kalmel = s.kalmel := rfl
@[simp] theorem updTamper_flows (f : TamperSt → TamperSt) : (s.updTamper f).flows = s.flows := rfl
@[simp] theorem updTamper_spill (f : TamperSt → TamperSt) : (s.updTamper f).spill = s.spill := rfl
@[simp] theorem updTamper_lanes (f : TamperSt → TamperSt) : (s.updTamper f).lanes = s.lanes := rfl
@[simp] theorem updTamper_frames (f : TamperSt → TamperSt) : (s.updTamper f).frames = s.frames := rfl
@[simp] theorem updTamper_nextFrame (f : TamperSt → TamperSt) : (s.updTamper f).nextFrame = s.nextFrame := rfl
@[simp] theorem updTamper_hs (f : TamperSt → TamperSt) : (s.updTamper f).hs = s.hs := rfl
@[simp] theorem updTamper_lf (f : TamperSt → TamperSt) : (s.updTamper f).lf = s.lf := rfl
@[simp] theorem updTamper_bc (f : TamperSt → TamperSt) : (s.updTamper f).bc = s.bc := rfl
@[simp] theorem updTamper_uhf (f : TamperSt → TamperSt) : (s.updTamper f).uhf = s.uhf := rfl
@[simp] theorem updTamper_uwb (f : TamperSt → TamperSt) : (s.updTamper f).uwb = s.uwb := rfl
@[simp] theorem updTamper_acc (f : TamperSt → TamperSt) : (s.updTamper f).acc = s.acc := rfl
@[simp] theorem updTamper_immo (f : TamperSt → TamperSt) : (s.updTamper f).immo = s.immo := rfl
@[simp] theorem updTamper_power (f : TamperSt → TamperSt) : (s.updTamper f).power = s.power := rfl
@[simp] theorem updTamper_ledger (f : TamperSt → TamperSt) : (s.updTamper f).ledger = s.ledger := rfl
@[simp] theorem updTamper_tamper (f : TamperSt → TamperSt) : (s.updTamper f).tamper = f s.tamper := rfl
@[simp] theorem updTamper_lc (f : TamperSt → TamperSt) : (s.updTamper f).lc = s.lc := rfl
@[simp] theorem updTamper_card (f : TamperSt → TamperSt) : (s.updTamper f).card = s.card := rfl
@[simp] theorem updTamper_can (f : TamperSt → TamperSt) : (s.updTamper f).can = s.can := rfl
@[simp] theorem updTamper_journals (f : TamperSt → TamperSt) : (s.updTamper f).journals = s.journals := rfl
@[simp] theorem updTamper_boot (f : TamperSt → TamperSt) : (s.updTamper f).boot = s.boot := rfl
@[simp] theorem updTamper_bootAt (f : TamperSt → TamperSt) : (s.updTamper f).bootAt = s.bootAt := rfl
@[simp] theorem updTamper_capDone (f : TamperSt → TamperSt) : (s.updTamper f).capDone = s.capDone := rfl
@[simp] theorem updTamper_rtc (f : TamperSt → TamperSt) : (s.updTamper f).rtc = s.rtc := rfl

/-! ### State.setAcc -/

@[simp] theorem setAcc_pending (f : AccessSt → AccessSt) : (s.setAcc f).pending = s.pending := rfl
@[simp] theorem setAcc_out (f : AccessSt → AccessSt) : (s.setAcc f).out = s.out := rfl
@[simp] theorem setAcc_draws (f : AccessSt → AccessSt) : (s.setAcc f).draws = s.draws := rfl
@[simp] theorem setAcc_deviceTime (f : AccessSt → AccessSt) : (s.setAcc f).deviceTime = s.deviceTime := rfl
@[simp] theorem setAcc_refPhase (f : AccessSt → AccessSt) : (s.setAcc f).refPhase = s.refPhase := rfl
@[simp] theorem setAcc_regs (f : AccessSt → AccessSt) : (s.setAcc f).regs = s.regs := rfl
@[simp] theorem setAcc_supply (f : AccessSt → AccessSt) : (s.setAcc f).supply = s.supply := rfl
@[simp] theorem setAcc_gatesOpen (f : AccessSt → AccessSt) : (s.setAcc f).gatesOpen = s.gatesOpen := rfl
@[simp] theorem setAcc_retry (f : AccessSt → AccessSt) : (s.setAcc f).retry = s.retry := rfl
@[simp] theorem setAcc_linkUp (f : AccessSt → AccessSt) : (s.setAcc f).linkUp = s.linkUp := rfl
@[simp] theorem setAcc_vfEnable (f : AccessSt → AccessSt) : (s.setAcc f).vfEnable = s.vfEnable := rfl
@[simp] theorem setAcc_numVfs (f : AccessSt → AccessSt) : (s.setAcc f).numVfs = s.numVfs := rfl
@[simp] theorem setAcc_d3hot (f : AccessSt → AccessSt) : (s.setAcc f).d3hot = s.d3hot := rfl
@[simp] theorem setAcc_fns (f : AccessSt → AccessSt) : (s.setAcc f).fns = s.fns := rfl
@[simp] theorem setAcc_parts (f : AccessSt → AccessSt) : (s.setAcc f).parts = s.parts := rfl
@[simp] theorem setAcc_inflight (f : AccessSt → AccessSt) : (s.setAcc f).inflight = s.inflight := rfl
@[simp] theorem setAcc_admitted (f : AccessSt → AccessSt) : (s.setAcc f).admitted = s.admitted := rfl
@[simp] theorem setAcc_gated (f : AccessSt → AccessSt) : (s.setAcc f).gated = s.gated := rfl
@[simp] theorem setAcc_txns (f : AccessSt → AccessSt) : (s.setAcc f).txns = s.txns := rfl
@[simp] theorem setAcc_noEntropy (f : AccessSt → AccessSt) : (s.setAcc f).noEntropy = s.noEntropy := rfl
@[simp] theorem setAcc_life (f : AccessSt → AccessSt) : (s.setAcc f).life = s.life := rfl
@[simp] theorem setAcc_domains (f : AccessSt → AccessSt) : (s.setAcc f).domains = s.domains := rfl
@[simp] theorem setAcc_strapCompat (f : AccessSt → AccessSt) : (s.setAcc f).strapCompat = s.strapCompat := rfl
@[simp] theorem setAcc_keys (f : AccessSt → AccessSt) : (s.setAcc f).keys = s.keys := rfl
@[simp] theorem setAcc_units (f : AccessSt → AccessSt) : (s.setAcc f).units = s.units := rfl
@[simp] theorem setAcc_wells (f : AccessSt → AccessSt) : (s.setAcc f).wells = s.wells := rfl
@[simp] theorem setAcc_halves (f : AccessSt → AccessSt) : (s.setAcc f).halves = s.halves := rfl
@[simp] theorem setAcc_ee (f : AccessSt → AccessSt) : (s.setAcc f).ee = s.ee := rfl
@[simp] theorem setAcc_kalmel (f : AccessSt → AccessSt) : (s.setAcc f).kalmel = s.kalmel := rfl
@[simp] theorem setAcc_flows (f : AccessSt → AccessSt) : (s.setAcc f).flows = s.flows := rfl
@[simp] theorem setAcc_spill (f : AccessSt → AccessSt) : (s.setAcc f).spill = s.spill := rfl
@[simp] theorem setAcc_lanes (f : AccessSt → AccessSt) : (s.setAcc f).lanes = s.lanes := rfl
@[simp] theorem setAcc_frames (f : AccessSt → AccessSt) : (s.setAcc f).frames = s.frames := rfl
@[simp] theorem setAcc_nextFrame (f : AccessSt → AccessSt) : (s.setAcc f).nextFrame = s.nextFrame := rfl
@[simp] theorem setAcc_hs (f : AccessSt → AccessSt) : (s.setAcc f).hs = s.hs := rfl
@[simp] theorem setAcc_lf (f : AccessSt → AccessSt) : (s.setAcc f).lf = s.lf := rfl
@[simp] theorem setAcc_bc (f : AccessSt → AccessSt) : (s.setAcc f).bc = s.bc := rfl
@[simp] theorem setAcc_uhf (f : AccessSt → AccessSt) : (s.setAcc f).uhf = s.uhf := rfl
@[simp] theorem setAcc_uwb (f : AccessSt → AccessSt) : (s.setAcc f).uwb = s.uwb := rfl
@[simp] theorem setAcc_acc (f : AccessSt → AccessSt) : (s.setAcc f).acc = f s.acc := rfl
@[simp] theorem setAcc_immo (f : AccessSt → AccessSt) : (s.setAcc f).immo = s.immo := rfl
@[simp] theorem setAcc_power (f : AccessSt → AccessSt) : (s.setAcc f).power = s.power := rfl
@[simp] theorem setAcc_ledger (f : AccessSt → AccessSt) : (s.setAcc f).ledger = s.ledger := rfl
@[simp] theorem setAcc_tamper (f : AccessSt → AccessSt) : (s.setAcc f).tamper = s.tamper := rfl
@[simp] theorem setAcc_lc (f : AccessSt → AccessSt) : (s.setAcc f).lc = s.lc := rfl
@[simp] theorem setAcc_card (f : AccessSt → AccessSt) : (s.setAcc f).card = s.card := rfl
@[simp] theorem setAcc_can (f : AccessSt → AccessSt) : (s.setAcc f).can = s.can := rfl
@[simp] theorem setAcc_journals (f : AccessSt → AccessSt) : (s.setAcc f).journals = s.journals := rfl
@[simp] theorem setAcc_boot (f : AccessSt → AccessSt) : (s.setAcc f).boot = s.boot := rfl
@[simp] theorem setAcc_bootAt (f : AccessSt → AccessSt) : (s.setAcc f).bootAt = s.bootAt := rfl
@[simp] theorem setAcc_capDone (f : AccessSt → AccessSt) : (s.setAcc f).capDone = s.capDone := rfl
@[simp] theorem setAcc_rtc (f : AccessSt → AccessSt) : (s.setAcc f).rtc = s.rtc := rfl

/-! ### State.updSession -/

@[simp] theorem updSession_pending (f : Session → Session) : (s.updSession f).pending = s.pending := rfl
@[simp] theorem updSession_out (f : Session → Session) : (s.updSession f).out = s.out := rfl
@[simp] theorem updSession_draws (f : Session → Session) : (s.updSession f).draws = s.draws := rfl
@[simp] theorem updSession_deviceTime (f : Session → Session) : (s.updSession f).deviceTime = s.deviceTime := rfl
@[simp] theorem updSession_refPhase (f : Session → Session) : (s.updSession f).refPhase = s.refPhase := rfl
@[simp] theorem updSession_regs (f : Session → Session) : (s.updSession f).regs = s.regs := rfl
@[simp] theorem updSession_supply (f : Session → Session) : (s.updSession f).supply = s.supply := rfl
@[simp] theorem updSession_gatesOpen (f : Session → Session) : (s.updSession f).gatesOpen = s.gatesOpen := rfl
@[simp] theorem updSession_retry (f : Session → Session) : (s.updSession f).retry = s.retry := rfl
@[simp] theorem updSession_linkUp (f : Session → Session) : (s.updSession f).linkUp = s.linkUp := rfl
@[simp] theorem updSession_vfEnable (f : Session → Session) : (s.updSession f).vfEnable = s.vfEnable := rfl
@[simp] theorem updSession_numVfs (f : Session → Session) : (s.updSession f).numVfs = s.numVfs := rfl
@[simp] theorem updSession_d3hot (f : Session → Session) : (s.updSession f).d3hot = s.d3hot := rfl
@[simp] theorem updSession_fns (f : Session → Session) : (s.updSession f).fns = s.fns := rfl
@[simp] theorem updSession_parts (f : Session → Session) : (s.updSession f).parts = s.parts := rfl
@[simp] theorem updSession_inflight (f : Session → Session) : (s.updSession f).inflight = s.inflight := rfl
@[simp] theorem updSession_admitted (f : Session → Session) : (s.updSession f).admitted = s.admitted := rfl
@[simp] theorem updSession_gated (f : Session → Session) : (s.updSession f).gated = s.gated := rfl
@[simp] theorem updSession_txns (f : Session → Session) : (s.updSession f).txns = s.txns := rfl
@[simp] theorem updSession_noEntropy (f : Session → Session) : (s.updSession f).noEntropy = s.noEntropy := rfl
@[simp] theorem updSession_life (f : Session → Session) : (s.updSession f).life = s.life := rfl
@[simp] theorem updSession_domains (f : Session → Session) : (s.updSession f).domains = s.domains := rfl
@[simp] theorem updSession_strapCompat (f : Session → Session) : (s.updSession f).strapCompat = s.strapCompat := rfl
@[simp] theorem updSession_keys (f : Session → Session) : (s.updSession f).keys = s.keys := rfl
@[simp] theorem updSession_units (f : Session → Session) : (s.updSession f).units = s.units := rfl
@[simp] theorem updSession_wells (f : Session → Session) : (s.updSession f).wells = s.wells := rfl
@[simp] theorem updSession_halves (f : Session → Session) : (s.updSession f).halves = s.halves := rfl
@[simp] theorem updSession_ee (f : Session → Session) : (s.updSession f).ee = s.ee := rfl
@[simp] theorem updSession_kalmel (f : Session → Session) : (s.updSession f).kalmel = s.kalmel := rfl
@[simp] theorem updSession_flows (f : Session → Session) : (s.updSession f).flows = s.flows := rfl
@[simp] theorem updSession_spill (f : Session → Session) : (s.updSession f).spill = s.spill := rfl
@[simp] theorem updSession_lanes (f : Session → Session) : (s.updSession f).lanes = s.lanes := rfl
@[simp] theorem updSession_frames (f : Session → Session) : (s.updSession f).frames = s.frames := rfl
@[simp] theorem updSession_nextFrame (f : Session → Session) : (s.updSession f).nextFrame = s.nextFrame := rfl
@[simp] theorem updSession_hs (f : Session → Session) : (s.updSession f).hs = s.hs := rfl
@[simp] theorem updSession_lf (f : Session → Session) : (s.updSession f).lf = s.lf := rfl
@[simp] theorem updSession_bc (f : Session → Session) : (s.updSession f).bc = s.bc := rfl
@[simp] theorem updSession_uhf (f : Session → Session) : (s.updSession f).uhf = s.uhf := rfl
@[simp] theorem updSession_uwb (f : Session → Session) : (s.updSession f).uwb = s.uwb := rfl
@[simp] theorem updSession_acc (f : Session → Session) : (s.updSession f).acc = { s.acc with session := s.acc.session.map f } := rfl
@[simp] theorem updSession_immo (f : Session → Session) : (s.updSession f).immo = s.immo := rfl
@[simp] theorem updSession_power (f : Session → Session) : (s.updSession f).power = s.power := rfl
@[simp] theorem updSession_ledger (f : Session → Session) : (s.updSession f).ledger = s.ledger := rfl
@[simp] theorem updSession_tamper (f : Session → Session) : (s.updSession f).tamper = s.tamper := rfl
@[simp] theorem updSession_lc (f : Session → Session) : (s.updSession f).lc = s.lc := rfl
@[simp] theorem updSession_card (f : Session → Session) : (s.updSession f).card = s.card := rfl
@[simp] theorem updSession_can (f : Session → Session) : (s.updSession f).can = s.can := rfl
@[simp] theorem updSession_journals (f : Session → Session) : (s.updSession f).journals = s.journals := rfl
@[simp] theorem updSession_boot (f : Session → Session) : (s.updSession f).boot = s.boot := rfl
@[simp] theorem updSession_bootAt (f : Session → Session) : (s.updSession f).bootAt = s.bootAt := rfl
@[simp] theorem updSession_capDone (f : Session → Session) : (s.updSession f).capDone = s.capDone := rfl
@[simp] theorem updSession_rtc (f : Session → Session) : (s.updSession f).rtc = s.rtc := rfl

/-! ### State.updCan -/

@[simp] theorem updCan_pending (n : Nat) (f : CanSt → CanSt) : (s.updCan n f).pending = s.pending := rfl
@[simp] theorem updCan_out (n : Nat) (f : CanSt → CanSt) : (s.updCan n f).out = s.out := rfl
@[simp] theorem updCan_draws (n : Nat) (f : CanSt → CanSt) : (s.updCan n f).draws = s.draws := rfl
@[simp] theorem updCan_deviceTime (n : Nat) (f : CanSt → CanSt) : (s.updCan n f).deviceTime = s.deviceTime := rfl
@[simp] theorem updCan_refPhase (n : Nat) (f : CanSt → CanSt) : (s.updCan n f).refPhase = s.refPhase := rfl
@[simp] theorem updCan_regs (n : Nat) (f : CanSt → CanSt) : (s.updCan n f).regs = s.regs := rfl
@[simp] theorem updCan_supply (n : Nat) (f : CanSt → CanSt) : (s.updCan n f).supply = s.supply := rfl
@[simp] theorem updCan_gatesOpen (n : Nat) (f : CanSt → CanSt) : (s.updCan n f).gatesOpen = s.gatesOpen := rfl
@[simp] theorem updCan_retry (n : Nat) (f : CanSt → CanSt) : (s.updCan n f).retry = s.retry := rfl
@[simp] theorem updCan_linkUp (n : Nat) (f : CanSt → CanSt) : (s.updCan n f).linkUp = s.linkUp := rfl
@[simp] theorem updCan_vfEnable (n : Nat) (f : CanSt → CanSt) : (s.updCan n f).vfEnable = s.vfEnable := rfl
@[simp] theorem updCan_numVfs (n : Nat) (f : CanSt → CanSt) : (s.updCan n f).numVfs = s.numVfs := rfl
@[simp] theorem updCan_d3hot (n : Nat) (f : CanSt → CanSt) : (s.updCan n f).d3hot = s.d3hot := rfl
@[simp] theorem updCan_fns (n : Nat) (f : CanSt → CanSt) : (s.updCan n f).fns = s.fns := rfl
@[simp] theorem updCan_parts (n : Nat) (f : CanSt → CanSt) : (s.updCan n f).parts = s.parts := rfl
@[simp] theorem updCan_inflight (n : Nat) (f : CanSt → CanSt) : (s.updCan n f).inflight = s.inflight := rfl
@[simp] theorem updCan_admitted (n : Nat) (f : CanSt → CanSt) : (s.updCan n f).admitted = s.admitted := rfl
@[simp] theorem updCan_gated (n : Nat) (f : CanSt → CanSt) : (s.updCan n f).gated = s.gated := rfl
@[simp] theorem updCan_txns (n : Nat) (f : CanSt → CanSt) : (s.updCan n f).txns = s.txns := rfl
@[simp] theorem updCan_noEntropy (n : Nat) (f : CanSt → CanSt) : (s.updCan n f).noEntropy = s.noEntropy := rfl
@[simp] theorem updCan_life (n : Nat) (f : CanSt → CanSt) : (s.updCan n f).life = s.life := rfl
@[simp] theorem updCan_domains (n : Nat) (f : CanSt → CanSt) : (s.updCan n f).domains = s.domains := rfl
@[simp] theorem updCan_strapCompat (n : Nat) (f : CanSt → CanSt) : (s.updCan n f).strapCompat = s.strapCompat := rfl
@[simp] theorem updCan_keys (n : Nat) (f : CanSt → CanSt) : (s.updCan n f).keys = s.keys := rfl
@[simp] theorem updCan_units (n : Nat) (f : CanSt → CanSt) : (s.updCan n f).units = s.units := rfl
@[simp] theorem updCan_wells (n : Nat) (f : CanSt → CanSt) : (s.updCan n f).wells = s.wells := rfl
@[simp] theorem updCan_halves (n : Nat) (f : CanSt → CanSt) : (s.updCan n f).halves = s.halves := rfl
@[simp] theorem updCan_ee (n : Nat) (f : CanSt → CanSt) : (s.updCan n f).ee = s.ee := rfl
@[simp] theorem updCan_kalmel (n : Nat) (f : CanSt → CanSt) : (s.updCan n f).kalmel = s.kalmel := rfl
@[simp] theorem updCan_flows (n : Nat) (f : CanSt → CanSt) : (s.updCan n f).flows = s.flows := rfl
@[simp] theorem updCan_spill (n : Nat) (f : CanSt → CanSt) : (s.updCan n f).spill = s.spill := rfl
@[simp] theorem updCan_lanes (n : Nat) (f : CanSt → CanSt) : (s.updCan n f).lanes = s.lanes := rfl
@[simp] theorem updCan_frames (n : Nat) (f : CanSt → CanSt) : (s.updCan n f).frames = s.frames := rfl
@[simp] theorem updCan_nextFrame (n : Nat) (f : CanSt → CanSt) : (s.updCan n f).nextFrame = s.nextFrame := rfl
@[simp] theorem updCan_hs (n : Nat) (f : CanSt → CanSt) : (s.updCan n f).hs = s.hs := rfl
@[simp] theorem updCan_lf (n : Nat) (f : CanSt → CanSt) : (s.updCan n f).lf = s.lf := rfl
@[simp] theorem updCan_bc (n : Nat) (f : CanSt → CanSt) : (s.updCan n f).bc = s.bc := rfl
@[simp] theorem updCan_uhf (n : Nat) (f : CanSt → CanSt) : (s.updCan n f).uhf = s.uhf := rfl
@[simp] theorem updCan_uwb (n : Nat) (f : CanSt → CanSt) : (s.updCan n f).uwb = s.uwb := rfl
@[simp] theorem updCan_acc (n : Nat) (f : CanSt → CanSt) : (s.updCan n f).acc = s.acc := rfl
@[simp] theorem updCan_immo (n : Nat) (f : CanSt → CanSt) : (s.updCan n f).immo = s.immo := rfl
@[simp] theorem updCan_power (n : Nat) (f : CanSt → CanSt) : (s.updCan n f).power = s.power := rfl
@[simp] theorem updCan_ledger (n : Nat) (f : CanSt → CanSt) : (s.updCan n f).ledger = s.ledger := rfl
@[simp] theorem updCan_tamper (n : Nat) (f : CanSt → CanSt) : (s.updCan n f).tamper = s.tamper := rfl
@[simp] theorem updCan_lc (n : Nat) (f : CanSt → CanSt) : (s.updCan n f).lc = s.lc := rfl
@[simp] theorem updCan_card (n : Nat) (f : CanSt → CanSt) : (s.updCan n f).card = s.card := rfl
@[simp] theorem updCan_can (n : Nat) (f : CanSt → CanSt) : (s.updCan n f).can = s.can.modify n f := rfl
@[simp] theorem updCan_journals (n : Nat) (f : CanSt → CanSt) : (s.updCan n f).journals = s.journals := rfl
@[simp] theorem updCan_boot (n : Nat) (f : CanSt → CanSt) : (s.updCan n f).boot = s.boot := rfl
@[simp] theorem updCan_bootAt (n : Nat) (f : CanSt → CanSt) : (s.updCan n f).bootAt = s.bootAt := rfl
@[simp] theorem updCan_capDone (n : Nat) (f : CanSt → CanSt) : (s.updCan n f).capDone = s.capDone := rfl
@[simp] theorem updCan_rtc (n : Nat) (f : CanSt → CanSt) : (s.updCan n f).rtc = s.rtc := rfl

/-! ### State.updCard -/

@[simp] theorem updCard_pending (f : CardSt → CardSt) : (s.updCard f).pending = s.pending := rfl
@[simp] theorem updCard_out (f : CardSt → CardSt) : (s.updCard f).out = s.out := rfl
@[simp] theorem updCard_draws (f : CardSt → CardSt) : (s.updCard f).draws = s.draws := rfl
@[simp] theorem updCard_deviceTime (f : CardSt → CardSt) : (s.updCard f).deviceTime = s.deviceTime := rfl
@[simp] theorem updCard_refPhase (f : CardSt → CardSt) : (s.updCard f).refPhase = s.refPhase := rfl
@[simp] theorem updCard_regs (f : CardSt → CardSt) : (s.updCard f).regs = s.regs := rfl
@[simp] theorem updCard_supply (f : CardSt → CardSt) : (s.updCard f).supply = s.supply := rfl
@[simp] theorem updCard_gatesOpen (f : CardSt → CardSt) : (s.updCard f).gatesOpen = s.gatesOpen := rfl
@[simp] theorem updCard_retry (f : CardSt → CardSt) : (s.updCard f).retry = s.retry := rfl
@[simp] theorem updCard_linkUp (f : CardSt → CardSt) : (s.updCard f).linkUp = s.linkUp := rfl
@[simp] theorem updCard_vfEnable (f : CardSt → CardSt) : (s.updCard f).vfEnable = s.vfEnable := rfl
@[simp] theorem updCard_numVfs (f : CardSt → CardSt) : (s.updCard f).numVfs = s.numVfs := rfl
@[simp] theorem updCard_d3hot (f : CardSt → CardSt) : (s.updCard f).d3hot = s.d3hot := rfl
@[simp] theorem updCard_fns (f : CardSt → CardSt) : (s.updCard f).fns = s.fns := rfl
@[simp] theorem updCard_parts (f : CardSt → CardSt) : (s.updCard f).parts = s.parts := rfl
@[simp] theorem updCard_inflight (f : CardSt → CardSt) : (s.updCard f).inflight = s.inflight := rfl
@[simp] theorem updCard_admitted (f : CardSt → CardSt) : (s.updCard f).admitted = s.admitted := rfl
@[simp] theorem updCard_gated (f : CardSt → CardSt) : (s.updCard f).gated = s.gated := rfl
@[simp] theorem updCard_txns (f : CardSt → CardSt) : (s.updCard f).txns = s.txns := rfl
@[simp] theorem updCard_noEntropy (f : CardSt → CardSt) : (s.updCard f).noEntropy = s.noEntropy := rfl
@[simp] theorem updCard_life (f : CardSt → CardSt) : (s.updCard f).life = s.life := rfl
@[simp] theorem updCard_domains (f : CardSt → CardSt) : (s.updCard f).domains = s.domains := rfl
@[simp] theorem updCard_strapCompat (f : CardSt → CardSt) : (s.updCard f).strapCompat = s.strapCompat := rfl
@[simp] theorem updCard_keys (f : CardSt → CardSt) : (s.updCard f).keys = s.keys := rfl
@[simp] theorem updCard_units (f : CardSt → CardSt) : (s.updCard f).units = s.units := rfl
@[simp] theorem updCard_wells (f : CardSt → CardSt) : (s.updCard f).wells = s.wells := rfl
@[simp] theorem updCard_halves (f : CardSt → CardSt) : (s.updCard f).halves = s.halves := rfl
@[simp] theorem updCard_ee (f : CardSt → CardSt) : (s.updCard f).ee = s.ee := rfl
@[simp] theorem updCard_kalmel (f : CardSt → CardSt) : (s.updCard f).kalmel = s.kalmel := rfl
@[simp] theorem updCard_flows (f : CardSt → CardSt) : (s.updCard f).flows = s.flows := rfl
@[simp] theorem updCard_spill (f : CardSt → CardSt) : (s.updCard f).spill = s.spill := rfl
@[simp] theorem updCard_lanes (f : CardSt → CardSt) : (s.updCard f).lanes = s.lanes := rfl
@[simp] theorem updCard_frames (f : CardSt → CardSt) : (s.updCard f).frames = s.frames := rfl
@[simp] theorem updCard_nextFrame (f : CardSt → CardSt) : (s.updCard f).nextFrame = s.nextFrame := rfl
@[simp] theorem updCard_hs (f : CardSt → CardSt) : (s.updCard f).hs = s.hs := rfl
@[simp] theorem updCard_lf (f : CardSt → CardSt) : (s.updCard f).lf = s.lf := rfl
@[simp] theorem updCard_bc (f : CardSt → CardSt) : (s.updCard f).bc = s.bc := rfl
@[simp] theorem updCard_uhf (f : CardSt → CardSt) : (s.updCard f).uhf = s.uhf := rfl
@[simp] theorem updCard_uwb (f : CardSt → CardSt) : (s.updCard f).uwb = s.uwb := rfl
@[simp] theorem updCard_acc (f : CardSt → CardSt) : (s.updCard f).acc = s.acc := rfl
@[simp] theorem updCard_immo (f : CardSt → CardSt) : (s.updCard f).immo = s.immo := rfl
@[simp] theorem updCard_power (f : CardSt → CardSt) : (s.updCard f).power = s.power := rfl
@[simp] theorem updCard_ledger (f : CardSt → CardSt) : (s.updCard f).ledger = s.ledger := rfl
@[simp] theorem updCard_tamper (f : CardSt → CardSt) : (s.updCard f).tamper = s.tamper := rfl
@[simp] theorem updCard_lc (f : CardSt → CardSt) : (s.updCard f).lc = s.lc := rfl
@[simp] theorem updCard_card (f : CardSt → CardSt) : (s.updCard f).card = f s.card := rfl
@[simp] theorem updCard_can (f : CardSt → CardSt) : (s.updCard f).can = s.can := rfl
@[simp] theorem updCard_journals (f : CardSt → CardSt) : (s.updCard f).journals = s.journals := rfl
@[simp] theorem updCard_boot (f : CardSt → CardSt) : (s.updCard f).boot = s.boot := rfl
@[simp] theorem updCard_bootAt (f : CardSt → CardSt) : (s.updCard f).bootAt = s.bootAt := rfl
@[simp] theorem updCard_capDone (f : CardSt → CardSt) : (s.updCard f).capDone = s.capDone := rfl
@[simp] theorem updCard_rtc (f : CardSt → CardSt) : (s.updCard f).rtc = s.rtc := rfl

/-! ### State.setLane -/

@[simp] theorem setLane_pending (n : Nat) (l : LaneSt) : (s.setLane n l).pending = s.pending := rfl
@[simp] theorem setLane_out (n : Nat) (l : LaneSt) : (s.setLane n l).out = s.out := rfl
@[simp] theorem setLane_draws (n : Nat) (l : LaneSt) : (s.setLane n l).draws = s.draws := rfl
@[simp] theorem setLane_deviceTime (n : Nat) (l : LaneSt) : (s.setLane n l).deviceTime = s.deviceTime := rfl
@[simp] theorem setLane_refPhase (n : Nat) (l : LaneSt) : (s.setLane n l).refPhase = s.refPhase := rfl
@[simp] theorem setLane_regs (n : Nat) (l : LaneSt) : (s.setLane n l).regs = s.regs := rfl
@[simp] theorem setLane_supply (n : Nat) (l : LaneSt) : (s.setLane n l).supply = s.supply := rfl
@[simp] theorem setLane_gatesOpen (n : Nat) (l : LaneSt) : (s.setLane n l).gatesOpen = s.gatesOpen := rfl
@[simp] theorem setLane_retry (n : Nat) (l : LaneSt) : (s.setLane n l).retry = s.retry := rfl
@[simp] theorem setLane_linkUp (n : Nat) (l : LaneSt) : (s.setLane n l).linkUp = s.linkUp := rfl
@[simp] theorem setLane_vfEnable (n : Nat) (l : LaneSt) : (s.setLane n l).vfEnable = s.vfEnable := rfl
@[simp] theorem setLane_numVfs (n : Nat) (l : LaneSt) : (s.setLane n l).numVfs = s.numVfs := rfl
@[simp] theorem setLane_d3hot (n : Nat) (l : LaneSt) : (s.setLane n l).d3hot = s.d3hot := rfl
@[simp] theorem setLane_fns (n : Nat) (l : LaneSt) : (s.setLane n l).fns = s.fns := rfl
@[simp] theorem setLane_parts (n : Nat) (l : LaneSt) : (s.setLane n l).parts = s.parts := rfl
@[simp] theorem setLane_inflight (n : Nat) (l : LaneSt) : (s.setLane n l).inflight = s.inflight := rfl
@[simp] theorem setLane_admitted (n : Nat) (l : LaneSt) : (s.setLane n l).admitted = s.admitted := rfl
@[simp] theorem setLane_gated (n : Nat) (l : LaneSt) : (s.setLane n l).gated = s.gated := rfl
@[simp] theorem setLane_txns (n : Nat) (l : LaneSt) : (s.setLane n l).txns = s.txns := rfl
@[simp] theorem setLane_noEntropy (n : Nat) (l : LaneSt) : (s.setLane n l).noEntropy = s.noEntropy := rfl
@[simp] theorem setLane_life (n : Nat) (l : LaneSt) : (s.setLane n l).life = s.life := rfl
@[simp] theorem setLane_domains (n : Nat) (l : LaneSt) : (s.setLane n l).domains = s.domains := rfl
@[simp] theorem setLane_strapCompat (n : Nat) (l : LaneSt) : (s.setLane n l).strapCompat = s.strapCompat := rfl
@[simp] theorem setLane_keys (n : Nat) (l : LaneSt) : (s.setLane n l).keys = s.keys := rfl
@[simp] theorem setLane_units (n : Nat) (l : LaneSt) : (s.setLane n l).units = s.units := rfl
@[simp] theorem setLane_wells (n : Nat) (l : LaneSt) : (s.setLane n l).wells = s.wells := rfl
@[simp] theorem setLane_halves (n : Nat) (l : LaneSt) : (s.setLane n l).halves = s.halves := rfl
@[simp] theorem setLane_ee (n : Nat) (l : LaneSt) : (s.setLane n l).ee = s.ee := rfl
@[simp] theorem setLane_kalmel (n : Nat) (l : LaneSt) : (s.setLane n l).kalmel = s.kalmel := rfl
@[simp] theorem setLane_flows (n : Nat) (l : LaneSt) : (s.setLane n l).flows = s.flows := rfl
@[simp] theorem setLane_spill (n : Nat) (l : LaneSt) : (s.setLane n l).spill = s.spill := rfl
@[simp] theorem setLane_lanes (n : Nat) (l : LaneSt) : (s.setLane n l).lanes = s.lanes.set n l := rfl
@[simp] theorem setLane_frames (n : Nat) (l : LaneSt) : (s.setLane n l).frames = s.frames := rfl
@[simp] theorem setLane_nextFrame (n : Nat) (l : LaneSt) : (s.setLane n l).nextFrame = s.nextFrame := rfl
@[simp] theorem setLane_hs (n : Nat) (l : LaneSt) : (s.setLane n l).hs = s.hs := rfl
@[simp] theorem setLane_lf (n : Nat) (l : LaneSt) : (s.setLane n l).lf = s.lf := rfl
@[simp] theorem setLane_bc (n : Nat) (l : LaneSt) : (s.setLane n l).bc = s.bc := rfl
@[simp] theorem setLane_uhf (n : Nat) (l : LaneSt) : (s.setLane n l).uhf = s.uhf := rfl
@[simp] theorem setLane_uwb (n : Nat) (l : LaneSt) : (s.setLane n l).uwb = s.uwb := rfl
@[simp] theorem setLane_acc (n : Nat) (l : LaneSt) : (s.setLane n l).acc = s.acc := rfl
@[simp] theorem setLane_immo (n : Nat) (l : LaneSt) : (s.setLane n l).immo = s.immo := rfl
@[simp] theorem setLane_power (n : Nat) (l : LaneSt) : (s.setLane n l).power = s.power := rfl
@[simp] theorem setLane_ledger (n : Nat) (l : LaneSt) : (s.setLane n l).ledger = s.ledger := rfl
@[simp] theorem setLane_tamper (n : Nat) (l : LaneSt) : (s.setLane n l).tamper = s.tamper := rfl
@[simp] theorem setLane_lc (n : Nat) (l : LaneSt) : (s.setLane n l).lc = s.lc := rfl
@[simp] theorem setLane_card (n : Nat) (l : LaneSt) : (s.setLane n l).card = s.card := rfl
@[simp] theorem setLane_can (n : Nat) (l : LaneSt) : (s.setLane n l).can = s.can := rfl
@[simp] theorem setLane_journals (n : Nat) (l : LaneSt) : (s.setLane n l).journals = s.journals := rfl
@[simp] theorem setLane_boot (n : Nat) (l : LaneSt) : (s.setLane n l).boot = s.boot := rfl
@[simp] theorem setLane_bootAt (n : Nat) (l : LaneSt) : (s.setLane n l).bootAt = s.bootAt := rfl
@[simp] theorem setLane_capDone (n : Nat) (l : LaneSt) : (s.setLane n l).capDone = s.capDone := rfl
@[simp] theorem setLane_rtc (n : Nat) (l : LaneSt) : (s.setLane n l).rtc = s.rtc := rfl

/-! ### State.updFlow -/

@[simp] theorem updFlow_pending (h : Nat) (g : Flow → Flow) : (s.updFlow h g).pending = s.pending := rfl
@[simp] theorem updFlow_out (h : Nat) (g : Flow → Flow) : (s.updFlow h g).out = s.out := rfl
@[simp] theorem updFlow_draws (h : Nat) (g : Flow → Flow) : (s.updFlow h g).draws = s.draws := rfl
@[simp] theorem updFlow_deviceTime (h : Nat) (g : Flow → Flow) : (s.updFlow h g).deviceTime = s.deviceTime := rfl
@[simp] theorem updFlow_refPhase (h : Nat) (g : Flow → Flow) : (s.updFlow h g).refPhase = s.refPhase := rfl
@[simp] theorem updFlow_regs (h : Nat) (g : Flow → Flow) : (s.updFlow h g).regs = s.regs := rfl
@[simp] theorem updFlow_supply (h : Nat) (g : Flow → Flow) : (s.updFlow h g).supply = s.supply := rfl
@[simp] theorem updFlow_gatesOpen (h : Nat) (g : Flow → Flow) : (s.updFlow h g).gatesOpen = s.gatesOpen := rfl
@[simp] theorem updFlow_retry (h : Nat) (g : Flow → Flow) : (s.updFlow h g).retry = s.retry := rfl
@[simp] theorem updFlow_linkUp (h : Nat) (g : Flow → Flow) : (s.updFlow h g).linkUp = s.linkUp := rfl
@[simp] theorem updFlow_vfEnable (h : Nat) (g : Flow → Flow) : (s.updFlow h g).vfEnable = s.vfEnable := rfl
@[simp] theorem updFlow_numVfs (h : Nat) (g : Flow → Flow) : (s.updFlow h g).numVfs = s.numVfs := rfl
@[simp] theorem updFlow_d3hot (h : Nat) (g : Flow → Flow) : (s.updFlow h g).d3hot = s.d3hot := rfl
@[simp] theorem updFlow_fns (h : Nat) (g : Flow → Flow) : (s.updFlow h g).fns = s.fns := rfl
@[simp] theorem updFlow_parts (h : Nat) (g : Flow → Flow) : (s.updFlow h g).parts = s.parts := rfl
@[simp] theorem updFlow_inflight (h : Nat) (g : Flow → Flow) : (s.updFlow h g).inflight = s.inflight := rfl
@[simp] theorem updFlow_admitted (h : Nat) (g : Flow → Flow) : (s.updFlow h g).admitted = s.admitted := rfl
@[simp] theorem updFlow_gated (h : Nat) (g : Flow → Flow) : (s.updFlow h g).gated = s.gated := rfl
@[simp] theorem updFlow_txns (h : Nat) (g : Flow → Flow) : (s.updFlow h g).txns = s.txns := rfl
@[simp] theorem updFlow_noEntropy (h : Nat) (g : Flow → Flow) : (s.updFlow h g).noEntropy = s.noEntropy := rfl
@[simp] theorem updFlow_life (h : Nat) (g : Flow → Flow) : (s.updFlow h g).life = s.life := rfl
@[simp] theorem updFlow_domains (h : Nat) (g : Flow → Flow) : (s.updFlow h g).domains = s.domains := rfl
@[simp] theorem updFlow_strapCompat (h : Nat) (g : Flow → Flow) : (s.updFlow h g).strapCompat = s.strapCompat := rfl
@[simp] theorem updFlow_keys (h : Nat) (g : Flow → Flow) : (s.updFlow h g).keys = s.keys := rfl
@[simp] theorem updFlow_units (h : Nat) (g : Flow → Flow) : (s.updFlow h g).units = s.units := rfl
@[simp] theorem updFlow_wells (h : Nat) (g : Flow → Flow) : (s.updFlow h g).wells = s.wells := rfl
@[simp] theorem updFlow_halves (h : Nat) (g : Flow → Flow) : (s.updFlow h g).halves = s.halves := rfl
@[simp] theorem updFlow_ee (h : Nat) (g : Flow → Flow) : (s.updFlow h g).ee = s.ee := rfl
@[simp] theorem updFlow_kalmel (h : Nat) (g : Flow → Flow) : (s.updFlow h g).kalmel = s.kalmel := rfl
@[simp] theorem updFlow_flows (h : Nat) (g : Flow → Flow) : (s.updFlow h g).flows = mapUpd s.flows h g := rfl
@[simp] theorem updFlow_spill (h : Nat) (g : Flow → Flow) : (s.updFlow h g).spill = s.spill := rfl
@[simp] theorem updFlow_lanes (h : Nat) (g : Flow → Flow) : (s.updFlow h g).lanes = s.lanes := rfl
@[simp] theorem updFlow_frames (h : Nat) (g : Flow → Flow) : (s.updFlow h g).frames = s.frames := rfl
@[simp] theorem updFlow_nextFrame (h : Nat) (g : Flow → Flow) : (s.updFlow h g).nextFrame = s.nextFrame := rfl
@[simp] theorem updFlow_hs (h : Nat) (g : Flow → Flow) : (s.updFlow h g).hs = s.hs := rfl
@[simp] theorem updFlow_lf (h : Nat) (g : Flow → Flow) : (s.updFlow h g).lf = s.lf := rfl
@[simp] theorem updFlow_bc (h : Nat) (g : Flow → Flow) : (s.updFlow h g).bc = s.bc := rfl
@[simp] theorem updFlow_uhf (h : Nat) (g : Flow → Flow) : (s.updFlow h g).uhf = s.uhf := rfl
@[simp] theorem updFlow_uwb (h : Nat) (g : Flow → Flow) : (s.updFlow h g).uwb = s.uwb := rfl
@[simp] theorem updFlow_acc (h : Nat) (g : Flow → Flow) : (s.updFlow h g).acc = s.acc := rfl
@[simp] theorem updFlow_immo (h : Nat) (g : Flow → Flow) : (s.updFlow h g).immo = s.immo := rfl
@[simp] theorem updFlow_power (h : Nat) (g : Flow → Flow) : (s.updFlow h g).power = s.power := rfl
@[simp] theorem updFlow_ledger (h : Nat) (g : Flow → Flow) : (s.updFlow h g).ledger = s.ledger := rfl
@[simp] theorem updFlow_tamper (h : Nat) (g : Flow → Flow) : (s.updFlow h g).tamper = s.tamper := rfl
@[simp] theorem updFlow_lc (h : Nat) (g : Flow → Flow) : (s.updFlow h g).lc = s.lc := rfl
@[simp] theorem updFlow_card (h : Nat) (g : Flow → Flow) : (s.updFlow h g).card = s.card := rfl
@[simp] theorem updFlow_can (h : Nat) (g : Flow → Flow) : (s.updFlow h g).can = s.can := rfl
@[simp] theorem updFlow_journals (h : Nat) (g : Flow → Flow) : (s.updFlow h g).journals = s.journals := rfl
@[simp] theorem updFlow_boot (h : Nat) (g : Flow → Flow) : (s.updFlow h g).boot = s.boot := rfl
@[simp] theorem updFlow_bootAt (h : Nat) (g : Flow → Flow) : (s.updFlow h g).bootAt = s.bootAt := rfl
@[simp] theorem updFlow_capDone (h : Nat) (g : Flow → Flow) : (s.updFlow h g).capDone = s.capDone := rfl
@[simp] theorem updFlow_rtc (h : Nat) (g : Flow → Flow) : (s.updFlow h g).rtc = s.rtc := rfl

/-! ### State.updEng -/

@[simp] theorem updEng_pending (e : EngRef) (f : Eng → Eng) : (s.updEng e f).pending = s.pending := rfl
@[simp] theorem updEng_out (e : EngRef) (f : Eng → Eng) : (s.updEng e f).out = s.out := rfl
@[simp] theorem updEng_draws (e : EngRef) (f : Eng → Eng) : (s.updEng e f).draws = s.draws := rfl
@[simp] theorem updEng_deviceTime (e : EngRef) (f : Eng → Eng) : (s.updEng e f).deviceTime = s.deviceTime := rfl
@[simp] theorem updEng_refPhase (e : EngRef) (f : Eng → Eng) : (s.updEng e f).refPhase = s.refPhase := rfl
@[simp] theorem updEng_regs (e : EngRef) (f : Eng → Eng) : (s.updEng e f).regs = s.regs := rfl
@[simp] theorem updEng_supply (e : EngRef) (f : Eng → Eng) : (s.updEng e f).supply = s.supply := rfl
@[simp] theorem updEng_gatesOpen (e : EngRef) (f : Eng → Eng) : (s.updEng e f).gatesOpen = s.gatesOpen := rfl
@[simp] theorem updEng_retry (e : EngRef) (f : Eng → Eng) : (s.updEng e f).retry = s.retry := rfl
@[simp] theorem updEng_linkUp (e : EngRef) (f : Eng → Eng) : (s.updEng e f).linkUp = s.linkUp := rfl
@[simp] theorem updEng_vfEnable (e : EngRef) (f : Eng → Eng) : (s.updEng e f).vfEnable = s.vfEnable := rfl
@[simp] theorem updEng_numVfs (e : EngRef) (f : Eng → Eng) : (s.updEng e f).numVfs = s.numVfs := rfl
@[simp] theorem updEng_d3hot (e : EngRef) (f : Eng → Eng) : (s.updEng e f).d3hot = s.d3hot := rfl
@[simp] theorem updEng_fns (e : EngRef) (f : Eng → Eng) : (s.updEng e f).fns = s.fns := rfl
@[simp] theorem updEng_parts (e : EngRef) (f : Eng → Eng) : (s.updEng e f).parts = s.parts := rfl
@[simp] theorem updEng_inflight (e : EngRef) (f : Eng → Eng) : (s.updEng e f).inflight = s.inflight := rfl
@[simp] theorem updEng_admitted (e : EngRef) (f : Eng → Eng) : (s.updEng e f).admitted = s.admitted := rfl
@[simp] theorem updEng_gated (e : EngRef) (f : Eng → Eng) : (s.updEng e f).gated = s.gated := rfl
@[simp] theorem updEng_txns (e : EngRef) (f : Eng → Eng) : (s.updEng e f).txns = s.txns := rfl
@[simp] theorem updEng_noEntropy (e : EngRef) (f : Eng → Eng) : (s.updEng e f).noEntropy = s.noEntropy := rfl
@[simp] theorem updEng_life (e : EngRef) (f : Eng → Eng) : (s.updEng e f).life = s.life := rfl
@[simp] theorem updEng_domains (e : EngRef) (f : Eng → Eng) : (s.updEng e f).domains = s.domains := rfl
@[simp] theorem updEng_strapCompat (e : EngRef) (f : Eng → Eng) : (s.updEng e f).strapCompat = s.strapCompat := rfl
@[simp] theorem updEng_keys (e : EngRef) (f : Eng → Eng) : (s.updEng e f).keys = s.keys := rfl
@[simp] theorem updEng_units (e : EngRef) (f : Eng → Eng) : (s.updEng e f).units = s.units := rfl
@[simp] theorem updEng_wells (e : EngRef) (f : Eng → Eng) : (s.updEng e f).wells = s.wells := rfl
@[simp] theorem updEng_halves (e : EngRef) (f : Eng → Eng) : (s.updEng e f).halves = s.halves := rfl
@[simp] theorem updEng_ee (e : EngRef) (f : Eng → Eng) : (s.updEng e f).ee = s.ee := rfl
@[simp] theorem updEng_kalmel (e : EngRef) (f : Eng → Eng) : (s.updEng e f).kalmel = { s.kalmel with engines := s.kalmel.engines.modify (engIdx e) f } := rfl
@[simp] theorem updEng_flows (e : EngRef) (f : Eng → Eng) : (s.updEng e f).flows = s.flows := rfl
@[simp] theorem updEng_spill (e : EngRef) (f : Eng → Eng) : (s.updEng e f).spill = s.spill := rfl
@[simp] theorem updEng_lanes (e : EngRef) (f : Eng → Eng) : (s.updEng e f).lanes = s.lanes := rfl
@[simp] theorem updEng_frames (e : EngRef) (f : Eng → Eng) : (s.updEng e f).frames = s.frames := rfl
@[simp] theorem updEng_nextFrame (e : EngRef) (f : Eng → Eng) : (s.updEng e f).nextFrame = s.nextFrame := rfl
@[simp] theorem updEng_hs (e : EngRef) (f : Eng → Eng) : (s.updEng e f).hs = s.hs := rfl
@[simp] theorem updEng_lf (e : EngRef) (f : Eng → Eng) : (s.updEng e f).lf = s.lf := rfl
@[simp] theorem updEng_bc (e : EngRef) (f : Eng → Eng) : (s.updEng e f).bc = s.bc := rfl
@[simp] theorem updEng_uhf (e : EngRef) (f : Eng → Eng) : (s.updEng e f).uhf = s.uhf := rfl
@[simp] theorem updEng_uwb (e : EngRef) (f : Eng → Eng) : (s.updEng e f).uwb = s.uwb := rfl
@[simp] theorem updEng_acc (e : EngRef) (f : Eng → Eng) : (s.updEng e f).acc = s.acc := rfl
@[simp] theorem updEng_immo (e : EngRef) (f : Eng → Eng) : (s.updEng e f).immo = s.immo := rfl
@[simp] theorem updEng_power (e : EngRef) (f : Eng → Eng) : (s.updEng e f).power = s.power := rfl
@[simp] theorem updEng_ledger (e : EngRef) (f : Eng → Eng) : (s.updEng e f).ledger = s.ledger := rfl
@[simp] theorem updEng_tamper (e : EngRef) (f : Eng → Eng) : (s.updEng e f).tamper = s.tamper := rfl
@[simp] theorem updEng_lc (e : EngRef) (f : Eng → Eng) : (s.updEng e f).lc = s.lc := rfl
@[simp] theorem updEng_card (e : EngRef) (f : Eng → Eng) : (s.updEng e f).card = s.card := rfl
@[simp] theorem updEng_can (e : EngRef) (f : Eng → Eng) : (s.updEng e f).can = s.can := rfl
@[simp] theorem updEng_journals (e : EngRef) (f : Eng → Eng) : (s.updEng e f).journals = s.journals := rfl
@[simp] theorem updEng_boot (e : EngRef) (f : Eng → Eng) : (s.updEng e f).boot = s.boot := rfl
@[simp] theorem updEng_bootAt (e : EngRef) (f : Eng → Eng) : (s.updEng e f).bootAt = s.bootAt := rfl
@[simp] theorem updEng_capDone (e : EngRef) (f : Eng → Eng) : (s.updEng e f).capDone = s.capDone := rfl
@[simp] theorem updEng_rtc (e : EngRef) (f : Eng → Eng) : (s.updEng e f).rtc = s.rtc := rfl

/-! ### State.setTask -/

@[simp] theorem setTask_pending (e : EngRef) (t : Task) : (s.setTask e t).pending = s.pending := rfl
@[simp] theorem setTask_out (e : EngRef) (t : Task) : (s.setTask e t).out = s.out := rfl
@[simp] theorem setTask_draws (e : EngRef) (t : Task) : (s.setTask e t).draws = s.draws := rfl
@[simp] theorem setTask_deviceTime (e : EngRef) (t : Task) : (s.setTask e t).deviceTime = s.deviceTime := rfl
@[simp] theorem setTask_refPhase (e : EngRef) (t : Task) : (s.setTask e t).refPhase = s.refPhase := rfl
@[simp] theorem setTask_regs (e : EngRef) (t : Task) : (s.setTask e t).regs = s.regs := rfl
@[simp] theorem setTask_supply (e : EngRef) (t : Task) : (s.setTask e t).supply = s.supply := rfl
@[simp] theorem setTask_gatesOpen (e : EngRef) (t : Task) : (s.setTask e t).gatesOpen = s.gatesOpen := rfl
@[simp] theorem setTask_retry (e : EngRef) (t : Task) : (s.setTask e t).retry = s.retry := rfl
@[simp] theorem setTask_linkUp (e : EngRef) (t : Task) : (s.setTask e t).linkUp = s.linkUp := rfl
@[simp] theorem setTask_vfEnable (e : EngRef) (t : Task) : (s.setTask e t).vfEnable = s.vfEnable := rfl
@[simp] theorem setTask_numVfs (e : EngRef) (t : Task) : (s.setTask e t).numVfs = s.numVfs := rfl
@[simp] theorem setTask_d3hot (e : EngRef) (t : Task) : (s.setTask e t).d3hot = s.d3hot := rfl
@[simp] theorem setTask_fns (e : EngRef) (t : Task) : (s.setTask e t).fns = s.fns := rfl
@[simp] theorem setTask_parts (e : EngRef) (t : Task) : (s.setTask e t).parts = s.parts := rfl
@[simp] theorem setTask_inflight (e : EngRef) (t : Task) : (s.setTask e t).inflight = s.inflight := rfl
@[simp] theorem setTask_admitted (e : EngRef) (t : Task) : (s.setTask e t).admitted = s.admitted := rfl
@[simp] theorem setTask_gated (e : EngRef) (t : Task) : (s.setTask e t).gated = s.gated := rfl
@[simp] theorem setTask_txns (e : EngRef) (t : Task) : (s.setTask e t).txns = s.txns := rfl
@[simp] theorem setTask_noEntropy (e : EngRef) (t : Task) : (s.setTask e t).noEntropy = s.noEntropy := rfl
@[simp] theorem setTask_life (e : EngRef) (t : Task) : (s.setTask e t).life = s.life := rfl
@[simp] theorem setTask_domains (e : EngRef) (t : Task) : (s.setTask e t).domains = s.domains := rfl
@[simp] theorem setTask_strapCompat (e : EngRef) (t : Task) : (s.setTask e t).strapCompat = s.strapCompat := rfl
@[simp] theorem setTask_keys (e : EngRef) (t : Task) : (s.setTask e t).keys = s.keys := rfl
@[simp] theorem setTask_units (e : EngRef) (t : Task) : (s.setTask e t).units = s.units := rfl
@[simp] theorem setTask_wells (e : EngRef) (t : Task) : (s.setTask e t).wells = s.wells := rfl
@[simp] theorem setTask_halves (e : EngRef) (t : Task) : (s.setTask e t).halves = s.halves := rfl
@[simp] theorem setTask_ee (e : EngRef) (t : Task) : (s.setTask e t).ee = s.ee := rfl
@[simp] theorem setTask_flows (e : EngRef) (t : Task) : (s.setTask e t).flows = s.flows := rfl
@[simp] theorem setTask_spill (e : EngRef) (t : Task) : (s.setTask e t).spill = s.spill := rfl
@[simp] theorem setTask_lanes (e : EngRef) (t : Task) : (s.setTask e t).lanes = s.lanes := rfl
@[simp] theorem setTask_frames (e : EngRef) (t : Task) : (s.setTask e t).frames = s.frames := rfl
@[simp] theorem setTask_nextFrame (e : EngRef) (t : Task) : (s.setTask e t).nextFrame = s.nextFrame := rfl
@[simp] theorem setTask_hs (e : EngRef) (t : Task) : (s.setTask e t).hs = s.hs := rfl
@[simp] theorem setTask_lf (e : EngRef) (t : Task) : (s.setTask e t).lf = s.lf := rfl
@[simp] theorem setTask_bc (e : EngRef) (t : Task) : (s.setTask e t).bc = s.bc := rfl
@[simp] theorem setTask_uhf (e : EngRef) (t : Task) : (s.setTask e t).uhf = s.uhf := rfl
@[simp] theorem setTask_uwb (e : EngRef) (t : Task) : (s.setTask e t).uwb = s.uwb := rfl
@[simp] theorem setTask_acc (e : EngRef) (t : Task) : (s.setTask e t).acc = s.acc := rfl
@[simp] theorem setTask_immo (e : EngRef) (t : Task) : (s.setTask e t).immo = s.immo := rfl
@[simp] theorem setTask_power (e : EngRef) (t : Task) : (s.setTask e t).power = s.power := rfl
@[simp] theorem setTask_ledger (e : EngRef) (t : Task) : (s.setTask e t).ledger = s.ledger := rfl
@[simp] theorem setTask_tamper (e : EngRef) (t : Task) : (s.setTask e t).tamper = s.tamper := rfl
@[simp] theorem setTask_lc (e : EngRef) (t : Task) : (s.setTask e t).lc = s.lc := rfl
@[simp] theorem setTask_card (e : EngRef) (t : Task) : (s.setTask e t).card = s.card := rfl
@[simp] theorem setTask_can (e : EngRef) (t : Task) : (s.setTask e t).can = s.can := rfl
@[simp] theorem setTask_journals (e : EngRef) (t : Task) : (s.setTask e t).journals = s.journals := rfl
@[simp] theorem setTask_boot (e : EngRef) (t : Task) : (s.setTask e t).boot = s.boot := rfl
@[simp] theorem setTask_bootAt (e : EngRef) (t : Task) : (s.setTask e t).bootAt = s.bootAt := rfl
@[simp] theorem setTask_capDone (e : EngRef) (t : Task) : (s.setTask e t).capDone = s.capDone := rfl
@[simp] theorem setTask_rtc (e : EngRef) (t : Task) : (s.setTask e t).rtc = s.rtc := rfl

/-! ### State.dropWait -/

@[simp] theorem dropWait_pending (k : CmdKey) : (s.dropWait k).pending = s.pending := rfl
@[simp] theorem dropWait_out (k : CmdKey) : (s.dropWait k).out = s.out := rfl
@[simp] theorem dropWait_draws (k : CmdKey) : (s.dropWait k).draws = s.draws := rfl
@[simp] theorem dropWait_deviceTime (k : CmdKey) : (s.dropWait k).deviceTime = s.deviceTime := rfl
@[simp] theorem dropWait_refPhase (k : CmdKey) : (s.dropWait k).refPhase = s.refPhase := rfl
@[simp] theorem dropWait_regs (k : CmdKey) : (s.dropWait k).regs = s.regs := rfl
@[simp] theorem dropWait_supply (k : CmdKey) : (s.dropWait k).supply = s.supply := rfl
@[simp] theorem dropWait_gatesOpen (k : CmdKey) : (s.dropWait k).gatesOpen = s.gatesOpen := rfl
@[simp] theorem dropWait_retry (k : CmdKey) : (s.dropWait k).retry = s.retry := rfl
@[simp] theorem dropWait_linkUp (k : CmdKey) : (s.dropWait k).linkUp = s.linkUp := rfl
@[simp] theorem dropWait_vfEnable (k : CmdKey) : (s.dropWait k).vfEnable = s.vfEnable := rfl
@[simp] theorem dropWait_numVfs (k : CmdKey) : (s.dropWait k).numVfs = s.numVfs := rfl
@[simp] theorem dropWait_d3hot (k : CmdKey) : (s.dropWait k).d3hot = s.d3hot := rfl
@[simp] theorem dropWait_fns (k : CmdKey) : (s.dropWait k).fns = s.fns := rfl
@[simp] theorem dropWait_parts (k : CmdKey) : (s.dropWait k).parts = s.parts := rfl
@[simp] theorem dropWait_inflight (k : CmdKey) : (s.dropWait k).inflight = s.inflight := rfl
@[simp] theorem dropWait_admitted (k : CmdKey) : (s.dropWait k).admitted = s.admitted := rfl
@[simp] theorem dropWait_gated (k : CmdKey) : (s.dropWait k).gated = s.gated := rfl
@[simp] theorem dropWait_noEntropy (k : CmdKey) : (s.dropWait k).noEntropy = s.noEntropy := rfl
@[simp] theorem dropWait_life (k : CmdKey) : (s.dropWait k).life = s.life := rfl
@[simp] theorem dropWait_domains (k : CmdKey) : (s.dropWait k).domains = s.domains := rfl
@[simp] theorem dropWait_strapCompat (k : CmdKey) : (s.dropWait k).strapCompat = s.strapCompat := rfl
@[simp] theorem dropWait_keys (k : CmdKey) : (s.dropWait k).keys = s.keys := rfl
@[simp] theorem dropWait_units (k : CmdKey) : (s.dropWait k).units = s.units := rfl
@[simp] theorem dropWait_wells (k : CmdKey) : (s.dropWait k).wells = s.wells := rfl
@[simp] theorem dropWait_halves (k : CmdKey) : (s.dropWait k).halves = s.halves := rfl
@[simp] theorem dropWait_ee (k : CmdKey) : (s.dropWait k).ee = s.ee := rfl
@[simp] theorem dropWait_kalmel (k : CmdKey) : (s.dropWait k).kalmel = s.kalmel := rfl
@[simp] theorem dropWait_flows (k : CmdKey) : (s.dropWait k).flows = s.flows := rfl
@[simp] theorem dropWait_spill (k : CmdKey) : (s.dropWait k).spill = s.spill := rfl
@[simp] theorem dropWait_lanes (k : CmdKey) : (s.dropWait k).lanes = s.lanes := rfl
@[simp] theorem dropWait_frames (k : CmdKey) : (s.dropWait k).frames = s.frames := rfl
@[simp] theorem dropWait_nextFrame (k : CmdKey) : (s.dropWait k).nextFrame = s.nextFrame := rfl
@[simp] theorem dropWait_hs (k : CmdKey) : (s.dropWait k).hs = s.hs := rfl
@[simp] theorem dropWait_lf (k : CmdKey) : (s.dropWait k).lf = s.lf := rfl
@[simp] theorem dropWait_bc (k : CmdKey) : (s.dropWait k).bc = s.bc := rfl
@[simp] theorem dropWait_uhf (k : CmdKey) : (s.dropWait k).uhf = s.uhf := rfl
@[simp] theorem dropWait_uwb (k : CmdKey) : (s.dropWait k).uwb = s.uwb := rfl
@[simp] theorem dropWait_acc (k : CmdKey) : (s.dropWait k).acc = s.acc := rfl
@[simp] theorem dropWait_immo (k : CmdKey) : (s.dropWait k).immo = s.immo := rfl
@[simp] theorem dropWait_power (k : CmdKey) : (s.dropWait k).power = s.power := rfl
@[simp] theorem dropWait_ledger (k : CmdKey) : (s.dropWait k).ledger = s.ledger := rfl
@[simp] theorem dropWait_tamper (k : CmdKey) : (s.dropWait k).tamper = s.tamper := rfl
@[simp] theorem dropWait_lc (k : CmdKey) : (s.dropWait k).lc = s.lc := rfl
@[simp] theorem dropWait_card (k : CmdKey) : (s.dropWait k).card = s.card := rfl
@[simp] theorem dropWait_can (k : CmdKey) : (s.dropWait k).can = s.can := rfl
@[simp] theorem dropWait_journals (k : CmdKey) : (s.dropWait k).journals = s.journals := rfl
@[simp] theorem dropWait_boot (k : CmdKey) : (s.dropWait k).boot = s.boot := rfl
@[simp] theorem dropWait_bootAt (k : CmdKey) : (s.dropWait k).bootAt = s.bootAt := rfl
@[simp] theorem dropWait_capDone (k : CmdKey) : (s.dropWait k).capDone = s.capDone := rfl
@[simp] theorem dropWait_rtc (k : CmdKey) : (s.dropWait k).rtc = s.rtc := rfl

/-! ### State.setHsChan -/

@[simp] theorem setHsChan_pending (n : Nat) (f : HsChan → HsChan) : (s.setHsChan n f).pending = s.pending := rfl
@[simp] theorem setHsChan_out (n : Nat) (f : HsChan → HsChan) : (s.setHsChan n f).out = s.out := rfl
@[simp] theorem setHsChan_draws (n : Nat) (f : HsChan → HsChan) : (s.setHsChan n f).draws = s.draws := rfl
@[simp] theorem setHsChan_deviceTime (n : Nat) (f : HsChan → HsChan) : (s.setHsChan n f).deviceTime = s.deviceTime := rfl
@[simp] theorem setHsChan_refPhase (n : Nat) (f : HsChan → HsChan) : (s.setHsChan n f).refPhase = s.refPhase := rfl
@[simp] theorem setHsChan_regs (n : Nat) (f : HsChan → HsChan) : (s.setHsChan n f).regs = s.regs := rfl
@[simp] theorem setHsChan_supply (n : Nat) (f : HsChan → HsChan) : (s.setHsChan n f).supply = s.supply := rfl
@[simp] theorem setHsChan_gatesOpen (n : Nat) (f : HsChan → HsChan) : (s.setHsChan n f).gatesOpen = s.gatesOpen := rfl
@[simp] theorem setHsChan_retry (n : Nat) (f : HsChan → HsChan) : (s.setHsChan n f).retry = s.retry := rfl
@[simp] theorem setHsChan_linkUp (n : Nat) (f : HsChan → HsChan) : (s.setHsChan n f).linkUp = s.linkUp := rfl
@[simp] theorem setHsChan_vfEnable (n : Nat) (f : HsChan → HsChan) : (s.setHsChan n f).vfEnable = s.vfEnable := rfl
@[simp] theorem setHsChan_numVfs (n : Nat) (f : HsChan → HsChan) : (s.setHsChan n f).numVfs = s.numVfs := rfl
@[simp] theorem setHsChan_d3hot (n : Nat) (f : HsChan → HsChan) : (s.setHsChan n f).d3hot = s.d3hot := rfl
@[simp] theorem setHsChan_fns (n : Nat) (f : HsChan → HsChan) : (s.setHsChan n f).fns = s.fns := rfl
@[simp] theorem setHsChan_parts (n : Nat) (f : HsChan → HsChan) : (s.setHsChan n f).parts = s.parts := rfl
@[simp] theorem setHsChan_inflight (n : Nat) (f : HsChan → HsChan) : (s.setHsChan n f).inflight = s.inflight := rfl
@[simp] theorem setHsChan_admitted (n : Nat) (f : HsChan → HsChan) : (s.setHsChan n f).admitted = s.admitted := rfl
@[simp] theorem setHsChan_gated (n : Nat) (f : HsChan → HsChan) : (s.setHsChan n f).gated = s.gated := rfl
@[simp] theorem setHsChan_txns (n : Nat) (f : HsChan → HsChan) : (s.setHsChan n f).txns = s.txns := rfl
@[simp] theorem setHsChan_noEntropy (n : Nat) (f : HsChan → HsChan) : (s.setHsChan n f).noEntropy = s.noEntropy := rfl
@[simp] theorem setHsChan_life (n : Nat) (f : HsChan → HsChan) : (s.setHsChan n f).life = s.life := rfl
@[simp] theorem setHsChan_domains (n : Nat) (f : HsChan → HsChan) : (s.setHsChan n f).domains = s.domains := rfl
@[simp] theorem setHsChan_strapCompat (n : Nat) (f : HsChan → HsChan) : (s.setHsChan n f).strapCompat = s.strapCompat := rfl
@[simp] theorem setHsChan_keys (n : Nat) (f : HsChan → HsChan) : (s.setHsChan n f).keys = s.keys := rfl
@[simp] theorem setHsChan_units (n : Nat) (f : HsChan → HsChan) : (s.setHsChan n f).units = s.units := rfl
@[simp] theorem setHsChan_wells (n : Nat) (f : HsChan → HsChan) : (s.setHsChan n f).wells = s.wells := rfl
@[simp] theorem setHsChan_halves (n : Nat) (f : HsChan → HsChan) : (s.setHsChan n f).halves = s.halves := rfl
@[simp] theorem setHsChan_ee (n : Nat) (f : HsChan → HsChan) : (s.setHsChan n f).ee = s.ee := rfl
@[simp] theorem setHsChan_kalmel (n : Nat) (f : HsChan → HsChan) : (s.setHsChan n f).kalmel = s.kalmel := rfl
@[simp] theorem setHsChan_flows (n : Nat) (f : HsChan → HsChan) : (s.setHsChan n f).flows = s.flows := rfl
@[simp] theorem setHsChan_spill (n : Nat) (f : HsChan → HsChan) : (s.setHsChan n f).spill = s.spill := rfl
@[simp] theorem setHsChan_lanes (n : Nat) (f : HsChan → HsChan) : (s.setHsChan n f).lanes = s.lanes := rfl
@[simp] theorem setHsChan_frames (n : Nat) (f : HsChan → HsChan) : (s.setHsChan n f).frames = s.frames := rfl
@[simp] theorem setHsChan_nextFrame (n : Nat) (f : HsChan → HsChan) : (s.setHsChan n f).nextFrame = s.nextFrame := rfl
@[simp] theorem setHsChan_lf (n : Nat) (f : HsChan → HsChan) : (s.setHsChan n f).lf = s.lf := rfl
@[simp] theorem setHsChan_bc (n : Nat) (f : HsChan → HsChan) : (s.setHsChan n f).bc = s.bc := rfl
@[simp] theorem setHsChan_uhf (n : Nat) (f : HsChan → HsChan) : (s.setHsChan n f).uhf = s.uhf := rfl
@[simp] theorem setHsChan_uwb (n : Nat) (f : HsChan → HsChan) : (s.setHsChan n f).uwb = s.uwb := rfl
@[simp] theorem setHsChan_acc (n : Nat) (f : HsChan → HsChan) : (s.setHsChan n f).acc = s.acc := rfl
@[simp] theorem setHsChan_immo (n : Nat) (f : HsChan → HsChan) : (s.setHsChan n f).immo = s.immo := rfl
@[simp] theorem setHsChan_power (n : Nat) (f : HsChan → HsChan) : (s.setHsChan n f).power = s.power := rfl
@[simp] theorem setHsChan_ledger (n : Nat) (f : HsChan → HsChan) : (s.setHsChan n f).ledger = s.ledger := rfl
@[simp] theorem setHsChan_tamper (n : Nat) (f : HsChan → HsChan) : (s.setHsChan n f).tamper = s.tamper := rfl
@[simp] theorem setHsChan_lc (n : Nat) (f : HsChan → HsChan) : (s.setHsChan n f).lc = s.lc := rfl
@[simp] theorem setHsChan_card (n : Nat) (f : HsChan → HsChan) : (s.setHsChan n f).card = s.card := rfl
@[simp] theorem setHsChan_can (n : Nat) (f : HsChan → HsChan) : (s.setHsChan n f).can = s.can := rfl
@[simp] theorem setHsChan_journals (n : Nat) (f : HsChan → HsChan) : (s.setHsChan n f).journals = s.journals := rfl
@[simp] theorem setHsChan_boot (n : Nat) (f : HsChan → HsChan) : (s.setHsChan n f).boot = s.boot := rfl
@[simp] theorem setHsChan_bootAt (n : Nat) (f : HsChan → HsChan) : (s.setHsChan n f).bootAt = s.bootAt := rfl
@[simp] theorem setHsChan_capDone (n : Nat) (f : HsChan → HsChan) : (s.setHsChan n f).capDone = s.capDone := rfl
@[simp] theorem setHsChan_rtc (n : Nat) (f : HsChan → HsChan) : (s.setHsChan n f).rtc = s.rtc := rfl

/-! ### State.setFldBit -/

@[simp] theorem setFldBit_pending (f : Fld) (n : Nat) (b : Bool) : (s.setFldBit f n b).pending = s.pending := rfl
@[simp] theorem setFldBit_out (f : Fld) (n : Nat) (b : Bool) : (s.setFldBit f n b).out = s.out := rfl
@[simp] theorem setFldBit_draws (f : Fld) (n : Nat) (b : Bool) : (s.setFldBit f n b).draws = s.draws := rfl
@[simp] theorem setFldBit_deviceTime (f : Fld) (n : Nat) (b : Bool) : (s.setFldBit f n b).deviceTime = s.deviceTime := rfl
@[simp] theorem setFldBit_refPhase (f : Fld) (n : Nat) (b : Bool) : (s.setFldBit f n b).refPhase = s.refPhase := rfl
@[simp] theorem setFldBit_supply (f : Fld) (n : Nat) (b : Bool) : (s.setFldBit f n b).supply = s.supply := rfl
@[simp] theorem setFldBit_gatesOpen (f : Fld) (n : Nat) (b : Bool) : (s.setFldBit f n b).gatesOpen = s.gatesOpen := rfl
@[simp] theorem setFldBit_retry (f : Fld) (n : Nat) (b : Bool) : (s.setFldBit f n b).retry = s.retry := rfl
@[simp] theorem setFldBit_linkUp (f : Fld) (n : Nat) (b : Bool) : (s.setFldBit f n b).linkUp = s.linkUp := rfl
@[simp] theorem setFldBit_vfEnable (f : Fld) (n : Nat) (b : Bool) : (s.setFldBit f n b).vfEnable = s.vfEnable := rfl
@[simp] theorem setFldBit_numVfs (f : Fld) (n : Nat) (b : Bool) : (s.setFldBit f n b).numVfs = s.numVfs := rfl
@[simp] theorem setFldBit_d3hot (f : Fld) (n : Nat) (b : Bool) : (s.setFldBit f n b).d3hot = s.d3hot := rfl
@[simp] theorem setFldBit_fns (f : Fld) (n : Nat) (b : Bool) : (s.setFldBit f n b).fns = s.fns := rfl
@[simp] theorem setFldBit_parts (f : Fld) (n : Nat) (b : Bool) : (s.setFldBit f n b).parts = s.parts := rfl
@[simp] theorem setFldBit_inflight (f : Fld) (n : Nat) (b : Bool) : (s.setFldBit f n b).inflight = s.inflight := rfl
@[simp] theorem setFldBit_admitted (f : Fld) (n : Nat) (b : Bool) : (s.setFldBit f n b).admitted = s.admitted := rfl
@[simp] theorem setFldBit_gated (f : Fld) (n : Nat) (b : Bool) : (s.setFldBit f n b).gated = s.gated := rfl
@[simp] theorem setFldBit_txns (f : Fld) (n : Nat) (b : Bool) : (s.setFldBit f n b).txns = s.txns := rfl
@[simp] theorem setFldBit_noEntropy (f : Fld) (n : Nat) (b : Bool) : (s.setFldBit f n b).noEntropy = s.noEntropy := rfl
@[simp] theorem setFldBit_life (f : Fld) (n : Nat) (b : Bool) : (s.setFldBit f n b).life = s.life := rfl
@[simp] theorem setFldBit_domains (f : Fld) (n : Nat) (b : Bool) : (s.setFldBit f n b).domains = s.domains := rfl
@[simp] theorem setFldBit_strapCompat (f : Fld) (n : Nat) (b : Bool) : (s.setFldBit f n b).strapCompat = s.strapCompat := rfl
@[simp] theorem setFldBit_keys (f : Fld) (n : Nat) (b : Bool) : (s.setFldBit f n b).keys = s.keys := rfl
@[simp] theorem setFldBit_units (f : Fld) (n : Nat) (b : Bool) : (s.setFldBit f n b).units = s.units := rfl
@[simp] theorem setFldBit_wells (f : Fld) (n : Nat) (b : Bool) : (s.setFldBit f n b).wells = s.wells := rfl
@[simp] theorem setFldBit_halves (f : Fld) (n : Nat) (b : Bool) : (s.setFldBit f n b).halves = s.halves := rfl
@[simp] theorem setFldBit_ee (f : Fld) (n : Nat) (b : Bool) : (s.setFldBit f n b).ee = s.ee := rfl
@[simp] theorem setFldBit_kalmel (f : Fld) (n : Nat) (b : Bool) : (s.setFldBit f n b).kalmel = s.kalmel := rfl
@[simp] theorem setFldBit_flows (f : Fld) (n : Nat) (b : Bool) : (s.setFldBit f n b).flows = s.flows := rfl
@[simp] theorem setFldBit_spill (f : Fld) (n : Nat) (b : Bool) : (s.setFldBit f n b).spill = s.spill := rfl
@[simp] theorem setFldBit_lanes (f : Fld) (n : Nat) (b : Bool) : (s.setFldBit f n b).lanes = s.lanes := rfl
@[simp] theorem setFldBit_frames (f : Fld) (n : Nat) (b : Bool) : (s.setFldBit f n b).frames = s.frames := rfl
@[simp] theorem setFldBit_nextFrame (f : Fld) (n : Nat) (b : Bool) : (s.setFldBit f n b).nextFrame = s.nextFrame := rfl
@[simp] theorem setFldBit_hs (f : Fld) (n : Nat) (b : Bool) : (s.setFldBit f n b).hs = s.hs := rfl
@[simp] theorem setFldBit_lf (f : Fld) (n : Nat) (b : Bool) : (s.setFldBit f n b).lf = s.lf := rfl
@[simp] theorem setFldBit_bc (f : Fld) (n : Nat) (b : Bool) : (s.setFldBit f n b).bc = s.bc := rfl
@[simp] theorem setFldBit_uhf (f : Fld) (n : Nat) (b : Bool) : (s.setFldBit f n b).uhf = s.uhf := rfl
@[simp] theorem setFldBit_uwb (f : Fld) (n : Nat) (b : Bool) : (s.setFldBit f n b).uwb = s.uwb := rfl
@[simp] theorem setFldBit_acc (f : Fld) (n : Nat) (b : Bool) : (s.setFldBit f n b).acc = s.acc := rfl
@[simp] theorem setFldBit_immo (f : Fld) (n : Nat) (b : Bool) : (s.setFldBit f n b).immo = s.immo := rfl
@[simp] theorem setFldBit_power (f : Fld) (n : Nat) (b : Bool) : (s.setFldBit f n b).power = s.power := rfl
@[simp] theorem setFldBit_ledger (f : Fld) (n : Nat) (b : Bool) : (s.setFldBit f n b).ledger = s.ledger := rfl
@[simp] theorem setFldBit_tamper (f : Fld) (n : Nat) (b : Bool) : (s.setFldBit f n b).tamper = s.tamper := rfl
@[simp] theorem setFldBit_lc (f : Fld) (n : Nat) (b : Bool) : (s.setFldBit f n b).lc = s.lc := rfl
@[simp] theorem setFldBit_card (f : Fld) (n : Nat) (b : Bool) : (s.setFldBit f n b).card = s.card := rfl
@[simp] theorem setFldBit_can (f : Fld) (n : Nat) (b : Bool) : (s.setFldBit f n b).can = s.can := rfl
@[simp] theorem setFldBit_journals (f : Fld) (n : Nat) (b : Bool) : (s.setFldBit f n b).journals = s.journals := rfl
@[simp] theorem setFldBit_boot (f : Fld) (n : Nat) (b : Bool) : (s.setFldBit f n b).boot = s.boot := rfl
@[simp] theorem setFldBit_bootAt (f : Fld) (n : Nat) (b : Bool) : (s.setFldBit f n b).bootAt = s.bootAt := rfl
@[simp] theorem setFldBit_capDone (f : Fld) (n : Nat) (b : Bool) : (s.setFldBit f n b).capDone = s.capDone := rfl
@[simp] theorem setFldBit_rtc (f : Fld) (n : Nat) (b : Bool) : (s.setFldBit f n b).rtc = s.rtc := rfl

end Sys2Proof.Machine
end

