-- ==== Sys2Proof/Laws/Sound.lean ====
section
/-! SUPPORT. Laws of the byte memories (EE store and engine pools): a read after a write, the canonical form every memory operation
keeps, and the updates that keep a state sound. -/

namespace Sys2Proof.Machine

/-! ### Memory -/

theorem wf_mapSet {m : List Host.Cell} (h : Memory.wf m = true) (a : Nat) (b : Byte) : Memory.wf (mapSet 0 m a b) = true := by
  simp only [Memory.wf, Bool.and_eq_true, List.all_eq_true, bne_iff_ne] at *
  refine ⟨mapRising_mapSet _ h.1 (Nat.zero_le _) b, fun x hx => ?_⟩
  rcases mem_mapSet hx with ⟨rfl, hv⟩ | hx
  · exact hv
  · exact h.2 x hx

theorem wf_filter {m : List Host.Cell} (h : Memory.wf m = true) (p : Host.Cell → Bool) : Memory.wf (m.filter p) = true := by
  simp only [Memory.wf, Bool.and_eq_true, List.all_eq_true, bne_iff_ne] at *
  exact ⟨mapRising_filter h.1 p, fun x hx => h.2 x (List.mem_filter.mp hx).1⟩

theorem wf_nil : Memory.wf [] = true := rfl

theorem wf_putBytes {m : List Host.Cell} (h : Memory.wf m = true) (a : Nat) (bs : Bytes) : Memory.wf (putBytes m a bs) = true := by
  induction bs generalizing m a with
  | nil => exact h
  | cons b bs ih => exact ih (wf_mapSet h a b) (a + 1)

theorem wf_putPool {m : List Host.Cell} (h : Memory.wf m = true) (a : Nat) (bs : Bytes) : Memory.wf (putPool m a bs) = true := by
  induction bs generalizing m a with
  | nil => exact h
  | cons b bs ih => exact ih (wf_mapSet h a b) (a + 1)

theorem wf_zeroPool {m : List Host.Cell} (h : Memory.wf m = true) (a n : Nat) : Memory.wf (zeroPool m a n) = true := wf_filter h _

theorem wf_zeroPage {m : List Host.Cell} (h : Memory.wf m = true) (p : Nat) : Memory.wf (zeroPage m p) = true := wf_filter h _

/-- A read after a write of bytes from a on gives them there, and every other address reads as before. -/
theorem mapRead_putBytes {m : List Host.Cell} (h : mapRising 0 m = true) (a : Nat) (bs : Bytes) (x : Nat) :
    mapRead 0 (putBytes m a bs) x = if a ≤ x ∧ x < a + bs.length then bs.getD (x - a) 0 else mapRead 0 m x := by
  induction bs generalizing m a with
  | nil =>
    rw [if_neg (by simp only [List.length_nil]; omega)]
    rfl
  | cons b bs ih =>
    rw [putBytes, ih (mapRising_mapSet _ h (Nat.zero_le _) b), mapRead_mapSet _ h]
    by_cases h1 : a = x
    · subst h1
      rw [if_neg (by omega), if_pos rfl, if_pos (by simp only [List.length_cons]; omega)]
      simp
    · by_cases h2 : a + 1 ≤ x ∧ x < a + 1 + bs.length
      · rw [if_pos h2, if_pos (by simp only [List.length_cons]; omega)]
        obtain ⟨k, rfl⟩ : ∃ k, x = a + 1 + k := ⟨x - (a + 1), by omega⟩
        rw [show a + 1 + k - (a + 1) = k by omega, show a + 1 + k - a = k + 1 by omega]
        rfl
      · rw [if_neg h2, if_neg h1, if_neg (by simp only [List.length_cons]; omega)]

/-! ### Sound states -/

theorem sound_iff (s : State) :
    s.sound = true ↔ regsWf s.regs = true ∧ Memory.wf s.ee.mem = true ∧ Memory.wf s.kalmel.pools = true := by
  simp only [State.sound, Bool.and_eq_true, and_assoc]

/-- Soundness speaks of three fields alone. -/
theorem sound_congr {s t : State} (h : s.sound = true) (h1 : t.regs = s.regs) (h2 : t.ee.mem = s.ee.mem)
    (h3 : t.kalmel.pools = s.kalmel.pools) : t.sound = true := by
  rw [sound_iff] at *
  rw [h1, h2, h3]
  exact h

theorem sound_setReg {s : State} (h : s.sound = true) (a : Nat) (w : Word) : (s.setReg a w).sound = true := by
  rw [sound_iff] at *
  exact ⟨regsWf_setReg h.1 a w, h.2⟩

theorem sound_setFld {s : State} (h : s.sound = true) (f : Fld) (v : Nat) : (s.setFld f v).sound = true := sound_setReg h _ _

theorem sound_bump {s : State} (h : s.sound = true) (f : Fld) (n : Nat) : (s.bump f n).sound = true := sound_setFld h _ _

theorem sound_resetRegs {s : State} (h : s.sound = true) (p : Nat → Bool) : (s.resetRegs p).sound = true := by
  rw [sound_iff] at *
  exact ⟨regsWf_resetRegs h.1 p, h.2⟩

theorem sound_putBytes {s : State} (h : s.sound = true) (a : Nat) (bs : Bytes) :
    State.sound { s with ee := { s.ee with mem := putBytes s.ee.mem a bs } } = true := by
  rw [sound_iff] at *
  exact ⟨h.1, wf_putBytes h.2.1 a bs, h.2.2⟩

/-- A fold of steps that keep a state sound keeps it sound. -/
theorem sound_foldl {α : Type} {f : State → α → State} (hf : ∀ s a, s.sound = true → (f s a).sound = true) (l : List α) :
    ∀ {s : State}, s.sound = true → (l.foldl f s).sound = true := by
  induction l with
  | nil => exact fun h => h
  | cons a l ih => exact fun h => ih (hf _ a h)

end Sys2Proof.Machine
end

