-- ==== Sys2Proof/Laws/Traffic.lean ====
section
/-! SUPPORT. What the processing of one message can do, once (09 R333, R335, R360). -/

namespace Sys2Proof.Machine

/-- The message whose turn it is, of a flow of the table, is processed by its kind's own rules. -/
theorem process_turn {s : State} {id kind i h : Nat} {body : State → Nat → Flow → Frame → Msg → MsgEnd} {f : Frame} {m : Msg}
    {fl : Flow} (h1 : s.turn id = some (f, i, m, h, fl)) (h2 : s.mayProcess id kind fl = true) (h3 : fl.spill = none)
    (h4 : fl.ctx.lost = false) :
    s.process id kind body = match body ((s.laneTake id).touchFlow h) h fl f m with
      | .ok t raw fv => t.passMsg f i h fl.ctx m raw fv
      | .fail t r fv => t.failMsg f i h fl.ctx m r fv
      | .wait t cand =>
        (t.stall h).updFrame id (fun g => { g with
          msgs := g.msgs.set i
            { m with cand := cand, waitSince := m.waitSince <|> some ((s.laneTake id).touchFlow h).deviceTime } })
      | .hold t => t := by
  simp only [State.mayProcess, Bool.and_eq_true, decide_eq_true_eq, Bool.not_eq_true'] at h2
  simp only [State.process, h1, h2, h3, h4]
  simp only [ne_eq, not_true_eq_false, decide_false, Bool.not_true, Bool.or_self, Bool.false_eq_true, if_false]

end Sys2Proof.Machine
end

