-- ==== Sys2Proof/Tests/Slice0.lean ====
section
/-! SUPPORT. Tests: states that meet the hypotheses of the statements, ill-formed commands refused, and single commands on
small states with results taken from the spec's words. -/

namespace Sys2Proof.Machine

set_option Elab.async false

/-! ### Small states -/

/-- 32 PARAM bytes from fields (offset, size, value). -/
def par (l : List (Nat × Nat × Nat)) : Bytes :=
  l.foldl (fun b x => b.take x.1 ++ leBytes x.2.1 x.2.2 ++ b.drop (x.1 + x.2.1)) (List.replicate 32 0)

/-- Bytes of length n from fields. -/
def buf (n : Nat) (l : List (Nat × Nat × Nat)) : Bytes :=
  l.foldl (fun b x => b.take x.1 ++ leBytes x.2.1 x.2.2 ++ b.drop (x.1 + x.2.1)) (List.replicate n 0)

/-- A key slot of P0. -/
def keyOf (ty attr : Nat) (mat : Bytes) : KeySlot :=
  { owner := 0, ktype := ty, binding := 0, attr := attr, svnFloor := 0, limit := 2 ^ 48 - 1, uses := 0, useMark := 65536, dn := 0,
    dnMark := 131072, gen := 1, bindHash := List.replicate 16 0, material := mat, limitSaid := false, drawnSaid := false }

/-- P0 with SQ 0 and CQ 0, and ACCESS. -/
def p0 : PartSt :=
  { PartSt.new { PartCfg.p0 with access := true, flowQuota := 4 } false with
    sqs := [{ id := 0, base := 0x10000, sizeLog2 := 6, cq := 0, queue := 0x41, head := 0, tail := 0, fetched := 0, stopped := false,
              draining := false }],
    cqs := [{ id := 0, base := 0x20000, sizeLog2 := 6, vec := 0, queue := 0x42, wr := 0, rd := 0, reserved := 1, phase := true,
              stopped := false }] }

/-- Registers of a part in service: HOLD_OK, both halves in service under North, all banks, both Bellows instantiated. -/
def upRegs (s : State) : State :=
  (((((((s.setFld Fd.HOLD_STAT_HOLD_OK 1).setFld Fd.HW_ROLE_N_STATE 1).setFld Fd.HW_ROLE_S_STATE 1).setFld Fd.HW_PATHS_BANKS
    15).setFld (Fd.BW_STAT_INST 0) 1).setFld (Fd.BW_STAT_INST 1) 1).setFld (Fd.WH_STAT_STATE 0) 2).setFld (Fd.WH_STAT_STATE 1) 2

/-- A part in service in MAKER, one second after reset, with a few keys. -/
def up : State :=
  upRegs { State.reset with
    gatesOpen := true, retry := false, linkUp := true, boot := .up, life := 4, deviceTime := 1000000000, domains := 2 ^ 47 - 1,
    supply := { Supply.init with vholdMv := 3000 },
    halves := { HalvesSt.init with stopped := false, leaseEnd := 1002000000 },
    wells := [{ WellSt.init 1000000000 with pool := 1024 }, { WellSt.init 1000000000 with pool := 1024 }],
    parts := [(0, p0)],
    fns := [(0, { busMaster := true, msixEnable := false, fnMask := false, pending := 0 })],
    keys := { KeySt.init with slots := [
      (0, keyOf 2 0x67B (List.replicate 32 7)), (1, keyOf 0x20 0 (List.replicate 8 0)), (2, keyOf 0x101 0x180 (List.replicate 32 9)),
      (3, keyOf 0x211 0x80 (List.replicate 32 9)), (4, keyOf 0x201 0x100 (List.replicate 64 9)), (5, keyOf 1 0x804 (List.replicate 16 5)),
      (6, keyOf 0x10 0x420 (List.replicate 32 5))] } }

/-- The key of the one fetched command. -/
def kc : CmdKey := ⟨0, 0, 0⟩

/-- A fetched command of P0. -/
def cmdOf (op : Nat) (param input : Bytes) (outLen : Nat) : Inflight :=
  { key := kc, ordinal := 0, seq := 0, opcode := op, flags := 0, tag := 1, param := param, inLen := input.length, outLen := outLen,
    outAddr := if outLen = 0 then 0 else 0x100000, inList := [], outList := [], input := input,
    readFail := false, cls := 1, compat := false, secure := true }

/-- The same with a long input of n equal bytes. -/
def cmdRep (op : Nat) (param : Bytes) (n : Nat) (x : Byte) (outLen : Nat) : Inflight :=
  { cmdOf op param [] outLen with inLen := n, input := List.replicate n x }

/-- s with one fetched command. -/
def State.with1 (s : State) (c : Inflight) : State := { s with inflight := [c] }

/-- A plain partition. -/
def p1 : PartSt := PartSt.new { PartCfg.p0 with secure := false, ringQuota := 4, flowQuota := 4 } false

/-- Partition 1 beside P0, both functions reached. -/
def up2 : State := { up with parts := [(0, p0), (1, p1)], vfEnable := true, numVfs := 63 }

/-- P0's entry with its parts changed. -/
def State.p0With (s : State) (f : PartSt → PartSt) : State := s.updPart 0 f

/-- An active event ring of P0. -/
def evr0 : Evr := { base := 0x30000, sizeLog2 := 6, vec := 0, queue := 0x43, head := 0, tail := 0, seq := 0, phase := true }

/-- An entry of zeros with nothing to read. -/
def noEntry : Fetch := { entry := List.replicate 64 0, inList := [], outList := [], input := [], readFail := false }

/-- A bring-up with nothing wrong. -/
def goodBringUp : BringUp :=
  { straps := 0, northFail := none, southFail := none, udsDiffer := false, shoreImageFail := false, storeLost := false,
    vholdMv := 3000, startedAt := 0, spareFails := [], upTo := 11 }

/-- A part whose fuses hold their first word and whose store has its seed. -/
def bootReady : State :=
  { State.reset with keys := { State.reset.keys with fuses := [(0, [1, 0, 0, 0])], seed := some (List.replicate 16 1) } }

/-- Engine slot 0 of North. -/
def e0 : EngRef := ⟨.north, 0⟩

/-- How a task of this privilege and profile starts, with a pool window of 4 KiB. -/
def startOf (q : Priv) (prof : Bool) : TaskStart :=
  { priv := q, profile := prof, entry := if q = .a then 0x1800 else 0x1000, args := [], argWords := [], data := [], fmode := 0,
    steps := none, poolBase := 0, poolLim := 4096, paired := false, part := 0, cmd := if q = .a then some kc else none, frame := none,
    applet := none, again := false }

/-- A task at its entry point with an empty stack. -/
def taskOf (q : Priv) (prof : Bool) : Task :=
  { start := startOf q prof, k := List.replicate 14 0 ++ [0xC00, 0], pc := (startOf q prof).entry,
    fl := ⟨false, false, false, false, false, false⟩, fmode := 0, p1 := 0, p2 := 0, p3 := 0, dthi := 0, wmask := 0, evpend := 0,
    steps := none, wait := .none, svca := [], staged := [], halted := false }

/-- The same with registers k. -/
def taskK (q : Priv) (prof : Bool) (k : List EWord) : Task := { taskOf q prof with k := k }

/-- Slot 0 of North runs t. -/
def run (t : Task) : State := up.updEng e0 (fun x => { x with task := some t })

/-- A task of an invocation in paired duty. -/
def taskPair : Task := { taskOf .a true with start := { startOf .a true with paired := true } }

/-- Tasks with a request of opcode 0 outstanding. -/
def tSvc : Task := { taskOf .p true with wait := .svc (List.replicate 64 0) 0 }
def tSvca : Task := { taskOf .f true with svca := [(List.replicate 64 0, 0)] }
def tFifth : Task := { tSvca with wait := .svca (List.replicate 64 0) 0 }

/-- s with decode table l. -/
def State.withDecode (s : State) (l : List Nat) : State := { s with kalmel := { s.kalmel with decode := some l } }

/-- The smallest applet image. -/
def img : Bytes :=
  ascii "KLML" ++ [3, 0] ++ leBytes 2 1 ++ List.replicate 6 0 ++ [1, 0] ++ List.replicate 8 0 ++ leBytes 4 1 ++
  List.replicate (38 + 5469) 0

/-- s with image img loaded as applet 0 of P0. -/
def State.withApplet (s : State) : State :=
  s.setApplets [(0, { owner := 0, image := readImage (img.take 66), state := [] })]

/-- APPLET_INVOKE of applet 0, admitted with its image. -/
def cmdImage : Inflight := { cmdOf 0x0702 (par []) [] 0 with image := some (readImage (img.take 66)) }

/-- An access policy: START and every target enabled for host release, bound 60,000 cm, sessions of 2,000 ms. -/
def pol : Bytes := [0, 0, 0, 0, 1, 0, 0xD0, 7] ++ (List.replicate 9 [0, 0, 0x60, 0xEA, 0, 0, 1, 3]).flatten

def upPol : State := up.setAcc (fun a => { a with policy := some pol })

/-- FOB 0, and its pairing before and after its answer. -/
def fob0 : FobRec := { id := 0, fobId := 7, slot := 0, rights := 0x3FF, key := List.replicate 16 3, gen := 1 }
def pair0 (done : Bool) : Pairing :=
  { key := kc, fob := 0, fobId := 7, slot := 0, rights := 0, kFob := List.replicate 16 3, nonceV := [], triesLeft := 3, started := done }

/-- A token configuration under slot 5, and a part with a token waiting at counter n under mark j. -/
def immoCfg : Bytes := buf 32 [(0, 4, 5), (6, 2, 1000), (8, 4, 0x7FF), (12, 2, 1), (16, 4, 0xFFFFFFFF)]
def upTok (n j : Nat) : State :=
  { up with immo := { ImmoSt.init with config := some immoCfg, counter := n, markJ := j, queue := [⟨1, 16, 0, false, 0⟩] } }

/-- A MACsec transmit descriptor and its flow. -/
def desc : Bytes := buf 64 [(0, 1, 4), (4, 1, 255), (8, 4, 0xFFFFFFFF)]
def upFlow : State := { up with flows := [(0, Flow.ofDesc desc 0 1)] }

/-- A debug grant of good format. -/
def grantBytes : Bytes := ascii "FXDG" ++ [1] ++ List.replicate 91 0 ++ ascii "KSIG" ++ [0x40] ++ List.replicate 5464 0

/-- P0 holds region 0, two pages. -/
def upEe : State := up.setRegion 0 { Region.none with word := 0x80000001 }

/-- A READY card. -/
def upCard : State := (up.setFld Fd.CD_STAT_PRESENT 1).setFld Fd.CD_STAT_STATE 3

/-- A frame of no message, of this size, held for lane 0. -/
def frameOf (size : Nat) (msgs : List Msg) : Frame :=
  { id := 0, lane := 0, size := size, shared := false, orig := List.replicate 60 1, parse := .none, pre := [], msgs := msgs, post := [],
    divert := false, changed := false, unknown := false, egress := none, since := 0 }

/-- Lane 0 is up. -/
def upLane : State := (up.setFld (Fd.LANE_STAT_UP 0) 1).setFld (Fd.LANE_CFG_EN 0) 1

/-- Flows and frames: a context of a kind, its flow, and a message of flow 0 alone in a held frame. -/
def ctxOf (kind param key fv0 fv1 : Nat) : Ctx :=
  { kind := kind, cls := 0, part := 0, invert := false, action := 0, report := false, enabled := true, carry := 0, egress := 15,
    spill := false, lost := false, stalled := false, key0 := key, key1 := 0, param := param, fv0 := fv0, fv1 := fv1, aux := 0,
    okCnt := 0, failCnt := 0, lastFail := 0 }
def flowOf (c : Ctx) : Flow :=
  { ctx := c, key := [], lanes := 0, ckptTo := none, lastEvent := none, suppressed := 0, restart := false, spill := none }
def msgOf (body raw : Bytes) : Msg :=
  { flow := some 0, hdr := [], body := body, raw := raw, cand := 0, done := false, dropped := false, waitSince := none }
def msgSince (t : Nat) : Msg := { msgOf [] [] with waitSince := some t }
def upMid : State := { upFlow with frames := [frameOf 64 [msgSince 0]] }
def upMsg (c : Ctx) (m : Msg) : State := { up with flows := [(0, flowOf c)], frames := [frameOf 64 [m]] }
def upMsgSpill (c : Ctx) (m : Msg) : State :=
  { up with flows := [(0, { flowOf c with spill := some ⟨false, false, false, 0⟩ })], frames := [frameOf 64 [m]] }
def upSpill (loading cached : Bool) : State :=
  { up with flows := [(262144, { flowOf (ctxOf 1 0 5 0 0) with spill := some ⟨cached, cached, loading, 0⟩ })] }

def spillKey : Bytes := List.replicate 32 1
def spillAad : Bytes := leBytes 4 (spillHandle 0) ++ List.replicate 8 0
/-- A record of index 0 and version 0 that opens. -/
def goodRec : Bytes :=
  spillAad ++ List.replicate 48 0 ++ Config.prim .gcmTag [spillKey, sealNonce 0 0 0, spillAad, List.replicate 48 0] 16
def withSpillKey (s : State) : State := { s with spill := { s.spill with key := spillKey } }

theorem goodRec_opens : ∃ c, (withSpillKey (upSpill true false)).openRecord 0 goodRec = some c := by
  have e : (withSpillKey (upSpill true false)).openRecord 0 goodRec =
      if (List.isEmpty spillKey || leAt goodRec 0 4 ≠ spillHandle 0 || leAt goodRec 4 4 ≠ 0) = true then none
      else (gcmOpen spillKey (sealNonce 0 0 0) spillAad (List.replicate 48 0)
        (Config.prim .gcmTag [spillKey, sealNonce 0 0 0, spillAad, List.replicate 48 0] 16)).map Ctx.ofBytes := rfl
  rw [e, if_neg (by decide +kernel), gcmOpen, List.take_length, if_pos rfl]
  exact ⟨_, rfl⟩

/-- A running job of a unit. -/
def jobOf (u : UnitKind) (total : Nat) : Job :=
  { owner := .cmd kc, unit := u, half := .north, part := 0, cls := 0, full := false, mode := 1, slot := 0, total := total, done := 0,
    inReq := 0, seg := 0, saved := 0, since := 0, avoid := none }
def upJob (u : UnitKind) (total : Nat) : State :=
  { up with units := { up.units with running := [⟨0, jobOf u total⟩] } }

/-- A handle channel at rest, and a part with channel 0 so. -/
def chan0 : HsChan :=
  { base := 256000, count := 1000, lowRun := 0, goodRun := 0, confirm := none, discarded := false, touchedAt := none }
def upChan (c : HsChan) : State := { up with hs := { up.hs with chans := c :: List.replicate 5 chan0 } }
def upBase (base lowRun : Nat) : State := upChan { chan0 with base := base, lowRun := lowRun }

/-- An LF frame asked for, one on air, and a part with a session. -/
def req0 : LfReq := { kind := .challenge, data := [], bursts := 1 }
def air0 : LfAir := { req := req0, startedAt := 0, broadcast := 1, asked := 1, bursts := 1, omitted := 0 }
def upLf (f : LfSt → LfSt) : State := { up with lf := f up.lf }
def sess0 (src : Source) (target : Nat) : Session := Session.start src target 0 0
def upSess (x : Session) : State := up.setAcc (fun a => { a with session := some x, fobs := [fob0] })
def upBc (x : Session) : State := { upSess x with bc := some ⟨0, [], false, 0, 10 ^ 12, up.pageCfg 0x043000⟩ }

def upBcOn (x : Session) : State := { upSess x with bc := some ⟨0, [], true, 987500000, 10 ^ 12, up.pageCfg 0x043000⟩ }

/-- A telegram of one byte after its sync word. -/
def raw0 : Bytes := [1, 0] ++ beBytes 2 (crc16 [1, 0])

/-- A response window, a VALID answer, and a ranging round. -/
def win (at' slots : Nat) (repoll : Option Nat) (hyps : List Nat) : UhfWindow :=
  { opensAt := at', slots := slots, repoll := repoll, hyps := hyps.map (fun k => (k, 0)), passed := [], failed := [],
    cfg := up.pageCfg 0x042000, past := none }
def upWin (w : UhfWindow) (s : State) : State := { s with uhf := some w }
def upWinPond (w : UhfWindow) (s : State) : State := (upWin w s).setFld Fd.PW_STAT_STATE 2
def answer0 : Candidate := { fob := 0, strengths := [], kSts := [], kRpt := [], payload := [], time := 0, nonceV := [] }
def round0 (seen sent rep : Bool) : Round :=
  { idx := 0, n := 0, txPort := 0, rxPort := 0, t1 := 0, responseSeen := seen, t4c := 0, t5 := 0, finalSent := sent,
    reportSeen := rep, report := [], startedAt := 0, found := none, reportC1 := none }
def upRng (r : Option Round) : State :=
  { upSess { sess0 .start 16 with candidates := [answer0] } with uwb := { up.uwb with fob := some 0, round := r } }
def late (s : State) : State := { s with deviceTime := 10 ^ 12 }
def found0 : CirFound := { comps := ⟨0, 0, 0, 0, 0⟩, firstPath := 0, rxPower := 0, fpPower := 0 }
def withUwb (s : State) : State := { s with uwb := { s.uwb with cfg := s.pageCfg 0x050000 } }
def withHs (s : State) : State := { s with hs := { s.hs with cfg := s.pageCfg 0x040000 } }
def rec0 (kind : Nat) : CirRec :=
  { kind := kind, port := 0, coarse := 0, agree := [], norm := [], rxPower := 0, fpPower := 0, taps := [] }
def roundT (t4c t5 : Nat) : Round := { round0 true true true with t4c := t4c, t5 := t5 }

/-- Power, ledger, comparator, TAP and card. -/
def upPow (n : Nat) (f : PowerSt → PowerSt) : State := (up.setFld Fd.PW_STAT_STATE n).updPower f
def upRetry (k : PmicKind) (n : Nat) : State := up.updPower (fun p => { p with retries := [(k, n, 0)] })
def led0 : LedgerSt := { LedgerSt.init with budget := 1000, horizon := 30 }
def unitOf (k : RetKind) (h : Half) : UnitRef := ⟨k, h, 0⟩
def upRet (k : RetKind) (passes : Nat) : State :=
  { up with halves := { up.halves with retired := [⟨unitOf k .north, passes, 0, 0, false⟩] } }
def upSync (s : State) : State := { s with halves := { s.halves with resyncAt := some (.north, 0) } }
def verdict (n s folds : Bool) (par c434 : Option Half) : Verdict :=
  { eqN := n, eqS := s, folds := folds, parity := par, check434 := c434, unitL := unitOf .engine .north, effL := [],
    unitF := unitOf .engine .south, effF := [], testFail := none }
def upTamper (f : TamperSt → TamperSt) : State := up.updTamper f
def inField (s : State) : State := { s with life := 5 }
def upTap (code scope : Nat) (s : State) : State :=
  State.setFld { s with lc := { s.lc with tap := code, scope := scope } } Fd.BOOT_STAT_STEP 7
def cardAt (n : Nat) : State := (up.setFld Fd.CD_STAT_PRESENT 1).setFld Fd.CD_STAT_STATE n
def upCardTxn : State := (upCard.updCard (fun c => { c with txn := some ⟨0, [], 0⟩, stopOk := true })).setFld Fd.CD_CFG_TXN_S 1
def atrOf (edge : Nat) : Atr := { edge := edge, chars := [], longGap := false, pps := none }
def info0 : OpInfo := { code := 0x0305, issuer := .secure }
def infoDraws : OpInfo := { info0 with draws := fun _ => true }
def infoDurable : OpInfo := { info0 with durable := true }
def fewBytes : Compl := { cq := 0, sq := 0, tag := 1, status := 0, detail := 0, written := 0, result := [1, 2], outputs := [] }
def noResume : Resume :=
  { sq := 0, index := 0, tag := 0, missing := 0, ordinal := none, durIndex := 0, durTag := 0,
    durMissing := 0, durOrdinal := none, hasAll := false, hasDur := false }

/-- The one fetched command has its turn; the rest of its checks are evaluated. -/
theorem passes_with1 {s : State} {c : Inflight} {i : OpInfo} {l : Bool} (hk : c.key = kc)
    (h : (decide (s.boot ≠ .failed) && (s.with1 c).admissible c && !s.halves.lost && s.gatesOpen && !s.disagrees kc &&
      (match s.part? 0 with | some q => q.inReset.isNone | none => true) && c.opcode == i.code && !i.waits (s.with1 c) c &&
      ((s.with1 c).preCheck i l c).isNone && !c.readFail && i.params c &&
      (i.first (s.with1 c) c <|> (s.with1 c).deviceCheck i c).isNone && !(i.draws c && (s.with1 c).drawHeld c)) = true) :
    (s.with1 c).passes kc c i l = true := by
  have hf : (s.with1 c).cmd? kc = some c := by simp [State.cmd?, State.with1, hk]
  simp only [Bool.and_assoc] at h
  simp only [State.passes, State.turn?, hf, BEq.rfl, Bool.true_and, Bool.and_assoc]
  exact h

/-- The reserve gives its lowest free number and changes nothing. -/
theorem takeReserve_first {s : State} {n : Nat} (h : firstFree (s.ringQueues ++ s.lentQueues) reserveBase 1024 = some n) :
    s.takeReserve = some (n, s) := by
  unfold State.takeReserve
  rw [h]

/-! ### The hypotheses of the statements are met -/

theorem witness_KeyStoreCommands :
    (∃ (s : State) (k : CmdKey) (c : Inflight) (n : Nat), s.passes k c keyGenerateInfo s.lifeKeys = true ∧ s.target
    c.key.part (c.p32 0) = .slot n ∧ s.mayEnd (!slotVolatile n) = true) ∧
    (∃ (s t : State) (k : CmdKey) (c : Inflight) (n : Nat) (w : KeySlot), s.passes k c keyImportInfo s.lifeKeys = true ∧
    s.useSlot c.key.part (c.p32 20) (fun x => isAes x.ktype && bit x.attr atUnwrap) = .ok w ∧ s.target c.key.part (c.p32 0)
    = .slot n ∧ s.takeUse (c.p32 20) false = .ok t ∧ s.mayEnd (!slotVolatile n) = true) ∧
    (∃ (s t : State) (k : CmdKey) (c : Inflight) (n : Nat) (w : KeySlot), s.passes k c keyDeriveInfo s.lifeKeys = true ∧
    s.useSlot c.key.part (c.p32 20) (fun x => bit x.attr atDerive) = .ok w ∧ w.binding ≤ c.keySpec.binding ∧ (bit
    c.keySpec.attr atExportable = true → bit w.attr atExportable = true) ∧ s.target c.key.part (c.p32 0) = .slot n ∧
    s.takeUse (c.p32 20) false = .ok t ∧ s.mayEnd (!slotVolatile n) = true) ∧
    (∃ (s : State) (k : CmdKey) (c : Inflight) (x : KeySlot), s.passes k c keyDestroyInfo true = true ∧ s.ownSlot c.key.part
    (c.p32 0) = some x ∧ s.mayEnd (!slotVolatile (c.p32 0)) = true) ∧
    (∃ (s t : State) (k : CmdKey) (c : Inflight) (x w : KeySlot), s.passes k c keyExportInfo true = true ∧ s.useSlot
    c.key.part (c.p32 0) (fun x => bit x.attr atExportable) = .ok x ∧ s.useSlot c.key.part (c.p32 4) (fun x => isAes x.ktype
    && bit x.attr atWrap) = .ok w ∧ x.material.length + 8 ≤ c.outLen ∧ s.takeUse (c.p32 4) false = .ok t) ∧
    (∃ (s : State) (k : CmdKey) (c : Inflight) (x : KeySlot), s.passes k c keyInfoInfo true = true ∧ s.ownSlot c.key.part
    (c.p32 0) = some x) ∧
    (∃ (s : State) (k : CmdKey) (c : Inflight) (n : Nat), s.passes k c counterCreateInfo s.lifeKeys = true ∧ s.target
    c.key.part (c.p16 0) = .slot n ∧ s.canCommit = true) ∧
    (∃ (s : State) (k : CmdKey) (c : Inflight) (x : KeySlot), s.passes k c counterIncrementInfo true = true ∧ s.useCounter
    c.key.part (c.p16 0) = .ok x ∧ s.canCommit = true) ∧
    (∃ (s : State) (k : CmdKey) (c : Inflight) (x : KeySlot), s.passes k c counterReadInfo true = true ∧ s.useCounter
    c.key.part (c.p16 0) = .ok x) ∧
    (∃ (s t : State) (k : CmdKey) (c : Inflight) (x : KeySlot) (b : Nat), s.passes k c sealInfo true = true ∧ s.useSlot
    c.key.part (c.p32 0) sealFits = .ok x ∧ b = (if c.p8 4 = 0xFF then x.binding else c.p8 4) ∧ x.binding ≤ b ∧
    s.exactRefused b = false ∧ s.takeUse (c.p32 0) false = .ok t) ∧
    (∃ (s t : State) (k : CmdKey) (c : Inflight) (x : KeySlot), s.passes k c unsealInfo true = true ∧ s.useSlot c.key.part
    (c.p32 0) sealFits = .ok x ∧ slice c.input 28 16 = s.bindNow (leAt c.input 5 1) ∧ leAt c.input 8 4 ≤ s.keys.svn ∧
    s.exactRefused (leAt c.input 5 1) = false ∧ s.takeUse (c.p32 0) false = .ok t) :=
  ⟨⟨State.with1 up (cmdOf 0x0101 (par [(0, 4, 0xFFFF), (4, 2, 2), (8, 4, 0x600)]) ([]) 0), kc, cmdOf 0x0101 (par [(0, 4,
   0xFFFF), (4, 2, 2), (8, 4, 0x600)]) ([]) 0, _, (by decide +kernel), rfl, by decide +kernel⟩,
   ⟨State.with1 up (cmdOf 0x0102 (par [(0, 4, 0x8000FFFF), (4, 2, 2), (20, 4, 0)]) (List.replicate 40 1) 0), _, kc, cmdOf
   0x0102 (par [(0, 4, 0x8000FFFF), (4, 2, 2), (20, 4, 0)]) (List.replicate 40 1) 0, _, _, by decide +kernel, rfl, rfl, rfl,
   (by decide +kernel)⟩,
   ⟨State.with1 up (cmdOf 0x0103 (par [(0, 4, 9), (4, 2, 2), (8, 4, 0x200), (20, 4, 0)]) ([1]) 0), _, kc, cmdOf 0x0103 (par
   [(0, 4, 9), (4, 2, 2), (8, 4, 0x200), (20, 4, 0)]) ([1]) 0, _, _, by decide +kernel, rfl, (by decide +kernel),
   by decide +kernel, rfl, rfl, by decide +kernel⟩,
   ⟨State.with1 up (cmdOf 0x0104 (par [(0, 4, 0)]) ([]) 0), kc, cmdOf 0x0104 (par [(0, 4, 0)]) ([]) 0, _,
   (by decide +kernel), rfl, (by decide +kernel)⟩,
   ⟨State.with1 up (cmdOf 0x0105 (par [(0, 4, 0), (4, 4, 0)]) ([]) 40), _, kc, cmdOf 0x0105 (par [(0, 4, 0), (4, 4, 0)])
   ([]) 40, _, _, by decide +kernel, rfl, rfl, (by decide +kernel), rfl⟩,
   ⟨State.with1 up (cmdOf 0x0106 (par [(0, 4, 2)]) ([]) 64), kc, cmdOf 0x0106 (par [(0, 4, 2)]) ([]) 64, _,
   by decide +kernel, rfl⟩,
   ⟨State.with1 up (cmdOf 0x0107 (par [(0, 2, 0x1FFF)]) ([]) 0), kc, cmdOf 0x0107 (par [(0, 2, 0x1FFF)]) ([]) 0, _,
   (by decide +kernel), rfl, (by decide +kernel)⟩,
   ⟨State.with1 up (cmdOf 0x0108 (par [(0, 2, 1), (4, 4, 0xFFFFFFFF)]) ([]) 0), kc, cmdOf 0x0108 (par [(0, 2, 1), (4, 4,
   0xFFFFFFFF)]) ([]) 0, _, by decide +kernel, rfl, (by decide +kernel)⟩,
   ⟨State.with1 up (cmdOf 0x0109 (par [(0, 2, 1)]) ([]) 0), kc, cmdOf 0x0109 (par [(0, 2, 1)]) ([]) 0, _, by decide +kernel,
   rfl⟩,
   ⟨State.with1 up (cmdOf 0x010A (par [(0, 4, 0), (4, 1, 0xFF)]) ([1, 2]) 62), _, kc, cmdOf 0x010A (par [(0, 4, 0), (4, 1,
   0xFF)]) ([1, 2]) 62, _, _, by decide +kernel, rfl, rfl, (by decide +kernel), (by decide +kernel), rfl⟩,
   ⟨State.with1 up (cmdOf 0x010B (par []) (ascii "FXSL" ++ [1, 0, 0, 0] ++ List.replicate 52 0) 0), _, kc, cmdOf 0x010B (par
   []) (ascii "FXSL" ++ [1, 0, 0, 0] ++ List.replicate 52 0) 0, _, by decide +kernel, rfl, by decide +kernel,
   (by decide +kernel), (by decide +kernel), rfl⟩⟩

theorem witness_AlgorithmCommands :
    (∃ (s t : State) (k : CmdKey) (c : Inflight) (x : KeySlot), s.passes k c aeadEncryptInfo true = true ∧ s.useSlot
    c.key.part (c.p32 0) (fitsMode c.mode) = .ok x ∧ s.takeUse (c.p32 0) c.countsDraw = .ok t) ∧
    (∃ (s t : State) (k : CmdKey) (c : Inflight) (x : KeySlot), s.passes k c aeadDecryptInfo true = true ∧ s.useSlot
    c.key.part (c.p32 0) (fitsMode c.mode) = .ok x ∧ s.takeUse (c.p32 0) false = .ok t) ∧
    (∃ (s t : State) (k : CmdKey) (c : Inflight) (x : KeySlot), s.passes k c macGenerateInfo true = true ∧ s.useSlot
    c.key.part (c.p32 0) (fitsMode c.mode) = .ok x ∧ s.takeUse (c.p32 0) c.countsDraw = .ok t) ∧
    (∃ (s t : State) (k : CmdKey) (c : Inflight) (x : KeySlot), s.passes k c macVerifyInfo true = true ∧ s.useSlot
    c.key.part (c.p32 0) (fitsMode c.mode) = .ok x ∧ s.takeUse (c.p32 0) false = .ok t) ∧
    (∃ (s t : State) (k : CmdKey) (c : Inflight) (x : KeySlot), s.passes k c dataWrapInfo true = true ∧ s.useSlot c.key.part
    (c.p32 0) (fun x => isAes x.ktype && bit x.attr atWrap) = .ok x ∧ s.takeUse (c.p32 0) false = .ok t) ∧
    (∃ (s t : State) (k : CmdKey) (c : Inflight) (x : KeySlot), s.passes k c dataUnwrapInfo true = true ∧ s.useSlot
    c.key.part (c.p32 0) (fun x => isAes x.ktype && bit x.attr atUnwrap) = .ok x ∧ s.takeUse (c.p32 0) false = .ok t) ∧
    (∃ (s : State) (k : CmdKey) (c : Inflight) (n : Nat), s.passes k c digestInfo true = true ∧ digestLen (c.p8 0) = some n) ∧
    (∃ (s : State) (k : CmdKey) (c : Inflight), s.passes k c randomInfo true = true) ∧
    (∃ (s : State) (k : CmdKey) (c : Inflight) (n : Nat), s.passes k c pkKeygenInfo s.lifeKeys = true ∧ s.target c.key.part
    (c.p32 0) = .slot n ∧ s.mayEnd (!slotVolatile n) = true) ∧
    (∃ (s t : State) (k : CmdKey) (c : Inflight) (x : KeySlot), s.passes k c pkSignInfo true = true ∧ isHybrid (c.p8 8) =
    false ∧ s.usePrivate c.key.part (c.p32 0) ((signType (c.p8 8)).getD 0) atSign = .ok x ∧ s.takeUse (c.p32 0) false = .ok
    t) ∧
    (∃ (s u : State) (k : CmdKey) (c : Inflight) (x y : KeySlot), s.passes k c pkSignInfo true = true ∧ isHybrid (c.p8 8) =
    true ∧ s.usePrivate c.key.part (c.p32 0) ((signType (c.p8 8)).getD 0) atSign = .ok x ∧ s.usePrivate c.key.part (c.p32 4)
    0x211 atSign = .ok y ∧ s.takeUses [c.p32 0, c.p32 4] = .ok u) ∧
    (∃ (s : State) (k : CmdKey) (c : Inflight), s.passes k c pkVerifyInfo true = true) ∧
    (∃ (s t : State) (k : CmdKey) (c : Inflight) (x : KeySlot) (ty len n : Nat), s.passes k c pkAgreeInfo s.lifeKeys = true
    ∧ agreeType (c.p8 8) = some (ty, len) ∧ s.usePrivate c.key.part (c.p32 0) ty atAgree = .ok x ∧ s.secretCheck c.key.part
    (c.p32 4) none = none ∧ slotIndex (c.p32 4) = 0xFFFF ∧ s.takeUses [c.p32 0] = .ok t ∧ t.target c.key.part (c.p32 4) =
    .slot n ∧ s.mayEnd (!slotVolatile n) = true) ∧
    (∃ (s t : State) (k : CmdKey) (c : Inflight) (x w : KeySlot) (ty len n : Nat), s.passes k c pkAgreeInfo s.lifeKeys =
    true ∧ agreeType (c.p8 8) = some (ty, len) ∧ s.usePrivate c.key.part (c.p32 0) ty atAgree = .ok x ∧ s.secretCheck
    c.key.part (c.p32 4) none = none ∧ n = c.p32 4 ∧ (s.combined c.key.part n).isSome = true ∧ s.takeUses [c.p32 0, n] = .ok
    t ∧ t.combined c.key.part n = some w ∧ s.mayEnd (!slotVolatile n) = true) ∧
    (∃ (s : State) (k : CmdKey) (c : Inflight) (sk ek ct n : Nat), s.passes k c kemEncapsInfo s.lifeKeys = true ∧ kemSizes
    (c.p8 4) = some (sk, ek, ct) ∧ s.secretCheck c.key.part (c.p32 0) none = none ∧ slotIndex (c.p32 0) = 0xFFFF ∧ (s.draw
    32).target c.key.part (c.p32 0) = .slot n ∧ s.mayEnd (!slotVolatile n) = true) ∧
    (∃ (s t : State) (k : CmdKey) (c : Inflight) (w : KeySlot) (sk ek ct n : Nat), s.passes k c kemEncapsInfo s.lifeKeys =
    true ∧ kemSizes (c.p8 4) = some (sk, ek, ct) ∧ s.secretCheck c.key.part (c.p32 0) none = none ∧ n = c.p32 0 ∧
    (s.combined c.key.part n).isSome = true ∧ s.takeUses [n] = .ok t ∧ (t.draw 32).combined c.key.part n = some w ∧ s.mayEnd
    (!slotVolatile n) = true) ∧
    (∃ (s t : State) (k : CmdKey) (c : Inflight) (x y : KeySlot) (alg sk ek ct n : Nat), s.passes k c kemDecapsInfo
    s.lifeKeys = true ∧ s.ownSlot c.key.part (c.p32 0) = some x ∧ kemAlg x.ktype = some alg ∧ kemSizes alg = some (sk, ek,
    ct) ∧ c.inLen = ct ∧ s.useSlot c.key.part (c.p32 0) (fun q => bit q.attr atAgree) = .ok y ∧ s.secretCheck c.key.part
    (c.p32 4) none = none ∧ slotIndex (c.p32 4) = 0xFFFF ∧ s.takeUses [c.p32 0] = .ok t ∧ t.target c.key.part (c.p32 4) =
    .slot n ∧ s.mayEnd (!slotVolatile n) = true) ∧
    (∃ (s t : State) (k : CmdKey) (c : Inflight) (x y w : KeySlot) (alg sk ek ct n : Nat), s.passes k c kemDecapsInfo
    s.lifeKeys = true ∧ s.ownSlot c.key.part (c.p32 0) = some x ∧ kemAlg x.ktype = some alg ∧ kemSizes alg = some (sk, ek,
    ct) ∧ c.inLen = ct ∧ s.useSlot c.key.part (c.p32 0) (fun q => bit q.attr atAgree) = .ok y ∧ s.secretCheck c.key.part
    (c.p32 4) none = none ∧ n = c.p32 4 ∧ (s.combined c.key.part n).isSome = true ∧ s.takeUses [c.p32 0, n] = .ok t ∧
    t.combined c.key.part n = some w ∧ s.mayEnd (!slotVolatile n) = true) ∧
    (∃ (s : State) (k : CmdKey) (c : Inflight), s.passes k c attestInfo (s.life != 1) = true) :=
  ⟨⟨State.with1 up (cmdOf 0x0201 (par [(0, 4, 0), (4, 1, 1), (5, 1, 16)]) ([1, 2, 3]) 19), _, kc, cmdOf 0x0201 (par [(0, 4,
   0), (4, 1, 1), (5, 1, 16)]) ([1, 2, 3]) 19, _, (by decide +kernel), rfl, rfl⟩,
   ⟨State.with1 up (cmdOf 0x0202 (par [(0, 4, 0), (4, 1, 1), (5, 1, 16), (6, 1, 12), (24, 4, 2)]) (List.replicate 20 1) 2),
   _, kc, cmdOf 0x0202 (par [(0, 4, 0), (4, 1, 1), (5, 1, 16), (6, 1, 12), (24, 4, 2)]) (List.replicate 20 1) 2, _,
   (by decide +kernel), rfl, rfl⟩,
   ⟨State.with1 up (cmdOf 0x0203 (par [(0, 4, 0), (4, 1, 16), (5, 1, 16)]) ([1]) 16), _, kc, cmdOf 0x0203 (par [(0, 4, 0),
   (4, 1, 16), (5, 1, 16)]) ([1]) 16, _, (by decide +kernel), rfl, rfl⟩,
   ⟨State.with1 up (cmdOf 0x0204 (par [(0, 4, 0), (4, 1, 17), (5, 1, 12), (6, 1, 12)]) (List.replicate 12 1) 0), _, kc,
   cmdOf 0x0204 (par [(0, 4, 0), (4, 1, 17), (5, 1, 12), (6, 1, 12)]) (List.replicate 12 1) 0, _, (by decide +kernel), rfl,
   rfl⟩,
   ⟨State.with1 up (cmdOf 0x0205 (par []) (List.replicate 16 1) 24), _, kc, cmdOf 0x0205 (par []) (List.replicate 16 1) 24,
   _, by decide +kernel, rfl, rfl⟩,
   ⟨State.with1 up (cmdOf 0x0206 (par []) (List.replicate 24 1) 16), _, kc, cmdOf 0x0206 (par []) (List.replicate 24 1) 16,
   _, (by decide +kernel), rfl, rfl⟩,
   ⟨State.with1 up (cmdOf 0x0207 (par [(0, 1, 1)]) ([]) 32), kc, cmdOf 0x0207 (par [(0, 1, 1)]) ([]) 32, _,
   (by decide +kernel), rfl⟩,
   ⟨State.with1 up (cmdOf 0x0401 (par []) ([]) 1), kc, cmdOf 0x0401 (par []) ([]) 1, (by decide +kernel)⟩,
   ⟨State.with1 up (cmdOf 0x0301 (par [(0, 4, 0xFFFF), (4, 2, 0x101), (8, 4, 0x80)]) ([]) 65), kc, cmdOf 0x0301 (par [(0, 4,
   0xFFFF), (4, 2, 0x101), (8, 4, 0x80)]) ([]) 65, _, by decide +kernel, rfl, (by decide +kernel)⟩,
   ⟨State.with1 up (cmdOf 0x0302 (par [(0, 4, 2), (8, 1, 1)]) ([1]) 64), _, kc, cmdOf 0x0302 (par [(0, 4, 2), (8, 1, 1)])
   ([1]) 64, _, (by decide +kernel), by decide +kernel, rfl, rfl⟩,
   ⟨State.with1 up (cmdOf 0x0302 (par [(0, 4, 2), (4, 4, 3), (8, 1, 0x41)]) ([1]) 3373), _, kc, cmdOf 0x0302 (par [(0, 4,
   2), (4, 4, 3), (8, 1, 0x41)]) ([1]) 3373, _, _, by decide +kernel, by decide +kernel, rfl, rfl, rfl⟩,
   ⟨State.with1 up (cmdOf 0x0303 (par [(0, 1, 3), (4, 4, 32)]) (List.replicate 96 1) 0), kc, cmdOf 0x0303 (par [(0, 1, 3),
   (4, 4, 32)]) (List.replicate 96 1) 0, (by decide +kernel)⟩,
   ⟨State.with1 up (cmdOf 0x0304 (par [(0, 4, 2), (4, 4, 0x8000FFFF), (8, 1, 4)]) (List.replicate 65 4) 0), _, kc, cmdOf
   0x0304 (par [(0, 4, 2), (4, 4, 0x8000FFFF), (8, 1, 4)]) (List.replicate 65 4) 0, _, _, _, _, by decide +kernel, rfl, rfl,
   by decide +kernel, (by decide +kernel), rfl, rfl, (by decide +kernel)⟩,
   ⟨State.with1 up (cmdOf 0x0304 (par [(0, 4, 2), (4, 4, 6), (8, 1, 4)]) (List.replicate 65 4) 0), _, kc, cmdOf 0x0304 (par
   [(0, 4, 2), (4, 4, 6), (8, 1, 4)]) (List.replicate 65 4) 0, _, _, _, _, _, by decide +kernel, rfl, rfl,
   by decide +kernel, rfl, by decide +kernel, rfl, rfl, (by decide +kernel)⟩,
   ⟨State.with1 up (cmdRep 0x0305 (par [(0, 4, 0x8000FFFF), (4, 1, 0x20)]) 1184 4 1088), kc, cmdRep 0x0305 (par [(0, 4,
   0x8000FFFF), (4, 1, 0x20)]) 1184 4 1088, _, _, _, 0x80000000, by decide +kernel, rfl, by and_intros <;> decide +kernel⟩,
   ⟨State.with1 up (cmdRep 0x0305 (par [(0, 4, 6), (4, 1, 0x20)]) 1184 4 1088), _, kc, cmdRep 0x0305 (par [(0, 4, 6), (4, 1,
   0x20)]) 1184 4 1088, { keyOf 0x10 0x420 (List.replicate 32 5) with uses := 1 }, _, _, _, _, by decide +kernel, rfl,
   (by decide +kernel), rfl, by decide +kernel, rfl, by decide +kernel, by decide +kernel⟩,
   ⟨State.with1 up (cmdRep 0x0306 (par [(0, 4, 4), (4, 4, 0x8000FFFF)]) 1088 4 0), _, kc, cmdRep 0x0306 (par [(0, 4, 4), (4,
   4, 0x8000FFFF)]) 1088 4 0, _, _, _, _, _, _, 0x80000000, by decide +kernel, rfl, rfl, rfl, by decide +kernel, rfl,
   (by decide +kernel), (by decide +kernel), rfl, by decide +kernel, (by decide +kernel)⟩,
   ⟨State.with1 up (cmdRep 0x0306 (par [(0, 4, 4), (4, 4, 6)]) 1088 4 0), _, kc, cmdRep 0x0306 (par [(0, 4, 4), (4, 4, 6)])
   1088 4 0, _, _, _, _, _, _, _, _, (by decide +kernel), rfl, rfl, rfl, by decide +kernel, rfl, by decide +kernel, rfl,
   by decide +kernel, rfl, rfl, (by decide +kernel)⟩,
   ⟨State.with1 up (cmdOf 0x0307 (par []) ([]) 3645), kc, cmdOf 0x0307 (par []) ([]) 3645, (by decide +kernel)⟩⟩

theorem witness_PartitionAndPowerCommands :
    (∃ (s : State) (k : CmdKey) (c : Inflight), s.passes k c nopInfo true = true) ∧
    (∃ (s : State) (k : CmdKey) (c : Inflight) (n : Nat), s.passes k c partCreateInfo (s.life == 4 || s.life == 5) = true ∧
    s.partNumber (c.p8 0) = some n ∧ s.canCommit = true) ∧
    (∃ (s : State) (k : CmdKey) (c : Inflight), s.passes k c partSetInfo (s.life == 4 || s.life == 5) = true ∧ s.canCommit =
    true) ∧
    (∃ (s : State) (k : CmdKey) (c : Inflight), s.passes k c partResetInfo true = true) ∧
    (∃ (s : State) (k : CmdKey) (c : Inflight), s.passes k c partDestroyInfo true = true ∧ s.readHolds (s.regionPages (c.p8
    0)) = false ∧ s.canCommit = true) ∧
    (∃ (s : State) (k : CmdKey) (c : Inflight), s.turn? k c = true ∧ c.opcode = 0x0002 ∧ s.preCheck partCreateInfo (s.life
    == 4 || s.life == 5) c = none ∧ c.readFail = false) ∧
    (∃ (s : State) (k : CmdKey) (c : Inflight) (q : PartSt), s.passes k c powerVoteInfo true = true ∧ s.part? c.key.part =
    some q ∧ maskDiff (c.p8 1) q.cfg.voteMask = 0) ∧
    (∃ (s : State) (k : CmdKey) (c : Inflight), s.passes k c spillRegionInfo true = true ∧ s.flows.any (fun f => isSpill
    f.1) = false ∧ s.canCommit = true) ∧
    (∃ (s : State) (k : CmdKey) (c : Inflight), s.passes k c reservoirInfo true = true ∧ s.canCommit = true) ∧
    (∃ (s : State) (k : CmdKey) (c : Inflight), s.passes k c powerCapInfo true = true ∧ s.canCommit = true) :=
  ⟨⟨State.with1 up (cmdOf 0x0001 (par []) ([]) 0), kc, cmdOf 0x0001 (par []) ([]) 0, by decide +kernel⟩,
   ⟨State.with1 up (cmdOf 0x0002 (par [(0, 1, 0xFF), (2, 1, 3), (3, 1, 31), (4, 2, 64), (8, 4, 0x50000), (12, 2, 8192), (14,
   2, 32768), (16, 3, 0x010101)]) ([]) 0), kc, cmdOf 0x0002 (par [(0, 1, 0xFF), (2, 1, 3), (3, 1, 31), (4, 2, 64), (8, 4,
   0x50000), (12, 2, 8192), (14, 2, 32768), (16, 3, 0x010101)]) ([]) 0, _, by decide +kernel, rfl, by decide +kernel⟩,
   ⟨State.with1 up (cmdOf 0x0003 (par [(0, 1, 0), (1, 1, 5), (4, 2, 64), (16, 3, 0x010101)]) ([]) 0), kc, cmdOf 0x0003 (par
   [(0, 1, 0), (1, 1, 5), (4, 2, 64), (16, 3, 0x010101)]) ([]) 0, (by decide +kernel), by decide +kernel⟩,
   ⟨State.with1 up2 (cmdOf 0x0005 (par [(0, 1, 1)]) ([]) 0), kc, cmdOf 0x0005 (par [(0, 1, 1)]) ([]) 0, (by decide +kernel)⟩,
   ⟨State.with1 up2 (cmdOf 0x0004 (par [(0, 1, 1)]) ([]) 0), kc, cmdOf 0x0004 (par [(0, 1, 1)]) ([]) 0,
   by and_intros <;> decide +kernel⟩,
   ⟨State.with1 up (cmdOf 0x0002 (par [(0, 1, 0xFF), (2, 1, 3), (3, 1, 31), (4, 2, 64), (8, 4, 0x50000), (12, 2, 8192), (14,
   2, 32768), (16, 3, 0x010101)]) ([]) 0), kc, cmdOf 0x0002 (par [(0, 1, 0xFF), (2, 1, 3), (3, 1, 31), (4, 2, 64), (8, 4,
   0x50000), (12, 2, 8192), (14, 2, 32768), (16, 3, 0x010101)]) ([]) 0, by and_intros <;> decide +kernel⟩,
   ⟨State.with1 up (cmdOf 0x0006 (par [(0, 1, 2), (1, 1, 1)]) ([]) 0), kc, cmdOf 0x0006 (par [(0, 1, 2), (1, 1, 1)]) ([]) 0,
   _, (by decide +kernel), rfl, by decide +kernel⟩,
   ⟨State.with1 up (cmdOf 0x0007 (par [(0, 8, 0x1000), (8, 8, 0x1000000)]) ([]) 0), kc, cmdOf 0x0007 (par [(0, 8, 0x1000),
   (8, 8, 0x1000000)]) ([]) 0, by and_intros <;> decide +kernel⟩,
   ⟨State.with1 up (cmdOf 0x0008 (par [(0, 4, 0xFFFFFFFF), (4, 2, 365)]) ([]) 0), kc, cmdOf 0x0008 (par [(0, 4, 0xFFFFFFFF),
   (4, 2, 365)]) ([]) 0, by decide +kernel, by decide +kernel⟩,
   ⟨State.with1 up (cmdOf 0x0009 (par [(0, 2, 9500)]) ([]) 0), kc, cmdOf 0x0009 (par [(0, 2, 9500)]) ([]) 0,
   (by decide +kernel), (by decide +kernel)⟩⟩

theorem witness_DoorbellsAndMailbox :
    (∃ (s : State) (p i : Nat) (q : PartSt) (r : Sq), s.part? p = some q ∧ q.inReset = none ∧ s.windowOpen p = true ∧ q.sq?
    i = some r) ∧
    (∃ (s : State) (p i : Nat) (q : PartSt) (r : Cq), s.part? p = some q ∧ q.inReset = none ∧ s.windowOpen p = true ∧ q.cq?
    i = some r) ∧
    (∃ (s t : State) (p n id lg : Nat) (q : PartSt), s.part? p = some q ∧ s.windowOpen p = true ∧ s.fld (Fd.RC_STAT_BUSY p)
    = 0 ∧ s.fld (Fd.RC_CFG_TYPE p) = 1 ∧ id = s.fld (Fd.RC_CFG_ID p) ∧ lg = s.fld (Fd.RC_CFG_SIZE_LOG2 p) ∧ 6 ≤ lg ∧ lg ≤ 12
    ∧ q.cq? id = none ∧ q.ringCount < q.cfg.ringQuota ∧ s.takeReserve = some (n, t)) ∧
    (∃ (s t : State) (p n id lg cq : Nat) (q : PartSt) (w : Cq), s.part? p = some q ∧ s.windowOpen p = true ∧ s.fld
    (Fd.RC_STAT_BUSY p) = 0 ∧ s.fld (Fd.RC_CFG_TYPE p) = 0 ∧ id = s.fld (Fd.RC_CFG_ID p) ∧ lg = s.fld (Fd.RC_CFG_SIZE_LOG2
    p) ∧ cq = s.fld (Fd.RC_CFG_CQ_ID p) ∧ 6 ≤ lg ∧ lg ≤ 12 ∧ q.sq? id = none ∧ q.cq? cq = some w ∧ q.ringCount <
    q.cfg.ringQuota ∧ s.takeReserve = some (n, t)) ∧
    (∃ (s : State) (p id : Nat) (q : PartSt) (r : Cq), s.part? p = some q ∧ s.windowOpen p = true ∧ s.fld (Fd.RC_STAT_BUSY
    p) = 0 ∧ s.fld (Fd.RC_CFG_TYPE p) = 1 ∧ id = s.fld (Fd.RC_CFG_ID p) ∧ q.cq? id = some r ∧ q.sqs.any (fun w => w.cq ==
    id) = false) ∧
    (∃ (s : State) (p id : Nat) (q : PartSt) (r : Sq), s.part? p = some q ∧ s.windowOpen p = true ∧ s.fld (Fd.RC_STAT_BUSY
    p) = 0 ∧ s.fld (Fd.RC_CFG_TYPE p) = 0 ∧ id = s.fld (Fd.RC_CFG_ID p) ∧ q.sq? id = some r) ∧
    (∃ (s : State) (p i : Nat) (q : PartSt) (r : Sq), s.part? p = some q ∧ q.sq? i = some r ∧ r.draining = true ∧
    s.ringInflight p i = [] ∧ q.heldCompl.all (fun m => !(m.sq == i)) = true) ∧
    (∃ (s : State) (p id : Nat) (q : PartSt) (r : Sq), s.part? p = some q ∧ s.windowOpen p = true ∧ s.fld (Fd.RC_STAT_BUSY
    p) = 0 ∧ s.fld (Fd.RC_CFG_TYPE p) = 0 ∧ id = s.fld (Fd.RC_CFG_ID p) ∧ q.sq? id = some r) ∧
    (∃ (s : State) (p id : Nat) (q : PartSt) (r : Cq), s.part? p = some q ∧ s.windowOpen p = true ∧ s.fld (Fd.RC_STAT_BUSY
    p) = 0 ∧ s.fld (Fd.RC_CFG_TYPE p) = 1 ∧ id = s.fld (Fd.RC_CFG_ID p) ∧ q.cq? id = some r) :=
  ⟨⟨up, 0, 0, _, _, rfl, by decide +kernel, by decide +kernel, rfl⟩,
   ⟨up, 0, 0, _, _, rfl, by decide +kernel, by decide +kernel, rfl⟩,
   ⟨((up.setFld (Fd.RC_CFG_TYPE 0) 1).setFld (Fd.RC_CFG_ID 0) 255).setFld (Fd.RC_CFG_SIZE_LOG2 0) 12, _, 0, reserveBase,
   255, 12, _, rfl, by decide +kernel, (by decide +kernel), by decide +kernel, by decide +kernel, by decide +kernel,
   by decide +kernel, (by decide +kernel), by decide +kernel, by decide +kernel, takeReserve_first (by decide +kernel)⟩,
   ⟨((up.setFld (Fd.RC_CFG_TYPE 0) 0).setFld (Fd.RC_CFG_ID 0) 7).setFld (Fd.RC_CFG_SIZE_LOG2 0) 6, _, 0, reserveBase, 7, 6,
   0, _, _, rfl, (by decide +kernel), by decide +kernel, by decide +kernel, by decide +kernel, by decide +kernel,
   by decide +kernel, by decide +kernel, by decide +kernel, (by decide +kernel), rfl, (by decide +kernel),
   takeReserve_first (by decide +kernel)⟩,
   ⟨(((up.setFld (Fd.RC_CFG_TYPE 0) 1).setFld (Fd.RC_CFG_ID 0) 0).setFld (Fd.RC_CFG_SIZE_LOG2 0) 6).p0With (fun q => { q
   with sqs := [] }), 0, 0, _, _, rfl, by decide +kernel, by decide +kernel, (by decide +kernel), by decide +kernel, rfl,
   by decide +kernel⟩,
   ⟨((up.setFld (Fd.RC_CFG_TYPE 0) 0).setFld (Fd.RC_CFG_ID 0) 0).setFld (Fd.RC_CFG_SIZE_LOG2 0) 6, 0, 0, _, _, rfl,
   (by decide +kernel), (by decide +kernel), by decide +kernel, by decide +kernel, rfl⟩,
   ⟨up.p0With (fun q => { q with sqs := q.sqs.map (fun r => { r with draining := true }) }), 0, 0, _, _, rfl, rfl,
   by and_intros <;> decide +kernel⟩,
   ⟨((up.setFld (Fd.RC_CFG_TYPE 0) 0).setFld (Fd.RC_CFG_ID 0) 0).setFld (Fd.RC_CFG_SIZE_LOG2 0) 6, 0, 0, _, _, rfl,
   by decide +kernel, by decide +kernel, (by decide +kernel), (by decide +kernel), rfl⟩,
   ⟨((up.setFld (Fd.RC_CFG_TYPE 0) 1).setFld (Fd.RC_CFG_ID 0) 0).setFld (Fd.RC_CFG_SIZE_LOG2 0) 6, 0, 0, _, _, rfl,
   (by decide +kernel), by decide +kernel, by decide +kernel, by decide +kernel, rfl⟩⟩

theorem witness_FetchAndEventRings :
    (∃ (s : State) (p i : Nat) (f : Fetch) (q : PartSt) (r : Sq) (c : Inflight), s.part? p = some q ∧ s.nextSq p q = some i
    ∧ s.mayAdmit p q = true ∧ q.sq? i = some r ∧ c =
    { s.withImage (Inflight.ofEntry { part := p, sq := i, idx := r.head } r.fetched s.admitted q f) with solo := s.fld Fd.HW_ROLE_SOLO == 1 }
    ∧ s.inputUsed + min c.inLen 16777216 ≤ 16777216 ∧ s.canReserve c = true ∧ s.classHeld c.runClass = false ∧
    s.inflight.any (fun o => o.opcode == 0x0901) = false) ∧
    (∃ (s : State) (p i : Nat) (q : PartSt) (r : Sq), s.part? p = some q ∧ q.sq? i = some r ∧ r.stopped = false) ∧
    (∃ (s : State) (p i : Nat) (q : PartSt) (r : Cq), s.part? p = some q ∧ q.cq? i = some r ∧ r.stopped = false) ∧
    (∃ (s : State) (p : Nat) (q : PartSt) (r : Evr), s.part? p = some q ∧ q.evr = some r) ∧
    (∃ (s t u : State) (p n : Nat) (data : Word) (q : PartSt), s.part? p = some q ∧ s.pageOpen p (pageOf (Reg.EVR_CFG p)) =
    true ∧ q.evr = none ∧ 6 ≤ bitsOf data.toNat 3 0 ∧ bitsOf data.toNat 3 0 ≤ 12 ∧ q.ringCount < q.cfg.ringQuota ∧ t =
    (s.setFld (Fd.EVR_CFG_VEC p) (bitsOf data.toNat 20 16)).setFld (Fd.EVR_CFG_SIZE_LOG2 p) (bitsOf data.toNat 3 0) ∧
    t.takeReserve = some (n, u)) ∧
    (∃ (s : State) (p : Nat) (q : PartSt), s.part? p = some q ∧ s.pageOpen p (pageOf (Reg.EVR_CFG p)) = true ∧ q.evr = none) ∧
    (∃ (s : State) (p : Nat) (q : PartSt) (r : Evr), s.part? p = some q ∧ s.pageOpen p (pageOf (Reg.EVR_CFG p)) = true ∧
    q.evr = some r) ∧
    (∃ (s : State) (p : Nat) (data : Word) (q : PartSt) (r : Evr), s.part? p = some q ∧ s.pageOpen p (pageOf (Reg.EVR_HEAD
    p)) = true ∧ q.evr = some r ∧ data.toNat % 4096 < 2 ^ r.sizeLog2) :=
  ⟨⟨up.p0With (fun q => { q with sqs := q.sqs.map (fun r => { r with tail := 1 }) }), 0, 0, noEntry, _, _, _, rfl,
   by decide +kernel, by decide +kernel, rfl, rfl, by and_intros <;> decide +kernel⟩,
   ⟨up, 0, 0, _, _, rfl, rfl, (by decide +kernel)⟩,
   ⟨up, 0, 0, _, _, rfl, rfl, by decide +kernel⟩,
   ⟨up.p0With (fun q => { q with evr := some evr0 }), 0, _, _, rfl, rfl⟩,
   ⟨up, _, _, 0, reserveBase, 0x1F000C, _, rfl, by decide +kernel, (by decide +kernel), (by decide +kernel),
   (by decide +kernel), by decide +kernel, rfl, takeReserve_first (by decide +kernel)⟩,
   ⟨up, 0, _, rfl, (by decide +kernel), (by decide +kernel)⟩,
   ⟨up.p0With (fun q => { q with evr := some evr0 }), 0, _, _, rfl, by decide +kernel, rfl⟩,
   ⟨up.p0With (fun q => { q with evr := some evr0 }), 0, 63, _, _, rfl, (by decide +kernel), rfl, (by decide +kernel)⟩⟩

theorem witness_DeviceResetsAndCauses :
    (∃ (s : State) (src : Nat) (data : Word), s.pageOpen src 0 = true ∧ s.secure src = true ∧ bitsOf data.toNat 31 16 =
    0xA5C3 ∧ bit data.toNat 0 = true) ∧
    (∃ (s : State), s.monitorsOn = true) ∧
    (∃ (s t : State) (c : WarmCause), regsWf s.regs = true ∧ exec (.deviceWarmReset c) s = .next t) ∧
    (∃ (s t : State) (c : PorCause), exec (.powerOnReset c) s = .next t) :=
  ⟨⟨up, 0, 0xA5C30001, by and_intros <;> decide +kernel⟩,
   ⟨up, (by decide +kernel)⟩,
   ⟨up, _, .brownout, by decide +kernel, rfl⟩,
   ⟨up, _, .vaonLow, rfl⟩⟩

theorem witness_BringUpEnds :
    (∃ (s : State) (b : BringUp), s.bootDue b = true) ∧
    (∃ (s : State) (b : BringUp), regsWf s.regs = true ∧ s.bootDue b = true ∧ s.fld Fd.BOOT_STAT_STEP = 0 ∧ 11 ≤ b.upTo ∧
    2850 ≤ b.vholdMv ∧ s.tamper.hold = false ∧ s.lc.fused ≠ 7 ∧ b.straps.toNat < 8 ∧ b.shoreImageFail = false ∧ b.udsDiffer
    = false ∧ b.storeLost = false ∧ (b.northFail = none ∨ b.southFail = none) ∧ b.spareFails = [] ∧ (mapGet s.keys.fuses
    0).isSome = true ∧ s.keys.seed.isSome = true ∧ s.lc.progress = none ∧ s.tamper.quench = 0 ∧ s.ee.lostPages.any (fun c =>
    decide (c.1 < 1024)) = false) ∧
    (∃ (s : State) (b : BringUp), regsWf s.regs = true ∧ s.bootDue b = true ∧ s.fld Fd.BOOT_STAT_STEP = 0 ∧ 2 ≤ b.upTo ∧
    b.shoreImageFail = true) ∧
    (∃ (s : State), s.capDone = false ∧ s.supply.brownout = false) ∧
    (∃ (s : State), regsWf s.regs = true ∧ s.capDone = false ∧ s.supply.brownout = false) :=
  ⟨⟨State.reset, goodBringUp, (by decide +kernel)⟩,
   ⟨bootReady, goodBringUp, by and_intros <;> decide +kernel⟩,
   ⟨State.reset, { goodBringUp with shoreImageFail := true }, by and_intros <;> decide +kernel⟩,
   ⟨State.reset, (by decide +kernel), by decide +kernel⟩,
   ⟨State.reset, by and_intros <;> decide +kernel⟩⟩

theorem witness_LinkAndSupplies :
    (∃ (s : State), s.boot ≠ .power ∧ s.boot ≠ .warm) ∧
    (∃ (s : State), s.boot ≠ .power ∧ s.boot ≠ .warm) ∧
    (∃ (s : State), (s.boot = .power ∨ s.boot = .warm)) ∧
    (∃ (s : State) (p : Nat), s.retry = false ∧ s.reachable p = true ∧ (s.part? p).isSome = true ∧ p ≠ 0) ∧
    (∃ (s : State), s.retry = false ∧ s.reachable 0 = true ∧ (s.part? 0).isSome = true) ∧
    (∃ (s : State) (p : Nat) (c : PartCause) (q : PartSt), s.part? p = some q ∧ q.inReset = some c ∧ c ≠ .partDestroy) ∧
    (∃ (s : State) (p : Nat) (c : PartCause) (q : PartSt), s.part? p = some q ∧ q.inReset = none ∧ s.retry = false ∧ c ≠
    .partDestroy) ∧
    (∃ (s : State), s.power.perstLow = true) ∧
    (∃ (s : State), s.retry = true) ∧
    (∃ (s : State) (p : Nat), s.retry = false ∧ s.reachable p = true) ∧
    (∃ (s : State) (p : Nat), s.retry = false ∧ s.reachable p = true) ∧
    (∃ (s : State) (p : Nat), s.retry = false ∧ s.reachable p = true) ∧
    (∃ (s : State) (p : Nat), s.retry = false ∧ s.reachable p = true) ∧
    (∃ (s : State) (p : Nat), s.retry = false ∧ s.reachable p = true) ∧
    (∃ (s : State) (p : Nat), s.retry = false ∧ s.reachable p = true) ∧
    (∃ (s : State) (p : Nat), s.retry = false ∧ s.reachable p = true) ∧
    (∃ (s : State) (p : Nat), s.retry = false ∧ s.reachable p = true) ∧
    (∃ (s : State) (p : Nat), s.retry = false ∧ s.reachable p = true) ∧
    (∃ (s : State), s.retry = false ∧ s.reachable 0 = true) ∧
    (∃ (s : State), s.retry = false ∧ s.reachable 0 = true) ∧
    (∃ (s : State), s.retry = false ∧ s.reachable 0 = true) ∧
    (∃ (s : State), s.retry = false ∧ s.reachable 0 = true) ∧
    (∃ (s : State), s.supply.serdesLow = false) ∧
    (∃ (s : State), s.supply.serdesLow = false) ∧
    (∃ (s : State), s.supply.lostPcie = false) ∧
    (∃ (s : State), s.supply.lostPcie = false) ∧
    (∃ (s : State), s.supply.lostLane = false) ∧
    (∃ (s : State), s.supply.lostXtal = false) ∧
    (∃ (s : State), s.supply.lostRef38 = false) ∧
    (∃ (s : State) (r : RefClk), s.supply.lost r = true) :=
  ⟨⟨up, by decide +kernel, (by decide +kernel)⟩,
   ⟨up2, by decide +kernel, (by decide +kernel)⟩,
   ⟨State.reset, (by decide +kernel)⟩,
   ⟨up2, 1, by and_intros <;> decide +kernel⟩,
   ⟨up, by and_intros <;> decide +kernel⟩,
   ⟨up.p0With (fun q => { q with inReset := some .flr }), 0, .flr, _, rfl, (by decide +kernel), (by decide +kernel)⟩,
   ⟨up, 0, .partReset, _, rfl, by and_intros <;> decide +kernel⟩,
   ⟨{ up.setFld Fd.PW_STAT_STATE 3 with power := PowerSt.init 0 }, (by decide +kernel)⟩,
   ⟨State.reset, by decide +kernel⟩,
   ⟨up, 0, by decide +kernel, (by decide +kernel)⟩,
   ⟨up2, 1, by decide +kernel, by decide +kernel⟩,
   ⟨up, 0, (by decide +kernel), (by decide +kernel)⟩,
   ⟨up2, 0, (by decide +kernel), by decide +kernel⟩,
   ⟨up, 0, (by decide +kernel), by decide +kernel⟩,
   ⟨up, 0, by decide +kernel, by decide +kernel⟩,
   ⟨up2, 1, (by decide +kernel), by decide +kernel⟩,
   ⟨up, 0, by decide +kernel, by decide +kernel⟩,
   ⟨up2, 1, (by decide +kernel), by decide +kernel⟩,
   ⟨up2, (by decide +kernel), by decide +kernel⟩,
   ⟨up2, (by decide +kernel), by decide +kernel⟩,
   ⟨up2, (by decide +kernel), (by decide +kernel)⟩,
   ⟨up, by decide +kernel, by decide +kernel⟩,
   ⟨up, (by decide +kernel)⟩,
   ⟨up, by decide +kernel⟩,
   ⟨up, (by decide +kernel)⟩,
   ⟨up, by decide +kernel⟩,
   ⟨up, by decide +kernel⟩,
   ⟨up, (by decide +kernel)⟩,
   ⟨up, (by decide +kernel)⟩,
   ⟨{ up with supply := { up.supply with lostXtal := true } }, .xtal, (by decide +kernel)⟩⟩

theorem witness_PageRows :
    (∃ (s : State) (src p : Nat) (data : Word), s.pageOpen src (winBase p) = true ∧ bit data.toNat 2 = true) ∧
    (∃ (s : State) (src pg : Nat) (data : Word), s.pageOpen src pg = true ∧ bit data.toNat 2 = true ∧ pg < 0x1000000) ∧
    (∃ (s : State) (src pg : Nat) (data : Word), s.pageOpen src pg = true ∧ bit data.toNat 2 = true ∧ 0x1000000 ≤ pg ∧ pg %
    0x1000000 ≠ 0) ∧
    (∃ (s : State) (src pg : Nat), s.pageOpen src pg = true) ∧
    (∃ (s : State) (src pg : Nat) (data : Word), s.pageOpen src pg = true ∧ (0x1000000 ≤ pg → pg % 0x1000000 ≠ 0 ∨
    data.toNat % 2 = 0)) ∧
    (∃ (s : State) (src p : Nat) (data : Word), s.pageOpen src (winBase p) = true ∧ data.toNat % 2 = 1) ∧
    (∃ (s : State) (src pg : Nat) (data : Word), s.pageOpen src pg = true ∧ bit data.toNat 0 = true ∧ s.locked pg = false ∧
    (pg = pgEe → tableBad (s.stagedTable.map (fun (w : Word) => { Region.none with word := w })) = false)) ∧
    (∃ (s : State) (src pg : Nat), s.pageOpen src pg = true) ∧
    (∃ (s : State) (src pg : Nat), s.pageOpen src pg = true) ∧
    (∃ (s : State) (src pg : Nat) (data : Word), s.pageOpen src pg = true ∧ bit data.toNat 31 = true) ∧
    (∃ (s : State) (src pg : Nat), s.pageOpen src pg = false) ∧
    (∃ (s : State) (src : Nat) (data : Word), s.pageOpen src 0x0E0000 = true ∧ bit data.toNat 0 = true) ∧
    (∃ (s : State) (src : Nat) (data : Word), s.pageOpen src 0x110000 = true ∧ bit data.toNat 0 = true) ∧
    (∃ (s : State) (src : Nat) (data : Word), s.pageOpen src 0x070000 = true ∧ bit data.toNat 0 = true) ∧
    (∃ (s : State) (src : Nat) (data : Word), s.pageOpen src 0x0D0000 = true ∧ bit data.toNat 0 = true) :=
  ⟨⟨up2, 1, 1, 4, by decide +kernel, (by decide +kernel)⟩,
   ⟨up, 0, 0x0E0000, 4, by and_intros <;> decide +kernel⟩,
   ⟨up, 0, 0x1001000, 4, by and_intros <;> decide +kernel⟩,
   ⟨up, 0, 0x040000, by decide +kernel⟩,
   ⟨up, 0, 0x1001000, 1, by decide +kernel, by decide +kernel⟩,
   ⟨up2, 1, 1, 1, (by decide +kernel), by decide +kernel⟩,
   ⟨up, 0, 0x060000, 1, by and_intros <;> decide +kernel⟩,
   ⟨up, 0, 0x0C0000, by decide +kernel⟩,
   ⟨up, 0, 0x0F0000, by decide +kernel⟩,
   ⟨up, 0, 0, 0x80000000, by decide +kernel, (by decide +kernel)⟩,
   ⟨State.reset, 0, 0x040000, (by decide +kernel)⟩,
   ⟨up, 0, 1, (by decide +kernel), by decide +kernel⟩,
   ⟨up, 0, 1, (by decide +kernel), (by decide +kernel)⟩,
   ⟨up, 0, 1, (by decide +kernel), by decide +kernel⟩,
   ⟨up, 0, 1, (by decide +kernel), by decide +kernel⟩⟩

theorem witness_RegisterAccess :
    (∃ (s : State) (src off : Nat) (w : Win), (s.retry = true ∨ srcReaches src (Win.base w + off % 0x1000000 / 4 * 4) =
    false ∨ s.reachable src = false)) ∧
    (∃ (s : State) (src off a : Nat) (w : Win), s.reachable src = true ∧ s.retry = false ∧ s.boot = .up ∧ a = Win.base w +
    off % 0x1000000 / 4 * 4 ∧ srcReaches src a = true ∧ (s.part? src).isSome = true ∧ s.pageExists (pageOf a) = false) ∧
    (∃ (s : State) (src off a : Nat) (w : Win) (be : BitVec 4), s.reachable src = true ∧ s.retry = false ∧ s.boot = .up ∧ a
    = Win.base w + off % 0x1000000 / 4 * 4 ∧ srcReaches src a = true ∧ (s.part? src).isSome = true ∧ s.pageExists (pageOf a)
    = true ∧ be ≠ 0xF#4) ∧
    (∃ (s : State) (src off a : Nat) (w : Win) (data : Word) (d : RegDesc), s.reachable src = true ∧ s.retry = false ∧
    s.boot = .up ∧ a = Win.base w + off % 0x1000000 / 4 * 4 ∧ srcReaches src a = true ∧ (s.part? src).isSome = true ∧
    s.pageExists (pageOf a) = true ∧ addrPart a = none ∧ s.writeRow src a data = none ∧ regDesc a = some d ∧ d.fields.all
    (fun f => f.acc = .ro) = true) ∧
    (∃ (s : State) (src off : Nat) (data : Word) (d : RegDesc) (f : FieldDesc), regsWf s.regs = true ∧ s.reachable src =
    true ∧ s.retry = false ∧ s.boot = .up ∧ off < 0x1000000 ∧ off % 4 = 0 ∧ src = 0 ∧ (s.part? src).isSome = true ∧
    s.pageExists (pageOf off) = true ∧ s.writeRow src off data = none ∧ off % 0x1000 ≠ 0x24 ∧ [0x040000, 0x060000, 0x061000,
    0x070000, 0x080000].contains (pageOf off) = true ∧ regDesc off = some d ∧ f ∈ d.fields ∧ d.fields.all (fun x => decide
    (x.lo ≤ x.hi) && decide (x.hi < 32)) = true ∧ (d.fields.Pairwise (fun x y => x.hi < y.lo ∨ y.hi < x.lo)) ∧ d.fields.any
    (fun x => x.acc != .ro) = true) :=
  ⟨⟨State.reset, 0, 0, .dev, (by decide +kernel)⟩,
   ⟨up, 0, 0x500000, _, .dev, by decide +kernel, by decide +kernel, (by decide +kernel), rfl,
   by and_intros <;> decide +kernel⟩,
   ⟨up, 0, 0x040000, _, .dev, 0x1#4, (by decide +kernel), (by decide +kernel), by decide +kernel, rfl,
   by and_intros <;> decide +kernel⟩,
   ⟨up, 0, 0x040000, _, .dev, 1, _, by decide +kernel, (by decide +kernel), (by decide +kernel), rfl, by decide +kernel,
   by decide +kernel, by decide +kernel, (by decide +kernel), by decide +kernel, rfl, by decide +kernel⟩,
   ⟨up, 0, 0x040100, 0, _, ⟨31, 31, .rwl, 0⟩, by decide +kernel, by decide +kernel, (by decide +kernel), by decide +kernel,
   (by decide +kernel), (by decide +kernel), by decide +kernel, (by decide +kernel), by decide +kernel, by decide +kernel,
   by decide +kernel, (by decide +kernel), rfl, by and_intros <;> decide +kernel⟩⟩

theorem witness_KalmelComputations :
    (∃ (s : State) (e : EngRef) (t : Task), s.canRun e t 1 = true) ∧
    (∃ (s : State) (e : EngRef) (t : Task), s.canRun e t 1 = true) ∧
    (∃ (s : State) (e : EngRef) (t : Task), s.canRun e t 1 = true) ∧
    (∃ (s : State) (e : EngRef) (t : Task), s.canRun e t 2 = true) ∧
    (∃ (s : State) (e : EngRef) (t : Task), s.canRun e t 4 = true) :=
  ⟨⟨run (taskOf .p true), e0, taskOf .p true, (by decide +kernel)⟩,
   ⟨run (taskOf .p true), e0, taskOf .p true, (by decide +kernel)⟩,
   ⟨run (taskOf .p true), e0, taskOf .p true, by decide +kernel⟩,
   ⟨run (taskOf .p true), e0, taskOf .p true, by decide +kernel⟩,
   ⟨run (taskOf .p true), e0, taskOf .p true, by decide +kernel⟩⟩

theorem witness_KalmelIntegerArithmetic :
    (∃ (s : State) (e : EngRef) (t : Task), t.fmode.getLsbD 0 = false ∧ s.canRun e t 1 = true) ∧
    (∃ (s : State) (e : EngRef) (t : Task), t.fmode.getLsbD 0 = false ∧ s.canRun e t 1 = true) ∧
    (∃ (s : State) (e : EngRef) (t : Task), t.fmode.getLsbD 0 = false ∧ s.canRun e t 2 = true) :=
  ⟨⟨run (taskOf .a true), e0, taskOf .a true, by decide +kernel, (by decide +kernel)⟩,
   ⟨run (taskOf .a true), e0, taskOf .a true, by decide +kernel, (by decide +kernel)⟩,
   ⟨run (taskOf .a true), e0, taskOf .a true, (by decide +kernel), (by decide +kernel)⟩⟩

theorem witness_KalmelShifts :
    (∃ (s : State) (e : EngRef) (t : Task) (m : ShiftBy) (n : Nat), s.canRun e t 1 = true ∧ n =
    (match m with | .reg r => (t.reg r).toNat | .imm a => if a % 32 = 0 then 32 else a % 32)) ∧
    (∃ (s : State) (e : EngRef) (t : Task) (m : ShiftBy) (n : Nat), s.canRun e t 1 = true ∧ n =
    (match m with | .reg r => (t.reg r).toNat | .imm a => if a % 32 = 0 then 32 else a % 32) ∧ t.fmode.getLsbD 0 = false) ∧
    (∃ (s : State) (e : EngRef) (t : Task) (m : ShiftBy) (n : Nat), s.canRun e t 1 = true ∧ n =
    (match m with | .reg r => (t.reg r).toNat | .imm a => if a % 32 = 0 then 32 else a % 32) ∧ t.fmode.getLsbD 0 = false) ∧
    (∃ (s : State) (e : EngRef) (t : Task) (m : ShiftBy) (n a : Nat), s.canRun e t 1 = true ∧ n =
    (match m with | .reg r => (t.reg r).toNat | .imm a => if a % 32 = 0 then 32 else a % 32) ∧ m = .imm a) :=
  ⟨⟨run (taskK .p true (List.replicate 16 35)), e0, (taskK .p true (List.replicate 16 35)), .reg 0, 35, by decide +kernel,
   by decide +kernel⟩,
   ⟨run (taskOf .p true), e0, taskOf .p true, .imm 0, 32, by and_intros <;> decide +kernel⟩,
   ⟨run (taskOf .p true), e0, taskOf .p true, .imm 31, 31, by and_intros <;> decide +kernel⟩,
   ⟨run (taskOf .p true), e0, taskOf .p true, .imm 1, 1, 1, by and_intros <;> decide +kernel⟩⟩

theorem witness_KalmelFractionMode :
    (∃ (s : State) (e : EngRef) (t : Task), t.fmode.getLsbD 0 = true ∧ s.canRun e t 1 = true) ∧
    (∃ (s : State) (e : EngRef) (t : Task), t.fmode.getLsbD 0 = true ∧ s.canRun e t 2 = true) ∧
    (∃ (s : State) (e : EngRef) (t : Task) (m : ShiftBy) (n : Nat), t.fmode.getLsbD 0 = true ∧ s.canRun e t 1 = true ∧ n =
    shiftAmount m t) :=
  ⟨⟨run { taskOf .p true with fmode := 1 }, e0, { taskOf .p true with fmode := 1 }, by decide +kernel, (by decide +kernel)⟩,
   ⟨run { taskOf .p true with fmode := 1 }, e0, { taskOf .p true with fmode := 1 }, by decide +kernel, by decide +kernel⟩,
   ⟨run { taskOf .p true with fmode := 1 }, e0, { taskOf .p true with fmode := 1 }, .imm 0, 32,
   by and_intros <;> decide +kernel⟩⟩

theorem witness_KalmelSpecialRegistersAndUserOpcodes :
    (∃ (s : State) (e : EngRef) (t : Task), s.canRun e t 1 = true ∧ t.fmode.getLsbD 0 = false) ∧
    (∃ (s s1 s2 s3 s4 : State) (e : EngRef) (t : Task) (a b d : Nat), s.canRun e t 4 = true ∧ (t.steps.getD 4 ≥ 4) ∧
    t.fmode.getLsbD 0 = false ∧ exec (.kMul e a b) s = .next s1 ∧ exec (.kNopInstruction e) s1 = .next s2 ∧ exec
    (.kNopInstruction e) s2 = .next s3 ∧ exec (.kPmv e d) s3 = .next s4) ∧
    (∃ (s s1 s2 s3 s4 : State) (e : EngRef) (t : Task) (a b d : Nat) (s5 s6 : _), s.canRun e t 4 = true ∧ (t.steps.getD 4 ≥
    4) ∧ t.fmode.getLsbD 0 = false ∧ exec (.kMul e a b) s = .next s1 ∧ exec (.kNopInstruction e) s1 = .next s2 ∧ exec
    (.kNopInstruction e) s2 = .next s3 ∧ exec (.kPmv e d) s3 = .next s4 ∧ exec (.kPmv e d) s1 = .next s5 ∧ exec (.kPmv e d)
    s2 = .next s6) ∧
    (∃ (s : State) (e : EngRef) (t : Task), s.canRun e t 1 = true) ∧
    (∃ (s : State) (e : EngRef) (t : Task), s.canRun e t 1 = true) ∧
    (∃ (s : State) (e : EngRef) (t : Task) (n : Nat) (l : List Nat), s.canRun e t 1 = true ∧ s.kalmel.decode = some l ∧
    (l.drop (8 * (n % 16))).headD 0x1800 ≠ 0x1800) ∧
    (∃ (s : State) (e : EngRef) (t : Task), s.canRun e t 1 = true ∧ s.kalmel.decode = none) :=
  ⟨⟨run (taskOf .p true), e0, taskOf .p true, (by decide +kernel), by decide +kernel⟩,
   ⟨run (taskOf .p true), _, _, _, _, e0, taskOf .p true, 0, 0, 0, (by decide +kernel), (by decide +kernel),
   (by decide +kernel), rfl, rfl, rfl, rfl⟩,
   ⟨run (taskOf .p true), _, _, _, _, e0, taskOf .p true, 0, 0, 0, _, _, by decide +kernel, by decide +kernel,
   by decide +kernel, rfl, rfl, rfl, rfl, rfl, rfl⟩,
   ⟨run (taskOf .p true), e0, taskOf .p true, by decide +kernel⟩,
   ⟨run (taskOf .p true), e0, taskOf .p true, (by decide +kernel)⟩,
   ⟨(run (taskOf .p true)).withDecode (List.replicate 128 0), e0, taskOf .p true, 15, List.replicate 128 0,
   by and_intros <;> decide +kernel⟩,
   ⟨run (taskOf .p true), e0, taskOf .p true, by decide +kernel, by decide +kernel⟩⟩

theorem witness_KalmelMemory :
    (∃ (s : State) (e : EngRef) (t : Task) (b off a w : Nat), s.canRun e t 2 = true ∧ a = (t.reg b).toNat + off ∧ w = (t.reg
    b).toNat + 4 * off) ∧
    (∃ (s : State) (e : EngRef) (t : Task) (b off a w : Nat), s.canRun e t 2 = true ∧ a = (t.reg b).toNat + off ∧ w = (t.reg
    b).toNat + 4 * off ∧ dmWrite t.start.priv a = false) ∧
    (∃ (s : State) (e : EngRef) (t : Task) (b off a w : Nat), s.canRun e t 2 = true ∧ a = (t.reg b).toNat + off ∧ w = (t.reg
    b).toNat + 4 * off ∧ ¬ (w % 4 = 0 ∧ w + 4 ≤ t.start.poolLim)) ∧
    (∃ (s : State) (e : EngRef) (t : Task) (b off a w : Nat), s.canRun e t 2 = true ∧ a = (t.reg b).toNat + off ∧ w = (t.reg
    b).toNat + 4 * off ∧ dmWrite t.start.priv a = true) ∧
    (∃ (s : State) (e : EngRef) (t : Task) (b off a w : Nat), s.canRun e t 2 = true ∧ a = (t.reg b).toNat + off ∧ w = (t.reg
    b).toNat + 4 * off ∧ w % 4 = 0 ∧ w + 4 ≤ t.start.poolLim) ∧
    (∃ (s : State) (e : EngRef) (t : Task) (a : Nat), s.canRun e t 1 = true ∧ a = (t.reg 14).toNat ∧ 0x801 ≤ a ∧ a ≤ 0xC00) ∧
    (∃ (s : State) (e : EngRef) (t : Task) (a : Nat), s.canRun e t 1 = true ∧ a = (t.reg 14).toNat ∧ a ≤ 0xBFF) ∧
    (∃ (s : State) (e : EngRef) (t : Task) (a : Nat), s.canRun e t 1 = true ∧ a = (t.reg 14).toNat ∧ a < 0x801) ∧
    (∃ (s : State) (e : EngRef) (t : Task) (a : Nat), s.canRun e t 1 = true ∧ a = (t.reg 14).toNat ∧ 0xC00 ≤ a) :=
  ⟨⟨run (taskOf .p true), e0, taskOf .p true, 0, 0xC3F, 0xC3F, 12540, by and_intros <;> decide +kernel⟩,
   ⟨run (taskOf .p true), e0, taskOf .p true, 0, 0xC00, 0xC00, 12288, by and_intros <;> decide +kernel⟩,
   ⟨run (taskOf .p true), e0, taskOf .p true, 0, 1024, 1024, 4096, by and_intros <;> decide +kernel⟩,
   ⟨run (taskOf .p true), e0, taskOf .p true, 0, 0xBFF, 0xBFF, 12284, by and_intros <;> decide +kernel⟩,
   ⟨run (taskOf .p true), e0, taskOf .p true, 0, 1023, 1023, 4092, by and_intros <;> decide +kernel⟩,
   ⟨run ((taskOf .p true).setReg 14 0x801), e0, (taskOf .p true).setReg 14 0x801, 0x801, by and_intros <;> decide +kernel⟩,
   ⟨run ((taskOf .p true).setReg 14 0xBFF), e0, (taskOf .p true).setReg 14 0xBFF, 0xBFF, by and_intros <;> decide +kernel⟩,
   ⟨run ((taskOf .p true).setReg 14 0x800), e0, (taskOf .p true).setReg 14 0x800, 0x800, by and_intros <;> decide +kernel⟩,
   ⟨run ((taskOf .p true).setReg 14 0xC00), e0, (taskOf .p true).setReg 14 0xC00, 0xC00, by and_intros <;> decide +kernel⟩⟩

theorem witness_KalmelCallAndReturn :
    ∃ (s : State) (e : EngRef) (t : Task) (m kt n : Nat), s.canRun e t 1 = true ∧ m < 256 ∧ n = ((List.range 8).filter
    m.testBit).length ∧ t.k.length = 16 ∧ mapRising 0 (s.eng e).dm = true ∧ canExec t.start.priv (t.reg kt).toNat = true ∧
    canExec t.start.priv (t.pc + 1) = true ∧ 0x800 + n + 1 ≤ (t.reg 14).toNat ∧ (t.reg 14).toNat ≤ 0xC00 :=
  ⟨run (taskK .p true (List.replicate 14 0x17FF ++ [0x809, 0])), e0, taskK .p true (List.replicate 14 0x17FF ++ [0x809, 0]),
  255, 0, 8, by and_intros <;> decide +kernel⟩

theorem witness_KalmelBranchesAndFrameFaults :
    (∃ (s : State) (e : EngRef) (t : Task) (a : Nat), s.canRun e t 2 = true ∧ a < 0x2000) ∧
    (∃ (s : State) (e : EngRef) (t : Task) (c disp : Nat), s.canRun e t 1 = true ∧ disp < 128 ∧ t.pc < 8192 ∧ condHolds c
    t.fl = false) ∧
    (∃ (s : State) (e : EngRef) (t : Task) (c disp : Nat), s.canRun e t 1 = true ∧ disp < 128 ∧ t.pc < 8192 ∧ condHolds c
    t.fl = true) ∧
    (∃ (s : State) (e : EngRef) (t : Task), s.canRun e t 1 = true) ∧
    (∃ (s : State) (e : EngRef) (t : Task) (kt : Nat), s.canRun e t 1 = true ∧ canExec t.start.priv (t.reg kt).toNat =
    false) ∧
    (∃ (s : State) (e : EngRef) (t : Task) (kt : Nat), s.canRun e t 1 = true ∧ canExec t.start.priv (t.reg kt).toNat = true
    ∧ (t.reg 14).toNat < 0x801) ∧
    (∃ (s : State) (e : EngRef) (t : Task), s.canRun e t 1 = true ∧ 0xC00 ≤ (t.reg 14).toNat) ∧
    (∃ (s : State) (e : EngRef) (t : Task), s.canRun e t 1 = true ∧ (t.reg 14).toNat < 0xC00 ∧ ((mapRead 0 (s.eng e).dm
    (t.reg 14).toNat).toNat / 2 ^ 13) % 2 ^ 15 ≠ 0) :=
  ⟨⟨run (taskOf .p true), e0, taskOf .p true, 0x1FFF, (by decide +kernel), by decide +kernel⟩,
   ⟨run (taskOf .p true), e0, taskOf .p true, 0, 127, by and_intros <;> decide +kernel⟩,
   ⟨run (taskOf .p true), e0, taskOf .p true, 1, 64, by and_intros <;> decide +kernel⟩,
   ⟨run (taskOf .p true), e0, taskOf .p true, (by decide +kernel)⟩,
   ⟨run (taskOf .p true), e0, taskOf .p true, 0, (by decide +kernel), by decide +kernel⟩,
   ⟨run (taskK .p true (List.replicate 14 0x1000 ++ [0x800, 0])), e0, taskK .p true (List.replicate 14 0x1000 ++ [0x800,
   0]), 0, by and_intros <;> decide +kernel⟩,
   ⟨run (taskOf .p true), e0, taskOf .p true, (by decide +kernel), (by decide +kernel)⟩,
   ⟨(run ((taskOf .p true).setReg 14 0xBFF)).updEng e0 (fun x => { x with dm := [(0xBFF, 0x2000)] }), e0, (taskOf .p
   true).setReg 14 0xBFF, by and_intros <;> decide +kernel⟩⟩

theorem witness_KalmelProfileGroups :
    (∃ (s : State) (e : EngRef) (t : Task) (p w : Nat), s.canRun e t 2 = true ∧ t.start.profile = false ∧ p < 64 ∧ w < 64) ∧
    (∃ (s : State) (e : EngRef) (t : Task) (p w : Nat), s.canRun e t 2 = true ∧ t.start.profile = false ∧ p < 64 ∧ w < 64 ∧
    1 ≤ w ∧ p + w ≤ 36) ∧
    (∃ (s : State) (e : EngRef) (t : Task) (p w : Nat), s.canRun e t 2 = true ∧ t.start.profile = false ∧ p < 64 ∧ w < 64 ∧
    (w = 0 ∨ 36 < p + w)) ∧
    (∃ (s : State) (e : EngRef) (t : Task) (p w sel zm : Nat), s.canRun e t 2 = true ∧ t.start.profile = false ∧ p < 64 ∧ w
    < 64 ∧ sel < 256 ∧ zm < 16) ∧
    (∃ (s : State) (e : EngRef) (t : Task), s.canRun e t 2 = true ∧ t.start.profile = true) ∧
    (∃ (s : State) (e : EngRef) (t : Task) (r : Nat), s.canRun e t 2 = true ∧ t.start.profile = true ∧ (t.start.priv = .f ∨
    sevSlot (t.reg r) = e.slot % 32)) ∧
    (∃ (s : State) (e : EngRef) (t : Task) (r : Nat), s.canRun e t 2 = true ∧ t.start.profile = true ∧ t.start.priv ≠ .f ∧
    sevSlot (t.reg r) ≠ e.slot % 32) :=
  ⟨⟨run (taskOf .p false), e0, taskOf .p false, 63, 63, by and_intros <;> decide +kernel⟩,
   ⟨run (taskOf .p false), e0, taskOf .p false, 35, 1, by and_intros <;> decide +kernel⟩,
   ⟨run (taskOf .p false), e0, taskOf .p false, 1, 36, by and_intros <;> decide +kernel⟩,
   ⟨run (taskOf .p false), e0, taskOf .p false, 0, 0, 255, 15, by and_intros <;> decide +kernel⟩,
   ⟨run (taskOf .p true), e0, taskOf .p true, by decide +kernel, (by decide +kernel)⟩,
   ⟨run (taskOf .p true), e0, taskOf .p true, 0, by and_intros <;> decide +kernel⟩,
   ⟨run (taskK .p true (List.replicate 16 0xFF)), e0, taskK .p true (List.replicate 16 0xFF), 0,
   by and_intros <;> decide +kernel⟩⟩

theorem witness_KalmelTasksAndFaults :
    (∃ (s : State) (e : EngRef) (b : TaskStart), s.slotFree e = true ∧ (b.paired = true → s.slotFree (s.copySlot e) = true)
    ∧ b.priv ≠ .a ∧ (s.claimed e = true → b.profile = true) ∧ s.gatesOpen = true ∧ s.pageAdmits 0x080000 = true) ∧
    (∃ (s : State) (e : EngRef) (b : TaskStart), engIdx e < s.kalmel.engines.length ∧ b.args.length ≤ 4) ∧
    (∃ (s : State) (e : EngRef) (t : Task), s.canRun e t 1 = true ∧ t.start.priv ≠ .a) ∧
    (∃ (s : State) (e : EngRef) (t : Task), s.canRun e t 1 = true ∧ t.start.priv = .a ∧ endStatus t.status = none) ∧
    (∃ (s u : State) (e : EngRef) (t : Task) (k : CmdKey) (c : Inflight) (st : Status), s.canRun e t 1 = true ∧ u = s.arrive
    ⟨.engine, e.half, s.physOf e.half e.slot⟩ ∧ t.start.priv = .a ∧ endStatus t.status = some st ∧ t.start.cmd = some k ∧
    u.cmd? k = some c ∧ st ≠ .ok) ∧
    (∃ (s u : State) (e : EngRef) (t : Task) (k : CmdKey) (c : Inflight) (st : Status), s.canRun e t 1 = true ∧ u = s.arrive
    ⟨.engine, e.half, s.physOf e.half e.slot⟩ ∧ t.start.priv = .a ∧ endStatus t.status = some st ∧ t.start.cmd = some k ∧
    u.cmd? k = some c ∧ st = .ok ∧ (t.start.paired = true → u.disagrees c.key = false ∧ u.canCommit = true)) ∧
    (∃ (s u : State) (e : EngRef) (t : Task) (k : CmdKey) (c : Inflight) (st : Status), s.canRun e t 1 = true ∧ u = s.arrive
    ⟨.engine, e.half, s.physOf e.half e.slot⟩ ∧ t.start.priv = .a ∧ endStatus t.status = some st ∧ t.start.cmd = some k ∧
    u.cmd? k = some c ∧ st = .ok ∧ t.start.paired = true ∧ u.disagrees c.key = false ∧ u.canCommit = false) ∧
    (∃ (s : State) (e : EngRef) (t : Task), s.ready e = some t ∧ t.steps = some 0) ∧
    (∃ (s : State) (e : EngRef) (t : Task), s.ready e = some t ∧ t.steps ≠ some 0 ∧ canExec t.start.priv t.pc = false) ∧
    (∃ (s : State) (e : EngRef) (t : Task), s.ready e = some t ∧ t.steps ≠ some 0 ∧ t.pc = 0x1FFF) ∧
    (∃ (s : State) (e : EngRef) (t : Task) (k : CmdKey) (c : Inflight), t.start.priv = .a ∧ t.start.cmd = some k ∧
    (State.updEng ((s.bump Fd.EN_CNT_FAULT_COUNT).raise 0x080000 4) e (fun x => { x with task := none })).cmd? k = some c) ∧
    (∃ (s : State) (e : EngRef), s.ready e = none) :=
  ⟨⟨up, e0, startOf .p true, by and_intros <;> decide +kernel⟩,
   ⟨up, ⟨.south, 31⟩, startOf .a true, (by decide +kernel), (by decide +kernel)⟩,
   ⟨run (taskOf .p true), e0, taskOf .p true, (by decide +kernel), by decide +kernel⟩,
   ⟨(run (taskK .a true (List.replicate 14 0x999 ++ [0xC00, 0]))).with1 (cmdOf 0x0702 (par []) [] 0), e0, taskK .a true
   (List.replicate 14 0x999 ++ [0xC00, 0]), by and_intros <;> decide +kernel⟩,
   ⟨State.with1 (run (taskK .a true (List.replicate 14 0x101 ++ [0xC00, 0]))) (cmdOf 0x0702 (par []) [] 0), _, e0, taskK .a
   true (List.replicate 14 0x101 ++ [0xC00, 0]), kc, cmdOf 0x0702 (par []) [] 0, .badParam, (by decide +kernel), rfl,
   by and_intros <;> decide +kernel⟩,
   ⟨State.with1 (run (taskOf .a true)) (cmdOf 0x0702 (par []) [] 0), _, e0, taskOf .a true, kc, cmdOf 0x0702 (par []) [] 0,
   .ok, by decide +kernel, rfl, by and_intros <;> decide +kernel⟩,
   ⟨State.with1 { run taskPair with halves := { up.halves with stopped := true } } (cmdOf 0x0702 (par []) [] 0), _, e0,
   taskPair, kc, cmdOf 0x0702 (par []) [] 0, .ok, (by decide +kernel), rfl, by and_intros <;> decide +kernel⟩,
   ⟨run { taskOf .p true with steps := some 0 }, e0, { taskOf .p true with steps := some 0 }, by decide +kernel,
   by decide +kernel⟩,
   ⟨run { taskOf .p true with pc := 0x17FF + 1 }, e0, { taskOf .p true with pc := 0x17FF + 1 },
   by and_intros <;> decide +kernel⟩,
   ⟨run { taskOf .a true with pc := 0x1FFF }, e0, { taskOf .a true with pc := 0x1FFF }, by and_intros <;> decide +kernel⟩,
   ⟨State.with1 (run (taskOf .a true)) (cmdOf 0x0702 (par []) [] 0), e0, taskOf .a true, kc, cmdOf 0x0702 (par []) [] 0,
   by and_intros <;> decide +kernel⟩,
   ⟨up, e0, (by decide +kernel)⟩⟩

theorem witness_KalmelServicesAndEvents :
    (∃ (s : State) (e : EngRef) (t : Task), s.canRun e t 1 = true ∧ (t.reg 1).toNat % 4 = 0 ∧ (t.reg 1).toNat + 96 ≤
    t.start.poolLim) ∧
    (∃ (s : State) (e : EngRef) (t : Task), s.canRun e t 1 = true ∧ (t.reg 1).toNat % 4 = 0 ∧ (t.reg 1).toNat + 96 ≤
    t.start.poolLim ∧ t.start.priv = .f ∧ t.svca.length < 4) ∧
    (∃ (s : State) (e : EngRef) (t : Task), s.canRun e t 1 = true ∧ t.start.priv ≠ .f) ∧
    (∃ (s u : State) (e : EngRef) (t : Task) (req : Bytes) (off : Nat) (r : Reply) (g : List Staged), s.task? e = some t ∧
    t.wait = .svc req off ∧ s.service e t req = .done u r g) ∧
    (∃ (s u : State) (e : EngRef) (t : Task) (i : Nat) (req : Bytes) (off : Nat) (r : Reply) (g : List Staged), s.task? e =
    some t ∧ t.svca[i]? = some (req, off) ∧ t.wait = .none ∧ s.service e t req = .done u r g) ∧
    (∃ (s u : State) (e : EngRef) (t : Task) (i : Nat) (req q : Bytes) (off o : Nat) (r : Reply) (g : List Staged), s.task?
    e = some t ∧ t.svca[i]? = some (req, off) ∧ t.wait = .svca q o ∧ s.service e t req = .done u r g) ∧
    (∃ (s : State) (e : EngRef) (t : Task) (n : Nat), s.task? e = some t ∧ (n < 3 ∨ (8 ≤ n ∧ n < 16))) ∧
    (∃ (s : State) (e : EngRef) (t : Task) (d : EWord), s.task? e = some t ∧ t.wait = .waitc d ∧ reached s.time36 d = true) ∧
    (∃ (s : State), s.uwb.twinClaimed = true) :=
  ⟨⟨run (taskK .f true (List.replicate 14 4000 ++ [0xC00, 0])), e0, (taskK .f true (List.replicate 14 4000 ++ [0xC00, 0])),
   by and_intros <;> decide +kernel⟩,
   ⟨run (taskK .f true (List.replicate 14 4000 ++ [0xC00, 0])), e0, (taskK .f true (List.replicate 14 4000 ++ [0xC00, 0])),
   by and_intros <;> decide +kernel⟩,
   ⟨run (taskOf .p true), e0, taskOf .p true, (by decide +kernel), by decide +kernel⟩,
   ⟨run tSvc, _, e0, tSvc, _, _, _, _, (by decide +kernel), rfl, rfl⟩,
   ⟨run tSvca, _, e0, tSvca, 0, _, _, _, _, by decide +kernel, rfl, (by decide +kernel), rfl⟩,
   ⟨run tFifth, _, e0, tFifth, 0, _, _, _, _, _, _, (by decide +kernel), rfl, rfl, rfl⟩,
   ⟨run (taskOf .p true), e0, taskOf .p true, 15, by decide +kernel, (by decide +kernel)⟩,
   ⟨run { taskOf .p true with wait := .waitc 0 }, e0, { taskOf .p true with wait := .waitc 0 }, 0,
   by and_intros <;> decide +kernel⟩,
   ⟨{ up with uwb := { up.uwb with twinClaimed := true } }, by decide +kernel⟩⟩

theorem witness_AppletCommands :
    (∃ (s : State) (k : CmdKey) (c : Inflight), c.p16 0 < 32 ∧ s.passes k c (appletLoadInfo false) s.lifeKeys = true ∧
    s.canCommit = true ∧ s.applet? (c.p16 0) = none) ∧
    (∃ (s : State) (k : CmdKey) (c : Inflight) (a : Applet), c.p16 0 < 32 ∧ s.passes k c (appletLoadInfo false) s.lifeKeys =
    true ∧ s.canCommit = true ∧ s.applet? (c.p16 0) = some a) ∧
    (∃ (s : State) (k : CmdKey) (c : Inflight) (n : Nat), n < 3 ∧ c.p16 0 = 0xFFF0 + n ∧ s.passes k c (appletLoadInfo true)
    true = true ∧ s.canCommit = true) ∧
    (∃ (s : State) (k : CmdKey) (c : Inflight) (a : Applet), s.passes k c appletUnloadInfo true = true ∧ s.applet? (c.p16 0)
    = some a ∧ a.owner = c.key.part ∧ s.appletBusy (c.p16 0) c = false ∧ s.canCommit = true) ∧
    (∃ (s : State) (k : CmdKey) (e : EngRef) (base : Nat) (c : Inflight) (a : Applet) (i : Image), s.passes k c (invokeInfo
    i.state) true = true ∧ s.invocation c.key = none ∧ s.applet? (c.p16 0) = some a ∧ c.image = some i ∧ c.p16 2 <
    i.entries.length ∧ (a.owner = c.key.part ∨ i.share = true) ∧ (s.appletLost (c.p16 0) = false ∨ s.holdsApplet e (c.p16 0)
    i = true) ∧ s.placeOk e (c.p16 0) i (if i.state then s.fld Fd.HW_ROLE_LEAD else s.cmdHome c) = true ∧ s.windowFree
    e.half base i.poolBytes = true ∧ (i.state = true → s.slotFree (s.copySlot e) = true)) :=
  ⟨⟨State.with1 up (cmdOf 0x0701 (par []) (img) 0), kc, cmdOf 0x0701 (par []) (img) 0, (by decide +kernel),
   passes_with1 rfl (by decide +kernel), (by decide +kernel), (by decide +kernel)⟩,
   ⟨State.with1 up.withApplet (cmdOf 0x0701 (par []) (img) 0), kc, cmdOf 0x0701 (par []) (img) 0, _, by decide +kernel,
   passes_with1 rfl (by decide +kernel), by decide +kernel, rfl⟩,
   ⟨State.with1 up (cmdOf 0x0701 (par [(0, 2, 0xFFF0)]) ((img.set 4 1)) 0), kc, cmdOf 0x0701 (par [(0, 2, 0xFFF0)])
   ((img.set 4 1)) 0, 0, by decide +kernel, (by decide +kernel), passes_with1 rfl (by decide +kernel), (by decide +kernel)⟩,
   ⟨State.with1 up.withApplet (cmdOf 0x0703 (par []) ([]) 0), kc, cmdOf 0x0703 (par []) ([]) 0, _, by decide +kernel, rfl,
   by and_intros <;> decide +kernel⟩,
   ⟨State.with1 up.withApplet cmdImage, kc, ⟨.south, 31⟩, 98304, cmdImage, _, _, passes_with1 rfl (by decide +kernel),
   by decide +kernel, rfl, rfl, by and_intros <;> decide +kernel⟩⟩

theorem witness_AccessCommands :
    (∃ (s : State) (k : CmdKey) (c : Inflight), s.passes k c accessPolicyInfo true = true ∧ s.canCommit = true) ∧
    (∃ (s : State) (k : CmdKey) (c : Inflight) (r : FobRec), s.passes k c fobRemoveInfo true = true ∧ s.fob? (c.p8 0) = some
    r ∧ s.canCommit = true) ∧
    (∃ (s : State) (k : CmdKey) (c : Inflight), s.passes k c releaseInfo true = true ∧ bit (c.p16 0) 4 = true ∧ bit (c.p16
    0) 8 = false) ∧
    (∃ (s : State) (k : CmdKey) (c : Inflight), s.passes k c releaseInfo true = true ∧ bit (c.p16 0) 4 = true ∧ bit (c.p16
    0) 8 = true) ∧
    (∃ (s : State) (k : CmdKey) (c : Inflight) (t : Nat), s.passes k c releaseInfo true = true ∧ t = c.p16 0 % 8 ∧ bit
    (c.p16 0) 4 = false ∧ tgtEnabled (polTarget s.policy t) = true ∧ tgtHostRelease (polTarget s.policy t) = true ∧ bit
    (c.p16 0) 8 = false) ∧
    (∃ (s : State) (k : CmdKey) (c : Inflight) (t : Nat), s.passes k c releaseInfo true = true ∧ t = c.p16 0 % 8 ∧ bit
    (c.p16 0) 4 = false ∧ (tgtEnabled (polTarget s.policy t) && tgtHostRelease (polTarget s.policy t)) = false) ∧
    (∃ (s : State) (k : CmdKey) (c : Inflight) (q : PartSt) (x : KeySlot), s.passes k c immoInfo true = true ∧ s.part?
    c.key.part = some q ∧ s.useSlot c.key.part (leAt c.input 0 4) fitsToken = .ok x ∧ leAt c.input 16 4 = 0xFFFFFFFF ∧
    s.canCommit = true) ∧
    (∃ (s t : State) (k : CmdKey) (c : Inflight) (w : KeySlot), s.passes k c fobPairInfo true = true ∧ s.acc.pairing = none
    ∧ s.acc.session = none ∧ s.fob? (c.p8 0) = none ∧ leAt c.input 4 1 ≤ s.fld Fd.UHF_SLOT_SLOTS ∧ s.useSlot c.key.part
    (leAt c.input 8 4) (fun k => isAes k.ktype && bit k.attr atUnwrap) = .ok w ∧ s.takeUse (leAt c.input 8 4) false = .ok t) ∧
    (∃ (p : Pairing), 0 < p.triesLeft) ∧
    (∃ (s : State) (k : CmdKey) (c : Inflight) (p : Pairing), s.passes k c fobPairInfo true = true ∧ s.acc.pairing = some p
    ∧ p.key = c.key ∧ p.started = true ∧ s.canCommit = true) ∧
    (∃ (s : State) (k : CmdKey) (c : Inflight) (p : Pairing), s.passes k c fobPairInfo true = true ∧ s.acc.pairing = some p
    ∧ p.key = c.key ∧ p.started = false ∧ s.pairIdle = true) :=
  ⟨⟨State.with1 up (cmdOf 0x0803 (par []) (pol) 0), kc, cmdOf 0x0803 (par []) (pol) 0, by decide +kernel, by decide +kernel⟩,
   ⟨State.with1 (up.setAcc (fun a => { a with fobs := [fob0] })) (cmdOf 0x0802 (par []) ([]) 0), kc, cmdOf 0x0802 (par [])
   ([]) 0, _, by decide +kernel, rfl, (by decide +kernel)⟩,
   ⟨State.with1 up (cmdOf 0x0804 (par [(0, 2, 0x10)]) ([]) 0), kc, cmdOf 0x0804 (par [(0, 2, 0x10)]) ([]) 0,
   by and_intros <;> decide +kernel⟩,
   ⟨State.with1 up (cmdOf 0x0804 (par [(0, 2, 0x110)]) ([]) 0), kc, cmdOf 0x0804 (par [(0, 2, 0x110)]) ([]) 0,
   by and_intros <;> decide +kernel⟩,
   ⟨State.with1 upPol (cmdOf 0x0804 (par [(0, 2, 7)]) ([]) 0), kc, cmdOf 0x0804 (par [(0, 2, 7)]) ([]) 0, _,
   by decide +kernel, rfl, by and_intros <;> decide +kernel⟩,
   ⟨State.with1 up (cmdOf 0x0804 (par [(0, 2, 0)]) ([]) 0), kc, cmdOf 0x0804 (par [(0, 2, 0)]) ([]) 0, _,
   (by decide +kernel), rfl, (by decide +kernel), (by decide +kernel)⟩,
   ⟨State.with1 up (cmdOf 0x0805 (par []) (immoCfg) 0), kc, cmdOf 0x0805 (par []) (immoCfg) 0, _, _, (by decide +kernel),
   rfl, rfl, by decide +kernel, (by decide +kernel)⟩,
   ⟨State.with1 up (cmdOf 0x0801 (par []) (List.replicate 40 0) 0), _, kc, cmdOf 0x0801 (par []) (List.replicate 40 0) 0, _,
   by decide +kernel, by decide +kernel, by decide +kernel, (by decide +kernel), (by decide +kernel), rfl, rfl⟩,
   ⟨pair0 false, (by decide +kernel)⟩,
   ⟨State.with1 (up.setAcc (fun a => { a with pairing := some (pair0 true) })) (cmdOf 0x0801 (par []) (List.replicate 40 0)
   0), kc, cmdOf 0x0801 (par []) (List.replicate 40 0) 0, _, (by decide +kernel), rfl, by and_intros <;> decide +kernel⟩,
   ⟨State.with1 (up.setAcc (fun a => { a with pairing := some (pair0 false) })) (cmdOf 0x0801 (par []) (List.replicate 40 0)
   0), kc, cmdOf 0x0801 (par []) (List.replicate 40 0) 0, _, by decide +kernel, rfl, by and_intros <;> decide +kernel⟩⟩

theorem witness_TokensAndCan :
    (∃ (s u : State) (t : Token) (cfg : Bytes) (x : KeySlot) (n : Nat), s.gatesOpen = true ∧ s.dueToken = some t ∧
    s.immo.config = some cfg ∧ n = leAt cfg (if t.door then 16 else 0) 4 ∧ s.slot? n = some x ∧ fitsToken x = true ∧
    s.bindOk n x = true ∧ s.immo.counter < s.immo.markJ ∧ s.takeUse n false = .ok u) ∧
    (∃ (s u : State) (t : Token) (cfg : Bytes) (x : KeySlot) (n : Nat), s.gatesOpen = true ∧ s.dueToken = some t ∧
    s.immo.config = some cfg ∧ n = leAt cfg (if t.door then 16 else 0) 4 ∧ s.slot? n = some x ∧ fitsToken x = true ∧
    s.bindOk n x = true ∧ s.immo.markJ ≤ s.immo.counter ∧ s.canCommit = true ∧ State.takeUse
    { s with immo := { s.immo with markJ := s.immo.markJ + 1024 } } n false = .ok u) ∧
    (∃ (s : State) (t : Token) (cfg : Bytes) (x : KeySlot) (n : Nat), s.gatesOpen = true ∧ s.dueToken = some t ∧
    s.immo.config = some cfg ∧ n = leAt cfg (if t.door then 16 else 0) 4 ∧ s.slot? n = some x ∧ fitsToken x = true ∧
    s.bindOk n x = true ∧ s.immo.markJ ≤ s.immo.counter ∧ s.canCommit = false ∧ s.txns.contains (.own .tokenMark) = false) ∧
    (∃ (s u : State) (t : Token) (cfg : Bytes) (x : KeySlot) (n : Nat), s.gatesOpen = true ∧ s.dueToken = some t ∧
    s.immo.config = some cfg ∧ n = leAt cfg (if t.door then 16 else 0) 4 ∧ s.slot? n = some x ∧ fitsToken x = true ∧
    s.bindOk n x = true ∧ s.immo.counter < s.immo.markJ ∧ s.takeUse n false = .exhausted u) ∧
    (∃ (s : State), s.gatesOpen = false) ∧
    (∃ (s : State) (n : Nat) (f : CanFrame) (rest : List CanFrame), (s.canOf n).waiting = f :: rest ∧ s.fld
    (Fd.CAN_STAT_STATE n) ≠ 0 ∧ s.fld (Fd.CAN_STAT_STATE n) ≠ 3 ∧ (s.canOf n).readyAt ≤ s.deviceTime) ∧
    (∃ (s : State) (n : Nat), n < 2 ∧ s.fld (Fd.CAN_STAT_STATE n) ≠ 0 ∧ s.fld (Fd.CAN_STAT_STATE n) ≠ 3) ∧
    (∃ (s : State) (n : Nat), n < 2 ∧ s.fld (Fd.CAN_STAT_STATE n) = 3 ∧ s.fld (Fd.CAN_CFG_AUTO_BOR n) = 1) ∧
    (∃ (s : State) (n : Nat), (s.fld (Fd.CAN_STAT_STATE n) = 0 ∨ s.fld (Fd.CAN_STAT_STATE n) = 3)) ∧
    (∃ (s : State) (n : Nat), (1 < n ∨ s.fld (Fd.CAN_STAT_STATE n) = 0 ∨ s.fld (Fd.CAN_STAT_STATE n) = 3)) :=
  ⟨⟨upTok 0 1, _, _, _, _, 5, by decide +kernel, rfl, rfl, (by decide +kernel), rfl, (by decide +kernel), by decide +kernel,
   by decide +kernel, rfl⟩,
   ⟨upTok 0 0, _, _, _, _, 5, by decide +kernel, rfl, rfl, (by decide +kernel), rfl, (by decide +kernel),
   (by decide +kernel), (by decide +kernel), by decide +kernel, rfl⟩,
   ⟨{ upTok 0 0 with halves := { up.halves with stopped := true } }, _, _, _, 5, (by decide +kernel), rfl, rfl,
   (by decide +kernel), rfl, by and_intros <;> decide +kernel⟩,
   ⟨(upTok 0 1).putSlot 5 { keyOf 1 0x800 [] with limit := 0 }, _, _, _, _, 5, by decide +kernel, rfl, rfl,
   (by decide +kernel), rfl, by decide +kernel, by decide +kernel, by decide +kernel, rfl⟩,
   ⟨State.reset, (by decide +kernel)⟩,
   ⟨(up.setFld (Fd.CAN_STAT_STATE 0) 1).updCan 0 (fun c => { c with waiting := [⟨1, true, []⟩] }), 0, _, _, rfl,
   by and_intros <;> decide +kernel⟩,
   ⟨up.setFld (Fd.CAN_STAT_STATE 1) 1, 1, by and_intros <;> decide +kernel⟩,
   ⟨(up.setFld (Fd.CAN_STAT_STATE 1) 3).setFld (Fd.CAN_CFG_AUTO_BOR 1) 1, 1, by and_intros <;> decide +kernel⟩,
   ⟨up, 2, by decide +kernel⟩,
   ⟨up, 2, by decide +kernel⟩⟩

theorem witness_FlowCommands :
    (∃ (s : State) (k : CmdKey) (c : Inflight) (q : PartSt) (h : Nat) (f : Flow), s.passes k c flowCreateInfo true = true ∧
    f = Flow.ofDesc c.input c.key.part (c.p8 0) ∧ s.flowKeyBad f = none ∧ s.flows.any (fun o => o.2.clashes f) = false ∧
    s.part? c.key.part = some q ∧ s.flowsOf c.key.part < q.cfg.flowQuota ∧ s.placeFlow = some h ∧ s.canCommit = true) ∧
    (∃ (s : State) (k : CmdKey) (c : Inflight) (f : Flow), s.passes k c flowCreateInfo true = true ∧ f = Flow.ofDesc c.input
    c.key.part (c.p8 0) ∧ s.flowKeyBad f = none ∧ s.flows.any (fun o => o.2.clashes f) = true) ∧
    (∃ (s : State) (k : CmdKey) (c : Inflight) (q : PartSt) (f : Flow), s.passes k c flowCreateInfo true = true ∧ f =
    Flow.ofDesc c.input c.key.part (c.p8 0) ∧ s.flowKeyBad f = none ∧ s.flows.any (fun o => o.2.clashes f) = false ∧ s.part?
    c.key.part = some q ∧ q.cfg.flowQuota ≤ s.flowsOf c.key.part) ∧
    (∃ (s : State) (k : CmdKey) (c : Inflight), s.passes k c flowDestroyInfo true = true ∧ (s.ownFlow c.key.part (c.p32
    0)).isSome = true ∧ s.midFrame (c.p32 0) = true) ∧
    (∃ (s : State) (k : CmdKey) (c : Inflight) (f n : Flow) (fv : Bool), s.passes k c flowModifyInfo true = true ∧ s.ownFlow
    c.key.part (c.p32 0) = some f ∧ n = Flow.ofDesc c.input c.key.part f.ctx.cls ∧ fv = bit (leAt c.input 6 1) 0 ∧ descOk
    c.input f.ctx.cls true = true ∧ n.ctx.kind = f.ctx.kind ∧ n.ctx.carry = f.ctx.carry ∧ n.key = f.key ∧ (fv = true →
    f.ctx.fv0 ≤ n.ctx.fv0) ∧ s.flowKeyBad n = none ∧ s.flows.any (fun o => o.1 != c.p32 0 && o.2.clashes n) = false ∧
    s.midFrame (c.p32 0) = false ∧ s.canCommit = true) ∧
    (∃ (s : State) (k : CmdKey) (c : Inflight) (f : Flow), s.passes k c flowDestroyInfo true = true ∧ s.ownFlow c.key.part
    (c.p32 0) = some f ∧ s.midFrame (c.p32 0) = false ∧ s.canCommit = true) ∧
    (∃ (s : State) (k : CmdKey) (c : Inflight) (f : Flow) (x : KeySlot) (i : Nat), s.passes k c sakInstallInfo true = true ∧
    s.ownFlow c.key.part (c.p32 0) = some f ∧ s.midFrame (c.p32 0) = false ∧ f.ctx.isSecoc = false ∧ (f.ctx.xpn = true ∨
    c.p64 16 ≤ 0xFFFFFFFF) ∧ c.p32 4 ≠ 0xFFFFFFFF ∧ s.ownSlot c.key.part (c.p32 4) = some x ∧ f.ctx.suiteFits x.ktype = true
    ∧ bit x.attr atTraffic = true ∧ (List.range 2).find? (fun i => f.ctx.saValid i && f.ctx.an i == c.p8 8 % 4) = none ∧
    (List.range 2).find? (fun i => !f.ctx.saValid i) = some i) ∧
    (∃ (s : State) (k : CmdKey) (c : Inflight) (f : Flow), s.passes k c flowStatsInfo true = true ∧ s.ownFlow c.key.part
    (c.p32 0) = some f) :=
  ⟨⟨State.with1 up (cmdOf 0x0601 (par [(0, 1, 1)]) (desc) 0), kc, cmdOf 0x0601 (par [(0, 1, 1)]) (desc) 0, _, 0, _,
   (by decide +kernel), rfl, by decide +kernel, (by decide +kernel), rfl, by and_intros <;> decide +kernel⟩,
   ⟨State.with1 upFlow (cmdOf 0x0601 (par [(0, 1, 1)]) (desc) 0), kc, cmdOf 0x0601 (par [(0, 1, 1)]) (desc) 0, _,
   by decide +kernel, rfl, by decide +kernel, by decide +kernel⟩,
   ⟨State.with1 (up.p0With (fun q => { q with cfg := { q.cfg with flowQuota := 0 } })) (cmdOf 0x0601 (par [(0, 1, 1)])
   (desc) 0), kc, cmdOf 0x0601 (par [(0, 1, 1)]) (desc) 0, _, _, (by decide +kernel), rfl, (by decide +kernel),
   by decide +kernel, rfl, by decide +kernel⟩,
   ⟨State.with1 upMid (cmdOf 0x0603 (par []) ([]) 0), kc, cmdOf 0x0603 (par []) ([]) 0, by and_intros <;> decide +kernel⟩,
   ⟨State.with1 upFlow (cmdOf 0x0602 (par []) (desc) 0), kc, cmdOf 0x0602 (par []) (desc) 0, _, _, _, (by decide +kernel),
   rfl, rfl, rfl, by and_intros <;> decide +kernel⟩,
   ⟨State.with1 upFlow (cmdOf 0x0603 (par []) ([]) 0), kc, cmdOf 0x0603 (par []) ([]) 0, _, by decide +kernel, rfl,
   (by decide +kernel), by decide +kernel⟩,
   ⟨State.with1 upFlow (cmdOf 0x0604 (par [(4, 4, 5), (16, 8, 0xFFFFFFFF)]) ([]) 0), kc, cmdOf 0x0604 (par [(4, 4, 5), (16,
   8, 0xFFFFFFFF)]) ([]) 0, _, _, _, (by decide +kernel), rfl, (by decide +kernel), by decide +kernel, by decide +kernel,
   by decide +kernel, rfl, by decide +kernel, by decide +kernel, by decide +kernel, rfl⟩,
   ⟨State.with1 upFlow (cmdOf 0x0605 (par []) ([]) 64), kc, cmdOf 0x0605 (par []) ([]) 64, _, (by decide +kernel), rfl⟩⟩

theorem witness_LifeAndDebugCommands :
    (∃ (s : State) (k : CmdKey) (c : Inflight) (st : Status), s.cmd? k = some c ∧ c.opcode = 0x0901 ∧ s.inflight.length ≤ 1
    ∧ s.halves.lost = false ∧ s.gatesOpen = true ∧ (s.part? k.part).any (fun q => q.inReset.isSome) = false ∧ s.lc.progress
    = none ∧ s.advanceRefused c = some st) ∧
    (∃ (s : State) (k : CmdKey) (c : Inflight), s.cmd? k = some c ∧ c.opcode = 0x0901 ∧ s.inflight.length ≤ 1 ∧
    s.halves.lost = false ∧ s.gatesOpen = true ∧ (s.part? k.part).any (fun q => q.inReset.isSome) = false ∧ s.lc.progress =
    none ∧ s.advanceRefused c = none ∧ c.p8 0 = 4 ∧ allZero (c.input.take 48) = false ∧ s.canCommit = true) ∧
    (∃ (s : State) (k : CmdKey) (c : Inflight), s.passes k c debugChallengeInfo true = true) ∧
    (∃ (s : State) (k : CmdKey) (c : Inflight), s.passes k c debugGrantInfo true = true ∧ 2 < s.life ∧ s.keys.grant = none ∧
    bit (grantScope c.input) 15 = false ∧ maskDiff (grantScope c.input) (scopesOf s.life) = 0) ∧
    (∃ (s : State) (n : Bytes) (t e : Nat), s.lc.challenge = some (n, t, e)) :=
  ⟨⟨State.with1 up (cmdOf 0x0901 (par []) ([]) 0), kc, cmdOf 0x0901 (par []) ([]) 0, .badParam,
   by and_intros <;> decide +kernel⟩,
   ⟨State.with1 ({ up with life := 3 }) (cmdOf 0x0901 (par [(0, 1, 4)]) (List.replicate 96 1) 0), kc, cmdOf 0x0901 (par [(0,
   1, 4)]) (List.replicate 96 1) 0, by and_intros <;> decide +kernel⟩,
   ⟨State.with1 up (cmdOf 0x0902 (par []) ([]) 144), kc, cmdOf 0x0902 (par []) ([]) 144, (by decide +kernel)⟩,
   ⟨State.with1 up (cmdOf 0x0903 (par []) (grantBytes) 0), kc, cmdOf 0x0903 (par []) (grantBytes) 0,
   passes_with1 rfl (by decide +kernel), by and_intros <;> decide +kernel⟩,
   ⟨{ up with lc := { LifeSt.init with challenge := some ([], 0, 0) } }, [], 0, 0, (by decide +kernel)⟩⟩

theorem witness_StoreAndCardCommands :
    (∃ (s t : State) (k : CmdKey) (c : Inflight) (a : Nat), s.passes k c s.storeReadInfo true = true ∧ s.storeCheck c
    (·.rdPw) = .ok t ∧ a = (s.region c.regionNo).addr (c.p32 4) ∧ s.cardHolds (pagesOf a c.outLen) = false ∧ (pagesOf a
    c.outLen).any (fun p => !(s.lostWords p).isEmpty) = false) ∧
    (∃ (s t : State) (k : CmdKey) (c : Inflight) (a : Nat), s.passes k c s.storeWriteInfo true = true ∧ s.storeCheck c
    (·.wrPw) = .ok t ∧ c.ctl = false ∧ a = (s.region c.regionNo).addr (c.p32 4) ∧ s.cardHolds (pagesOf a c.inLen) = false ∧
    s.readHolds (pagesOf a c.inLen) = false ∧ s.canCommit = true) ∧
    (∃ (s t : State) (k : CmdKey) (c : Inflight), s.passes k c s.storeWriteInfo true = true ∧ s.storeCheck c (·.wrPw) = .ok
    t ∧ c.ctl = true ∧ s.canCommit = true) ∧
    (∃ (s t : State) (k : CmdKey) (c : Inflight) (ps : List Nat), s.passes k c s.storeSanitizeInfo true = true ∧
    s.storeCheck c (·.wrPw) = .ok t ∧ ps = pagesOf ((s.region c.regionNo).addr (c.p32 4)) (c.p32 8) ∧ s.cardHolds ps = false
    ∧ s.readHolds ps = false ∧ s.canCommit = true) ∧
    (∃ (s : State) (k : CmdKey) (c : Inflight) (r : Region), s.passes k c s.storeReadInfo true = true ∧ r = s.region
    c.regionNo ∧ r.en = true ∧ (r.owner = c.key.part ∨ r.shared = true) ∧ s.deviceTime ≥ r.refuseUntil) ∧
    (∃ (s : State) (k : CmdKey) (c : Inflight), s.passes k c s.cardInfo true = true ∧ s.card.busy = none ∧ (s.fld
    Fd.CD_STAT_PRESENT = 0 ∨ s.fld Fd.CD_STAT_STATE = 4)) ∧
    (∃ (s : State) (k : CmdKey) (c : Inflight), s.passes k c s.cardInfo true = true ∧ s.card.busy = none ∧ s.fld
    Fd.CD_STAT_PRESENT = 1 ∧ s.fld Fd.CD_STAT_STATE = 3 ∧ s.card.gated = false ∧ s.pageAdmits pgCard = true ∧ c.cardStore =
    false ∧ (c.cardBegin = true → s.card.txn = none)) ∧
    (∃ (s : State) (k : CmdKey) (c : Inflight) (r : Bytes), s.passes k c s.cardInfo true = true ∧ s.card.busy = some c.key ∧
    s.card.resp = some r ∧ s.card.txn = none) ∧
    (∃ (s : State) (k : CmdKey) (c : Inflight), s.passes k c halfTestInfo true = true) :=
  ⟨⟨State.with1 upEe (cmdOf 0x0501 (par []) ([]) 1), _, kc, cmdOf 0x0501 (par []) ([]) 1, _, by decide +kernel, rfl, rfl,
   by decide +kernel, (by decide +kernel)⟩,
   ⟨State.with1 upEe (cmdOf 0x0502 (par [(4, 4, 255)]) ([1]) 0), _, kc, cmdOf 0x0502 (par [(4, 4, 255)]) ([1]) 0, _,
   (by decide +kernel), rfl, by decide +kernel, rfl, by and_intros <;> decide +kernel⟩,
   ⟨State.with1 upEe (cmdOf 0x0502 (par [(0, 1, 0x80)]) (List.replicate 32 1) 0), _, kc, cmdOf 0x0502 (par [(0, 1, 0x80)])
   (List.replicate 32 1) 0, by decide +kernel, rfl, by decide +kernel, by decide +kernel⟩,
   ⟨State.with1 upEe (cmdOf 0x0503 (par [(8, 4, 256)]) ([]) 0), _, kc, cmdOf 0x0503 (par [(8, 4, 256)]) ([]) 0, _,
   by decide +kernel, rfl, rfl, by and_intros <;> decide +kernel⟩,
   ⟨State.with1 upEe (cmdOf 0x0501 (par [(16, 8, 1)]) ([]) 1), kc, cmdOf 0x0501 (par [(16, 8, 1)]) ([]) 1, _,
   by decide +kernel, rfl, by and_intros <;> decide +kernel⟩,
   ⟨State.with1 up (cmdOf 0x0904 (par []) ([0, 0, 0, 0]) 258), kc, cmdOf 0x0904 (par []) ([0, 0, 0, 0]) 258,
   by and_intros <;> decide +kernel⟩,
   ⟨State.with1 upCard (cmdOf 0x0904 (par [(0, 4, 1)]) ([0, 0, 0, 0]) 258), kc, cmdOf 0x0904 (par [(0, 4, 1)]) ([0, 0, 0,
   0]) 258, by and_intros <;> decide +kernel⟩,
   ⟨State.with1 (upCard.updCard (fun c => { c with busy := some kc, resp := some [0x90, 0] })) (cmdOf 0x0904 (par []) ([0,
   0, 0, 0]) 258), kc, cmdOf 0x0904 (par []) ([0, 0, 0, 0]) 258, _, (by decide +kernel), (by decide +kernel), rfl,
   (by decide +kernel)⟩,
   ⟨State.with1 up (cmdOf 0x0A01 (par [(0, 1, 1)]) ([]) 0), kc, cmdOf 0x0A01 (par [(0, 1, 1)]) ([]) 0, (by decide +kernel)⟩⟩

theorem witness_Lanes :
    (∃ (s : State) (n : Nat), s.laneUp n = true ∧ (s.lane n).arriving = none ∧ bit s.gated (n / 4) = false ∧ s.pageAdmits
    0x030000 = true) ∧
    (∃ (s : State) (n : Nat) (data : Bytes) (cut sh : Bool), (s.lane n).arriving = some sh ∧ (cut = true ∨ data.length < 64
    ∨ 9216 < data.length)) ∧
    (∃ (s : State) (n : Nat) (data : Bytes) (cut sh : Bool), (s.lane n).arriving = some sh ∧ cut = false ∧ 64 ≤ data.length
    ∧ data.length ≤ 9216) ∧
    (∃ (s : State) (n : Nat), s.fld (Fd.LANE_STAT_XOFF n) = 1 ∧ (s.lane n).pauseSent + 3300000 ≤ s.deviceTime ∧ s.fld
    (Fd.LANE_CFG_XON_4K n) * 4096 < s.occupancy n) ∧
    (∃ (s : State) (n : Nat), s.laneUp n = true ∧ s.fld (Fd.LANE_CFG_PAUSE_RX n) = 1) ∧
    (∃ (s : State) (n t : Nat), (s.lane n).pausedUntil = some t ∧ t ≤ s.deviceTime) ∧
    (∃ (s : State) (n : Nat), s.laneFree n = true ∧ s.fld (Fd.LANE_STAT_UP n) = 0) ∧
    (∃ (s : State) (n : Nat), n < 8 ∧ s.fld (Fd.LANE_STAT_UP n) = 1) ∧
    (∃ (s : State) (id : Nat) (f : Frame), s.frame? id = some f ∧ f.msgs.all (·.done) = true ∧ s.inOrder f = true ∧
    s.gatesOpen = true ∧ s.fld (Fd.LANE_STAT_PAUSED (s.outLane f)) = 0 ∧ (f.unknown = true ∨ f.epoch = s.halves.epoch)) ∧
    (∃ (s : State) (id : Nat) (f : Frame), s.frame? id = some f ∧ f.msgs.all (·.done) = true ∧ s.inOrder f = true ∧
    s.gatesOpen = true ∧ s.fld (Fd.LANE_STAT_PAUSED (s.outLane f)) = 0 ∧ f.unknown = false ∧ f.epoch ≠ s.halves.epoch) ∧
    (∃ (s : State) (id : Nat) (f : Frame), s.frame? id = some f ∧ f.msgs.all (·.done) = true ∧ s.inOrder f = true ∧
    s.gatesOpen = true ∧ s.fld (Fd.LANE_STAT_PAUSED (s.outLane f)) = 1) :=
  ⟨⟨upLane, 0, by and_intros <;> decide +kernel⟩,
   ⟨upLane.setLane 0 { upLane.lane 0 with arriving := some true }, 0, List.replicate 63 0, false, _, rfl, by decide +kernel⟩,
   ⟨upLane.setLane 0 { upLane.lane 0 with arriving := some true }, 0, List.replicate 64 0, false, _, rfl,
   by and_intros <;> decide +kernel⟩,
   ⟨((State.setFld { up with frames := [frameOf 4097 []] } (Fd.LANE_CFG_XON_4K 0) 1)).setFld (Fd.LANE_STAT_XOFF 0) 1, 0,
   by and_intros <;> decide +kernel⟩,
   ⟨upLane.setFld (Fd.LANE_CFG_PAUSE_RX 0) 1, 0, (by decide +kernel), by decide +kernel⟩,
   ⟨upLane.setLane 0 { upLane.lane 0 with pausedUntil := some 1000000000 }, 0, _, rfl, (by decide +kernel)⟩,
   ⟨up.setFld (Fd.LANE_CFG_EN 0) 1, 0, (by decide +kernel), (by decide +kernel)⟩,
   ⟨upLane, 0, (by decide +kernel), (by decide +kernel)⟩,
   ⟨{ upLane with frames := [frameOf 0 []] }, 0, _, rfl, by and_intros <;> decide +kernel⟩,
   ⟨{ upLane with frames := [frameOf 0 []], halves := { up.halves with epoch := 7 } }, 0, _, rfl,
   by and_intros <;> decide +kernel⟩,
   ⟨{ (upLane.setFld (Fd.LANE_STAT_PAUSED 0) 1) with frames := [frameOf 0 []] }, 0, _, rfl,
   by and_intros <;> decide +kernel⟩⟩

theorem witness_SecureOnboardCommunication :
    (∃ (s : State) (id i h n cand v pad cut : Nat) (f : Frame) (m : Msg) (fl : Flow), s.turn id = some (f, i, m, h, fl) ∧
    s.mayProcess id 1 fl = true ∧ fl.spill = none ∧ fl.ctx.lost = false ∧ m.waitSince = none ∧ n = fl.ctx.trailerLen ∧ cut =
    (if fl.ctx.carry = 2 && fl.ctx.authLen ≠ 0 then fl.ctx.authLen else m.body.length - n) ∧ pad = 8 * n - fl.ctx.fvBits -
    fl.ctx.macBits ∧ v = beNat (slice m.body cut n) ∧ cand = candidate fl.ctx.fvBits fl.ctx.fv0 (v / 2 ^ pad / 2 ^
    fl.ctx.macBits) ∧ (m.body.length < cut + n ∨ v % 2 ^ pad ≠ 0)) ∧
    (∃ (s : State) (id i h n cand v pad cut : Nat) (f : Frame) (m : Msg) (fl : Flow), s.turn id = some (f, i, m, h, fl) ∧
    s.mayProcess id 1 fl = true ∧ fl.spill = none ∧ fl.ctx.lost = false ∧ m.waitSince = none ∧ n = fl.ctx.trailerLen ∧ cut =
    (if fl.ctx.carry = 2 && fl.ctx.authLen ≠ 0 then fl.ctx.authLen else m.body.length - n) ∧ pad = 8 * n - fl.ctx.fvBits -
    fl.ctx.macBits ∧ v = beNat (slice m.body cut n) ∧ cand = candidate fl.ctx.fvBits fl.ctx.fv0 (v / 2 ^ pad / 2 ^
    fl.ctx.macBits) ∧ cut + n ≤ m.body.length ∧ v % 2 ^ pad = 0 ∧ 2 ^ 64 ≤ cand) ∧
    (∃ (s : State) (id i h n cand v pad cut : Nat) (f : Frame) (m : Msg) (fl : Flow), s.turn id = some (f, i, m, h, fl) ∧
    s.mayProcess id 1 fl = true ∧ fl.spill = none ∧ fl.ctx.lost = false ∧ m.waitSince = none ∧ n = fl.ctx.trailerLen ∧ cut =
    (if fl.ctx.carry = 2 && fl.ctx.authLen ≠ 0 then fl.ctx.authLen else m.body.length - n) ∧ pad = 8 * n - fl.ctx.fvBits -
    fl.ctx.macBits ∧ v = beNat (slice m.body cut n) ∧ cand = candidate fl.ctx.fvBits fl.ctx.fv0 (v / 2 ^ pad / 2 ^
    fl.ctx.macBits) ∧ cut + n ≤ m.body.length ∧ v % 2 ^ pad = 0 ∧ cand < 2 ^ 64 ∧ (cand ≤ fl.ctx.fv0 ∨ (fl.ctx.acceptWin ≠ 0
    ∧ fl.ctx.acceptWin < cand - fl.ctx.fv0))) ∧
    (∃ (s u : State) (id i h n cand v pad cut : Nat) (f : Frame) (m : Msg) (fl : Flow), s.turn id = some (f, i, m, h, fl) ∧
    s.mayProcess id 1 fl = true ∧ fl.spill = none ∧ fl.ctx.lost = false ∧ m.waitSince = none ∧ u = (s.laneTake id).touchFlow
    h ∧ n = fl.ctx.trailerLen ∧ cut = (if fl.ctx.carry = 2 && fl.ctx.authLen ≠ 0 then fl.ctx.authLen else m.body.length - n)
    ∧ pad = 8 * n - fl.ctx.fvBits - fl.ctx.macBits ∧ v = beNat (slice m.body cut n) ∧ cand = candidate fl.ctx.fvBits
    fl.ctx.fv0 (v / 2 ^ pad / 2 ^ fl.ctx.macBits) ∧ cut + n ≤ m.body.length ∧ v % 2 ^ pad = 0 ∧ cand < 2 ^ 64 ∧ fl.ctx.fv0 <
    cand ∧ (fl.ctx.acceptWin = 0 ∨ cand - fl.ctx.fv0 ≤ fl.ctx.acceptWin) ∧ u.trafficKey fl.ctx.part fl.ctx.key0 (· == 1) =
    none) ∧
    (∃ (s u : State) (id i h n cand v pad cut : Nat) (f : Frame) (m : Msg) (fl : Flow) (t : State) (x : KeySlot) (g : Flow),
    s.turn id = some (f, i, m, h, fl) ∧ s.mayProcess id 1 fl = true ∧ fl.spill = none ∧ fl.ctx.lost = false ∧ m.waitSince =
    none ∧ u = (s.laneTake id).touchFlow h ∧ n = fl.ctx.trailerLen ∧ cut = (if fl.ctx.carry = 2 && fl.ctx.authLen ≠ 0 then
    fl.ctx.authLen else m.body.length - n) ∧ pad = 8 * n - fl.ctx.fvBits - fl.ctx.macBits ∧ v = beNat (slice m.body cut n) ∧
    cand = candidate fl.ctx.fvBits fl.ctx.fv0 (v / 2 ^ pad / 2 ^ fl.ctx.macBits) ∧ cut + n ≤ m.body.length ∧ v % 2 ^ pad = 0
    ∧ cand < 2 ^ 64 ∧ fl.ctx.fv0 < cand ∧ (fl.ctx.acceptWin = 0 ∨ cand - fl.ctx.fv0 ≤ fl.ctx.acceptWin) ∧ u.trafficKey
    fl.ctx.part fl.ctx.key0 (· == 1) = some x ∧ u.takeUse fl.ctx.key0 false = .ok t ∧ mapGet t.flows h = some g ∧ cand <
    g.ctx.ckpt + 1024) ∧
    (∃ (s : State) (id i h : Nat) (f : Frame) (m : Msg) (fl : Flow) (fits : Bool) (out : Bytes → Bytes), s.turn id = some
    (f, i, m, h, fl) ∧ s.mayProcess id 2 fl = true ∧ fl.spill = none ∧ fl.ctx.lost = false ∧ out = (fun tr => rebuildMsg
    fl.ctx.carry m.hdr (if fl.ctx.carry = 2 then padTo ((canFdLen (m.body ++ tr).length).getD (m.body ++ tr).length) (m.body
    ++ tr) else m.body ++ tr)) ∧ fits = (!(fl.ctx.carry == 2 && (canFdLen (m.body.length + fl.ctx.trailerLen)).isNone) &&
    decide (f.build.length + 4 + (out (List.replicate fl.ctx.trailerLen 0)).length - m.raw.length ≤ 9216)) ∧ fits = false) ∧
    (∃ (s : State) (id i h : Nat) (f : Frame) (m : Msg) (fl : Flow) (fits : Bool) (out : Bytes → Bytes), s.turn id = some
    (f, i, m, h, fl) ∧ s.mayProcess id 2 fl = true ∧ fl.spill = none ∧ fl.ctx.lost = false ∧ out = (fun tr => rebuildMsg
    fl.ctx.carry m.hdr (if fl.ctx.carry = 2 then padTo ((canFdLen (m.body ++ tr).length).getD (m.body ++ tr).length) (m.body
    ++ tr) else m.body ++ tr)) ∧ fits = (!(fl.ctx.carry == 2 && (canFdLen (m.body.length + fl.ctx.trailerLen)).isNone) &&
    decide (f.build.length + 4 + (out (List.replicate fl.ctx.trailerLen 0)).length - m.raw.length ≤ 9216)) ∧ fits = true ∧ 2
    ^ 64 - 1 ≤ fl.ctx.fv0) ∧
    (∃ (s : State) (id i h : Nat) (f : Frame) (m : Msg) (fl : Flow) (fits : Bool) (out : Bytes → Bytes), s.turn id = some
    (f, i, m, h, fl) ∧ s.mayProcess id 2 fl = true ∧ fl.spill = none ∧ fl.ctx.lost = false ∧ out = (fun tr => rebuildMsg
    fl.ctx.carry m.hdr (if fl.ctx.carry = 2 then padTo ((canFdLen (m.body ++ tr).length).getD (m.body ++ tr).length) (m.body
    ++ tr) else m.body ++ tr)) ∧ fits = (!(fl.ctx.carry == 2 && (canFdLen (m.body.length + fl.ctx.trailerLen)).isNone) &&
    decide (f.build.length + 4 + (out (List.replicate fl.ctx.trailerLen 0)).length - m.raw.length ≤ 9216)) ∧ fits = true ∧
    fl.ctx.fv0 < 2 ^ 64 - 1 ∧ fl.ctx.ckpt + 1024 ≤ fl.ctx.fv0) ∧
    (∃ (s u : State) (id i h : Nat) (f : Frame) (m : Msg) (fl : Flow) (fits : Bool) (out : Bytes → Bytes) (t : State) (x :
    KeySlot), s.turn id = some (f, i, m, h, fl) ∧ s.mayProcess id 2 fl = true ∧ fl.spill = none ∧ fl.ctx.lost = false ∧ u =
    (s.laneTake id).touchFlow h ∧ out = (fun tr => rebuildMsg fl.ctx.carry m.hdr (if fl.ctx.carry = 2 then padTo ((canFdLen
    (m.body ++ tr).length).getD (m.body ++ tr).length) (m.body ++ tr) else m.body ++ tr)) ∧ fits = (!(fl.ctx.carry == 2 &&
    (canFdLen (m.body.length + fl.ctx.trailerLen)).isNone) && decide (f.build.length + 4 + (out (List.replicate
    fl.ctx.trailerLen 0)).length - m.raw.length ≤ 9216)) ∧ fits = true ∧ fl.ctx.fv0 < 2 ^ 64 - 1 ∧ fl.ctx.fv0 < fl.ctx.ckpt
    + 1024 ∧ u.trafficKey fl.ctx.part fl.ctx.key0 (· == 1) = some x ∧ u.takeUse fl.ctx.key0 false = .ok t) :=
  ⟨⟨upMsg (ctxOf 1 0x1807 5 0 0) (msgOf [0, 0, 0, 1] []), 0, 0, 0, 4, 128, 1, 1, 0, _, _, _, rfl,
   by and_intros <;> decide +kernel⟩,
   ⟨upMsg (ctxOf 1 0x1808 5 (2 ^ 64 - 1) 0) (msgOf [5, 0, 0, 0] []), 0, 0, 0, 4, 18446744073709551621, 83886080, 0, 0, _, _,
   _, rfl, by and_intros <;> decide +kernel⟩,
   ⟨upMsg (ctxOf 1 0x1808 5 0 1) (msgOf [5, 0, 0, 0] []), 0, 0, 0, 4, 5, 83886080, 0, 0, _, _, _, rfl,
   by and_intros <;> decide +kernel⟩,
   ⟨upMsg (ctxOf 1 0x1808 77 0 0) (msgOf [5, 0, 0, 0] []), _, 0, 0, 0, 4, 5, 83886080, 0, 0, _, _, _, rfl,
   by decide +kernel, (by decide +kernel), (by decide +kernel), by decide +kernel, rfl, by and_intros <;> decide +kernel⟩,
   ⟨upMsg (ctxOf 1 0x1808 5 0 0) (msgOf [5, 0, 0, 0] []), _, 0, 0, 0, 4, 5, 83886080, 0, 0, _, _, _, _, _, _, rfl,
   (by decide +kernel), (by decide +kernel), by decide +kernel, by decide +kernel, rfl, by decide +kernel,
   (by decide +kernel), by decide +kernel, by decide +kernel, (by decide +kernel), by decide +kernel, by decide +kernel,
   (by decide +kernel), (by decide +kernel), by decide +kernel, rfl, rfl, rfl, by decide +kernel⟩,
   ⟨upMsg ({ ctxOf 2 0x1808 5 0 0 with carry := 2 }) (msgOf (List.replicate 61 0) []), 0, 0, 0, _, _, _, false, _, rfl,
   by decide +kernel, (by decide +kernel), by decide +kernel, rfl, (by decide +kernel), (by decide +kernel)⟩,
   ⟨upMsg (ctxOf 2 0x1808 5 (2 ^ 64 - 1) 0) (msgOf [] []), 0, 0, 0, _, _, _, true, _, rfl, by decide +kernel,
   by decide +kernel, (by decide +kernel), rfl, by and_intros <;> decide +kernel⟩,
   ⟨upMsg (ctxOf 2 0x1808 5 2048 0) (msgOf [] []), 0, 0, 0, _, _, _, true, _, rfl, by decide +kernel, by decide +kernel,
   (by decide +kernel), rfl, by and_intros <;> decide +kernel⟩,
   ⟨upMsg (ctxOf 2 0x1808 5 0 0) (msgOf [] []), _, 0, 0, 0, _, _, _, true, _, _, _, rfl, by decide +kernel,
   by decide +kernel, (by decide +kernel), rfl, rfl, by decide +kernel, by decide +kernel, by decide +kernel,
   by decide +kernel, rfl, rfl⟩⟩

theorem witness_FreshnessCandidate :
    (∃ (w t : Nat), 0 < w ∧ w < 64 ∧ t < 2 ^ w) ∧
    (∃ (w last t : Nat) (x : _), 0 < w ∧ w < 64 ∧ t < 2 ^ w ∧ last < x ∧ x % 2 ^ w = t) :=
  ⟨⟨8, 5, by and_intros <;> decide +kernel⟩,
   ⟨8, 0, 5, 5, by and_intros <;> decide +kernel⟩⟩

theorem witness_MacsecFrames :
    (∃ (s : State) (id i h off : Nat) (f : Frame) (m : Msg) (fl : Flow), s.turn id = some (f, i, m, h, fl) ∧ s.mayProcess id
    3 fl = true ∧ fl.spill = none ∧ fl.ctx.lost = false ∧ off = (parseL2 m.raw).off ∧ parseSecTag m.raw off fl.ctx.xpn =
    none) ∧
    (∃ (s : State) (id i h off : Nat) (f : Frame) (m : Msg) (fl : Flow) (t : SecTag) (n : Nat), s.turn id = some (f, i, m,
    h, fl) ∧ s.mayProcess id 3 fl = true ∧ fl.spill = none ∧ fl.ctx.lost = false ∧ off = (parseL2 m.raw).off ∧ parseSecTag
    m.raw off fl.ctx.xpn = some t ∧ n = (if t.sl = 0 then m.raw.length - (off + t.len) - 16 else t.sl) ∧ off + t.len + n +
    16 ≤ m.raw.length ∧ (List.range 2).find? (fun i => fl.ctx.saValid i && fl.ctx.an i == t.an) = none) ∧
    (∃ (s : State) (id i h off : Nat) (f : Frame) (m : Msg) (fl : Flow) (t : SecTag) (n j pn : Nat), s.turn id = some (f, i,
    m, h, fl) ∧ s.mayProcess id 3 fl = true ∧ fl.spill = none ∧ fl.ctx.lost = false ∧ off = (parseL2 m.raw).off ∧
    parseSecTag m.raw off fl.ctx.xpn = some t ∧ n = (if t.sl = 0 then m.raw.length - (off + t.len) - 16 else t.sl) ∧ off +
    t.len + n + 16 ≤ m.raw.length ∧ (List.range 2).find? (fun i => fl.ctx.saValid i && fl.ctx.an i == t.an) = some j ∧ pn =
    (if fl.ctx.xpn then recoverPn (fl.ctx.saFv j - fl.ctx.aux) t.pn else t.pn) ∧ pn < fl.ctx.saFv j - fl.ctx.aux) ∧
    (∃ (s u : State) (id i h off : Nat) (f : Frame) (m : Msg) (fl : Flow) (t : SecTag) (n j pn : Nat) (w : State) (x :
    KeySlot), s.turn id = some (f, i, m, h, fl) ∧ s.mayProcess id 3 fl = true ∧ fl.spill = none ∧ fl.ctx.lost = false ∧ u =
    (s.laneTake id).touchFlow h ∧ off = (parseL2 m.raw).off ∧ parseSecTag m.raw off fl.ctx.xpn = some t ∧ n = (if t.sl = 0
    then m.raw.length - (off + t.len) - 16 else t.sl) ∧ off + t.len + n + 16 ≤ m.raw.length ∧ (List.range 2).find? (fun i =>
    fl.ctx.saValid i && fl.ctx.an i == t.an) = some j ∧ pn = (if fl.ctx.xpn then recoverPn (fl.ctx.saFv j - fl.ctx.aux) t.pn
    else t.pn) ∧ fl.ctx.saFv j - fl.ctx.aux ≤ pn ∧ u.trafficKey fl.ctx.part (fl.ctx.saKey j) fl.ctx.suiteFits = some x ∧
    u.takeUse (fl.ctx.saKey j) false = .ok w) ∧
    (∃ (s : State) (id i h j : Nat) (f : Frame) (m : Msg) (fl : Flow), s.turn id = some (f, i, m, h, fl) ∧ s.mayProcess id 4
    fl = true ∧ fl.spill = none ∧ fl.ctx.lost = false ∧ j = fl.ctx.txSa ∧ fl.ctx.saValid j = false) ∧
    (∃ (s : State) (id i h j : Nat) (f : Frame) (m : Msg) (fl : Flow), s.turn id = some (f, i, m, h, fl) ∧ s.mayProcess id 4
    fl = true ∧ fl.spill = none ∧ fl.ctx.lost = false ∧ j = fl.ctx.txSa ∧ fl.ctx.saValid j = true ∧ fl.ctx.pnLast ≤
    fl.ctx.saFv j) ∧
    (∃ (s : State) (id i h j : Nat) (f : Frame) (m : Msg) (fl : Flow), s.turn id = some (f, i, m, h, fl) ∧ s.mayProcess id 4
    fl = true ∧ fl.spill = none ∧ fl.ctx.lost = false ∧ j = fl.ctx.txSa ∧ fl.ctx.saValid j = true ∧ fl.ctx.saFv j <
    fl.ctx.pnLast ∧ 9216 < m.raw.length + 4 + 16 + (if fl.ctx.sciExplicit then 16 else 8)) ∧
    (∃ (s u : State) (id i h j : Nat) (f : Frame) (m : Msg) (fl : Flow) (w : State) (x : KeySlot), s.turn id = some (f, i,
    m, h, fl) ∧ s.mayProcess id 4 fl = true ∧ fl.spill = none ∧ fl.ctx.lost = false ∧ u = (s.laneTake id).touchFlow h ∧ j =
    fl.ctx.txSa ∧ fl.ctx.saValid j = true ∧ fl.ctx.saFv j < fl.ctx.pnLast ∧ m.raw.length + 4 + 16 + (if fl.ctx.sciExplicit
    then 16 else 8) ≤ 9216 ∧ 12 ≤ m.raw.length ∧ u.trafficKey fl.ctx.part (fl.ctx.saKey j) fl.ctx.suiteFits = some x ∧
    u.takeUse (fl.ctx.saKey j) false = .ok w) :=
  ⟨⟨upMsg (ctxOf 3 0 5 0 0) (msgOf [] (List.replicate 14 0 ++ [0, 0, 0, 0, 0, 0] ++ List.replicate 40 0)), 0, 0, 0, 14, _,
   _, _, rfl, by and_intros <;> decide +kernel⟩,
   ⟨upMsg (ctxOf 3 0 5 0 0) (msgOf [] (List.replicate 14 0 ++ [0, 0, 0, 0, 0, 1] ++ List.replicate 40 0)), 0, 0, 0, 14, _,
   _, _, _, 24, rfl, by decide +kernel, by decide +kernel, by decide +kernel, (by decide +kernel), rfl,
   by and_intros <;> decide +kernel⟩,
   ⟨upMsg (ctxOf 3 0x10 5 5 0) (msgOf [] (List.replicate 14 0 ++ [0, 0, 0, 0, 0, 1] ++ List.replicate 40 0)), 0, 0, 0, 14,
   _, _, _, _, 24, 0, 1, rfl, (by decide +kernel), (by decide +kernel), by decide +kernel, by decide +kernel, rfl,
   by and_intros <;> decide +kernel⟩,
   ⟨upMsg (ctxOf 3 0x10 5 1 0) (msgOf [] (List.replicate 14 0 ++ [12, 0, 0, 0, 0, 1] ++ List.replicate 40 0)), _, 0, 0, 0,
   14, _, _, _, _, 24, 0, 1, _, _, rfl, (by decide +kernel), by decide +kernel, by decide +kernel, rfl, (by decide +kernel),
   rfl, by decide +kernel, (by decide +kernel), by decide +kernel, (by decide +kernel), by decide +kernel, rfl, rfl⟩,
   ⟨upMsg (ctxOf 4 0 5 0 0) (msgOf [] (List.replicate 14 0 ++ [0, 0, 0, 0, 0, 0] ++ List.replicate 40 0)), 0, 0, 0, 0, _, _,
   _, rfl, by and_intros <;> decide +kernel⟩,
   ⟨upMsg (ctxOf 4 0x10 5 0xFFFFFFFF 0) (msgOf [] (List.replicate 14 0 ++ [0, 0, 0, 0, 0, 0] ++ List.replicate 40 0)), 0, 0,
   0, 0, _, _, _, rfl, by and_intros <;> decide +kernel⟩,
   ⟨upMsg (ctxOf 4 0x10 5 0 0) (msgOf [] (List.replicate 9200 0)), 0, 0, 0, 0, _, _, _, rfl,
   by and_intros <;> decide +kernel⟩,
   ⟨upMsg (ctxOf 4 0x10 5 0 0) (msgOf [] (List.replicate 14 0 ++ [0, 0, 0, 0, 0, 0] ++ List.replicate 40 0)), _, 0, 0, 0, 0,
   _, _, _, _, _, rfl, by decide +kernel, by decide +kernel, (by decide +kernel), rfl, by decide +kernel, by decide +kernel,
   (by decide +kernel), by decide +kernel, by decide +kernel, rfl, rfl⟩⟩

theorem witness_CheckpointsAndSpillRecords :
    (∃ (s : State) (h k : Nat) (f : Flow), mapRising 0 s.flows = true ∧ mapGet s.flows h = some f ∧ f.ckptTo = some k ∧ h <
    262144 ∧ k % 1024 = 0 ∧ k ≤ 2 ^ 64 - 1024) ∧
    (∃ (s : State) (id i h t : Nat) (f : Frame) (m : Msg) (fl : Flow), s.turn id = some (f, i, m, h, fl) ∧ m.waitSince =
    some t) ∧
    (∃ (s : State) (h : Nat) (f : Flow) (x : SpillInfo), mapGet s.flows h = some f ∧ f.spill = some x ∧ x.loading = true ∧
    s.canMaster 0 = true) ∧
    (∃ (s : State) (h : Nat) (f : Flow) (x : SpillInfo) (r : Bytes), mapGet s.flows h = some f ∧ f.spill = some x ∧
    x.loading = true ∧ s.canMaster 0 = true ∧ s.openRecord (h - 262144) r = none) ∧
    (∃ (s : State) (h : Nat) (f : Flow) (x : SpillInfo) (r : Bytes) (c : Ctx), mapGet s.flows h = some f ∧ f.spill = some x
    ∧ x.loading = true ∧ s.canMaster 0 = true ∧ s.openRecord (h - 262144) r = some c) ∧
    (∃ (s : State) (h : Nat) (f : Flow) (x : SpillInfo), mapGet s.flows h = some f ∧ f.spill = some x ∧ x.cached = true ∧
    x.changed = true ∧ s.canWriteBack h = true) ∧
    (∃ (s : State) (id i h : Nat) (f : Frame) (m : Msg) (fl : Flow) (x : Nat × Instr), s.turn id = some (f, i, m, h, fl) ∧ x
    ∈ [(1, Instr.secocVerify id), (2, .secocSign id), (3, .macsecRx id), (4, .macsecTx id)] ∧ s.mayProcess id x.1 fl = true
    ∧ fl.ctx.lost = true) ∧
    (∃ (s : State) (id i h : Nat) (f : Frame) (m : Msg) (fl : Flow) (x : Nat × Instr) (y : SpillInfo), s.turn id = some (f,
    i, m, h, fl) ∧ x ∈ [(1, Instr.secocVerify id), (2, .secocSign id), (3, .macsecRx id), (4, .macsecTx id)] ∧ s.mayProcess
    id x.1 fl = true ∧ fl.ctx.lost = false ∧ fl.spill = some y ∧ y.cached = false) :=
  ⟨⟨{ up with flows := [(0, { flowOf (ctxOf 2 0x1808 5 0 0) with ckptTo := some 1024 })] }, 0, 1024, _, by decide +kernel,
   rfl, by and_intros <;> decide +kernel⟩,
   ⟨upMsg (ctxOf 2 0x1808 5 0 0) (msgSince 7), 0, 0, 0, _, _, _, _, rfl, rfl⟩,
   ⟨upSpill true false, 262144, _, _, rfl, rfl, by decide +kernel, (by decide +kernel)⟩,
   ⟨upSpill true false, 262144, _, _, [], rfl, rfl, by and_intros <;> decide +kernel⟩,
   ⟨withSpillKey (upSpill true false), 262144, _, _, goodRec, goodRec_opens.choose, rfl, rfl, by decide +kernel,
   by decide +kernel, goodRec_opens.choose_spec⟩,
   ⟨upSpill false true, 262144, _, _, rfl, rfl, by and_intros <;> decide +kernel⟩,
   ⟨upMsg ({ ctxOf 2 0x1808 5 0 0 with lost := true }) (msgOf [] []), 0, 0, 0, _, _, _, (2, .secocSign 0), rfl,
   by and_intros <;> decide +kernel⟩,
   ⟨upMsgSpill (ctxOf 2 0x1808 5 0 0) (msgOf [] []), 0, 0, 0, _, _, _, (2, .secocSign 0), _, rfl, (by decide +kernel),
   by decide +kernel, (by decide +kernel), rfl, (by decide +kernel)⟩⟩

theorem witness_UnitRowsEnd :
    (∃ (s : State) (h : Half) (i : Nat) (r : Running), s.runningOn .hammer h i = some r) ∧
    (∃ (s : State) (h : Half) (i : Nat) (r : Running), s.runningOn .hammer h i = some r ∧ r.job.inRequest = true) ∧
    (∃ (s : State) (h : Half) (r : Running), s.runningOn .digest h 0 = some r) ∧
    (∃ (s : State) (h : Half) (i : Nat) (r : Running), s.runningOn .anvil h i = some r) ∧
    (∃ (s : State) (h : Half) (i : Nat) (r : Running), s.runningOn .anvil h i = some r) ∧
    (∃ (s : State) (h : Half) (i : Nat), s.runningOn .hammer h i = none) ∧
    (∃ (s : State) (h : Half) (i : Nat), i < 16 ∧ 4096 ≤ mapRead 0 s.units.blocks (16 * halfNum h + i) ∧ s.drawWaits
    (halfNum h) = false ∧ s.noEntropy = false) :=
  ⟨⟨upJob .hammer 4096, .north, 0, _, rfl⟩,
   ⟨upJob .hammer 4096, .north, 0, _, rfl, (by decide +kernel)⟩,
   ⟨upJob .digest 4096, .north, _, rfl⟩,
   ⟨upJob .anvil 1, .north, 0, _, rfl⟩,
   ⟨upJob .anvil 1, .north, 0, _, rfl⟩,
   ⟨up, .north, 3, (by decide +kernel)⟩,
   ⟨{ up with units := { up.units with blocks := [(0, 4096)] } }, .north, 0, by and_intros <;> decide +kernel⟩⟩

theorem witness_StoreWork :
    (∃ (s : State) (mv : Nat) (x : Txn) (l : List Txn), (s.setVhold mv).txns = x :: l) ∧
    (∃ (s : State) (k : CmdKey) (c : Inflight) (t : Nat), s.cmd? k = some c ∧ s.txns.contains (.cmd k t) = true ∧ t +
    50000000 ≤ s.deviceTime ∧ s.storeReady = false) ∧
    (∃ (s : State), s.storePower = true ∧ s.halvesOn = true ∧ s.passWaits = false ∧ mapRising 0 s.regs = true) ∧
    (∃ (s : State) (p : Nat), s.nextClear = some p ∧ s.storePower = true ∧ s.halvesOn = true ∧ s.storeReady = true) ∧
    (∃ (s : State) (h : Half) (r : Remap), s.halfUp h = true ∧ s.storeOn h = true ∧ s.storeReady = true ∧ s.ee.remaps.find?
    (fun (r : Remap) => r.half = h && r.row.isSome) = some r) :=
  ⟨⟨{ up with txns := [.own .epoch] }, 3000, _, _, rfl⟩,
   ⟨State.with1 { up with txns := [.cmd kc 0], supply := Supply.init } (cmdOf 0x0502 (par []) [] 0), kc, cmdOf 0x0502 (par
   []) ([]) 0, 0, by and_intros <;> decide +kernel⟩,
   ⟨up, by and_intros <;> decide +kernel⟩,
   ⟨{ up with ee := { up.ee with clearing := [[1]] } }, 1, by and_intros <;> decide +kernel⟩,
   ⟨{ up with ee := { up.ee with remaps := [⟨.north, 0, 0, 0, some 0⟩] } }, .north, _, by decide +kernel, by decide +kernel,
   (by decide +kernel), rfl⟩⟩

theorem witness_HandleSensing :
    (∃ (s : State), s.fld Fd.HS_PLAN_PERIOD ≠ 0 ∧ s.fld Fd.PW_STAT_STATE ≠ 4 ∧ s.pageAdmits 0x040000 = true ∧ s.fld
    Fd.HS_PLAN_PERIOD * 1000000000 ≤ (s.deviceTime - s.hs.lastRound) * 32768) ∧
    (∃ (s : State) (n : Nat) (rest : List Nat), s.hs.round = n :: rest) ∧
    (∃ (s u v w : State) (n count startedAt left stamp : Nat), (s.hsChan n).confirm = some (left, stamp) ∧ s.hsMeasured n =
    true ∧ 16 * 1000000000 ≤ (startedAt - (s.hsChan n).lastAt) * 32768 ∧ u = s.book .scan ∧ (u.hsChan n).confirm = some
    (left, stamp) ∧ u.lfOverlap startedAt = false ∧ v = (u.setHsChan n (fun c =>
    { c with count := count, discarded := false, lastAt := startedAt })).hsFault n count ∧ w = (if (v.hsChan n).delta count
    < (cfgFld (v.hsChan n).cfg (Fd.HS_CFG_REL_TH n) : Int) * 256 then v.setFldBit Fd.HS_STAT_STUCK n false else v) ∧ (bit
    (w.fld Fd.HS_STAT_FAULT) n = true ∨ (v.hsChan n).delta count < (cfgFld (v.hsChan n).cfg (Fd.HS_CFG_TOUCH_TH n) : Int) *
    256)) ∧
    (∃ (s u v w : State) (n count startedAt left stamp : Nat), (s.hsChan n).confirm = some (left, stamp) ∧ s.hsMeasured n =
    true ∧ 16 * 1000000000 ≤ (startedAt - (s.hsChan n).lastAt) * 32768 ∧ u = s.book .scan ∧ (u.hsChan n).confirm = some
    (left, stamp) ∧ u.lfOverlap startedAt = false ∧ v = (u.setHsChan n (fun c =>
    { c with count := count, discarded := false, lastAt := startedAt })).hsFault n count ∧ w = (if (v.hsChan n).delta count
    < (cfgFld (v.hsChan n).cfg (Fd.HS_CFG_REL_TH n) : Int) * 256 then v.setFldBit Fd.HS_STAT_STUCK n false else v) ∧ bit
    (w.fld Fd.HS_STAT_FAULT) n = false ∧ (cfgFld (v.hsChan n).cfg (Fd.HS_CFG_TOUCH_TH n) : Int) * 256 ≤ (v.hsChan n).delta
    count) ∧
    (∃ (s : State) (n startedAt : Nat), (s.hsChan n).discarded = true ∧ s.hsMeasured n = true ∧ s.lf.air = none ∧ s.bc =
    none ∧ s.lf.lastEnd + 250000 ≤ startedAt) ∧
    (∃ (s : State) (n t : Nat), (s.hsChan n).touchedAt = some t ∧ cfgFld s.hs.cfg Fd.HS_DRIFT_STUCK_S ≠ 0 ∧ t + cfgFld
    s.hs.cfg Fd.HS_DRIFT_STUCK_S * 1000000000 ≤ s.deviceTime) :=
  ⟨⟨up.setFld Fd.HS_PLAN_PERIOD 1, by and_intros <;> decide +kernel⟩,
   ⟨{ up with hs := { up.hs with round := [0] } }, 0, _, rfl⟩,
   ⟨withHs ((((upChan { chan0 with confirm := some (1, 5) }).setFld Fd.PW_STAT_STATE 2).setFld Fd.HS_PLAN_SCANNED 1).setFld
   (Fd.HS_CFG_EN 0) 1), _, _, _, 0, 1000, 1000000, 1, 5, by decide +kernel, (by decide +kernel), (by decide +kernel), rfl,
   (by decide +kernel), (by decide +kernel), rfl, rfl, by decide +kernel⟩,
   ⟨withHs ((((upChan { chan0 with base := 0, confirm := some (1, 5) }).setFld Fd.PW_STAT_STATE 2).setFld Fd.HS_PLAN_SCANNED
   1).setFld (Fd.HS_CFG_EN 0) 1), _, _, _, 0, 50000, 1000000, 1, 5, (by decide +kernel), (by decide +kernel),
   (by decide +kernel), rfl, (by decide +kernel), by decide +kernel, rfl, rfl, by decide +kernel, by decide +kernel⟩,
   ⟨withHs ((((upChan { chan0 with discarded := true }).setFld Fd.PW_STAT_STATE 2).setFld Fd.HS_PLAN_SCANNED 1).setFld
   (Fd.HS_CFG_EN 0) 1), 0, 1000000, by and_intros <;> decide +kernel⟩,
   ⟨withHs ((upChan { chan0 with touchedAt := some 0 }).setFld Fd.HS_DRIFT_STUCK_S 1), 0, 0,
   by and_intros <;> decide +kernel⟩⟩

theorem witness_BaselineTracking :
    (∃ (s t : State) (n count st : Nat) (c d : HsChan), n < 6 ∧ s.hs.chans[n]? = some c ∧ c.touchedAt = none ∧ bit (s.fld
    Fd.HS_STAT_FAULT) n = false ∧ 4196 ≤ count ∧ count < 60000 ∧ t = s.hsMeasure n count st ∧ t.hs.chans[n]? = some d) ∧
    (∃ (s t : State) (n count st : Nat) (c d : HsChan) (m : _), n < 6 ∧ s.hs.chans[n]? = some c ∧ c.touchedAt = none ∧ bit
    (s.fld Fd.HS_STAT_FAULT) n = false ∧ 4196 ≤ count ∧ count < 60000 ∧ t = s.hsMeasure n count st ∧ t.hs.chans[n]? = some d
    ∧ m ≠ n) ∧
    (∃ (s t : State) (n count st : Nat) (c d : HsChan), n < 6 ∧ s.hs.chans[n]? = some c ∧ c.touchedAt = none ∧ bit (s.fld
    Fd.HS_STAT_FAULT) n = false ∧ 4196 ≤ count ∧ count < 60000 ∧ t = s.hsMeasure n count st ∧ t.hs.chans[n]? = some d ∧
    (cfgFld s.hs.cfg (Fd.HS_CFG_TOUCH_TH n) : Int) * 256 ≤ (count : Int) * 256 - c.base) ∧
    (∃ (s t : State) (n count st : Nat) (c d : HsChan), n < 6 ∧ s.hs.chans[n]? = some c ∧ c.touchedAt = none ∧ bit (s.fld
    Fd.HS_STAT_FAULT) n = false ∧ 4196 ≤ count ∧ count < 60000 ∧ t = s.hsMeasure n count st ∧ t.hs.chans[n]? = some d ∧
    (count : Int) * 256 - c.base < (cfgFld s.hs.cfg (Fd.HS_CFG_TOUCH_TH n) : Int) * 256) ∧
    (∃ (s t : State) (n count st : Nat) (c d : HsChan), n < 6 ∧ s.hs.chans[n]? = some c ∧ c.touchedAt = none ∧ bit (s.fld
    Fd.HS_STAT_FAULT) n = false ∧ 4196 ≤ count ∧ count < 60000 ∧ t = s.hsMeasure n count st ∧ t.hs.chans[n]? = some d ∧
    (count : Int) * 256 - c.base < (cfgFld s.hs.cfg (Fd.HS_CFG_TOUCH_TH n) : Int) * 256 ∧ ((count : Int) * 256 -
    c.base).natAbs ≤ cfgFld s.hs.cfg Fd.HS_DRIFT_DRIFT_BAND * 256) ∧
    (∃ (s t : State) (n count st : Nat) (c d : HsChan), n < 6 ∧ s.hs.chans[n]? = some c ∧ c.touchedAt = none ∧ bit (s.fld
    Fd.HS_STAT_FAULT) n = false ∧ 4196 ≤ count ∧ count < 60000 ∧ t = s.hsMeasure n count st ∧ t.hs.chans[n]? = some d ∧
    (count : Int) * 256 - c.base < (cfgFld s.hs.cfg (Fd.HS_CFG_TOUCH_TH n) : Int) * 256 ∧ (count : Int) * 256 - c.base <
    -(cfgFld s.hs.cfg Fd.HS_DRIFT_DRIFT_BAND * 256 : Int) ∧ c.lowRun + 1 = 4) ∧
    (∃ (s t : State) (n count st : Nat) (c d : HsChan), n < 6 ∧ s.hs.chans[n]? = some c ∧ c.touchedAt = none ∧ bit (s.fld
    Fd.HS_STAT_FAULT) n = false ∧ 4196 ≤ count ∧ count < 60000 ∧ t = s.hsMeasure n count st ∧ t.hs.chans[n]? = some d ∧
    (count : Int) * 256 - c.base < (cfgFld s.hs.cfg (Fd.HS_CFG_TOUCH_TH n) : Int) * 256 ∧ (count : Int) * 256 - c.base <
    -(cfgFld s.hs.cfg Fd.HS_DRIFT_DRIFT_BAND * 256 : Int) ∧ c.lowRun + 1 ≠ 4) ∧
    (∃ (s t : State) (n count st : Nat) (c d : HsChan), n < 6 ∧ s.hs.chans[n]? = some c ∧ c.touchedAt = none ∧ bit (s.fld
    Fd.HS_STAT_FAULT) n = false ∧ 4196 ≤ count ∧ count < 60000 ∧ t = s.hsMeasure n count st ∧ t.hs.chans[n]? = some d ∧
    (count : Int) * 256 - c.base < (cfgFld s.hs.cfg (Fd.HS_CFG_TOUCH_TH n) : Int) * 256 ∧ (cfgFld s.hs.cfg
    Fd.HS_DRIFT_DRIFT_BAND * 256 : Int) < (count : Int) * 256 - c.base) :=
  ⟨⟨upBase 2560000 0, _, 0, 10000, 0, _, (((upBase 2560000 0).hsMeasure 0 10000 0).hs.chans[0]?).getD chan0,
   (by decide +kernel), rfl, (by decide +kernel), by decide +kernel, (by decide +kernel), by decide +kernel, rfl,
   (by decide +kernel)⟩,
   ⟨upBase 2560000 0, _, 0, 10000, 0, _, (((upBase 2560000 0).hsMeasure 0 10000 0).hs.chans[0]?).getD chan0, 1,
   by decide +kernel, rfl, by decide +kernel, by decide +kernel, by decide +kernel, by decide +kernel, rfl,
   by decide +kernel, by decide +kernel⟩,
   ⟨upBase 0 0, _, 0, 10000, 0, _, (((upBase 0 0).hsMeasure 0 10000 0).hs.chans[0]?).getD chan0, by decide +kernel, rfl,
   by decide +kernel, (by decide +kernel), (by decide +kernel), (by decide +kernel), rfl, by decide +kernel,
   (by decide +kernel)⟩,
   ⟨upBase 2560000 0, _, 0, 10000, 0, _, (((upBase 2560000 0).hsMeasure 0 10000 0).hs.chans[0]?).getD chan0,
   by decide +kernel, rfl, by decide +kernel, by decide +kernel, by decide +kernel, by decide +kernel, rfl,
   (by decide +kernel), by decide +kernel⟩,
   ⟨upBase 2560000 0, _, 0, 10000, 0, _, (((upBase 2560000 0).hsMeasure 0 10000 0).hs.chans[0]?).getD chan0,
   by decide +kernel, rfl, (by decide +kernel), by decide +kernel, (by decide +kernel), by decide +kernel, rfl,
   by and_intros <;> decide +kernel⟩,
   ⟨upBase 5120000 3, _, 0, 10000, 0, _, (((upBase 5120000 3).hsMeasure 0 10000 0).hs.chans[0]?).getD chan0,
   (by decide +kernel), rfl, (by decide +kernel), (by decide +kernel), (by decide +kernel), (by decide +kernel), rfl,
   by and_intros <;> decide +kernel⟩,
   ⟨upBase 5120000 0, _, 0, 10000, 0, _, (((upBase 5120000 0).hsMeasure 0 10000 0).hs.chans[0]?).getD chan0,
   by decide +kernel, rfl, by decide +kernel, by decide +kernel, by decide +kernel, (by decide +kernel), rfl,
   by and_intros <;> decide +kernel⟩,
   ⟨withHs ((upBase 2540000 0).setFld (Fd.HS_CFG_TOUCH_TH 0) 1000), _, 0, 10000, 0, _, (((withHs ((upBase 2540000 0).setFld
   (Fd.HS_CFG_TOUCH_TH 0) 1000)).hsMeasure 0 10000 0).hs.chans[0]?).getD chan0, (by decide +kernel), rfl,
   (by decide +kernel), (by decide +kernel), by decide +kernel, by decide +kernel, rfl, by and_intros <;> decide +kernel⟩⟩

theorem witness_LfFramesAndUhfWindows :
    (∃ (s : State) (r : LfReq) (rest : List LfReq), s.lf.waiting = r :: rest ∧ s.lf.air = none ∧ s.supply.lostRef38 = false
    ∧ s.level ≠ 4 ∧ s.pageAdmits 0x041000 = true ∧ s.lf.vlfMv < 6000) ∧
    (∃ (s : State) (r : LfReq) (rest : List LfReq), s.lf.waiting = r :: rest ∧ s.lf.air = none ∧ s.supply.lostRef38 = false
    ∧ s.level ≠ 4 ∧ s.pageAdmits 0x041000 = true ∧ 6000 ≤ s.lf.vlfMv ∧ s.welcomeDeferred r = false) ∧
    (∃ (s : State) (r : LfReq) (rest : List LfReq), s.lf.waiting = r :: rest ∧ s.lf.air = none ∧ s.supply.lostRef38 = false
    ∧ s.level ≠ 4 ∧ s.pageAdmits 0x041000 = true ∧ 6000 ≤ s.lf.vlfMv ∧ s.welcomeDeferred r = true) ∧
    (∃ (s : State) (a : LfAir), s.lf.air = some a ∧ a.startedAt + lfDuration s.lf.cfg a.req.data.length (maskList a.asked
    8).length ≤ s.deviceTime) ∧
    (∃ (s : State) (n st : Nat) (why : DiagCause), s.fld (Fd.LF_CH_EN n) = 1 ∧ st < 6 ∧ bit (bankChannels s.domains) n =
    true ∧ s.lfRuns = true ∧ s.diagDue n why = true) ∧
    (∃ (s : State) (n st : Nat), regsWf s.regs = true ∧ n < 8 ∧ st < 6) ∧
    (∃ (s : State) (a : LfAir), s.lf.ended = some a ∧ s.windowOn = false ∧ s.supply.lostRef38 = false ∧ s.pageAdmits
    0x042000 = true ∧ a.endedAt + s.fld Fd.UHF_SLOT_DELAY_100US * 100000 ≤ s.deviceTime) ∧
    (∃ (s : State) (w : UhfWindow) (word : Nat), s.uhf = some w ∧ w.slotAt s.deviceTime < w.slots ∧ bitsDiffer word (cfgFld
    w.cfg Fd.UHF_SYNC_SYNC) ≤ cfgFld w.cfg Fd.UHF_MOD_SYNC_ERR ∧ w.hyps.length < 4) ∧
    (∃ (s : State) (w : UhfWindow) (word : Nat) (h l : _), s.uhf = some w ∧ w.slotAt s.deviceTime < w.slots ∧ bitsDiffer
    word (cfgFld w.cfg Fd.UHF_SYNC_SYNC) ≤ cfgFld w.cfg Fd.UHF_MOD_SYNC_ERR ∧ w.hyps = h :: l ∧ 4 ≤ w.hyps.length) ∧
    (∃ (s : State) (w : UhfWindow) (word : Nat), s.uhf = some w ∧ w.slotAt s.deviceTime < w.slots ∧ cfgFld w.cfg
    Fd.UHF_MOD_SYNC_ERR < bitsDiffer word (cfgFld w.cfg Fd.UHF_SYNC_SYNC)) ∧
    (∃ (s : State) (w : UhfWindow) (i : Nat) (h : Nat × Nat), s.uhf = some w ∧ w.hyps[i]? = some h) ∧
    (∃ (s : State) (w : UhfWindow) (i : Nat) (k : Nat × Nat) (raw p : Bytes), s.uhf = some w ∧ w.hyps[i]? = some k ∧
    telegramPayload raw = some p) ∧
    (∃ (p : Bytes), 1 ≤ p.length ∧ p.length ≤ 64) ∧
    (∃ (s : State) (w : UhfWindow), s.uhf = some w ∧ w.hyps = [] ∧ w.opensAt + w.slots * w.slotUs * 1000 ≤ s.deviceTime ∧
    w.past.isSome = true) ∧
    (∃ (s v : State) (w : UhfWindow) (l : List (List (Nat × Nat))), s.uhf = some w ∧ w.hyps = [] ∧ w.opensAt + w.slots *
    w.slotUs * 1000 ≤ s.deviceTime ∧ v = (State.showOutcomes { s with uhf := none } ((List.range w.slots).map (w.outcome
    (w.heard l)))).book (.uhf ((s.deviceTime + 300000 - w.opensAt) / 1000)) ∧ w.past = none ∧ v.acc.session = none) ∧
    (∃ (s v : State) (w : UhfWindow) (l : List (List (Nat × Nat))) (x f : _), s.uhf = some w ∧ w.hyps = [] ∧ w.opensAt +
    w.slots * w.slotUs * 1000 ≤ s.deviceTime ∧ v = (State.showOutcomes { s with uhf := none } ((List.range w.slots).map
    (w.outcome (w.heard l)))).book (.uhf ((s.deviceTime + 300000 - w.opensAt) / 1000)) ∧ w.past = none ∧ v.acc.session =
    some x ∧ w.repoll = some f ∧ 0 < w.slots) ∧
    (∃ (s v : State) (w : UhfWindow) (l : List (List (Nat × Nat))) (x : _), s.uhf = some w ∧ w.hyps = [] ∧ w.opensAt +
    w.slots * w.slotUs * 1000 ≤ s.deviceTime ∧ v = (State.showOutcomes { s with uhf := none } ((List.range w.slots).map
    (w.outcome (w.heard l)))).book (.uhf ((s.deviceTime + 300000 - w.opensAt) / 1000)) ∧ w.past = none ∧ v.acc.session =
    some x ∧ w.repoll = none) :=
  ⟨⟨upLf (fun l => { l with waiting := [req0], vlfMv := 5000 }), _, _, rfl, by and_intros <;> decide +kernel⟩,
   ⟨upLf (fun l => { l with waiting := [req0] }), _, _, rfl, by and_intros <;> decide +kernel⟩,
   ⟨upLf (fun l => { l with waiting := [{ req0 with kind := .welcome, bursts := 255 }], charge := [⟨900000000, 1000000000,
   10000⟩] }), _, _, rfl, by and_intros <;> decide +kernel⟩,
   ⟨upLf (fun l => { l with air := some air0 }), _, rfl, by decide +kernel⟩,
   ⟨up.setFld (Fd.LF_CH_EN 0) 1, 0, 0, .request, by and_intros <;> decide +kernel⟩,
   ⟨up, 0, 0, by and_intros <;> decide +kernel⟩,
   ⟨upLf (fun l => { l with ended := some air0 }), _, rfl, by and_intros <;> decide +kernel⟩,
   ⟨upWin (win 1000000000 1 none []) up, _, cfgFld (up.pageCfg 0x042000) Fd.UHF_SYNC_SYNC, rfl,
   by and_intros <;> decide +kernel⟩,
   ⟨upWin (win 1000000000 1 none [0, 0, 0, 0]) up, _, cfgFld (up.pageCfg 0x042000) Fd.UHF_SYNC_SYNC, _, _, rfl,
   by decide +kernel, by decide +kernel, rfl, by decide +kernel⟩,
   ⟨upWin (win 1000000000 1 none []) up, _, cfgFld (up.pageCfg 0x042000) Fd.UHF_SYNC_SYNC ^^^ 0xFFFF, rfl,
   by decide +kernel, (by decide +kernel)⟩,
   ⟨upWin (win 1000000000 1 none [0]) up, _, 0, _, rfl, rfl⟩,
   ⟨upWin (win 1000000000 1 none [0]) (upSess (sess0 .start 16)), _, 0, _, raw0, [0], rfl, rfl, by decide +kernel⟩,
   ⟨[0], by decide +kernel, (by decide +kernel)⟩,
   ⟨upWinPond { win 0 1 none [] with past := some (sess0 .start 16) } up, _, rfl, by and_intros <;> decide +kernel⟩,
   ⟨upWinPond (win 0 1 none []) up, _, _, [[]], rfl, (by decide +kernel), by decide +kernel, rfl, by decide +kernel,
   (by decide +kernel)⟩,
   ⟨upWinPond (win 0 1 (some 0) []) (upSess (sess0 .start 16)), _, _, [[]], (sess0 .start 16), 0, rfl, (by decide +kernel),
   (by decide +kernel), rfl, by and_intros <;> decide +kernel⟩,
   ⟨upWinPond (win 0 1 none []) (upSess (sess0 .start 16)), _, _, [[]], (sess0 .start 16), rfl, (by decide +kernel),
   (by decide +kernel), rfl, by and_intros <;> decide +kernel⟩⟩

theorem witness_BackupCoilAndSessionEnds :
    (∃ (s u : State) (x : Session), s.fld Fd.BC_CFG_EN ≠ 0 ∧ s.bc = none ∧ s.supply.lostRef38 = false ∧ 6000 ≤ s.lf.vlfMv ∧
    s.pageAdmits 0x043000 = true ∧ u = (if s.acc.session.isNone then s.openSession .backupCoil 16 else s) ∧ u.acc.session =
    some x ∧ x.target = 16 ∧ u.lf.air = none) ∧
    (∃ (s : State) (b : BcSession), s.bc = some b ∧ b.exchange = false ∧ s.drawWaits (s.fld Fd.HW_ROLE_LEAD) = false ∧
    b.startedAt + cfgFld b.cfg Fd.BC_CFG_POWERUP_MS * 1000000 ≤ s.deviceTime) ∧
    (∃ (s : State) (b : BcSession) (x : Session) (raw p : Bytes), s.bc = some b ∧ s.acc.session = some x ∧ telegramPayload
    raw = some p ∧ s.bcInTime b p.length = true) ∧
    (∃ (s : State) (b : BcSession), s.bc = some b ∧ b.till ≤ s.deviceTime) ∧
    (∃ (s : State) (x : Session), s.acc.session = some x ∧ x.source = .backupCoil ∧ s.decisionHeld = false ∧ x.bcFob = none) ∧
    (∃ (s : State) (x : Session), s.acc.session = some x ∧ x.openedAt + polSessionMs s.policy * 1000000 ≤ s.deviceTime) ∧
    (∃ (s : State) (g t : Nat), mapGet s.acc.pulses g = some t ∧ t ≤ s.deviceTime) :=
  ⟨⟨(upSess (sess0 .backupCoil 16)).setFld Fd.BC_CFG_EN 1, _, _, by decide +kernel, by decide +kernel, by decide +kernel,
   by decide +kernel, by decide +kernel, rfl, rfl, by decide +kernel, by decide +kernel⟩,
   ⟨upBc (sess0 .backupCoil 16), _, rfl, by and_intros <;> decide +kernel⟩,
   ⟨upBcOn (sess0 .backupCoil 16), _, _, raw0, [0], rfl, rfl, by decide +kernel, by decide +kernel⟩,
   ⟨late (upBc (sess0 .backupCoil 16)), _, rfl, by decide +kernel⟩,
   ⟨upBc (sess0 .backupCoil 16), (sess0 .backupCoil 16), by and_intros <;> decide +kernel⟩,
   ⟨(upSess (sess0 .backupCoil 16)).setAcc (fun a => { a with policy := none }), _, rfl, (by decide +kernel)⟩,
   ⟨up.setAcc (fun a => { a with pulses := [(0, 0)] }), 0, 0, by decide +kernel, by decide +kernel⟩⟩

theorem witness_RangingRounds :
    (∃ (s : State) (fob : Nat) (y : Session), s.uwb.fob = some fob ∧ s.acc.session = some y ∧ s.uwb.round = none ∧
    s.pageAdmits 0x050000 = true ∧ (s.rangingOver y = true ∨ s.planEntry s.uwb.planIdx = none)) ∧
    (∃ (s : State) (fob : Nat) (y : Session) (r : Nat), s.uwb.fob = some fob ∧ s.acc.session = some y ∧ s.uwb.round = none ∧
    s.pageAdmits 0x050000 = true ∧ s.rangingOver y = false ∧ s.planEntry s.uwb.planIdx = some r) ∧
    (∃ (s : State) (fob : Nat) (y : Session) (r : Nat), s.uwb.fob = some fob ∧ s.acc.session = some y ∧ s.uwb.round = none ∧
    s.pageAdmits 0x050000 = true ∧ s.rangingOver y = false ∧ s.planEntry s.uwb.planIdx = some r) ∧
    (∃ (s : State) (x : Round), s.uwb.round = some x ∧ x.responseSeen = false) ∧
    (∃ (s : State) (x : Round), s.uwb.round = some x ∧ x.responseSeen = false ∧ x.startedAt + s.windowNs ≤ s.deviceTime) ∧
    (∃ (s : State) (x : Round) (fob : Nat), s.uwb.round = some x ∧ s.uwb.fob = some fob ∧ x.responseSeen = true ∧
    x.finalSent = false ∧ x.timeOf (s.finalGrid x.t4c) ≤ s.deviceTime) ∧
    (∃ (s : State) (x : Round), s.uwb.round = some x ∧ x.finalSent = true ∧ x.reportSeen = false) ∧
    (∃ (s : State) (x : Round) (c : Candidate), s.uwb.round = some x ∧ s.rangedCandidate = some c ∧ x.finalSent = true ∧
    (x.reportSeen = false ∨ x.reportC1 = none) ∧ x.timeOf x.t5 + s.windowNs ≤ s.deviceTime) ∧
    (∃ (s : State) (x : Round) (c : Candidate), s.uwb.round = some x ∧ s.rangedCandidate = some c ∧ x.reportSeen = true ∧
    s.decisionHeld = false) :=
  ⟨⟨(upRng none).setFld Fd.RV_STAT_LEVEL 3, _, _, rfl, rfl, by and_intros <;> decide +kernel⟩,
   ⟨upRng none, _, _, 0, rfl, rfl, by and_intros <;> decide +kernel⟩,
   ⟨upRng none, _, _, 0, rfl, rfl, by and_intros <;> decide +kernel⟩,
   ⟨upRng (some (round0 false false false)), _, rfl, by decide +kernel⟩,
   ⟨late (upRng (some (round0 false false false))), _, rfl, by decide +kernel, by decide +kernel⟩,
   ⟨late (upRng (some (round0 true false false))), _, _, rfl, rfl, by and_intros <;> decide +kernel⟩,
   ⟨upRng (some (round0 true true false)), _, rfl, by decide +kernel, by decide +kernel⟩,
   ⟨late (upRng (some (round0 true true false))), _, _, rfl, rfl, by and_intros <;> decide +kernel⟩,
   ⟨upRng (some (round0 true true true)), _, _, rfl, rfl, by decide +kernel, (by decide +kernel)⟩⟩

theorem witness_FirstPathDetector :
    (∃ (i : Nat) (j : _), 64 ≤ j ∧ j ≤ i) ∧
    (∃ (p e n : Nat), (0 < p ∨ 0 < e) ∧ 1 ≤ n ∧ n ≤ 255) ∧
    (∃ (n : Nat), n < 2 ^ 128) ∧
    (∃ (s : State) (x : Round) (r : CirRec), s.uwb.round = some x ∧ r.kind = 0 ∧ x.responseSeen = true) ∧
    (∃ (s : State) (x : Round) (r : CirRec), s.uwb.round = some x ∧ r.kind = 1 ∧ x.finalSent = true) :=
  ⟨⟨100, 96, (by decide +kernel), by decide +kernel⟩,
   ⟨0, 1, 1, by and_intros <;> decide +kernel⟩,
   ⟨1, by decide +kernel⟩,
   ⟨upRng (some (round0 true false false)), _, rec0 0, rfl, by decide +kernel, (by decide +kernel)⟩,
   ⟨upRng (some (round0 true true false)), _, rec0 1, rfl, by decide +kernel, by decide +kernel⟩⟩

theorem witness_DistanceRounding :
    (∃ (den : Nat), 0 < den) ∧
    (∃ (num : Int) (den : Nat), 0 < den ∧ 2 * (distCm num den * (den * 1000000) - num * 469176).natAbs = den * 1000000) :=
  ⟨⟨1, by decide +kernel⟩,
   ⟨1000000, 938352, (by decide +kernel), by decide +kernel⟩⟩

theorem witness_ValidRound :
    (∃ (s : State) (x : Round) (m : CirFound) (c1 : Option Nat) (t4 tround1 treply2 : Nat) (opened : Option (Nat × Nat × Nat
    × Nat)) (r : RngResult), r = s.judgeOpened x m c1 opened ∧ r.outcome = .valid ∧ s.uwbFld Fd.UWB_POLICY_MIN_SCORE ≤ 255 ∧
    (t4 : Int) = ((x.t4c : Int) + m.firstPath - 6144) % 2 ^ 40 ∧ tround1 = (t4 + 2 ^ 40 - x.t1 % 2 ^ 40) % 2 ^ 40 ∧ treply2
    = (x.t5 + 2 ^ 40 - t4) % 2 ^ 40) ∧
    (∃ (s : State) (x : Round) (m : CirFound) (c1 : Option Nat) (t4 tround1 treply2 : Nat) (opened : Option (Nat × Nat × Nat
    × Nat)) (r : RngResult), r = s.judgeOpened x m c1 opened ∧ r.outcome = .valid ∧ s.uwbFld Fd.UWB_POLICY_MIN_SCORE ≤ 255 ∧
    (t4 : Int) = ((x.t4c : Int) + m.firstPath - 6144) % 2 ^ 40 ∧ tround1 = (t4 + 2 ^ 40 - x.t1 % 2 ^ 40) % 2 ^ 40 ∧ treply2
    = (x.t5 + 2 ^ 40 - t4) % 2 ^ 40) ∧
    (∃ (s : State) (x : Round) (m : CirFound) (c1 : Option Nat) (t4 tround1 treply2 : Nat) (opened : Option (Nat × Nat × Nat
    × Nat)) (r : RngResult), r = s.judgeOpened x m c1 opened ∧ r.outcome = .valid ∧ s.uwbFld Fd.UWB_POLICY_MIN_SCORE ≤ 255 ∧
    (t4 : Int) = ((x.t4c : Int) + m.firstPath - 6144) % 2 ^ 40 ∧ tround1 = (t4 + 2 ^ 40 - x.t1 % 2 ^ 40) % 2 ^ 40 ∧ treply2
    = (x.t5 + 2 ^ 40 - t4) % 2 ^ 40) :=
  ⟨⟨(withUwb ((up.setFld Fd.UWB_POLICY_MIN_SCORE 0).setFld Fd.UWB_LIMIT_D_LIMIT_CM 100)), roundT 63903744 127795200, found0,
   some 0, 63897600, 63897600, 63897600, some (63897600, 63897600, 0, 0), _, rfl, by and_intros <;> decide +kernel⟩,
   ⟨(withUwb ((up.setFld Fd.UWB_POLICY_MIN_SCORE 0).setFld Fd.UWB_LIMIT_D_LIMIT_CM 100)), roundT 63903744 127795200, found0,
   some 0, 63897600, 63897600, 63897600, some (63897600, 63897600, 0, 0), _, rfl, by and_intros <;> decide +kernel⟩,
   ⟨(withUwb ((up.setFld Fd.UWB_POLICY_MIN_SCORE 0).setFld Fd.UWB_LIMIT_D_LIMIT_CM 100)), roundT 63903744 127795200, found0,
   some 0, 63897600, 63897600, 63897600, some (63897600, 63897600, 0, 0), _, rfl, by and_intros <;> decide +kernel⟩⟩

theorem witness_PowerStates :
    (∃ (s : State), s.fld Fd.PW_CFG_EDDY_IDLE_US ≠ 0 ∧ s.fld Fd.PW_STAT_STATE = 0 ∧ s.gatesOpen = true ∧ s.eddyIdle = true ∧
    s.power.busyAt + s.fld Fd.PW_CFG_EDDY_IDLE_US * 1000 ≤ s.deviceTime) ∧
    (∃ (s : State) (src : Nat) (data : Word), s.pageOpen src 0x0E0000 = true ∧ data.toNat % 8 = 4 ∧ s.secure src = false) ∧
    (∃ (s : State) (src : Nat) (data : Word), s.pageOpen src 0x0E0000 = true ∧ (data.toNat % 8 = 1 ∨ 4 < data.toNat % 8)) ∧
    (∃ (s : State) (src : Nat) (data : Word), s.pageOpen src 0x0E0000 = true ∧ data.toNat % 8 ≠ 1 ∧ data.toNat % 8 ≤ 4 ∧
    (data.toNat % 8 = 4 → s.secure src = true)) ∧
    (∃ (s : State) (t : Nat), t = s.fld Fd.PW_REQ_TARGET ∧ t ≠ 0 ∧ s.fld Fd.PW_STAT_STATE ≤ 1 ∧ s.gatesOpen = true ∧ (∀ n, n
    < 7 → s.parkCond t n = true)) ∧
    (∃ (s : State), s.fld Fd.PW_STAT_STATE = 2 ∧ s.fld Fd.PW_CFG_POND_MAX_S ≠ 0 ∧ s.power.pondAt + s.fld
    Fd.PW_CFG_POND_MAX_S * 1000000000 ≤ s.deviceTime ∧ (∀ n, n < 7 → s.parkCond 3 n = true)) ∧
    (∃ (s : State), s.fld Fd.PW_STAT_EXCURSION ≠ 0 ∧ s.power.perstLow = true ∧ s.acc.queued = [] ∧ (∀ n, 1 ≤ n → n < 7 →
    s.parkCond 3 n = true) ∧ s.power.lingerAt + min 10000 (s.fld Fd.PW_MISC_LINGER_MS) * 1000000 ≤ s.deviceTime) ∧
    (∃ (s : State), s.fld Fd.PW_STAT_STATE = 3 ∧ s.fld Fd.PW_STAT_EXCURSION = 0) ∧
    (∃ (s : State), s.returnWanted = true ∧ s.retrying .rail = false ∧ s.power.railFails = 0) ∧
    (∃ (s : State), s.returnWanted = true ∧ s.retrying .rail = false ∧ 1 ≤ s.power.railFails ∧ s.power.railFails ≤ 2 ∧
    s.power.railAt + 10000000 ≤ s.deviceTime) ∧
    (∃ (s : State), s.fld Fd.PW_STAT_STATE = 4) ∧
    (∃ (k : Nat), k < 8) ∧
    (∃ (s : State) (k : Nat), s.pinArmed k = true ∧ s.startPin k = false) ∧
    (∃ (s : State) (k : Nat), s.pinArmed k = false) ∧
    (∃ (s : State), s.alarmAt ≠ 0 ∧ s.power.alarmed = false ∧ s.alarmAt ≤ s.deviceTime) ∧
    (∃ (s : State), s.fld Fd.RV_PLAN_WELCOME_S ≠ 0 ∧ s.level = 1 ∧ s.power.welcomeAt + s.fld Fd.RV_PLAN_WELCOME_S *
    1000000000 ≤ s.deviceTime ∧ s.acc.session = none ∧ s.acc.pairing = none ∧ s.power.poll = none) ∧
    (∃ (s : State), regsWf s.regs = true) ∧
    (∃ (s : State), regsWf s.regs = true ∧ s.fld Fd.PW_WAKE_STAT_SRC = 0) :=
  ⟨⟨up.setFld Fd.PW_CFG_EDDY_IDLE_US 1, by and_intros <;> decide +kernel⟩,
   ⟨{ up with parts := [(0, p1)] }, 0, 4, by and_intros <;> decide +kernel⟩,
   ⟨up, 0, 1, by decide +kernel, (by decide +kernel)⟩,
   ⟨up, 0, 2, by and_intros <;> decide +kernel⟩,
   ⟨up.setFld Fd.PW_REQ_TARGET 2, 2, by and_intros <;> decide +kernel⟩,
   ⟨(upPow 2 id).setFld Fd.PW_CFG_POND_MAX_S 1, by and_intros <;> decide +kernel⟩,
   ⟨(up.updPower (fun p => { p with perstLow := true })).setFld Fd.PW_STAT_EXCURSION 1, (by decide +kernel),
   by decide +kernel, (by decide +kernel), fun n h k => by revert h; revert k; revert n; decide +kernel, by decide +kernel⟩,
   ⟨upPow 3 id, by decide +kernel, by decide +kernel⟩,
   ⟨upPow 3 (fun p => { p with perstLow := false }), by and_intros <;> decide +kernel⟩,
   ⟨upPow 3 (fun p => { p with perstLow := false, railFails := 1 }), by and_intros <;> decide +kernel⟩,
   ⟨upPow 4 id, (by decide +kernel)⟩,
   ⟨0, by decide +kernel⟩,
   ⟨upPol.setFld (Fd.PW_WAKE_EN 0) 1, 0, by decide +kernel, (by decide +kernel)⟩,
   ⟨up, 0, (by decide +kernel)⟩,
   ⟨up.setFld Fd.PW_ALARM_LO_TIME 1, by and_intros <;> decide +kernel⟩,
   ⟨(up.setFld Fd.RV_PLAN_WELCOME_S 1).setFld Fd.RV_STAT_LEVEL 1, by and_intros <;> decide +kernel⟩,
   ⟨up, by decide +kernel⟩,
   ⟨up, (by decide +kernel), (by decide +kernel)⟩⟩

theorem witness_PowerAndReservoir :
    (∃ (s : State), s.ledger.creditAt + 1000000000 ≤ s.deviceTime) ∧
    (∃ (l : LedgerSt), l.budget ≠ noLimit ∧ l.credit < 86400) ∧
    (∃ (l : LedgerSt), l.budget ≠ noLimit ∧ l.credit < 86400 ∧ l.creditSecond.store ≠ l.cap) ∧
    (∃ (s : State), s.ledger.planAt + 60000000000 ≤ s.deviceTime) ∧
    (∃ (s : State), s.power.readAt + s.readEvery ≤ s.deviceTime ∧ s.retrying .telemetry = false) ∧
    (∃ (s : State), s.power.paceAt + 106666 ≤ s.deviceTime ∧ s.supply.lostRef38 = false ∧ regsWf s.regs = true) ∧
    (∃ (s : State), s.power.avsAt + 1000000 ≤ s.deviceTime ∧ s.avsPlace = true ∧ s.retrying .vout = false ∧ s.power.hot = 0
    ∧ s.capped = false) ∧
    (∃ (s : State), s.power.avsAt + 1000000 ≤ s.deviceTime ∧ s.avsRuns = true ∧ s.retrying .vout = false ∧ s.power.hot = 0 ∧
    s.power.tookPart ≠ 0) ∧
    (∃ (s : State) (k : PmicKind) (r : PmicKind × Nat × Nat), s.power.retries = [r] ∧ r.1 = k ∧ r.2.2 + 1000000 ≤
    s.deviceTime ∧ r.2.1 < 2) ∧
    (∃ (s : State) (k : PmicKind) (r : PmicKind × Nat × Nat), s.power.retries = [r] ∧ r.1 = k ∧ r.2.2 + 1000000 ≤
    s.deviceTime ∧ 2 ≤ r.2.1) ∧
    (∃ (s : State) (k : PmicKind) (r : PmicKind × Nat × Nat), s.power.retries = [r] ∧ r.1 = k ∧ r.2.2 + 1000000 ≤
    s.deviceTime ∧ k = .status) :=
  ⟨⟨up, by decide +kernel⟩,
   ⟨led0, by decide +kernel, (by decide +kernel)⟩,
   ⟨led0, by and_intros <;> decide +kernel⟩,
   ⟨{ up with deviceTime := 100000000000 }, by decide +kernel⟩,
   ⟨up, by decide +kernel, (by decide +kernel)⟩,
   ⟨up, by and_intros <;> decide +kernel⟩,
   ⟨up, by and_intros <;> decide +kernel⟩,
   ⟨(upPow 0 (fun p => { p with tookPart := 1 })).setFld Fd.AVS_CTL_AVS_EN 1, by and_intros <;> decide +kernel⟩,
   ⟨upRetry .status 1, .status, (.status, 1, 0), by and_intros <;> decide +kernel⟩,
   ⟨upRetry .status 2, .status, (.status, 2, 0), by and_intros <;> decide +kernel⟩,
   ⟨upRetry .status 1, .status, (.status, 1, 0), by and_intros <;> decide +kernel⟩⟩

theorem witness_HalvesAndComparators :
    (∃ (s : State) (h : Half), s.halfUp h = true ∧ s.halvesOn = true) ∧
    (∃ (s : State), s.halves.lost = false ∧ s.halvesOn = true ∧ s.halfUp s.lead = true ∧ s.txns.contains (.own .epoch) =
    false) ∧
    (∃ (s : State), s.halves.leaseEnd ≤ s.deviceTime + 500000 ∧ s.halvesOn = true) ∧
    (∃ (s : State) (u : UnitRef), s.halfUp u.half = true) ∧
    (∃ (s : State) (u : UnitRef), s.halfUp u.half = true ∧ s.heldByDebug u = false) ∧
    (∃ (s : State) (u : UnitRef), s.halfUp u.half = true ∧ s.heldByDebug u = false ∧ u.half ≠ s.lead) ∧
    (∃ (s : State) (u : UnitRef) (r : Retired), s.halves.retired.find? (fun r => r.unit == u) = some r ∧ r.bad = false ∧
    r.testAt ≤ s.deviceTime ∧ s.halfUp u.half = true) ∧
    (∃ (s : State) (u : UnitRef) (r : Retired), s.halves.retired.find? (fun r => r.unit == u) = some r ∧ r.bad = false ∧
    r.testAt ≤ s.deviceTime ∧ s.halfUp u.half = true ∧ r.passes < 2) ∧
    (∃ (s : State) (u : UnitRef) (r : Retired), s.halves.retired.find? (fun r => r.unit == u) = some r ∧ r.bad = false ∧
    r.testAt ≤ s.deviceTime ∧ s.halfUp u.half = true ∧ 2 ≤ r.passes ∧ u.kind ≠ .engine) ∧
    (∃ (s : State) (u : UnitRef) (r : Retired), s.halves.retired.find? (fun r => r.unit == u) = some r ∧ r.bad = false ∧
    r.testAt ≤ s.deviceTime ∧ s.halfUp u.half = true ∧ 2 ≤ r.passes ∧ u.kind = .engine) ∧
    (∃ (s : State) (h : Half) (i : Nat), i < 2 ∧ s.halfUp h = true) ∧
    (∃ (s : State) (h : Half) (i b : Nat), i < 2 ∧ b = 2 * halfNum h + i ∧ bit (s.fld Fd.HW_PATHS_REBUILD) b = true) ∧
    (∃ (s : State) (h : Half) (since : Nat), s.halves.resyncAt = some (h, since)) ∧
    (∃ (s : State) (h : Half) (since : Nat), s.halves.resyncAt = some (h, since) ∧ s.fld (Fd.WH_STAT_STATE (halfNum h)) ≠ 6) ∧
    (∃ (s : State) (k : CmdKey) (v : Verdict), s.halves.lost = false ∧ s.gatesOpen = true ∧ (k = ownKey →
    s.acc.session.isSome = true) ∧ (k ≠ ownKey → ∃ c, s.cmd? k = some c ∧ s.pairedCmd c = true ∧ s.admissible c = true) ∧
    v.parity = none ∧ v.check434 = none ∧ v.eqN = true ∧ v.eqS = true ∧ v.folds = true ∧ k = ownKey) ∧
    (∃ (s : State) (k : CmdKey) (v : Verdict), s.halves.lost = false ∧ s.gatesOpen = true ∧ (k = ownKey →
    s.acc.session.isSome = true) ∧ (k ≠ ownKey → ∃ c, s.cmd? k = some c ∧ s.pairedCmd c = true ∧ s.admissible c = true) ∧
    v.parity = none ∧ v.check434 = none ∧ v.eqN = true ∧ v.eqS = true ∧ v.folds = true ∧ k ≠ ownKey) ∧
    (∃ (s : State) (k : CmdKey) (v : Verdict), s.halves.lost = false ∧ s.gatesOpen = true ∧ (k = ownKey →
    s.acc.session.isSome = true) ∧ (k ≠ ownKey → ∃ c, s.cmd? k = some c ∧ s.pairedCmd c = true ∧ s.admissible c = true) ∧
    v.parity = none ∧ v.check434 = none ∧ v.eqN = false ∧ v.eqS = false ∧ v.folds = true) ∧
    (∃ (s : State) (k : CmdKey) (v : Verdict), s.halves.lost = false ∧ s.gatesOpen = true ∧ (k = ownKey →
    s.acc.session.isSome = true) ∧ (k ≠ ownKey → ∃ c, s.cmd? k = some c ∧ s.pairedCmd c = true ∧ s.admissible c = true) ∧
    v.parity = none ∧ v.check434 = none ∧ v.eqN ≠ v.eqS) ∧
    (∃ (s : State) (k : CmdKey) (v : Verdict), s.halves.lost = false ∧ s.gatesOpen = true ∧ (k = ownKey →
    s.acc.session.isSome = true) ∧ (k ≠ ownKey → ∃ c, s.cmd? k = some c ∧ s.pairedCmd c = true ∧ s.admissible c = true) ∧
    v.parity = none ∧ v.check434 = none ∧ v.eqN = v.eqS ∧ v.folds = false) ∧
    (∃ (s : State) (k : CmdKey) (v : Verdict) (h : _), s.halves.lost = false ∧ s.gatesOpen = true ∧ (k = ownKey →
    s.acc.session.isSome = true) ∧ (k ≠ ownKey → ∃ c, s.cmd? k = some c ∧ s.pairedCmd c = true ∧ s.admissible c = true) ∧
    v.parity = some h) ∧
    (∃ (s : State) (k : CmdKey) (v : Verdict) (h : _), s.halves.lost = false ∧ s.gatesOpen = true ∧ (k = ownKey →
    s.acc.session.isSome = true) ∧ (k ≠ ownKey → ∃ c, s.cmd? k = some c ∧ s.pairedCmd c = true ∧ s.admissible c = true) ∧
    v.parity = none ∧ v.check434 = some h) :=
  ⟨⟨up, .north, by decide +kernel, by decide +kernel⟩,
   ⟨up, by and_intros <;> decide +kernel⟩,
   ⟨{ up with halves := HalvesSt.init }, by decide +kernel, (by decide +kernel)⟩,
   ⟨up, (unitOf .engine .north), by decide +kernel⟩,
   ⟨up, (unitOf .engine .north), (by decide +kernel), by decide +kernel⟩,
   ⟨up, (unitOf .engine .south), by and_intros <;> decide +kernel⟩,
   ⟨upRet .hammer 0, (unitOf .hammer .north), ⟨unitOf .hammer .north, 0, 0, 0, false⟩, by and_intros <;> decide +kernel⟩,
   ⟨upRet .hammer 0, (unitOf .hammer .north), ⟨unitOf .hammer .north, 0, 0, 0, false⟩, by and_intros <;> decide +kernel⟩,
   ⟨upRet .hammer 2, (unitOf .hammer .north), ⟨unitOf .hammer .north, 2, 0, 0, false⟩, by and_intros <;> decide +kernel⟩,
   ⟨upRet .engine 2, (unitOf .engine .north), ⟨unitOf .engine .north, 2, 0, 0, false⟩, by and_intros <;> decide +kernel⟩,
   ⟨up, .north, 0, (by decide +kernel), by decide +kernel⟩,
   ⟨up.setFld Fd.HW_PATHS_REBUILD 1, .north, 0, _, by decide +kernel, rfl, (by decide +kernel)⟩,
   ⟨upSync up, .north, 0, (by decide +kernel)⟩,
   ⟨upSync up, .north, 0, by decide +kernel, by decide +kernel⟩,
   ⟨upSess (sess0 .start 16), ownKey, (verdict true true true none none), by decide +kernel, (by decide +kernel),
   by decide +kernel, fun h => absurd rfl h, by and_intros <;> decide +kernel⟩,
   ⟨State.with1 up (cmdOf 0x0305 (par []) ([]) 0), kc, (verdict true true true none none), by decide +kernel,
   (by decide +kernel), fun h => absurd h (by decide), fun _ => ⟨_, rfl, by decide +kernel, by decide +kernel⟩,
   by and_intros <;> decide +kernel⟩,
   ⟨State.with1 up (cmdOf 0x0305 (par []) ([]) 0), kc, (verdict false false true none none), (by decide +kernel),
   by decide +kernel, fun h => absurd h (by decide), fun _ => ⟨_, rfl, by decide +kernel, by decide +kernel⟩,
   by and_intros <;> decide +kernel⟩,
   ⟨State.with1 up (cmdOf 0x0305 (par []) ([]) 0), kc, (verdict true false true none none), by decide +kernel,
   (by decide +kernel), fun h => absurd h (by decide), fun _ => ⟨_, rfl, by decide +kernel, by decide +kernel⟩,
   by and_intros <;> decide +kernel⟩,
   ⟨State.with1 up (cmdOf 0x0305 (par []) ([]) 0), kc, (verdict true true false none none), by decide +kernel,
   (by decide +kernel), fun h => absurd h (by decide), fun _ => ⟨_, rfl, by decide +kernel, by decide +kernel⟩,
   by and_intros <;> decide +kernel⟩,
   ⟨State.with1 up (cmdOf 0x0305 (par []) ([]) 0), kc, (verdict true true true (some .north) none), .north,
   by decide +kernel, (by decide +kernel), fun h => absurd h (by decide),
   fun _ => ⟨_, rfl, by decide +kernel, by decide +kernel⟩, by decide +kernel⟩,
   ⟨State.with1 up (cmdOf 0x0305 (par []) ([]) 0), kc, (verdict true true true none (some .north)), .north,
   by decide +kernel, by decide +kernel, fun h => absurd h (by decide),
   fun _ => ⟨_, rfl, by decide +kernel, by decide +kernel⟩, (by decide +kernel), by decide +kernel⟩⟩

theorem witness_Wellheads :
    (∃ (s : State) (h : Half) (a b : List Bool), a.length = 1024 ∧ b.length = 1024 ∧ s.whState (halfNum h) = 2) ∧
    (∃ (x : List Bool) (p : Bool), x.head? = some p) ∧
    (∃ (s : State) (h : Half) (c : Nat), 1 ≤ s.whState (halfNum h) ∧ s.whState (halfNum h) ≤ 5 ∧ 1 ≤ c ∧ c ≤ 3) ∧
    (∃ (s : State) (h : Half), 1 ≤ s.whState (halfNum h) ∧ s.whState (halfNum h) ≤ 5) ∧
    (∃ (s : State) (h : Half), s.whState (halfNum h) = 1) ∧
    (∃ (s : State) (h : Half), s.whState (halfNum h) = 3) ∧
    (∃ (s : State) (h : Half), s.whState (halfNum h) = 4) ∧
    (∃ (s : State) (n : Nat), (s.whState n = 1 ∨ s.whState n = 3 ∨ s.whState n = 4)) ∧
    (∃ (s : State) (n : Nat), s.whState n = 2) ∧
    (∃ (s : State) (src : Nat) (data : Word), s.pageOpen src 0x0B0000 = true ∧ bit data.toNat 7 = true) ∧
    (∃ (s : State) (src : Nat) (data : Word), s.pageOpen src 0x0B0000 = true ∧ bit data.toNat 7 = false) ∧
    (∃ (s : State) (src : Nat) (data : Word), s.pageOpen src 0x0B0000 = true ∧ s.rawRefused src data.toNat = true) ∧
    (∃ (s : State) (src : Nat) (data : Word), s.pageOpen src 0x0B0000 = true ∧ s.rawRefused src data.toNat = false ∧
    s.secure src = false ∧ bit data.toNat 7 = false) ∧
    (∃ (s : State) (src d : Nat), regsWf s.regs = true ∧ s.secure src = true ∧ s.fld Fd.WH_CTL_RAW_EN = 0 ∧ bit d 0 = true ∧
    bit d 7 = false ∧ (s.life = 2 ∨ s.life = 4) ∧ s.halfUp (halfOf (1 - bitsOf d 4 4)) = true ∧ s.whState (1 - bitsOf d 4 4)
    = 2 ∧ s.cannotTest (bitsOf d 4 4) = false) ∧
    (∃ (s : State) (src : Nat), s.pageOpen src 0x0B0000 = true ∧ (s.well (s.fld Fd.WH_CTL_RAW_HALF)).raw = []) ∧
    (∃ (s : State) (src : Nat) (w t : _), s.pageOpen src 0x0B0000 = true ∧ (s.well (s.fld Fd.WH_CTL_RAW_HALF)).raw = w :: t) :=
  ⟨⟨up, .north, List.replicate 1024 false, List.replicate 1024 false, by and_intros <;> decide +kernel⟩,
   ⟨[true], true, (by decide +kernel)⟩,
   ⟨up, .north, 1, by and_intros <;> decide +kernel⟩,
   ⟨up, .north, (by decide +kernel), by decide +kernel⟩,
   ⟨up.setFld (Fd.WH_STAT_STATE 0) 1, .north, (by decide +kernel)⟩,
   ⟨up.setFld (Fd.WH_STAT_STATE 0) 3, .north, by decide +kernel⟩,
   ⟨up.setFld (Fd.WH_STAT_STATE 0) 4, .north, (by decide +kernel)⟩,
   ⟨up.setFld (Fd.WH_STAT_STATE 0) 1, 0, by decide +kernel⟩,
   ⟨up, 0, by decide +kernel⟩,
   ⟨up, 0, 0x80, (by decide +kernel), (by decide +kernel)⟩,
   ⟨up, 0, 0, (by decide +kernel), by decide +kernel⟩,
   ⟨inField up, 0, 1, (by decide +kernel), (by decide +kernel)⟩,
   ⟨{ up with parts := [(0, p1)] }, 0, 0, by and_intros <;> decide +kernel⟩,
   ⟨up, 0, 1, by and_intros <;> decide +kernel⟩,
   ⟨up, 0, (by decide +kernel), by decide +kernel⟩,
   ⟨up.updWell 0 (fun x => { x with raw := [5] }), 0, 5, [], by decide +kernel, (by decide +kernel)⟩⟩

theorem witness_TamperRows :
    (∃ (s : State) (sensor sub : Nat), s.sensorOn sensor sub = true ∧ (sensor = 3 → 128 ≤ sub)) ∧
    (∃ (s : State) (sub : Nat), s.sensorOn 3 sub = true ∧ sub < 128 ∧ s.tamper.dip = none ∧ s.halvesOn = true) ∧
    (∃ (s : State) (sub time : Nat), s.tamper.dip = some (sub, time) ∧ s.deviceTime < time + 3000) ∧
    (∃ (s : State) (sub time : Nat), s.tamper.dip = some (sub, time) ∧ time + 3000 ≤ s.deviceTime) ∧
    (∃ (n : Nat), 1 ≤ n ∧ n ≤ 7) ∧
    (∃ (s : State) (t : Nat), s.tamper.alarmTill = some t ∧ t ≤ s.deviceTime) ∧
    (∃ (s : State) (src : Nat) (data : Word), s.pageOpen src 0x0F0000 = true ∧ bitsOf data.toNat 31 16 = 0x5A3C ∧
    s.tamper.hold = true ∧ s.life ≠ 5 ∧ bit data.toNat 0 = true) ∧
    (∃ (s : State) (src : Nat) (data : Word), s.pageOpen src 0x0F0000 = true ∧ (bitsOf data.toNat 31 16 ≠ 0x5A3C ∨
    s.tamper.hold = false ∨ s.life = 5)) :=
  ⟨⟨up, 1, 0, (by decide +kernel), by decide +kernel⟩,
   ⟨up, 0, by and_intros <;> decide +kernel⟩,
   ⟨upTamper (fun t => { t with dip := some (0, 999999999) }), 0, 999999999, by decide +kernel, by decide +kernel⟩,
   ⟨upTamper (fun t => { t with dip := some (0, 0) }), 0, 0, by decide +kernel, (by decide +kernel)⟩,
   ⟨1, by decide +kernel, (by decide +kernel)⟩,
   ⟨upTamper (fun t => { t with alarmTill := some 0 }), 0, by decide +kernel, (by decide +kernel)⟩,
   ⟨upTamper (fun t => { t with hold := true }), 0, 0x5A3C0001, by and_intros <;> decide +kernel⟩,
   ⟨up, 0, 0, (by decide +kernel), by decide +kernel⟩⟩

theorem witness_FirstResponses :
    ∃ (life sensor : Nat), 1 ≤ life ∧ life ≤ 7 ∧ 1 ≤ sensor ∧ sensor ≤ 7 :=
  ⟨3, 1, by and_intros <;> decide +kernel⟩

theorem witness_TamperEscalation :
    (∃ (r : Nat), r ≤ 5) ∧
    (∃ (s : State) (r : Nat), r ≤ 5 ∧ s.escalate r ≠ r) ∧
    (∃ (s : State), 2 ≤ s.warmsInHour ∧ (s.life = 3 ∨ s.life = 4)) ∧
    (∃ (s : State), 2 ≤ s.warmsInHour ∧ s.life = 5 ∧ s.tpLifeQ3 < 2) ∧
    (∃ (s : State), s.life = 5 ∧ 2 ≤ s.tpLifeQ3) ∧
    (∃ (s : State) (n : Nat), 3 ≤ s.life ∧ s.life ≤ 5 ∧ firstResponse s.life n = 1 ∧ 4 ≤ s.tpRecent n ∧ s.raised n ≤ 2 ∧
    s.warmsInHour < 2) ∧
    (∃ (s : State) (n : Nat), s.life = 5 ∧ 1 ≤ n ∧ n ≤ 6) :=
  ⟨⟨0, (by decide +kernel)⟩,
   ⟨upTamper (fun t => { t with warms := [0, 0] }), 2, (by decide +kernel), (by decide +kernel)⟩,
   ⟨upTamper (fun t => { t with warms := [0, 0] }), by decide +kernel, by decide +kernel⟩,
   ⟨inField (upTamper (fun t => { t with warms := [0, 0] })), by and_intros <;> decide +kernel⟩,
   ⟨inField (upTamper (fun t => { t with lifeQ3 := 2 })), by decide +kernel, (by decide +kernel)⟩,
   ⟨upTamper (fun t => { t with recent := List.replicate 4 (3, 1000000000) }), 3, by and_intros <;> decide +kernel⟩,
   ⟨inField up, 1, by and_intros <;> decide +kernel⟩⟩

theorem witness_DebugPort :
    (∃ (s u : State) (c : Nat), u = s.selectTap c ∧ u.tapNow = 1) ∧
    (∃ (s u : State) (c : Nat), u = s.selectTap c ∧ u.tapNow = 0xFF) ∧
    (∃ (s u : State) (c : Nat), u = s.selectTap c ∧ u.tapNow ≠ 1 ∧ u.tapNow ≠ 2 ∧ u.tapNow ≠ 0xFF) ∧
    (∃ (s u : State) (c : Nat), u = s.selectTap c ∧ u.tapNow = 2) ∧
    (∃ (s : State) (dr : BitVec 56), s.tapNow = 0x10 ∧ (bitsOf dr.toNat 21 1 % 4 ≠ 0 ∨ (bit dr.toNat 0 = true ∧ bit
    s.lc.scope 2 = false))) ∧
    (∃ (s : State) (dr : BitVec 56), s.tapNow = 0x10 ∧ bitsOf dr.toNat 21 1 % 4 = 0 ∧ bit dr.toNat 0 = false ∧ bitsOf
    dr.toNat 21 1 ≠ Reg.WH_RAW) ∧
    (∃ (s : State) (dr : BitVec 56), s.tapNow = 0x10 ∧ bitsOf dr.toNat 21 1 = Reg.WH_RAW ∧ bit dr.toNat 0 = false) ∧
    (∃ (s : State) (dr : BitVec 56), s.tapNow = 0x10 ∧ bitsOf dr.toNat 21 1 % 4 = 0 ∧ bit dr.toNat 0 = true ∧ bit s.lc.scope
    2 = true) ∧
    (∃ (s : State) (e : EngRef) (t : Task), s.dbgTask e = some t ∧ s.tapNow = 0x11) ∧
    (∃ (s : State) (e : EngRef) (t : Task), s.dbgTask e = some t ∧ s.tapNow = 0x11 ∧ t.wait ≠ .ended) ∧
    (∃ (s : State) (e : EngRef) (t : Task), s.dbgTask e = some t ∧ s.tapNow = 0x11 ∧ t.halted = true) ∧
    (∃ (s : State) (e : EngRef), s.rangingSlot e = true ∧ s.tapNow = 0x11) :=
  ⟨⟨upTap 0x10 1 up, _, 1, rfl, by decide +kernel⟩,
   ⟨upTap 0x10 1 up, _, 0x55, rfl, (by decide +kernel)⟩,
   ⟨upTap 0x10 1 up, _, 0x10, rfl, by and_intros <;> decide +kernel⟩,
   ⟨upTap 0x10 8 up, _, 2, rfl, by decide +kernel⟩,
   ⟨upTap 0x10 1 up, 2, by decide +kernel, by decide +kernel⟩,
   ⟨upTap 0x10 1 up, 0, by and_intros <;> decide +kernel⟩,
   ⟨upTap 0x10 1 up, (BitVec.ofNat 56 (2 * Reg.WH_RAW)), by and_intros <;> decide +kernel⟩,
   ⟨upTap 0x10 4 up, 1, by and_intros <;> decide +kernel⟩,
   ⟨upTap 0x11 4 (run (taskOf .p true)), e0, (taskOf .p true), (by decide +kernel), by decide +kernel⟩,
   ⟨upTap 0x11 4 (run (taskOf .p true)), e0, (taskOf .p true), by and_intros <;> decide +kernel⟩,
   ⟨upTap 0x11 4 (run { taskOf .p true with halted := true }), e0, { taskOf .p true with halted := true },
   by and_intros <;> decide +kernel⟩,
   ⟨upTap 0x11 4 { up with uwb := { up.uwb with twinClaimed := true } }, ⟨.north, 31⟩, by decide +kernel,
   (by decide +kernel)⟩⟩

theorem witness_CardPort :
    (∃ (s : State), s.fld Fd.CD_STAT_PRESENT = 0) ∧
    (∃ (s : State), s.fld Fd.CD_STAT_STATE = 1) ∧
    (∃ (s : State) (a : Atr), s.fld Fd.CD_STAT_STATE = 1 ∧ (a.edge < 894 ∨ 1338 < a.edge ∨ a.longGap = true)) ∧
    (∃ (s : State) (a : Atr), s.fld Fd.CD_STAT_STATE = 1 ∧ 894 ≤ a.edge ∧ a.edge ≤ 1338 ∧ a.longGap = false) ∧
    (∃ (s : State) (r : Bytes), s.fld Fd.CD_STAT_STATE = 2 ∧ s.deviceTime < s.card.atrAt + s.fld Fd.CD_CFG_COND_MS * 1000000
    ∧ s.card.pollAt ≤ s.deviceTime ∧ r.length = 10 ∧ r.drop 8 = [0x90, 0x00] ∧ leAt r 0 1 = 1 ∧ leAt r 1 1 = 1) ∧
    (∃ (s : State) (r : Bytes), s.fld Fd.CD_STAT_STATE = 2 ∧ s.deviceTime < s.card.atrAt + s.fld Fd.CD_CFG_COND_MS * 1000000
    ∧ s.card.pollAt ≤ s.deviceTime ∧ r.length = 10 ∧ r.drop 8 = [0x90, 0x00] ∧ leAt r 0 1 = 1 ∧ leAt r 1 1 = 0) ∧
    (∃ (s : State) (r : Bytes), s.fld Fd.CD_STAT_STATE = 2 ∧ s.deviceTime < s.card.atrAt + s.fld Fd.CD_CFG_COND_MS * 1000000
    ∧ s.card.pollAt ≤ s.deviceTime ∧ (r.length ≠ 10 ∨ r.drop 8 ≠ [0x90, 0x00] ∨ leAt r 0 1 ≠ 1 ∨ 1 < leAt r 1 1)) ∧
    (∃ (s : State), s.fld Fd.CD_STAT_STATE = 2 ∧ s.card.atrAt + s.fld Fd.CD_CFG_COND_MS * 1000000 ≤ s.deviceTime) ∧
    (∃ (s : State) (k : CmdKey) (r : Bytes), s.card.busy = some k ∧ s.card.resp = none ∧ 2 ≤ r.length ∧ r.length ≤ 258) ∧
    (∃ (s : State), s.fld Fd.CD_STAT_PRESENT = 1) ∧
    (∃ (s : State), s.fld Fd.CD_STAT_PRESENT = 1 ∧ s.fld Fd.CD_STAT_STATE ∈ [2, 3, 5]) ∧
    (∃ (s : State) (x : CardTxn), s.card.txn = some x ∧ s.gatesOpen = true ∧ s.card.busy = none ∧ x.lastAt + max 1 (s.fld
    Fd.CD_CFG_TXN_S) * 1000000000 ≤ s.deviceTime) ∧
    (∃ (s : State), s.card.stopOk = true ∧ s.fld Fd.CD_STAT_STATE = 3 ∧ s.card.busy = none ∧ s.card.lastChar + 387500 / 2 ^
    s.fld Fd.CD_STAT_CLK ≤ s.deviceTime) :=
  ⟨⟨up, (by decide +kernel)⟩,
   ⟨cardAt 1, by decide +kernel⟩,
   ⟨cardAt 1, (atrOf 0), by decide +kernel, (by decide +kernel)⟩,
   ⟨cardAt 1, (atrOf 1000), by and_intros <;> decide +kernel⟩,
   ⟨(cardAt 2).setFld Fd.CD_CFG_COND_MS 5000, [1, 1, 0, 0, 0, 0, 0, 0, 0x90, 0], by and_intros <;> decide +kernel⟩,
   ⟨(cardAt 2).setFld Fd.CD_CFG_COND_MS 5000, [1, 0, 0, 0, 0, 0, 0, 0, 0x90, 0], by and_intros <;> decide +kernel⟩,
   ⟨(cardAt 2).setFld Fd.CD_CFG_COND_MS 5000, [], by and_intros <;> decide +kernel⟩,
   ⟨(cardAt 2).setFld Fd.CD_CFG_COND_MS 100, by decide +kernel, by decide +kernel⟩,
   ⟨upCard.updCard (fun c => { c with busy := some kc }), kc, [0x90, 0], by and_intros <;> decide +kernel⟩,
   ⟨upCard, (by decide +kernel)⟩,
   ⟨cardAt 2, by decide +kernel, (by decide +kernel)⟩,
   ⟨upCardTxn, _, rfl, by and_intros <;> decide +kernel⟩,
   ⟨upCardTxn, by and_intros <;> decide +kernel⟩⟩

theorem witness_FrontCommandRuns :
    (∃ (s : State) (c : Instr) (rest : List Instr), s.pending = c :: rest) ∧
    (∃ (s : State), s.pending = []) :=
  ⟨⟨{ up with pending := [.glitchDecide] }, _, _, rfl⟩,
   ⟨up, (by decide +kernel)⟩⟩

theorem witness_ReferencePeriods :
    (∃ (s : State), s.supply.lostRef38 = false ∧ (s.fld Fd.PW_STAT_STATE < 2 ∨ (bit s.domains 8 = true ∧ s.power.ref38At +
    1000000 ≤ s.deviceTime)) ∧ s.refPhase < 24) ∧
    (∃ (s : State), s.supply.lostXtal = false ∧ (s.supply.lostRef38 = true ∨ (2 ≤ s.fld Fd.PW_STAT_STATE ∧ bit s.domains 8 =
    false)) ∧ s.refPhase < 64) ∧
    (∃ (s : State), s.supply.lostXtal = true ∧ s.supply.lostRef38 = true) :=
  ⟨⟨up, by and_intros <;> decide +kernel⟩,
   ⟨{ up with supply := { up.supply with lostRef38 := true } }, by and_intros <;> decide +kernel⟩,
   ⟨{ up with supply := { up.supply with lostRef38 := true, lostXtal := true } }, by decide +kernel, (by decide +kernel)⟩⟩

theorem witness_ResetState :
    ∃ (a : _), a ≠ Reg.RESET_CAUSE :=
  ⟨0, (by decide +kernel)⟩

theorem witness_CheckOrder :
    (∃ (s : State) (k : CmdKey) (c : Inflight), s.cmd? k = some c ∧ s.boot = .failed) ∧
    (∃ (s : State) (i : OpInfo) (k : CmdKey) (c : Inflight), s.turn? k c = true ∧ c.opcode = i.code ∧ i.waits s c = false ∧
    i.issuer = .access ∧ s.issuerOk .access c = false) ∧
    (∃ (s : State) (i : OpInfo) (above : Bool) (k : CmdKey) (c : Inflight), s.turn? k c = true ∧ c.opcode = i.code ∧ i.waits
    s c = false ∧ above = (c.classAbove ||
    (match i.clsAt with | some o => decide (leAt c.param o 1 < c.cls) | none => false)) ∧ (i.issuer = .access → s.issuerOk
    .access c = true) ∧ (s.issuerOk i.issuer c = false ∨ above = true)) ∧
    (∃ (s : State) (i : OpInfo) (lifeOk above : Bool) (k : CmdKey) (c : Inflight), s.turn? k c = true ∧ c.opcode = i.code ∧
    i.waits s c = false ∧ above = (c.classAbove ||
    (match i.clsAt with | some o => decide (leAt c.param o 1 < c.cls) | none => false)) ∧ s.issuerOk i.issuer c = true ∧
    above = false ∧ (lifeOk = false ∨ i.lifeAlso s c = false)) ∧
    (∃ (s : State) (i : OpInfo) (lifeOk above : Bool) (k : CmdKey) (c : Inflight), s.turn? k c = true ∧ c.opcode = i.code ∧
    i.waits s c = false ∧ above = (c.classAbove ||
    (match i.clsAt with | some o => decide (leAt c.param o 1 < c.cls) | none => false)) ∧ s.issuerOk i.issuer c = true ∧
    above = false ∧ lifeOk = true ∧ i.lifeAlso s c = true ∧ entryOk i c = false) ∧
    (∃ (s : State) (i : OpInfo) (lifeOk above : Bool) (k : CmdKey) (c : Inflight), s.turn? k c = true ∧ c.opcode = i.code ∧
    i.waits s c = false ∧ above = (c.classAbove ||
    (match i.clsAt with | some o => decide (leAt c.param o 1 < c.cls) | none => false)) ∧ s.issuerOk i.issuer c = true ∧
    above = false ∧ lifeOk = true ∧ i.lifeAlso s c = true ∧ entryOk i c = true ∧ c.readFail = true) ∧
    (∃ (s : State) (i : OpInfo) (lifeOk above : Bool) (k : CmdKey) (c : Inflight), s.turn? k c = true ∧ c.opcode = i.code ∧
    i.waits s c = false ∧ above = (c.classAbove ||
    (match i.clsAt with | some o => decide (leAt c.param o 1 < c.cls) | none => false)) ∧ s.issuerOk i.issuer c = true ∧
    above = false ∧ lifeOk = true ∧ i.lifeAlso s c = true ∧ entryOk i c = true ∧ c.readFail = false ∧ i.params c = false) ∧
    (∃ (s : State) (i : OpInfo) (lifeOk above : Bool) (k : CmdKey) (c : Inflight) (st : _), s.turn? k c = true ∧ c.opcode =
    i.code ∧ i.waits s c = false ∧ above = (c.classAbove ||
    (match i.clsAt with | some o => decide (leAt c.param o 1 < c.cls) | none => false)) ∧ s.issuerOk i.issuer c = true ∧
    above = false ∧ lifeOk = true ∧ i.lifeAlso s c = true ∧ entryOk i c = true ∧ c.readFail = false ∧ i.params c = true ∧
    i.first s c = some st) ∧
    (∃ (s : State) (i : OpInfo) (lifeOk above : Bool) (k : CmdKey) (c : Inflight), s.turn? k c = true ∧ c.opcode = i.code ∧
    i.waits s c = false ∧ above = (c.classAbove ||
    (match i.clsAt with | some o => decide (leAt c.param o 1 < c.cls) | none => false)) ∧ s.issuerOk i.issuer c = true ∧
    above = false ∧ lifeOk = true ∧ i.lifeAlso s c = true ∧ entryOk i c = true ∧ c.readFail = false ∧ i.params c = true ∧
    i.first s c = none ∧ s.tamperHold = true) ∧
    (∃ (s : State) (i : OpInfo) (lifeOk above : Bool) (k : CmdKey) (c : Inflight), s.turn? k c = true ∧ c.opcode = i.code ∧
    i.waits s c = false ∧ above = (c.classAbove ||
    (match i.clsAt with | some o => decide (leAt c.param o 1 < c.cls) | none => false)) ∧ s.issuerOk i.issuer c = true ∧
    above = false ∧ lifeOk = true ∧ i.lifeAlso s c = true ∧ entryOk i c = true ∧ c.readFail = false ∧ i.params c = true ∧
    i.first s c = none ∧ s.tamperHold = false ∧ i.draws c = true ∧ s.noEntropy = true) ∧
    (∃ (s : State) (i : OpInfo) (lifeOk above : Bool) (k : CmdKey) (c : Inflight), s.turn? k c = true ∧ c.opcode = i.code ∧
    i.waits s c = false ∧ above = (c.classAbove ||
    (match i.clsAt with | some o => decide (leAt c.param o 1 < c.cls) | none => false)) ∧ s.issuerOk i.issuer c = true ∧
    above = false ∧ lifeOk = true ∧ i.lifeAlso s c = true ∧ entryOk i c = true ∧ c.readFail = false ∧ i.params c = true ∧
    i.first s c = none ∧ s.tamperHold = false ∧ (i.draws c = false ∨ s.noEntropy = false) ∧ i.isDurable c = true ∧ s.holdOk
    = false) ∧
    (∃ (s : State) (i : OpInfo) (lifeOk above : Bool) (k : CmdKey) (c : Inflight), s.turn? k c = true ∧ c.opcode = i.code ∧
    i.waits s c = false ∧ above = (c.classAbove ||
    (match i.clsAt with | some o => decide (leAt c.param o 1 < c.cls) | none => false)) ∧ s.issuerOk i.issuer c = true ∧
    above = false ∧ lifeOk = true ∧ i.lifeAlso s c = true ∧ entryOk i c = true ∧ c.readFail = false ∧ i.params c = true ∧
    i.first s c = none ∧ s.tamperHold = false ∧ (i.draws c = false ∨ s.noEntropy = false) ∧ (i.isDurable c = false ∨
    s.holdOk = true)) :=
  ⟨⟨State.with1 ({ up with boot := .failed }) (cmdOf 0x0305 (par []) ([]) 0), kc, cmdOf 0x0305 (par []) ([]) 0,
   (by decide +kernel), by decide +kernel⟩,
   ⟨State.with1 ({ up with parts := [(0, { p0 with cfg := { p0.cfg with access := false } })] }) (cmdOf 0x0305 (par []) ([])
   0), { info0 with issuer := .access }, kc, cmdOf 0x0305 (par []) ([]) 0, by and_intros <;> decide +kernel⟩,
   ⟨State.with1 up ({ cmdOf 0x0305 (par []) ([]) 0 with cls := 2, flags := 8 }), info0, _, kc,
   { cmdOf 0x0305 (par []) ([]) 0 with cls := 2, flags := 8 }, by decide +kernel, by decide +kernel, (by decide +kernel),
   rfl, (by decide +kernel), by decide +kernel⟩,
   ⟨State.with1 up (cmdOf 0x0305 (par []) ([]) 0), info0, false, _, kc, cmdOf 0x0305 (par []) ([]) 0, (by decide +kernel),
   (by decide +kernel), (by decide +kernel), rfl, by and_intros <;> decide +kernel⟩,
   ⟨State.with1 up ({ cmdOf 0x0305 (par []) ([]) 0 with flags := 256 }), info0, true, _, kc,
   { cmdOf 0x0305 (par []) ([]) 0 with flags := 256 }, (by decide +kernel), (by decide +kernel), by decide +kernel, rfl,
   by and_intros <;> decide +kernel⟩,
   ⟨State.with1 up ({ cmdOf 0x0305 (par []) ([]) 0 with readFail := true }), info0, true, _, kc,
   { cmdOf 0x0305 (par []) ([]) 0 with readFail := true }, by decide +kernel, by decide +kernel, by decide +kernel, rfl,
   by and_intros <;> decide +kernel⟩,
   ⟨State.with1 up (cmdOf 0x0305 (par []) ([]) 0), { info0 with params := fun _ => false }, true, _, kc, cmdOf 0x0305 (par
   []) ([]) 0, by decide +kernel, (by decide +kernel), by decide +kernel, rfl, by and_intros <;> decide +kernel⟩,
   ⟨State.with1 up (cmdOf 0x0305 (par []) ([]) 0), { info0 with first := fun _ _ => some .noSlot }, true, _, kc, cmdOf
   0x0305 (par []) ([]) 0, _, by decide +kernel, by decide +kernel, (by decide +kernel), rfl, (by decide +kernel),
   by decide +kernel, by decide +kernel, (by decide +kernel), by decide +kernel, by decide +kernel, by decide +kernel, rfl⟩,
   ⟨State.with1 (upTamper (fun t => { t with hold := true })) (cmdOf 0x0305 (par []) ([]) 0), info0, true, _, kc, cmdOf
   0x0305 (par []) ([]) 0, (by decide +kernel), (by decide +kernel), (by decide +kernel), rfl,
   by and_intros <;> decide +kernel⟩,
   ⟨State.with1 ({ up with noEntropy := true }) (cmdOf 0x0305 (par []) ([]) 0), infoDraws, true, _, kc, cmdOf 0x0305 (par
   []) ([]) 0, (by decide +kernel), by decide +kernel, (by decide +kernel), rfl, by and_intros <;> decide +kernel⟩,
   ⟨State.with1 (up.setFld Fd.HOLD_STAT_HOLD_OK 0) (cmdOf 0x0305 (par []) ([]) 0), infoDurable, true, _, kc, cmdOf 0x0305
   (par []) ([]) 0, by decide +kernel, by decide +kernel, by decide +kernel, rfl, by and_intros <;> decide +kernel⟩,
   ⟨State.with1 up (cmdOf 0x0305 (par []) ([]) 0), info0, true, _, kc, cmdOf 0x0305 (par []) ([]) 0, by decide +kernel,
   by decide +kernel, (by decide +kernel), rfl, by and_intros <;> decide +kernel⟩⟩

theorem witness_CompletionEntry :
    (∃ (m : Compl), m.result.length ≤ 16) ∧
    (∃ (m : Compl), m.result.length ≤ 16) :=
  ⟨⟨fewBytes, by decide +kernel⟩,
   ⟨fewBytes, (by decide +kernel)⟩⟩

theorem witness_ResumeRecord :
    ∃ (r : Resume) (c : Inflight) (done : List Nat), c.ordinal ∉ done ∧ r.missing < 2 ^ 63 ∧ (r.ordinal = none → done = [])
    ∧ (∀ m, r.ordinal = some m → m ∈ done ∧ (∀ x ∈ done, x ≤ m) ∧ ∀ i, i < 63 → (bit r.missing i = true ↔ i < m ∧ m - 1 - i
    ∉ done)) :=
  ⟨noResume, cmdOf 0x0305 (par []) [] 0, [], by and_intros <;> decide +kernel⟩

theorem witness_KalmelWordsRunTheirInstruction :
    ∃ (i : Instr) (e : EngRef) (w x1 x2 x3 : Nat), i.wf = true ∧ kalmelWords i = some (e, w, x1, x2, x3) :=
  ⟨(.kNopInstruction e0), _, _, _, _, _, by decide +kernel, rfl⟩

theorem witness_StepsKeepSoundness :
    ∃ (s t : State), s.sound = true ∧ step s = .next t :=
  ⟨State.reset, _, by decide +kernel, rfl⟩

/-! ### Ill-formed commands are refused -/

/-- Partitions, pages and windows of the host's commands. -/
theorem test_wf_host :
    [Instr.devWarm 128 0, .flr 64, .resetReq 0 0x000800 0, .pageEnable 0 (2 ^ 24) 0, .pcieConfig 64 (.vfEnable true 0),
     .pcieConfig 0 (.vecMask 32 true), .pcieConfig 0 (.vfEnable true 64), .registerWrite 0 (.part 64) 0 15 0,
     .registerWrite 0 .dev (2 ^ 24) 15 0].all (fun i => !i.wf) = true := by decide

/-- Rings, entries and command keys. -/
theorem test_wf_rings :
    [Instr.sqTail 0 256 0, .sqTail 64 0 0, .hostReadError 0 (.sq 256) .timeout 0, .hostReadError 0 .evr .timeout 4096,
     .hostReadError 0 (.cq 256) .timeout 0,
     .sqFetch 0 0 { noEntry with entry := [] }, .nopCmd ⟨64, 0, 0⟩, .nopCmd ⟨0, 256, 0⟩, .nopCmd ⟨0, 0, 4096⟩,
     .appletInvoke kc e0 65536].all (fun i => !i.wf) = true := by decide

/-- Units, lanes and engine slots. -/
theorem test_wf_units :
    [Instr.hammerRequestEnd .north 16, .anvilOpEnd .north 2 none, .lateRecord ⟨.engine, .north, 36⟩, .lateRecord ⟨.hammer, .north, 16⟩,
     .lateRecord ⟨.anvil, .north, 2⟩, .bankRebuilt .north 2, .frameStart 8, .pauseReceive 0 65536, .kRetm ⟨.north, 32⟩,
     .healthWindow .north [] [], .repetitionCountFail .north 0].all (fun i => !i.wf) = true := by decide

/-- Fields of a Kalmel instruction. -/
theorem test_wf_kalmel :
    [Instr.kMov e0 16 0, .kMov e0 0 16, .kShl e0 0 (.imm 32), .kShl e0 0 (.reg 16), .kRor e0 0 32, .kMovi e0 0 64,
     .kMovw e0 0 (2 ^ 14), .kJmpcc e0 16 0, .kJmpcc e0 0 (2 ^ 14), .kShortBranch e0 0 128, .kCallm e0 256 0, .kCallm e0 0 16,
     .kMfs e0 16 0, .kMts e0 0 16, .kUop e0 16 0, .kLd e0 0 0 4096, .kSt e0 0 16 0, .kBfi e0 0 0 64 0, .kBfx e0 0 0 0 64,
     .kBperm e0 0 0 256 0, .kBperm e0 0 0 0 16, .engineEvent e0 16].all (fun i => !i.wf) = true := by decide

/-- Front end, ranging, power, tamper and ports. -/
theorem test_wf_front :
    [Instr.hsMeasurement 6 0 0, .hsMeasurement 0 65536 0, .stuckTouch 6, .lfFrameStart 256, .lfDiag 8 0 0 .bank, .lfDiag 0 7 0 .bank,
     .lfDiag 0 0 (2 ^ 20) .bank, .uhfTelegram 4 [0] 0 0, .uhfTelegram 0 (List.replicate 68 0) 0 0, .uhfTelegram 0 [0] 256 0,
     .uhfTelegram 0 [0] 0 256, .syncMatch 65536, .uwbRoundStart (2 ^ 40) 0 false, .uwbRoundStart 0 16 false,
     .uwbResponseRx (2 ^ 40), .releasePulseEnd 12, .wakePin 8 true 0, .hypothesisFailed 4 [], .tamperEvent 0 0, .tamperEvent 1 256,
     .sensorClear 8, .tapInstruction 256, .extest true (2 ^ 133), .canBusOff 2, .pmicAlert 5 none, .cardResponse []].all
      (fun i => !i.wf) = true := by decide

/-! ### Single commands -/

/-- The state a command answers. -/
def after (i : Instr) (s : State) : State :=
  match exec i s with
  | .next t => t
  | _ => State.reset

/-- A privilege-P task with k1 = a, k2 = b and product p, under the FMODE given, runs i: k1, the PC, and Z, N, C, V, G, S. -/
def kAfter (i : Instr) (fmode : BitVec 3) (a b : EWord) (p : BitVec 72) : Option (EWord × Nat × List Bool) :=
  ((after i (run { taskK .p false (0 :: a :: b :: List.replicate 13 0xC00) with fmode := fmode, p1 := p, p2 := p, p3 := p })).task?
    e0).map (fun t => (t.reg 1, t.pc, [t.fl.z, t.fl.n, t.fl.c, t.fl.v, t.fl.g, t.fl.s]))

/-- R478: the integer and the fraction ADD of 0x7_FFFF_FFFF and 1. -/
theorem test_add_edge :
    kAfter (.kAdd e0 1 2) 0 0x7FFFFFFFF 1 0 = some (0x800000000, 0x1001, [false, true, false, true, false, false]) ∧
    kAfter (.kAdd e0 1 2) 1 0x7FFFFFFFF 1 0 = some (0x7FFFFFFFF, 0x1001, [false, false, false, true, true, true]) := by
  decide +kernel

/-- R478: the integer and the fraction ABS of 0x8_0000_0000. -/
theorem test_abs_edge :
    kAfter (.kAbs e0 1) 0 0x800000000 0 0 = some (0x800000000, 0x1001, [false, true, false, true, false, false]) ∧
    kAfter (.kAbs e0 1) 1 0x800000000 0 0 = some (0x7FFFFFFFF, 0x1001, [false, false, false, true, true, true]) := by
  decide +kernel

/-- R478: the fraction PMV of 3 x 2^30 under the four RND codes. -/
theorem test_pmv_rounding :
    [1, 3, 5, 7].map (fun m => (kAfter (.kPmv e0 1) m 0 0 0xC0000000).map (·.1)) = [some 1, some 2, some 2, some 1] := by
  decide +kernel

/-- R478: the fraction SAR of 5 by 1 under the four RND codes. -/
theorem test_sar_rounding :
    [1, 3, 5, 7].map (fun m => (kAfter (.kSar e0 1 (.imm 1)) m 5 0 0).map (·.1)) = [some 2, some 3, some 2, some 2] := by
  decide +kernel

/-- R478: SHR by 36 gives 0; CLZ of 0 gives 36 with Z 0; BFX of the whole register copies it. -/
theorem test_edges :
    (kAfter (.kShr e0 1 (.reg 2)) 0 0x800000000 36 0).map (·.1) = some 0 ∧
    (kAfter (.kClz e0 1 2) 0 1 0 0).map (fun x => (x.1, x.2.2.head?)) = some (36, some false) ∧
    (kAfter (.kBfx e0 1 2 0 36) 0 0 0xABCDEF123 0).map (·.1) = some 0xABCDEF123 := by
  decide +kernel

/-- SUB of a greater number borrows (R456). -/
theorem test_sub_borrow :
    kAfter (.kSub e0 1 2) 0 0 1 0 = some (0xFFFFFFFFF, 0x1001, [false, true, true, false, false, false]) := by decide +kernel

/-- A shift amount field of 0 means 32 places (R458). -/
theorem test_shl_32 : (kAfter (.kShl e0 1 (.imm 0)) 0 3 0 0).map (·.1) = some 0x300000000 := by decide +kernel

/-- ROR sets C to bit 35 of its result (R456, R458). -/
theorem test_ror :
    kAfter (.kRor e0 1 1) 0 1 0 0 = some (0x800000000, 0x1001, [false, true, true, false, false, false]) := by decide +kernel

/-- MOVI extends its sign, ANDW extends by zeros in two words, MOVL joins three parts in four words (R460, R461). -/
theorem test_immediates :
    (kAfter (.kMovi e0 1 63) 0 0 0 0).map (·.1) = some 0xFFFFFFFFF ∧
    (kAfter (.kAndw e0 1 0x3FFF) 0 0xFFFFFFFFF 0 0).map (fun x => (x.1, x.2.1)) = some (0x3FFF, 0x1002) ∧
    (kAfter (.kMovl e0 1 0x123456789) 0 0 0 0).map (fun x => (x.1, x.2.1)) = some (0x123456789, 0x1004) := by
  decide +kernel

/-- The worked UOP2: with k6 = 5 and k7 = 9 it leaves k6 = 4, with C 1 from the borrow (the example after R478). -/
theorem test_uop2 :
    ((after (.kUop e0 2 6) (State.withDecode (run (taskK .p true (List.replicate 6 0 ++ [5, 9] ++ List.replicate 8 0xC00)))
      (List.replicate 16 0x1800 ++ [0x2301, 0x0050, 0x1800]))).task? e0).map
      (fun t => (t.reg 6, t.pc, [t.fl.z, t.fl.n, t.fl.c, t.fl.v])) = some (4, 0x1001, [false, false, true, false]) := by
  decide +kernel

/-- Words of the worked examples after R478, and others written out from R451, R457, R458, R464 and R465. -/
theorem test_words :
    [Instr.kMovw e0 15 0x1C00, .kCallm e0 5 15, .kMul e0 0 1, .kMac e0 2 3, .kAddi e0 12 1, .kPmv e0 0, .kRetm e0, .kUop e0 2 6,
     .kRor e0 2 0, .kMfs e0 3 4, .kMts e0 2 6, .kLd e0 1 2 0, .kPop e0 4].map (fun i => (kalmelWords i).map (fun x => x.2.1)) =
    [some 0x050F, some 0x305F, some 0x2C01, some 0x2E23, some 0x141C, some 0x0070, some 0x0002, some 0x0326, some 0x0E02,
     some 0x0134, some 0x0226, some 0x0412, some 0x0024] := by decide

/-- The worked distance of R267-R269: 120 cm and 10.0 ppm, VALID with MIN_SCORE 0. -/
theorem test_distance :
    let r := (withUwb ((up.setFld Fd.UWB_LIMIT_D_LIMIT_CM 200).setFld Fd.UWB_POLICY_MIN_SCORE 0)).judgeOpened
      (roundT (95845954 + 6144) (95845954 + 95846656)) found0 (some 255) (some (95846400, 95848126, 198, 0))
    (r.outcome, r.dist, r.ppm10) = (.valid, 120, 100) := by decide +kernel

/-- The worked Reservoir of R654: at 18.38 uAh level 2 steps to 3, and at 58.18 uAh level 3 steps back to 2. -/
def upPlan (level : Nat) (store : Int) : State :=
  (({ up with deviceTime := 10000000000000, ledger := { LedgerSt.init with
        budget := 20, horizon := 7, store := store, demand := [(0, 9444 * 7 * 3600)] } }.setFld
    (Fd.HS_CFG_EN 0) 1).setFld (Fd.HS_CFG_EN 1) 1).setFld Fd.RV_STAT_LEVEL level
theorem test_reservoir :
    ((after (.reservoirPlan ⟨390, 8, 1500⟩) (upPlan 2 18380)).level, (after (.reservoirPlan ⟨390, 8, 1500⟩) (upPlan 3 58180)).level) =
      (3, 2) ∧
    (after (.reservoirPlan ⟨390, 8, 1500⟩) (upPlan 2 18700)).level = 2 := by decide +kernel

/-- The worked CALLM of R424: three words, the header 0x0_5000_1A42 lowest, and k14 at it. -/
theorem test_callm :
    let s := after (.kCallm e0 5 15) (run { taskK .a false (List.replicate 14 0 ++ [0xC00, 0x1C00]) with pc := 0x1A41 })
    ((s.task? e0).map (fun t => (t.reg 14, t.pc)), mapGet (s.eng e0).dm 0xBFD) = (some (0xBFD, 0x1C00), some 0x050001A42) := by
  decide +kernel

/-- Candidates of 8 received bits: above the last value, and the next turn of the low bits, as the example after R349 has it. -/
theorem test_candidate : candidate 8 0x180 0x85 = 0x185 ∧ candidate 8 0x000123F0 5 = 0x00012405 ∧ candidate 8 0x1FF 0xFF = 0x2FF := by decide

/-- 2 uC that lower VHOLD by 20 mV show 100 uF (R66). -/
theorem test_hold_cap : (after (.holdCapMeasure 20000) State.reset).fld Fd.HOLD_STAT_HOLD_CAP_UF = 100 := by decide +kernel

/-- A fifth sync match drops the oldest hypothesis and counts it (R237). -/
theorem test_hyp_drop :
    (after (.syncMatch (up.fld Fd.UHF_SYNC_SYNC)) (upWin (win 1000000000 1 none [0, 0, 0, 0]) up)).fld Fd.UHF_CNT1_HYP_DROP = 1 := by decide +kernel

/-- A wake of PW_ALARM shows source 10 (R641). -/
theorem test_alarm_wake : bit ((after .alarmWake (up.setFld Fd.PW_ALARM_LO_TIME 1)).fld Fd.PW_WAKE_STAT_SRC) 10 = true := by decide +kernel

/-- Idle time passes one period of the 38.4 MHz reference: 24 of them are 625 ns. -/
theorem test_periods : (Nat.repeat State.tick 24 up).deviceTime = up.deviceTime + 625 := by decide +kernel

/-- The worked components of the results page of 07: a spread of 18 units, a difference of 25 and 0.930 of the pulses. -/
theorem test_components : (cirNear (18 * 1024), cirNear (25 * 1024), cirC5 [(930, 1000)]) = (219, 205, 219) := by decide +kernel

/-- C4 at q of 0, -10, -20 and -24 dB and at 10 dB, by hand from R270 and the results page of 07. -/
theorem test_c4 :
    (cirC4 29 1 0, cirC4 29 10 0, cirC4 29 100 0, cirC4 2900 25118 0, cirC4 290 1 0) = (15, 135, 255, 255, 0) := by decide +kernel

/-- One tap of magnitude 100 at 96 and PMULT 128: the threshold is 50, crossed half-way between taps 95 and 96 (R279). -/
theorem test_first_path :
    firstPath 22 128 (List.replicate 96 0 ++ [10000] ++ List.replicate 159 0) 0 = some (6112 * 1024) := by decide +kernel

end Sys2Proof.Machine
end

section
/-! PROOF. The passing of device time on an empty queue (00_scope.md R11, R12; 18_power_and_reservoir.md R640), which is the
model's choice (log 7): the laws of a tick, then a clock whose total is spread over the periods of a round, as device time is
on either reference and the RTC on the crystal. -/

namespace Sys2Proof.Machine

/-! ### What a tick changes and what it leaves -/

@[simp] theorem tick_deviceTime (s : State) : s.tick.deviceTime = s.deviceTime + s.tickNs.1 := rfl
@[simp] theorem tick_refPhase (s : State) : s.tick.refPhase = s.tickNs.2 := rfl
@[simp] theorem tick_supply (s : State) : s.tick.supply = s.supply := rfl
@[simp] theorem tick_domains (s : State) : s.tick.domains = s.domains := rfl
@[simp] theorem tick_fld (s : State) (f : Fld) : s.tick.fld f = s.fld f := rfl
@[simp] theorem tick_parked (s : State) : s.tick.parked = s.parked := rfl

theorem tick_rtc (s : State) : s.tick.rtc = if s.supply.lostXtal then s.rtc else s.rtc + s.tickNs.1 := rfl

@[simp] theorem tick_ref38At (s : State) : s.tick.power.ref38At = s.power.ref38At := by
  simp only [State.tick]
  split <;> rfl

/-! ### Which reference counts -/

theorem onRef38_iff (s : State) :
    s.onRef38 = true ↔ s.supply.lostRef38 = false ∧
      (s.fld Fd.PW_STAT_STATE < 2 ∨ (bit s.domains 8 = true ∧ s.power.ref38At + 1000000 ≤ s.deviceTime)) := by
  simp [State.onRef38, State.parked]

/-- The reference goes on counting: a tick moves device time forward alone. -/
theorem onRef38_tick {s : State} (h : s.onRef38 = true) : s.tick.onRef38 = true := by
  rw [onRef38_iff] at h ⊢
  obtain ⟨hlost, hawake | ⟨hdom, hmon⟩⟩ := h
  · exact ⟨hlost, .inl hawake⟩
  · refine ⟨hlost, .inr ⟨hdom, ?_⟩⟩
    rw [tick_ref38At, tick_deviceTime]
    omega

/-- Device time counts the crystal however long it runs: the crystal is there, and the reference is lost or, in a parked state,
its domain is off. -/
def State.staysOnXtal (s : State) : Prop :=
  s.supply.lostXtal = false ∧ (s.supply.lostRef38 = true ∨ (2 ≤ s.fld Fd.PW_STAT_STATE ∧ bit s.domains 8 = false))

theorem onRef38_of_staysOnXtal {s : State} (h : s.staysOnXtal) : s.onRef38 = false := by
  rw [← Bool.not_eq_true, onRef38_iff]
  obtain ⟨-, hlost | ⟨hparked, hdom⟩⟩ := h
  · simp [hlost]
  · simp [hdom, Nat.not_lt.mpr hparked]

theorem tickNs_onRef38 {s : State} (h : s.onRef38 = true) :
    s.tickNs = (refStep s.refPhase, (s.refPhase % 24 + 1) % 24) := by
  simp only [State.tickNs, h, if_true]

theorem tickNs_staysOnXtal {s : State} (h : s.staysOnXtal) :
    s.tickNs = (xtalStep s.refPhase, (s.refPhase % 64 + 1) % 64) := by
  simp [State.tickNs, onRef38_of_staysOnXtal h, h.1]

theorem tickNs_lost {s : State} (hx : s.supply.lostXtal = true) (hr : s.supply.lostRef38 = true) :
    s.tickNs = (0, s.refPhase) := by
  simp [State.tickNs, State.onRef38, hx, hr]

/-! ### A total spread over the periods of a round -/

/-- Whole rounds add whole totals: the share at a place of the round, and that of the count the place comes from. -/
theorem share_mod {periods : Nat} (hpos : 0 < periods) (total k j : Nat) :
    (k % periods + j) * total / periods + k / periods * total = (k + j) * total / periods := by
  rw [← Nat.add_mul_div_left _ _ hpos]
  congr 1
  conv_rhs => rw [← Nat.mod_add_div k periods]
  ring

/-- A period whose length is the difference of two shares within the round ends at the next share. -/
theorem share_step {periods : Nat} (hpos : 0 < periods) (total k : Nat) :
    k * total / periods + ((k % periods + 1) * total / periods - k % periods * total / periods) =
      (k + 1) * total / periods := by
  have hhere := share_mod hpos total k 0
  have hnext := share_mod hpos total k 1
  have hmono : k % periods * total / periods ≤ (k % periods + 1) * total / periods :=
    Nat.div_le_div_right (Nat.mul_le_mul_right _ (Nat.le_succ _))
  rw [Nat.add_zero, Nat.add_zero] at hhere
  omega

/-- Place k of the 24 (R11) takes the whole part of k shares of 625 / 24 ns to that of k + 1. -/
theorem refStep_spread (k : Nat) : k * 625 / 24 + refStep k = (k + 1) * 625 / 24 := by
  have hshare (j : Nat) : j * 625 / 24 = 26 * j + j / 24 := by omega
  rw [hshare, hshare, refStep]
  split <;> omega

/-- Place k of the 64 (R640) takes the whole part of k shares of 1,953,125 / 64 ns to that of k + 1. -/
theorem xtalStep_spread (k : Nat) : k * 1953125 / 64 + xtalStep k = (k + 1) * 1953125 / 64 := by
  rw [xtalStep]
  exact share_step (by omega) 1953125 k

theorem xtalStep_range (k : Nat) : xtalStep k = 30517 ∨ xtalStep k = 30518 := by
  simp only [xtalStep]
  omega

/-- A tick keeps P, and from a state of P it takes the next place of a round of `periods` and moves the clock, a number read off
the state, from the whole part of one even share of `total` to that of the next. -/
def Spreads (P : State → Prop) (clock : State → Nat) (total periods : Nat) : Prop :=
  ∀ s, P s → P s.tick ∧ s.tick.refPhase = (s.refPhase + 1) % periods ∧
    s.refPhase * total / periods + clock s.tick = clock s + (s.refPhase + 1) * total / periods

theorem spreads_onRef38 : Spreads (·.onRef38 = true) State.deviceTime 625 24 := by
  intro s h
  have hspread := refStep_spread s.refPhase
  refine ⟨onRef38_tick h, ?_, ?_⟩
  · rw [tick_refPhase, tickNs_onRef38 h, Nat.mod_add_mod]
  · rw [tick_deviceTime, tickNs_onRef38 h]
    omega

theorem spreads_xtal_deviceTime : Spreads State.staysOnXtal State.deviceTime 1953125 64 := by
  intro s h
  have hspread := xtalStep_spread s.refPhase
  refine ⟨h, ?_, ?_⟩
  · rw [tick_refPhase, tickNs_staysOnXtal h, Nat.mod_add_mod]
  · rw [tick_deviceTime, tickNs_staysOnXtal h]
    omega

/-- On the crystal the RTC advances with device time. -/
theorem tick_rtc_staysOnXtal {s : State} (h : s.staysOnXtal) : s.tick.rtc = s.rtc + s.tickNs.1 := by
  simp [tick_rtc, h.1]

theorem spreads_xtal_rtc : Spreads State.staysOnXtal State.rtc 1953125 64 := by
  intro s h
  obtain ⟨hstays, hphase, htime⟩ := spreads_xtal_deviceTime s h
  refine ⟨hstays, hphase, ?_⟩
  rw [tick_deviceTime] at htime
  rw [tick_rtc_staysOnXtal h]
  omega

section
variable {P : State → Prop} {clock : State → Nat} {total periods : Nat} {s : State}

/-- After n ticks the place and the clock are those of the n-th share counted on from here. -/
theorem Spreads.repeat_tick (hspread : Spreads P clock total periods) (hpos : 0 < periods) (hs : P s)
    (hphase : s.refPhase < periods) (n : Nat) :
    P (Nat.repeat State.tick n s) ∧ (Nat.repeat State.tick n s).refPhase = (s.refPhase + n) % periods ∧
    s.refPhase * total / periods + clock (Nat.repeat State.tick n s) = clock s + (s.refPhase + n) * total / periods := by
  induction n with
  | zero => exact ⟨hs, (Nat.mod_eq_of_lt hphase).symm, Nat.add_comm _ _⟩
  | succ n ih =>
    obtain ⟨hP, hplace, hclock⟩ := ih
    obtain ⟨hP', hplace', hclock'⟩ := hspread _ hP
    have hhere := share_mod hpos total (s.refPhase + n) 0
    have hnext := share_mod hpos total (s.refPhase + n) 1
    rw [hplace] at hclock'
    simp only [Nat.add_zero] at hhere
    refine ⟨hP', ?_, ?_⟩
    · rw [Nat.repeat, hplace', hplace, Nat.mod_add_mod, Nat.add_assoc]
    · rw [Nat.repeat, ← Nat.add_assoc]
      omega

/-- A whole round adds the total and ends at the place where it began. -/
theorem Spreads.round (hspread : Spreads P clock total periods) (hs : P s) (hphase : s.refPhase < periods) :
    clock (Nat.repeat State.tick periods s) = clock s + total ∧
    (Nat.repeat State.tick periods s).refPhase = s.refPhase := by
  have hpos : 0 < periods := Nat.zero_lt_of_lt hphase
  obtain ⟨-, hplace, hclock⟩ := hspread.repeat_tick hpos hs hphase periods
  rw [Nat.add_mul, Nat.add_mul_div_left _ _ hpos] at hclock
  refine ⟨by omega, ?_⟩
  rw [hplace, Nat.add_mod_right, Nat.mod_eq_of_lt hphase]

end

/-! ### The statement -/

/-- Settles O54: each reference spreads its total over its round, so a round adds the total. -/
theorem referencePeriods : Obligations.ReferencePeriods := by
  unfold Obligations.ReferencePeriods
  refine ⟨fun s hlost hmon hphase => ?_, fun s hlost hoff hphase => ?_, fun s hx hr => ?_⟩
  · have hon : s.onRef38 = true := (onRef38_iff s).mpr ⟨hlost, hmon⟩
    refine ⟨?_, spreads_onRef38.round hon hphase⟩
    rw [tick_deviceTime, tickNs_onRef38 hon, refStep, Nat.mod_eq_of_lt hphase]
  · have hon : s.staysOnXtal := ⟨hlost, hoff⟩
    refine ⟨?_, (spreads_xtal_deviceTime.round hon hphase).1, (spreads_xtal_rtc.round hon hphase).1⟩
    rw [tick_deviceTime, tickNs_staysOnXtal hon]
    obtain h | h := xtalStep_range s.refPhase <;> simp [h]
  · simp [tick_rtc, tickNs_lost hx hr, hx]

end Sys2Proof.Machine
end

section
/-! PROOF. The layout of a completion entry (05_command_rings.md R180): a number written in n bytes reads back from its offset, so
each field of the entry does. -/

namespace Sys2Proof.Machine

/-! ### Numbers and fields in byte strings -/

@[simp] theorem length_leBytes (n v : Nat) : (leBytes n v).length = n := by
  induction n generalizing v with
  | zero => rfl
  | succ n ih => rw [leBytes, List.length_cons, ih]

/-- The number read back is the one written, as far as n bytes hold it. -/
theorem leNat_leBytes (n v : Nat) : leNat (leBytes n v) = v % 256 ^ n := by
  induction n generalizing v with
  | zero => simp [leBytes, leNat, Nat.mod_one]
  | succ n ih => rw [leBytes, leNat, ih, BitVec.toNat_ofNat, show 2 ^ 8 = 256 from rfl, Nat.pow_succ', Nat.mod_mul]

/-- What is appended behind a field does not reach it. -/
theorem slice_append_of_le {a : Bytes} {o n : Nat} (h : o + n ≤ a.length) (b : Bytes) : slice (a ++ b) o n = slice a o n := by
  have hn : n ≤ (a.drop o).length := by rw [List.length_drop]; omega
  rw [slice, List.drop_append_of_le_length (by omega), List.take_append_of_le_length hn, slice]

theorem slice_zero_length (b : Bytes) : slice b 0 b.length = b := by
  simp [slice]

theorem slice_append_length (a b : Bytes) : slice (a ++ b) a.length b.length = b := by
  simp [slice]

theorem leAt_append_of_le {a : Bytes} {o n : Nat} (h : o + n ≤ a.length) (b : Bytes) : leAt (a ++ b) o n = leAt a o n := by
  rw [leAt, slice_append_of_le h, leAt]

theorem leAt_leBytes (n v : Nat) : leAt (leBytes n v) 0 n = v % 256 ^ n := by
  have hslice := slice_zero_length (leBytes n v)
  rw [length_leBytes] at hslice
  rw [leAt, hslice, leNat_leBytes]

/-- The last field of a prefix, at the offset where what stands before it ends. -/
theorem leAt_append_leBytes {a : Bytes} {o : Nat} (h : a.length = o) (n v : Nat) :
    leAt (a ++ leBytes n v) o n = v % 256 ^ n := by
  have hslice := slice_append_length a (leBytes n v)
  rw [length_leBytes, h] at hslice
  rw [leAt, hslice, leNat_leBytes]

theorem padTo_of_length_le {n : Nat} {bs : Bytes} (h : bs.length ≤ n) :
    padTo n bs = bs ++ List.replicate (n - bs.length) 0 := by
  rw [padTo, slice, List.drop_zero, List.take_of_length_le h]

theorem length_padTo (n : Nat) (bs : Bytes) : (padTo n bs).length = n := by
  simp [padTo, slice]

/-! ### The fields of an entry -/

/-- The 16 bytes before RESULT (R180). -/
def Compl.header (m : Compl) (head : Nat) (phase : Bool) : Bytes :=
  leBytes 4 m.tag ++ leBytes 2 m.status ++ leBytes 1 m.sq ++ leBytes 1 (b2n phase) ++ leBytes 2 head ++
  leBytes 2 m.detail ++ leBytes 4 m.written

theorem complBytes_eq_header_append (m : Compl) (head : Nat) (phase : Bool) :
    complBytes m head phase = m.header head phase ++ padTo 16 m.result := rfl

@[simp] theorem length_header (m : Compl) (head : Nat) (phase : Bool) : (m.header head phase).length = 16 := by
  simp [Compl.header]

/-- A field before offset 16 is one of the header. -/
theorem leAt_complBytes (m : Compl) (head : Nat) (phase : Bool) {o n : Nat} (h : o + n ≤ 16) :
    leAt (complBytes m head phase) o n = leAt (m.header head phase) o n := by
  rw [complBytes_eq_header_append, leAt_append_of_le (by rwa [length_header])]

/-- Behind the header stand the bytes of RESULT, then zeros. -/
theorem drop_complBytes {m : Compl} (h : m.result.length ≤ 16) (head : Nat) (phase : Bool) :
    (complBytes m head phase).drop 16 = m.result ++ List.replicate (16 - m.result.length) 0 := by
  rw [complBytes_eq_header_append, List.drop_left' (length_header ..), padTo_of_length_le h]

/-- Settles O57: each field is the last of a prefix of the entry, and what follows it does not reach it. -/
theorem completionEntry : Obligations.CompletionEntry := by
  unfold Obligations.CompletionEntry
  rintro m head phase _ hres rfl
  have hphase : b2n phase % 256 = if phase then 1 else 0 := by cases phase <;> rfl
  have hrest := drop_complBytes hres head phase
  refine ⟨?length, ?tag, ?status, ?sq, ?flags, ?head, ?detail, ?written, ?result, ?zeros⟩
  case length => rw [complBytes_eq_header_append, List.length_append, length_header, length_padTo]
  case result => rw [hrest, List.take_left]
  case zeros =>
    intro x hx
    rw [← List.drop_drop, hrest, List.drop_left] at hx
    exact List.eq_of_mem_replicate hx
  all_goals
    rw [leAt_complBytes _ _ _ (by decide), Compl.header]
    simp [-List.append_assoc, leAt_append_of_le, leAt_append_leBytes, leAt_leBytes, hphase]

end Sys2Proof.Machine
end

section
/-! PROOF. The resume record (05_command_rings.md R194): what a commit does to the part that covers all commands, and the bits of
MISSING on each of its three ways to move. -/

namespace Sys2Proof.Machine

/-! ### The record after a commit -/

theorem commit_of_ordinal_none {r : Resume} (h : r.ordinal = none) (c : Inflight) (durable : Bool) :
    (r.commit c durable).ordinal = some c.ordinal ∧ (r.commit c durable).missing = 2 ^ min 63 c.ordinal - 1 ∧
    (r.commit c durable).index = c.key.idx ∧ (r.commit c durable).tag = c.tag := by
  cases durable <;> cases hd : r.durOrdinal <;> simp [Resume.commit, h, hd]

theorem commit_of_ordinal_some {r : Resume} {m : Nat} (h : r.ordinal = some m) (c : Inflight) (durable : Bool) :
    (r.commit c durable).ordinal = some (max m c.ordinal) ∧
    (r.commit c durable).missing = missingAfter m r.missing c.ordinal ∧
    (r.commit c durable).index = (if m < c.ordinal then c.key.idx else r.index) ∧
    (r.commit c durable).tag = (if m < c.ordinal then c.tag else r.tag) := by
  cases durable <;> cases hd : r.durOrdinal <;> simp [Resume.commit, h, hd]

/-! ### The bits of MISSING -/

/-- A bit that is set is taken away without a borrow. -/
theorem testBit_sub_two_pow {m i : Nat} (h : m.testBit i = true) (j : Nat) :
    (m - 2 ^ i).testBit j = true ↔ m.testBit j = true ∧ j ≠ i := by
  induction i generalizing m j with
  | zero =>
    rw [Nat.testBit_zero, decide_eq_true_iff] at h
    cases j with
    | zero => simp only [Nat.testBit_zero, decide_eq_true_iff]; omega
    | succ j =>
      have hhalf : (m - 2 ^ 0) / 2 = m / 2 := by omega
      rw [Nat.testBit_add_one, Nat.testBit_add_one, hhalf]
      exact iff_self_and.mpr fun _ => Nat.succ_ne_zero j
  | succ i ih =>
    have hle : 2 ^ i * 2 ≤ m := Nat.ge_two_pow_of_testBit h
    rw [Nat.pow_succ]
    cases j with
    | zero => simp only [Nat.testBit_zero, decide_eq_true_iff]; omega
    | succ j =>
      have hhalf : (m - 2 ^ i * 2) / 2 = m / 2 - 2 ^ i := by omega
      rw [Nat.testBit_add_one] at h
      rw [Nat.testBit_add_one, Nat.testBit_add_one, hhalf, ih h, Nat.succ_ne_succ_iff]

/-- Clearing bit i leaves every other bit. -/
theorem bit_clrBit (m i j : Nat) : bit (clrBit m i) j = true ↔ bit m j = true ∧ j ≠ i := by
  rw [bit, bit, clrBit]
  split
  next h => exact testBit_sub_two_pow h j
  next h =>
    have hne : m.testBit j = true → j ≠ i := fun hj hji => h (hji ▸ hj)
    exact ⟨fun hj => ⟨hj, hne hj⟩, And.left⟩

theorem clrBit_le (m i : Nat) : clrBit m i ≤ m := by
  rw [clrBit]
  split
  · exact Nat.sub_le _ _
  · exact Nat.le_refl _

/-- MISSING tells the entries before entry m that are not in `done`: bit i is that of the entry 1 + i places before (R194). -/
def TellsMissing (missing m : Nat) (done : List Nat) : Prop :=
  ∀ i, i < 63 → (bit missing i = true ↔ i < m ∧ m - 1 - i ∉ done)

/-- The first entry to commit finds every one before it missing. -/
theorem tellsMissing_first (n : Nat) : TellsMissing (2 ^ min 63 n - 1) n [n] := by
  intro i hi
  rw [bit, Nat.testBit_two_pow_sub_one, decide_eq_true_iff, List.mem_singleton]
  omega

section
variable {missing m n : Nat} {done : List Nat}

/-- A later entry moves the mask up: the entries passed over are missing, and the last of before is not. -/
theorem tellsMissing_missingAfter_of_lt (hlt : m < n) (hm : m ∈ done) (hmax : ∀ x ∈ done, x ≤ m)
    (h : TellsMissing missing m done) : TellsMissing (missingAfter m missing n) n (n :: done) := by
  obtain ⟨k, rfl⟩ : ∃ k, n = m + 1 + k := ⟨n - (m + 1), by omega⟩
  have hpassed : 2 ^ k - 1 < 2 ^ (k + 1) := by
    have := Nat.pow_lt_pow_succ (n := k) (show 1 < 2 by decide)
    omega
  intro i hi
  have hbit : bit (missingAfter m missing (m + 1 + k)) i = if i < k + 1 then decide (i < k) else bit missing (i - (k + 1)) := by
    rw [missingAfter, if_pos hlt, show m + 1 + k - m = k + 1 by omega, Nat.mul_comm, bit, Nat.testBit_mod_two_pow,
      decide_eq_true hi, Bool.true_and, Nat.add_sub_cancel, Nat.testBit_two_pow_mul_add _ hpassed,
      Nat.testBit_two_pow_sub_one, bit]
  rw [hbit, List.mem_cons]
  obtain hik | rfl | hik := Nat.lt_trichotomy i k
  · have hpast : m + 1 + k - 1 - i ∉ done := fun hmem => absurd (hmax _ hmem) (by omega)
    have hother : m + 1 + k - 1 - i ≠ m + 1 + k := by omega
    rw [if_pos (by omega), decide_eq_true hik, not_or]
    exact iff_of_true rfl ⟨by omega, hother, hpast⟩
  · simp [hm]
  · have hold := h (i - (k + 1)) (by omega)
    rw [if_neg (by omega), hold, show m - 1 - (i - (k + 1)) = m + 1 + k - 1 - i by omega, not_or]
    have hother : m + 1 + k - 1 - i ≠ m + 1 + k := by omega
    exact and_congr (by omega) (iff_and_self.mpr fun _ => hother)

/-- An earlier entry loses its bit. -/
theorem tellsMissing_missingAfter_of_gt (hgt : n < m) (h : TellsMissing missing m done) :
    TellsMissing (missingAfter m missing n) m (n :: done) := by
  intro i hi
  rw [missingAfter, if_neg (by omega), if_pos hgt, bit_clrBit, h i hi, List.mem_cons, not_or, and_assoc]
  refine and_congr_right fun him => ?_
  rw [and_comm]
  exact and_congr_left' (by omega)

theorem missingAfter_lt (h : missing < 2 ^ 63) : missingAfter m missing n < 2 ^ 63 := by
  rw [missingAfter]
  split
  · exact Nat.mod_lt _ (by decide)
  · split
    · exact (clrBit_le _ _).trans_lt h
    · exact h

/-- An entry not seen before keeps the mask true of the last entry in submission order. -/
theorem tellsMissing_missingAfter (hn : n ∉ done) (hm : m ∈ done) (hmax : ∀ x ∈ done, x ≤ m)
    (h : TellsMissing missing m done) : TellsMissing (missingAfter m missing n) (max m n) (n :: done) := by
  obtain hlt | rfl | hgt := Nat.lt_trichotomy m n
  · rw [max_eq_right hlt.le]
    exact tellsMissing_missingAfter_of_lt hlt hm hmax h
  · exact absurd hm hn
  · rw [max_eq_left hgt.le]
    exact tellsMissing_missingAfter_of_gt hgt h

/-- The later of m and n is the last of those that have committed. -/
theorem max_mem_cons_and_le (hm : m ∈ done) (hmax : ∀ x ∈ done, x ≤ m) :
    max m n ∈ n :: done ∧ ∀ x ∈ n :: done, x ≤ max m n := by
  constructor
  · obtain h | h := max_choice m n <;> simp [h, hm]
  · rw [List.forall_mem_cons]
    exact ⟨le_max_right m n, fun x hx => (hmax x hx).trans (le_max_left m n)⟩

end

/-! ### The statement -/

/-- Settles O58: the first commit starts the mask, a later entry moves it up, an earlier one clears its bit. -/
theorem resumeRecord : Obligations.ResumeRecord := by
  unfold Obligations.ResumeRecord
  intro r c durable done hnew hlt hnone hsome
  cases hr : r.ordinal with
  | none =>
    obtain rfl := hnone hr
    obtain ⟨hord, hmissing, hindex, htag⟩ := commit_of_ordinal_none hr c durable
    have hbound : 2 ^ min 63 c.ordinal ≤ 2 ^ 63 := Nat.pow_le_pow_right (by decide) (Nat.min_le_left ..)
    refine ⟨c.ordinal, hord, List.mem_cons_self, by simp, ?_, ?_, fun _ => ⟨hindex, htag⟩, fun h => absurd rfl h⟩
    · rw [hmissing]
      omega
    · rw [hmissing]
      exact tellsMissing_first c.ordinal
  | some m =>
    obtain ⟨hm, hmax, htells⟩ := hsome m hr
    obtain ⟨hord, hmissing, hindex, htag⟩ := commit_of_ordinal_some hr c durable
    obtain ⟨hmem, hlast⟩ := max_mem_cons_and_le (n := c.ordinal) hm hmax
    have hne : c.ordinal ≠ m := fun h => hnew (h ▸ hm)
    refine ⟨max m c.ordinal, hord, hmem, hlast, ?_, ?_, fun h => ?_, fun h => ?_⟩
    · rw [hmissing]
      exact missingAfter_lt hlt
    · rw [hmissing]
      exact tellsMissing_missingAfter hnew hm hmax htells
    · have hlater : m < c.ordinal := by omega
      rw [hindex, htag, if_pos hlater, if_pos hlater]
      exact ⟨rfl, rfl⟩
    · have hearlier : ¬ m < c.ordinal := by omega
      rw [hindex, htag, if_neg hearlier, if_neg hearlier]
      exact ⟨rfl, rfl⟩

end Sys2Proof.Machine
end

section
/-! PROOF. The distance and the verdict of a ranging round (07_ranging.md R248, R268, R272, R275): how far the rounded distance is
from the exact one, and what a VALID round has passed. -/

namespace Sys2Proof.Machine

/-! ### The nearest centimetre -/

/-- The rounded quotient is at most half a unit off, and where it is half a unit off it is the value farther from zero. -/
theorem roundDiv_nearest (num : Int) {den : Nat} (hden : 0 < den) :
    2 * (roundDiv num den * den - num).natAbs ≤ den ∧
    (2 * (roundDiv num den * den - num).natAbs = den → num.natAbs ≤ (roundDiv num den * den).natAbs) := by
  have hpos : (0 : Int) < 2 * den := by omega
  have hquot (x : Int) : x / (2 * den) * den * 2 ≤ x ∧ x < x / (2 * den) * den * 2 + 2 * den := by
    have hdiv := Int.mul_ediv_add_emod x (2 * den)
    have hnonneg := Int.emod_nonneg x hpos.ne'
    have hlt := Int.emod_lt_of_pos x hpos
    have hcomm : 2 * (den : Int) * (x / (2 * den)) = x / (2 * den) * den * 2 := by ring
    omega
  rw [roundDiv]
  split
  case isTrue hneg =>
    have h := hquot (-num * 2 + den)
    rw [Int.neg_mul]
    omega
  case isFalse hnonneg =>
    have h := hquot (num * 2 + den)
    omega

/-- Settles O41: DIST_CM is the rounded quotient of num times 469,176 by den times 1,000,000. -/
theorem distanceRounding : Obligations.DistanceRounding := by
  unfold Obligations.DistanceRounding
  intro num den hden
  have h := roundDiv_nearest (num * 469176) (show 0 < den * 1000000 by omega)
  rwa [Nat.cast_mul, Nat.cast_ofNat] at h

/-! ### The lowest of the scores -/

theorem le_foldl_min (l : List Nat) (a k : Nat) : k ≤ l.foldl Nat.min a ↔ ∀ v ∈ a :: l, k ≤ v :=
  List.le_min_iff (l := a :: l) (by simp)

theorem foldl_min_mem (l : List Nat) (a : Nat) : l.foldl Nat.min a ∈ a :: l :=
  List.min_mem (l := a :: l) (by simp)

/-- The six values whose lowest is the score of a round (R272). -/
def RngResult.scores (r : RngResult) : List Nat :=
  [r.comps.c1, r.comps.c2, r.comps.c3, r.comps.c4, r.comps.c5, r.keyScore]

/-! ### The checks of a VALID round -/

/-- A result whose checks of R275 have all passed, the REPORT opened among them. -/
structure State.ChecksPass (s : State) (m : CirFound) (reportC1 : Option Nat) (opened : Option (Nat × Nat × Nat × Nat))
    (tround1 treply2 : Nat) (r : RngResult) : Prop where
  comps : r.comps = m.comps
  reportC1 : s.uwbFld Fd.UWB_POLICY_MIN_SCORE ≤ reportC1.getD 0
  scores : ∀ v ∈ r.scores, s.uwbFld Fd.UWB_POLICY_MIN_SCORE ≤ v
  score : r.score = r.scores.foldl Nat.min 255
  notNegative : -(s.uwbFld Fd.UWB_POLICY_NEG_LIMIT_CM : Int) ≤ r.dist
  notTooFar : r.dist ≤ s.uwbFld Fd.UWB_LIMIT_D_LIMIT_CM
  report : ∃ treply1 tround2 flags num den, opened = some (treply1, tround2, r.keyScore, flags) ∧
    s.uwbFld Fd.UWB_KEYWIN_REPLY_MIN_US * 638976 ≤ treply1 * 10 ∧
    treply1 * 10 ≤ s.uwbFld Fd.UWB_KEYWIN_REPLY_MAX_US * 638976 ∧
    num = tofNum tround1 tround2 treply1 treply2 ∧ den = tofDen tround1 tround2 treply1 treply2 ∧
    r.dist = distCm num den ∧
    ((clockOffset tround2 treply2 num den).1.natAbs : Int) * 1000000 ≤
      (s.uwbFld Fd.UWB_POLICY_PPM_MAX : Int) * (clockOffset tround2 treply2 num den).2

/-- The first check that fails gives the outcome (R275), so a VALID result has passed it and comes from what follows. -/
theorem check_passed {p : Prop} [Decidable p] {failed rest r : RngResult} (hvalid : r.outcome = .valid)
    (hr : r = if p then failed else rest) (hfailed : failed.outcome ≠ .valid) : ¬ p ∧ r = rest := by
  split at hr
  · exact absurd hvalid (hr ▸ hfailed)
  · exact ⟨‹_›, hr⟩

section
variable {s : State} {x : Round} {m : CirFound} {reportC1 : Option Nat} {opened : Option (Nat × Nat × Nat × Nat)}
  {t4 tround1 treply2 : Nat} {r : RngResult}

/-- A VALID result has passed each check, in the order of R275. -/
theorem checksPass_of_valid (hr : r = s.judgeOpened x m reportC1 opened) (hvalid : r.outcome = .valid)
    (ht4 : (t4 : Int) = ((x.t4c : Int) + m.firstPath - 6144) % 2 ^ 40)
    (htround1 : tround1 = (t4 + 2 ^ 40 - x.t1 % 2 ^ 40) % 2 ^ 40) (htreply2 : treply2 = (x.t5 + 2 ^ 40 - t4) % 2 ^ 40) :
    s.ChecksPass m reportC1 opened tround1 treply2 r := by
  have hstamp : (((x.t4c : Int) + m.firstPath - 96 * 64) % tsMod).toNat = t4 := congrArg Int.toNat ht4.symm
  have hround : (t4 + tsMod - x.t1 % tsMod) % tsMod = tround1 := htround1.symm
  have hreply : (x.t5 + tsMod - t4) % tsMod = treply2 := htreply2.symm
  simp only [State.judgeOpened, hstamp, hround, hreply, Bool.or_eq_true, decide_eq_true_eq] at hr
  obtain ⟨hc1, hr⟩ := check_passed hvalid hr nofun
  obtain ⟨hc23, hr⟩ := check_passed hvalid hr nofun
  obtain ⟨hc45, hr⟩ := check_passed hvalid hr nofun
  split at hr
  case h_1 => exact absurd hvalid (hr ▸ nofun)
  case h_2 treply1 tround2 keyScore flags hsome =>
    obtain ⟨hreport, hopened⟩ := Option.ite_none_left_eq_some.mp hsome
    obtain ⟨hkey, hr⟩ := check_passed hvalid hr nofun
    obtain ⟨hwindow, hr⟩ := check_passed hvalid hr nofun
    obtain ⟨hclock, hr⟩ := check_passed hvalid hr nofun
    obtain ⟨hneg, hr⟩ := check_passed hvalid hr nofun
    obtain ⟨hfar, rfl⟩ := check_passed hvalid hr nofun
    simp only [not_or, not_lt] at hc1 hc23 hc45 hreport hkey hwindow hclock hneg hfar
    obtain ⟨hfast, hslow⟩ := hwindow
    refine ⟨rfl, hreport, ?_, rfl, hneg, hfar, treply1, tround2, flags, _, _, hopened, hfast, hslow, rfl, rfl, rfl, hclock⟩
    obtain ⟨hc2, hc3⟩ := hc23
    obtain ⟨hc4, hc5⟩ := hc45
    simp only [RngResult.scores, List.forall_mem_cons]
    exact ⟨hc1, hc2, hc3, hc4, hc5, hkey, List.forall_mem_nil _⟩

end

/-- Settles O42: a VALID result has passed every check, and the lowest of its six values is its score. -/
theorem validRound : Obligations.ValidRound := by
  unfold Obligations.ValidRound
  refine ⟨fun s x c rep => rfl, fun s x m c1 t4 tround1 treply2 opened r hr hvalid hmin ht4 hround hreply => ?_⟩
  have hpass := checksPass_of_valid hr hvalid ht4 hround hreply
  have hlowest := (le_foldl_min r.scores 255 r.score).mp hpass.score.le
  have hscore : s.uwbFld Fd.UWB_POLICY_MIN_SCORE ≤ r.score := by
    rw [hpass.score, le_foldl_min]
    exact List.forall_mem_cons.mpr ⟨hmin, hpass.scores⟩
  have hmem : r.score ∈ 255 :: r.scores := hpass.score ▸ foldl_min_mem r.scores 255
  have hbound : (s.bound r : Int) = max 0 r.dist + s.uwbFld Fd.UWB_POLICY_MARGIN_CM := by
    rw [State.bound, Nat.cast_add, Int.toNat_of_nonneg (Int.le_max_left 0 r.dist)]
  exact ⟨hpass.reportC1, hscore, (List.forall_mem_cons.mp hlowest).2, hmem, hpass.comps, hpass.notNegative, hpass.notTooFar,
    hbound, hpass.report⟩

end Sys2Proof.Machine
end

section
/-! PROOF. The table of first responses (19_tamper.md R670), row by row: one lemma for each group of sensors with the same row. -/

namespace Sys2Proof.Machine

/-- MESH and LIGHT show an opened package, which RETURN answers like FIELD. -/
theorem firstResponse_of_mesh_light {sensor : Nat} (h : sensor = 1 ∨ sensor = 2) (life : Nat) :
    firstResponse life sensor = if life = 3 ∨ life = 4 then 3 else if life = 5 ∨ life = 6 then 4 else 0 := by
  have hstrap : sensor ≠ 7 := by omega
  have hopens : (sensor == 1 || sensor == 2) = true := by simpa using h
  simp only [firstResponse, hstrap, hopens, if_true, if_false]
  split_ifs <;> omega

/-- GLITCH, CLOCK and TEMP, which unlike LINK only log in RETURN. -/
theorem firstResponse_of_glitch_clock_temp {sensor : Nat} (hlo : 3 ≤ sensor) (hhi : sensor ≤ 5) (life : Nat) :
    firstResponse life sensor = if 3 ≤ life ∧ life ≤ 5 then 1 else 0 := by
  have hstrap : sensor ≠ 7 := by omega
  have hlink : sensor ≠ 6 := by omega
  have hopens : (sensor == 1 || sensor == 2) = false := by simp; omega
  simp only [firstResponse, hstrap, hlink, hopens, Bool.false_eq_true, if_false]
  split_ifs <;> omega

theorem firstResponse_link (life : Nat) : firstResponse life 6 = if 3 ≤ life ∧ life ≤ 6 then 1 else 0 := by
  simp only [firstResponse, Nat.reduceBEq, Bool.or_self, Nat.reduceEqDiff, Bool.false_eq_true, if_true, if_false]
  split_ifs <;> omega

theorem firstResponse_strap (life : Nat) : firstResponse life 7 = 0 := rfl

/-- Settles O48: the row of each sensor, read in the seven life-cycle states. -/
theorem firstResponses : Obligations.FirstResponses := by
  unfold Obligations.FirstResponses
  intro life sensor hlifeLo hlifeHi hsensorLo hsensorHi
  obtain hopens | ⟨hlo, hhi⟩ | rfl | rfl :
      (sensor = 1 ∨ sensor = 2) ∨ (3 ≤ sensor ∧ sensor ≤ 5) ∨ sensor = 6 ∨ sensor = 7 := by omega
  · rw [firstResponse_of_mesh_light hopens]
    obtain rfl | rfl := hopens <;> interval_cases life <;> rfl
  · rw [firstResponse_of_glitch_clock_temp hlo hhi]
    interval_cases sensor <;> interval_cases life <;> rfl
  · rw [firstResponse_link]
    interval_cases life <;> rfl
  · rw [firstResponse_strap]
    interval_cases life <;> rfl

end Sys2Proof.Machine
end

section
/-! PROOF. Where the fetch of a word and the row of its instruction part (12_kalmel_instruction_set.md R464; 17_halves_and_consistency.md
R613): END as a row brings the engine's result to its port of the Weir, END fetched as a word does not. -/

namespace Sys2Proof.Machine

/-- Slot 0 of North runs a task at privilege F, with the gates open and both collectors at rest. -/
def stateAtEnd : State :=
  State.updEng { State.reset with gatesOpen := true } ⟨.north, 0⟩ (fun x => { x with task := some idleTask })

/-- The port each collector served last. -/
def State.weirTokens (s : State) : List Nat := s.halves.weirs.map (·.token)

/-- The row of END takes the result in at port 0, that of the slot's engine. -/
theorem weirTokens_execEnd : ∃ t, exec (.kEnd ⟨.north, 0⟩) stateAtEnd = .next t ∧ t.weirTokens = [0, 63] := ⟨_, rfl, by decide⟩

/-- The fetch of END leaves the collectors where they were. -/
theorem weirTokens_runWord_end : (stateAtEnd.runWord ⟨.north, 0⟩ 1 0 0 0).weirTokens = [63, 63] := by decide

/-- Refutes O59: END, whose one word is 1, moves the token of North's collector as a row and not as a fetched word. -/
theorem not_kalmelWordsRunTheirInstruction : ¬ Obligations.KalmelWordsRunTheirInstruction := by
  unfold Obligations.KalmelWordsRunTheirInstruction
  intro h
  obtain ⟨-, -, -, -, hsame⟩ := h stateAtEnd (.kEnd ⟨.north, 0⟩) ⟨.north, 0⟩ 1 0 0 0 rfl rfl
  obtain ⟨t, hrow, htokens⟩ := weirTokens_execEnd
  obtain rfl : t = stateAtEnd.runWord ⟨.north, 0⟩ 1 0 0 0 := by simpa [hrow] using hsame
  rw [weirTokens_runWord_end] at htokens
  exact absurd htokens (by decide)

end Sys2Proof.Machine
end

section
/-! PROOF. The commands of the Crucible (13_crucible.md R485-R508): past the checks of R202 a command runs its own rules, and each
lemma here says which end those rules give when their objects hold. -/

namespace Sys2Proof.Machine

/-- Past its checks a command answers with the end its own rules give. -/
theorem next_runCmd {s : State} {k : CmdKey} {c : Inflight} {i : OpInfo} {lifeOk : Bool} {body : State → Inflight → Work} {w : Work}
    (h : s.passes k c i lifeOk = true) (hw : body s c = w) :
    (.next (s.runCmd i lifeOk body k) : Host.Outcome State Fault Refusal) = .next (w.settle s k c) := by
  rw [runCmd_passes h, hw]

/-- A target that is a slot is held by no one else. -/
theorem targetHeld_of_target {s : State} {p n m : Nat} (h : s.target p n = .slot m) : s.targetHeld p n = none := by
  unfold State.target at h
  split at h
  · cases h
  · assumption
  · assumption

variable {s t : State} {c : Inflight} {n : Nat}

theorem generateWork_slot (h : s.target c.key.part (c.p32 0) = .slot n) :
    generateWork s c = commitSlot n ((s.draw ((materialLen c.keySpec.ktype).getD 0)).fillSlot c.key.part n c.keySpec
      (s.drawn ((materialLen c.keySpec.ktype).getD 0))) (slotResult n) := by
  simp only [generateWork, h]

theorem importWork_slot {w : KeySlot} (ht : s.target c.key.part (c.p32 0) = .slot n)
    (hw : s.useSlot c.key.part (c.p32 20) (fun x => isAes x.ktype && bit x.attr atUnwrap) = .ok w)
    (hu : s.takeUse (c.p32 20) false = .ok t) :
    importWork s c = if Config.primOk .kwCheck [w.aesKey, c.input] then
        commitSlot n (t.fillSlot c.key.part n c.keySpec (Config.prim .kwUnwrap [w.aesKey, c.input] (c.inLen - 8))) (slotResult n)
      else .finish (t.bump Fd.HM_CNT_AUTHFAIL_COUNT) (.fail .authFail) := by
  simp only [importWork, targetHeld_of_target ht, hw, ht, hu, Take.andThen]

theorem deriveWork_slot {w : KeySlot} (ht : s.target c.key.part (c.p32 0) = .slot n)
    (hw : s.useSlot c.key.part (c.p32 20) (fun x => bit x.attr atDerive) = .ok w) (hb : w.binding ≤ c.keySpec.binding)
    (he : bit c.keySpec.attr atExportable = true → bit w.attr atExportable = true) (hu : s.takeUse (c.p32 20) false = .ok t) :
    deriveWork s c = commitSlot n (t.fillSlot c.key.part n c.keySpec (childMaterial c.key.part c.keySpec w.material c.input))
      (slotResult n) := by
  have hwider : (decide (c.keySpec.binding < w.binding) || (bit c.keySpec.attr atExportable && !bit w.attr atExportable)) = false := by
    simp only [Bool.or_eq_false_iff, decide_eq_false_iff_not, Bool.and_eq_false_imp, Bool.not_eq_false']
    exact ⟨by omega, he⟩
  simp only [deriveWork, targetHeld_of_target ht, hw, hwider, Bool.false_eq_true, if_false, ht, hu, Take.andThen]

theorem exportWork_ok {x w : KeySlot} (hx : s.useSlot c.key.part (c.p32 0) (fun x => bit x.attr atExportable) = .ok x)
    (hw : s.useSlot c.key.part (c.p32 4) (fun x => isAes x.ktype && bit x.attr atWrap) = .ok w)
    (hlen : x.material.length + 8 ≤ c.outLen) (hu : s.takeUse (c.p32 4) false = .ok t) :
    exportWork s c = .finish t { status := .ok, out := Config.prim .kwWrap [w.aesKey, x.material] (x.material.length + 8) } := by
  simp only [exportWork, hx, hw, if_neg (Nat.not_lt.mpr hlen), hu, Take.andThen]

theorem destroyWork_own {x : KeySlot} (h : s.ownSlot c.key.part (c.p32 0) = some x) :
    destroyWork s c = commitSlot (c.p32 0) (s.destroySlot (c.p32 0)) .done := by
  simp only [destroyWork, h]

theorem infoWork_own {x : KeySlot} (h : s.ownSlot c.key.part (c.p32 0) = some x) :
    infoWork s c = .finish s { status := .ok, out := s.keyInfo (c.p32 0) x } := by
  simp only [infoWork, h]

theorem counterReadWork_ok {x : KeySlot} (h : s.useCounter c.key.part (c.p16 0) = .ok x) :
    counterReadWork s c = .finish s { status := .ok, result := x.material } := by
  simp only [counterReadWork, h]

theorem counterCreateWork_slot (h : s.target c.key.part (c.p16 0) = .slot n) :
    counterCreateWork s c = .commit (s.fillSlot c.key.part n { ktype := 0x20, binding := 0, attr := 0, limit := 0 }
      (List.replicate 8 0)) (slotResult n) := by
  simp only [counterCreateWork, h]

theorem counterIncWork_ok {x : KeySlot} (h : s.useCounter c.key.part (c.p16 0) = .ok x) :
    counterIncWork s c = if leNat x.material + c.p32 4 < 2 ^ 64 then
        .commit (s.writeSlot (c.p16 0) { x with material := leBytes 8 (leNat x.material + c.p32 4), gen := x.gen + 1 })
          { status := .ok, result := leBytes 8 (leNat x.material + c.p32 4) }
      else .finish s { status := .badParam, detail := 0x0D05 } := by
  simp only [counterIncWork, h]
  rw [← ite_not]
  simp only [Nat.not_le]

theorem sealWork_ok {x : KeySlot} {b : Nat} (hx : s.useSlot c.key.part (c.p32 0) sealFits = .ok x)
    (hb : b = if c.p8 4 = 0xFF then x.binding else c.p8 4) (hle : x.binding ≤ b) (he : s.exactRefused b = false)
    (hu : s.takeUse (c.p32 0) false = .ok t) {floor : Nat} (hf : floor = if b = 1 then t.keys.svn else 0) {nonce : Bytes}
    (hn : nonce = t.drawn 12) :
    sealWork s c = .finish (t.drawAt (t.drawHalf c) 12)
      { status := .ok,
        out := t.sealHeader b floor nonce c.inLen ++
        (gcmSeal (t.sealKey x.material b floor) nonce (t.sealHeader b floor nonce c.inLen) c.input).1 ++
        (gcmSeal (t.sealKey x.material b floor) nonce (t.sealHeader b floor nonce c.inLen) c.input).2 } := by
  subst hf hn
  simp only [sealWork, hx, ← hb, if_neg (Nat.not_lt.mpr hle), he, Bool.false_eq_true, if_false, hu, Take.andThen]

theorem unsealWork_ok {x : KeySlot} (hx : s.useSlot c.key.part (c.p32 0) sealFits = .ok x)
    (hbind : slice c.input 28 16 = s.bindNow (leAt c.input 5 1)) (hsvn : leAt c.input 8 4 ≤ s.keys.svn)
    (he : s.exactRefused (leAt c.input 5 1) = false) (hu : s.takeUse (c.p32 0) false = .ok t) :
    unsealWork s c = match gcmOpen (t.sealKey x.material (leAt c.input 5 1) (leAt c.input 8 4)) (slice c.input 12 12)
        (c.input.take 44) (slice c.input 44 (leAt c.input 24 4)) (slice c.input (44 + leAt c.input 24 4) 16) with
      | some pt => .finish t { status := .ok, out := pt }
      | none => t.authFail c := by
  simp only [unsealWork, hx, hbind, ne_eq, not_true_eq_false, decide_false, Nat.not_lt.mpr hsvn, he, Bool.or_self,
    Bool.false_eq_true, if_false, hu, Take.andThen] <;> rfl

/-- Settles O1: each command past its checks has the end of its own rules, which settles as a commit where the slot is persistent. -/
theorem keyStoreCommands : Obligations.KeyStoreCommands := by
  unfold Obligations.KeyStoreCommands
  refine ⟨?generate, ?imported, ?derive, ?destroy, ?exported, ?info, ?create, ?increment, ?read, ?sealed, ?unsealed⟩
  case generate =>
    intro s k c n hp ht hm
    refine (next_runCmd hp (generateWork_slot ht)).trans ?_
    rw [settle_commitSlot hm, slotResult]
  case imported =>
    intro s t k c n w hp hw ht hu hm
    refine (next_runCmd hp (importWork_slot ht hw hu)).trans ?_
    split_ifs
    · rw [settle_commitSlot hm, slotResult]
    · rfl
  case derive =>
    intro s t k c n w hp hw hb he ht hu hm
    refine (next_runCmd hp (deriveWork_slot ht hw hb he hu)).trans ?_
    rw [settle_commitSlot hm, slotResult]
  case destroy =>
    intro s k c x hp hx hm
    refine (next_runCmd hp (destroyWork_own hx)).trans ?_
    rw [settle_commitSlot hm]
  case exported =>
    intro s t k c x w hp hx hw hlen hu
    exact next_runCmd hp (exportWork_ok hx hw hlen hu)
  case info =>
    intro s k c x hp hx
    exact next_runCmd hp (infoWork_own hx)
  case create =>
    intro s k c n hp ht hm
    refine (next_runCmd hp (counterCreateWork_slot ht)).trans ?_
    rw [settle_commit hm, slotResult]
  case increment =>
    intro s k c x hp hx hm
    refine (next_runCmd hp (counterIncWork_ok hx)).trans ?_
    split_ifs
    · rw [settle_commit hm]
    · rfl
  case read =>
    intro s k c x hp hx
    exact next_runCmd hp (counterReadWork_ok hx)
  case sealed =>
    intro s t k c x b hp hx hb hle he hu
    exact next_runCmd hp (sealWork_ok hx hb hle he hu rfl rfl)
  case unsealed =>
    intro s t k c x hp hx hbind hsvn he hu
    refine (next_runCmd hp (unsealWork_ok hx hbind hsvn he hu)).trans ?_
    generalize gcmOpen _ _ _ _ _ = o
    cases o <;> rfl

end Sys2Proof.Machine
end

section
/-! PROOF. The commands of the Hammers, the digest units, the Bellows and the Anvils (10_hammers.md R376-R404; 14_anvils.md
R511-R533; 15_wellhead_and_bellows.md R549-R554): the end that each command's own rules give. -/

namespace Sys2Proof.Machine

@[simp] theorem length_drawn (s : State) (n : Nat) : (s.drawn n).length = n := by simp [State.drawn]

/-- A refusal that is no binding mismatch is a plain end. -/
theorem refuse_eq {r : Reply} (h : r.status ≠ .keyBoundMismatch) (s : State) : s.refuse r = .finish s r := by
  rw [State.refuse, if_neg h]

variable {s t : State} {k : CmdKey} {c : Inflight} {x y : KeySlot}

/-! ### Hammers and digests -/

theorem encryptWork_ok (hx : s.useSlot c.key.part (c.p32 0) (fitsMode c.mode) = .ok x)
    (hu : s.takeUse (c.p32 0) c.countsDraw = .ok t) :
    encryptWork s c = .finish (t.drewNonce c)
      { status := .ok, result := t.nonceResult c,
        out := aeadText c.mode x.aesKey (t.nonceOf c) (c.input.drop c.aadLen) ++
          aeadTag c.mode c.tagLen x.aesKey (t.nonceOf c) (c.input.take c.aadLen) (c.input.drop c.aadLen)
            (aeadText c.mode x.aesKey (t.nonceOf c) (c.input.drop c.aadLen)) } := by
  simp only [encryptWork, hx, hu, Take.andThen]

theorem decryptWork_ok (hx : s.useSlot c.key.part (c.p32 0) (fitsMode c.mode) = .ok x)
    (hu : s.takeUse (c.p32 0) false = .ok t) {n : Nat} (hn : n = c.inLen - c.aadLen - c.tagLen) {ct pt : Bytes}
    (hct : ct = slice c.input c.aadLen n) (hpt : pt = aeadText c.mode x.aesKey (slice c.param 8 c.nonceLen) ct) :
    decryptWork s c =
      if aeadTag c.mode c.tagLen x.aesKey (slice c.param 8 c.nonceLen) (c.input.take c.aadLen) pt ct =
          slice c.input (c.aadLen + n) c.tagLen then .finish t { status := .ok, out := pt }
      else t.authFail c := by
  subst hn hct hpt
  simp only [decryptWork, hx, hu, Take.andThen]

theorem macGenWork_ok (hx : s.useSlot c.key.part (c.p32 0) (fitsMode c.mode) = .ok x)
    (hu : s.takeUse (c.p32 0) c.countsDraw = .ok t) :
    macGenWork s c = .finish (t.drewNonce c)
      { status := .ok, result := t.nonceResult c, out := macTag c.mode c.tagLen x.aesKey (t.nonceOf c) c.input } := by
  simp only [macGenWork, hx, hu, Take.andThen]

theorem macVerWork_ok (hx : s.useSlot c.key.part (c.p32 0) (fitsMode c.mode) = .ok x)
    (hu : s.takeUse (c.p32 0) false = .ok t) :
    macVerWork s c =
      if macTag c.mode c.tagLen x.aesKey (slice c.param 8 c.nonceLen) (c.input.take (c.inLen - c.tagLen)) =
          slice c.input (c.inLen - c.tagLen) c.tagLen then .finish t .done
      else .finish (t.bump Fd.HM_CNT_AUTHFAIL_COUNT) (.fail .authFail) := by
  simp only [macVerWork, hx, hu, Take.andThen]

theorem wrapWork_ok (hx : s.useSlot c.key.part (c.p32 0) (fun x => isAes x.ktype && bit x.attr atWrap) = .ok x)
    (hu : s.takeUse (c.p32 0) false = .ok t) :
    wrapWork s c = .finish t { status := .ok, out := Config.prim .kwWrap [x.aesKey, c.input] (c.inLen + 8) } := by
  simp only [wrapWork, hx, hu, Take.andThen]

theorem unwrapWork_ok (hx : s.useSlot c.key.part (c.p32 0) (fun x => isAes x.ktype && bit x.attr atUnwrap) = .ok x)
    (hu : s.takeUse (c.p32 0) false = .ok t) :
    unwrapWork s c = if Config.primOk .kwCheck [x.aesKey, c.input] then
        .finish t { status := .ok, out := Config.prim .kwUnwrap [x.aesKey, c.input] (c.inLen - 8) }
      else t.authFail c := by
  simp only [unwrapWork, hx, hu, Take.andThen]

theorem digestWork_some {n : Nat} (h : digestLen (c.p8 0) = some n) :
    digestWork s c = .finish s { status := .ok, out := digest (c.p8 0) c.input (if n = 0 then c.outLen else n) } := by
  cases n <;> simp [digestWork, h]

/-! ### Signatures -/

theorem keygenWork_slot {n : Nat} (h : s.target c.key.part (c.p32 0) = .slot n) {len : Nat}
    (hlen : len = (materialLen (c.p16 4)).getD 0) :
    keygenWork s c = commitSlot n
      (((s.draw len).fillSlot c.key.part n { ktype := c.p16 4, binding := c.p8 6, attr := c.p32 8, limit := 0 } (s.drawn len)).countOp)
      { status := .ok, result := leBytes 4 n, out := publicKey (c.p16 4) (s.drawn len) } := by
  subst hlen
  simp only [keygenWork, h, keygenSpec, slotResult]

theorem signWork_one (hh : isHybrid (c.p8 8) = false)
    (hx : s.usePrivate c.key.part (c.p32 0) ((signType (c.p8 8)).getD 0) atSign = .ok x)
    (hu : s.takeUse (c.p32 0) false = .ok t) :
    signWork s c = .finish ((t.drawAt (t.drawHalf c) 64).countOp)
      { status := .ok, out := signOne (c.p8 8) x.material c.input (t.drawn 64) } := by
  have hall : (t.drawn 64).take 64 = t.drawn 64 := List.take_of_length_le (length_drawn t 64).le
  simp only [signWork, hx, hh, Bool.false_eq_true, if_false, hu, Take.andThen, signWith, signDraw, hall]

theorem signWork_hybrid (hh : isHybrid (c.p8 8) = true)
    (hx : s.usePrivate c.key.part (c.p32 0) ((signType (c.p8 8)).getD 0) atSign = .ok x)
    (hy : s.usePrivate c.key.part (c.p32 4) 0x211 atSign = .ok y) (hu : s.takeUses [c.p32 0, c.p32 4] = .ok t) :
    signWork s c = .finish ((t.drawAt (t.drawHalf c) 128).countOp)
      { status := .ok,
        out := signOne (hybridClassic (c.p8 8)) x.material c.input ((t.drawn 128).take 64) ++
          signOne 0x30 y.material c.input ((t.drawn 128).drop 64) } := by
  simp only [signWork, hx, hy, hh, if_true, hu, Take.andThen, signWith, signDraw, Nat.reduceMul]

/-! ### Secrets into result slots (R513, R520, R521) -/

/-- A result slot that passes without a public input passes or fails by its public input alone. -/
theorem secretCheck_eq {p n : Nat} (h : s.secretCheck p n none = none) (input : Option Reply) : s.secretCheck p n input = input := by
  unfold State.secretCheck at h ⊢
  split at h
  · split_ifs at h ⊢
    rfl
  · split at h
    · split_ifs at h
      cases h
    · rfl

theorem combined_fresh {n : Nat} (h : slotIndex n = 0xFFFF) (s : State) (p : Nat) : s.combined p n = none := by
  rw [State.combined, if_pos h]

theorem secretUses_fresh {n : Nat} (h : slotIndex n = 0xFFFF) (s : State) (p : Nat) : s.secretUses p n = [] := by
  simp [State.secretUses, combined_fresh h]

theorem secretUses_combined {p n : Nat} (h : (s.combined p n).isSome = true) : s.secretUses p n = [n] := by
  rw [State.secretUses, if_pos h]

@[simp] theorem takeUses_nil (s : State) : s.takeUses [] = .ok s := rfl

/-- A secret into a free slot: a fresh key derivation key. -/
theorem storeSecret_fresh {m n : Nat} (hm : slotIndex m = 0xFFFF) (ht : t.target c.key.part m = .slot n) (alg binding : Nat)
    (secret out : Bytes) :
    t.storeSecret c m alg binding secret out = commitSlot n
      ((t.fillSlot c.key.part n { ktype := 0x10, binding := binding, attr := 0x420, limit := 0 }
        ((sha384 (ascii "FXSS" ++ leBytes 1 alg ++ secret)).take 32)).countOp)
      { status := .ok, result := leBytes 4 n, out := out } := by
  simp only [State.storeSecret, combined_fresh hm, ht, slotResult]

/-- A secret into a held key derivation key is combined into it. -/
theorem storeSecret_combined {n : Nat} {w : KeySlot} (hw : t.combined c.key.part n = some w) (alg binding : Nat)
    (secret out : Bytes) :
    t.storeSecret c n alg binding secret out = commitSlot n
      ((t.fillSlot c.key.part n { ktype := 0x10, binding := max w.binding binding, attr := w.attr, limit := 0 }
        (kdf w.material (ascii "FXHYB") (leBytes 1 alg ++ secret) 256)).countOp)
      { status := .ok, result := leBytes 4 n, out := out } := by
  simp only [State.storeSecret, hw, slotResult]

/-- PK_AGREE up to its secret: the checks of the peer's key come first, then the uses and the store. -/
theorem agreeWork_eq {ty len : Nat} {z : Bytes} (ha : agreeType (c.p8 8) = some (ty, len))
    (hx : s.usePrivate c.key.part (c.p32 0) ty atAgree = .ok x)
    (hz : z = Config.prim .agree [leBytes 1 (c.p8 8), x.material, c.input] len)
    (hs : s.secretCheck c.key.part (c.p32 4) none = none)
    (hu : s.takeUses (c.p32 0 :: s.secretUses c.key.part (c.p32 4)) = .ok t) :
    agreeWork s c =
      if c.p8 8 ≠ 0x06 && !(c.input.take 1 == [0x04] && Config.primOk .pointOk [leBytes 1 (c.p8 8), c.input]) then
        .finish s { status := .badParam, detail := 0x0E02 }
      else if c.p8 8 = 0x06 && allZero z then .finish s { status := .badParam, detail := 0x0E03 }
      else t.storeSecret c (c.p32 4) (c.p8 8) x.binding z [] := by
  subst hz
  simp only [agreeWork, ha, hx, secretCheck_eq hs, peerCheck, hu, Take.andThen]
  split_ifs <;> rfl

/-- KEM_ENCAPS up to its secret: the check of the key comes first, then the uses, the draw and the store. -/
theorem encapsWork_eq {sk ek ct : Nat} (hk : kemSizes (c.p8 4) = some (sk, ek, ct))
    (hs : s.secretCheck c.key.part (c.p32 0) none = none) (hu : s.takeUses (s.secretUses c.key.part (c.p32 0)) = .ok t) :
    encapsWork s c =
      if Config.primOk .pointOk [leBytes 1 (c.p8 4), c.input] then
        (t.draw 32).storeSecret c (c.p32 0) (c.p8 4) 0 (Config.prim .kemSecret [leBytes 1 (c.p8 4), c.input, t.drawn 32] 32)
          (Config.prim .kemCipher [leBytes 1 (c.p8 4), c.input, t.drawn 32] ct)
      else .finish s { status := .badParam, detail := 0x0E02 } := by
  simp only [encapsWork, hk, secretCheck_eq hs, hu, Take.andThen]
  split_ifs <;> rfl

theorem decapsWork_eq {alg sk ek ct : Nat} (hx : s.ownSlot c.key.part (c.p32 0) = some x) (ha : kemAlg x.ktype = some alg)
    (hk : kemSizes alg = some (sk, ek, ct)) (hlen : c.inLen = ct)
    (hy : s.useSlot c.key.part (c.p32 0) (fun q => bit q.attr atAgree) = .ok y)
    (hs : s.secretCheck c.key.part (c.p32 4) none = none)
    (hu : s.takeUses (c.p32 0 :: s.secretUses c.key.part (c.p32 4)) = .ok t) :
    decapsWork s c =
      t.storeSecret c (c.p32 4) alg y.binding (Config.prim .kemDecap [leBytes 1 alg, y.material, c.input] 32) [] := by
  simp only [decapsWork, hx, ha, hk, hlen, ne_eq, not_true_eq_false, if_false, hy, hs, hu, Take.andThen]

theorem settle_ite (p : Prop) [Decidable p] (a b : Work) :
    (if p then a else b).settle s k c = if p then a.settle s k c else b.settle s k c := apply_ite (fun w => w.settle s k c) p a b

/-- A failed tag settles as its end. -/
theorem settle_authFail (t : State) : (t.authFail c).settle s k c = (t.bump Fd.HM_CNT_AUTHFAIL_COUNT).finish c false
    { status := .authFail, out := if c.compat then [] else List.replicate c.outLen 0 } := rfl

/-- Settles O2: each command past its checks has the end of its own rules; a result slot settles as a commit. -/
theorem algorithmCommands : Obligations.AlgorithmCommands := by
  unfold Obligations.AlgorithmCommands
  refine ⟨?encrypt, ?decrypt, ?macGenerate, ?macVerify, ?wrap, ?unwrap, ?digest, ?random, ?keygen, ?signOne, ?signHybrid, ?verify,
    ?agreeFresh, ?agreeCombined, ?encapsFresh, ?encapsCombined, ?decapsFresh, ?decapsCombined, ?attest⟩
  case encrypt => exact fun s t k c x hp hx hu => next_runCmd hp (encryptWork_ok hx hu)
  case decrypt =>
    intro s t k c x n ct pt hp hx hu hn hct hpt
    refine (next_runCmd hp (decryptWork_ok hx hu hn hct hpt)).trans ?_
    rw [settle_ite, settle_finish, settle_authFail]
  case macGenerate => exact fun s t k c x hp hx hu => next_runCmd hp (macGenWork_ok hx hu)
  case macVerify =>
    intro s t k c x hp hx hu
    refine (next_runCmd hp (macVerWork_ok hx hu)).trans ?_
    rw [settle_ite, settle_finish, settle_finish]
  case wrap => exact fun s t k c x hp hx hu => next_runCmd hp (wrapWork_ok hx hu)
  case unwrap =>
    intro s t k c x hp hx hu
    refine (next_runCmd hp (unwrapWork_ok hx hu)).trans ?_
    rw [settle_ite, settle_finish, settle_authFail]
  case digest => exact fun s k c n hp hn => next_runCmd hp (digestWork_some hn)
  case random => exact fun s k c hp => next_runCmd hp (w := .finish _ _) rfl
  case keygen =>
    intro s k c n len hp ht hlen hm
    refine (next_runCmd hp (keygenWork_slot ht hlen)).trans ?_
    rw [settle_commitSlot hm]
  case signOne => exact fun s t k c x hp hh hx hu => next_runCmd hp (signWork_one hh hx hu)
  case signHybrid => exact fun s u k c x y hp hh hx hy hu => next_runCmd hp (signWork_hybrid hh hx hy hu)
  case verify =>
    intro s k c hp
    refine (next_runCmd hp (body := verifyWork) rfl).trans ?_
    rw [verifyWork]
    split_ifs <;> rfl
  case agreeFresh =>
    intro s t k c x ty len n z hp ha hx hz hs hfree hu ht hm
    refine (next_runCmd hp (agreeWork_eq ha hx hz hs (by rwa [secretUses_fresh hfree]))).trans ?_
    rw [storeSecret_fresh hfree ht]
    split_ifs
    · rfl
    · rfl
    · rw [settle_commitSlot hm]
  case agreeCombined =>
    rintro s t k c x w ty len n z hp ha hx hz hs rfl hheld hu hw hm
    refine (next_runCmd hp (agreeWork_eq ha hx hz hs (by rwa [secretUses_combined hheld]))).trans ?_
    rw [storeSecret_combined hw]
    split_ifs
    · rfl
    · rfl
    · rw [settle_commitSlot hm]
  case encapsFresh =>
    intro s k c sk ek ct n hp hk hs hfree ht hm
    refine (next_runCmd hp (encapsWork_eq (t := s) hk hs (by rw [secretUses_fresh hfree, takeUses_nil]))).trans ?_
    rw [storeSecret_fresh hfree ht]
    split_ifs
    · rw [settle_commitSlot hm]
    · rfl
  case encapsCombined =>
    rintro s t k c w sk ek ct n hp hk hs rfl hheld hu hw hm
    refine (next_runCmd hp (encapsWork_eq hk hs (by rwa [secretUses_combined hheld]))).trans ?_
    rw [storeSecret_combined hw, Nat.max_zero]
    split_ifs
    · rw [settle_commitSlot hm]
    · rfl
  case decapsFresh =>
    intro s t k c x y alg sk ek ct n hp hx ha hk hlen hy hs hfree hu ht hm
    refine (next_runCmd hp (decapsWork_eq hx ha hk hlen hy hs (by rwa [secretUses_fresh hfree]))).trans ?_
    rw [storeSecret_fresh hfree ht, settle_commitSlot hm]
  case decapsCombined =>
    rintro s t k c x y w alg sk ek ct n hp hx ha hk hlen hy hs rfl hheld hu hw hm
    refine (next_runCmd hp (decapsWork_eq hx ha hk hlen hy hs (by rwa [secretUses_combined hheld]))).trans ?_
    rw [storeSecret_combined hw, settle_commitSlot hm]
  case attest =>
    intro s k c hp
    refine (next_runCmd hp (body := attestWork) rfl).trans ?_
    rw [attestWork]
    split_ifs <;> rfl

end Sys2Proof.Machine
end

section
/-! PROOF. The computations of the Kalmel engines (11_kalmel_engines.md R412-R416; 12_kalmel_instruction_set.md R456-R464): the
flags the model keeps are those of the rules, and each instruction is one `compute`. -/

namespace Sys2Proof.Machine

/-! ### Flags -/

theorem zn_eq_znFlags (f : KFlags) (r : EWord) : f.zn r = znFlags f r := by
  simp [KFlags.zn, znFlags, BitVec.msb_eq_getLsbD_last, beq_eq_decide]

/-- An exact value is outside 36 bits where its pattern reads another value. -/
theorem overflows_eq (x : Int) : overflows x = decide ((BitVec.ofInt 36 x).toInt ≠ x) := by
  rw [Bool.eq_iff_iff]
  simp only [overflows, Bool.or_eq_true, decide_eq_true_eq, BitVec.toInt_ofInt, Int.bmod_def]
  omega

/-- The pattern of a sum, and of a difference, is that of the exact value. -/
theorem add_eq_ofInt (a b : EWord) (c : Nat) : a + b + BitVec.ofNat 36 c = BitVec.ofInt 36 (a.toInt + b.toInt + c) := by
  simp [BitVec.ofInt_add]

theorem ofInt_sub (n : Nat) (x y : Int) : BitVec.ofInt n (x - y) = BitVec.ofInt n x - BitVec.ofInt n y := by
  rw [Int.sub_eq_add_neg, BitVec.ofInt_add, BitVec.ofInt_neg, BitVec.sub_eq_add_neg]

theorem sub_eq_ofInt (a b : EWord) (c : Nat) : a - b - BitVec.ofNat 36 c = BitVec.ofInt 36 (a.toInt - b.toInt - c) := by
  simp [ofInt_sub]

theorem add_eq_sumFlags (f : KFlags) (a b : EWord) (c : Nat) :
    f.add a b c = sumFlags f a b c (a + b + BitVec.ofNat 36 c) := by
  rw [KFlags.add, zn_eq_znFlags, overflows_eq, ← add_eq_ofInt]
  rfl

theorem sub_eq_diffFlags (f : KFlags) (a b : EWord) (c : Nat) :
    f.sub a b c = diffFlags f a b c (a - b - BitVec.ofNat 36 c) := by
  rw [KFlags.sub, zn_eq_znFlags, overflows_eq, ← sub_eq_ofInt]
  rfl

theorem add_eq_sumFlags_zero (f : KFlags) (a b : EWord) : f.add a b 0 = sumFlags f a b 0 (a + b) := by
  rw [add_eq_sumFlags, show BitVec.ofNat 36 0 = 0 from rfl, add_zero]

theorem sub_eq_diffFlags_zero (f : KFlags) (a b : EWord) : f.sub a b 0 = diffFlags f a b 0 (a - b) := by
  rw [sub_eq_diffFlags, show BitVec.ofNat 36 0 = 0 from rfl, sub_zero]

/-! ### Computations on a task -/

variable (t : Task) (d r imm : Nat)

theorem logic_eq (w : EWord) : t.logic d w = { t.setReg d w with fl := znFlags t.fl w } := by
  rw [Task.logic, zn_eq_znFlags]

theorem kAdc_eq : kAdc d r t = { t.setReg d (t.reg d + t.reg r + BitVec.ofNat 36 (b2n t.fl.c)) with
    fl := sumFlags t.fl (t.reg d) (t.reg r) (b2n t.fl.c) (t.reg d + t.reg r + BitVec.ofNat 36 (b2n t.fl.c)) } := by
  rw [kAdc, add_eq_sumFlags]

theorem kSbc_eq : kSbc d r t = { t.setReg d (t.reg d - t.reg r - BitVec.ofNat 36 (b2n t.fl.c)) with
    fl := diffFlags t.fl (t.reg d) (t.reg r) (b2n t.fl.c) (t.reg d - t.reg r - BitVec.ofNat 36 (b2n t.fl.c)) } := by
  rw [kSbc, sub_eq_diffFlags]

theorem cmpTo_eq (b : EWord) : cmpTo d b t = { t with fl := diffFlags t.fl (t.reg d) b 0 (t.reg d - b) } := by
  rw [cmpTo, sub_eq_diffFlags_zero]

/-- The signed product in 72 bits. -/
theorem sx72_mul (a b : EWord) : sx72 a * sx72 b = BitVec.ofInt 72 (a.toInt * b.toInt) := by
  rw [BitVec.ofInt_mul, sx72, sx72, BitVec.signExtend, BitVec.signExtend]

/-- The unsigned product in 72 bits. -/
theorem zx72_mul (a b : EWord) : zx72 a * zx72 b = BitVec.ofNat 72 (a.toNat * b.toNat) := by
  rw [BitVec.ofNat_mul, BitVec.ofNat_toNat, BitVec.ofNat_toNat, zx72, zx72]

theorem kMac_eq : kMac d r t = { t with p1 := BitVec.ofInt 72 (t.p1.toInt + (t.reg d).toInt * (t.reg r).toInt) } := by
  rw [kMac, sx72_mul, BitVec.ofInt_add, BitVec.ofInt_toInt]

theorem kMsb_eq : kMsb d r t = { t with p1 := BitVec.ofInt 72 (t.p1.toInt - (t.reg d).toInt * (t.reg r).toInt) } := by
  rw [kMsb, sx72_mul, ofInt_sub, BitVec.ofInt_toInt]

/-- A 14-bit immediate, zero-extended. -/
theorem ofNat_mod_eq_setWidth : BitVec.ofNat 36 (imm % 2 ^ 14) = (BitVec.ofNat 14 imm).setWidth 36 := by
  rw [← BitVec.ofNat_toNat, BitVec.toNat_ofNat]

variable {t} {s : State} {e : EngRef} {n : Nat}

/-- A row that computes g leaves what the rules call u. -/
theorem next_compute (h : s.canRun e t n = true) {g : Task → Task} {u : Task} (hu : g t = u) :
    (.next (s.instr e n (compute g)) : Host.Outcome State Fault Refusal) = .next (s.ran e t n u) := by
  rw [instr_compute h, hu]

/-- Settles O11: each instruction is one computation, and its flags are those of the rules. -/
theorem kalmelComputations : Obligations.KalmelComputations := by
  unfold Obligations.KalmelComputations
  refine ⟨fun s e t d r h => ?_, fun s e t d r h => ?_, fun s e t d imm h => ?_, fun s e t d imm h => ?_, fun s e t d imm h => ?_⟩
  · exact ⟨next_compute h rfl, next_compute h (logic_eq ..), next_compute h (logic_eq ..), next_compute h (logic_eq ..),
      next_compute h (kAdc_eq ..), next_compute h (kSbc_eq ..), next_compute h (cmpTo_eq ..)⟩
  · exact ⟨next_compute h (by rw [kMul, sx72_mul]), next_compute h (by rw [kMulu, zx72_mul]), next_compute h (kMac_eq ..),
      next_compute h (kMsb_eq ..)⟩
  · exact ⟨next_compute h rfl, next_compute h (logic_eq ..), next_compute h (by rw [kTst, zn_eq_znFlags]), next_compute h rfl⟩
  · refine ⟨next_compute h rfl, next_compute h (cmpTo_eq ..), ?_⟩
    rw [← ofNat_mod_eq_setWidth]
    exact ⟨next_compute h (logic_eq ..), next_compute h (logic_eq ..), next_compute h (logic_eq ..)⟩
  · exact next_compute h rfl

end Sys2Proof.Machine
end

section
/-! PROOF. Integer arithmetic of the Kalmel engines (11_kalmel_engines.md R413; 12_kalmel_instruction_set.md R456-R461). -/

namespace Sys2Proof.Machine

variable {t : Task} (hf : t.fmode.getLsbD 0 = false) (d : Nat)
include hf

theorem addTo_integer (b : EWord) :
    addTo d b t = { t.setReg d (t.reg d + b) with fl := sumFlags t.fl (t.reg d) b 0 (t.reg d + b) } := by
  rw [addTo, Task.frac, hf, add_eq_sumFlags_zero]
  rfl

theorem kSub_integer (r : Nat) :
    kSub d r t = { t.setReg d (t.reg d - t.reg r) with fl := diffFlags t.fl (t.reg d) (t.reg r) 0 (t.reg d - t.reg r) } := by
  rw [kSub, Task.frac, hf, sub_eq_diffFlags_zero]
  rfl

theorem kNeg_integer : kNeg d t = { t.setReg d (0 - t.reg d) with fl := diffFlags t.fl 0 (t.reg d) 0 (0 - t.reg d) } := by
  rw [kNeg, Task.frac, hf, sub_eq_diffFlags_zero]
  rfl

/-- The pattern of the magnitude: only -2^35 overflows, and keeps its pattern. -/
theorem kAbs_integer : ∃ a : EWord, a.toNat = (t.reg d).toInt.natAbs ∧
    kAbs d t = { t.setReg d a with fl := { znFlags t.fl a with v := decide ((t.reg d).toInt = -2 ^ 35) } } := by
  refine ⟨if (t.reg d).msb then 0 - t.reg d else t.reg d, ?_, ?_⟩
  · generalize t.reg d = a
    have hlt := a.isLt
    rw [BitVec.toInt_eq_msb_cond]
    cases hm : a.msb
    · simp
    · have hlow : 2 ^ 35 ≤ a.toNat := BitVec.le_toNat_of_msb_true hm
      simp only [if_true, BitVec.toNat_sub, BitVec.ofNat_eq_ofNat, BitVec.toNat_ofNat]
      omega
  · have hv : overflows (t.reg d).toInt.natAbs = decide ((t.reg d).toInt = -2 ^ 35) := by
      have hlo := (t.reg d).le_toInt
      have hhi := (t.reg d).toInt_lt
      simp only [Nat.add_one_sub_one] at hlo hhi
      rw [Bool.eq_iff_iff]
      simp only [overflows, Bool.or_eq_true, decide_eq_true_eq]
      omega
    simp only [kAbs, Task.frac, hf, Bool.false_eq_true, if_false, zn_eq_znFlags, hv]

omit hf

/-- Settles O12: in integer mode each instruction takes its wrapped result with the flags of R456. -/
theorem kalmelIntegerArithmetic : Obligations.KalmelIntegerArithmetic := by
  unfold Obligations.KalmelIntegerArithmetic
  refine fun s e t hf => ⟨fun d r imm h => ?_, fun d imm h => next_compute h (addTo_integer hf ..)⟩
  obtain ⟨a, ha, habs⟩ := kAbs_integer hf d
  exact ⟨next_compute h (addTo_integer hf ..), next_compute h (addTo_integer hf ..), next_compute h (kSub_integer hf ..),
    next_compute h (kNeg_integer hf ..), a, ha, next_compute h habs⟩

end Sys2Proof.Machine
end

section
/-! PROOF. Shifts of the Kalmel engines (12_kalmel_instruction_set.md R456-R458): the value moved by n places, and the last bit that
left. -/

namespace Sys2Proof.Machine

variable (a : EWord) (n : Nat)

/-! ### The value -/

/-- A shift by 36 or more is one by 36. -/
theorem shiftLeft_min : a <<< min n 36 = a <<< n := by
  apply BitVec.eq_of_getLsbD_eq
  intro i hi
  rw [BitVec.getLsbD_shiftLeft, BitVec.getLsbD_shiftLeft]
  rcases Nat.le_total n 36 with h | h
  · rw [Nat.min_eq_left h]
  · have h1 : i < n := by omega
    have h2 : i < min n 36 := by omega
    simp [h1, h2]

theorem ushiftRight_min : a >>> min n 36 = a >>> n := by
  apply BitVec.eq_of_getLsbD_eq
  intro i hi
  rw [BitVec.getLsbD_ushiftRight, BitVec.getLsbD_ushiftRight]
  rcases Nat.le_total n 36 with h | h
  · rw [Nat.min_eq_left h]
  · rw [BitVec.getLsbD_of_ge _ _ (by omega), BitVec.getLsbD_of_ge _ _ (by omega)]

theorem sshiftRight_min : a.sshiftRight (min n 36) = a.sshiftRight n := by
  apply BitVec.eq_of_getLsbD_eq
  intro i hi
  rw [BitVec.getLsbD_sshiftRight, BitVec.getLsbD_sshiftRight]
  rcases Nat.le_total n 36 with h | h
  · rw [Nat.min_eq_left h]
  · rw [if_neg (by omega), if_neg (by omega)]

/-- A rotation by 1 to 35 puts the two parts beside each other. -/
theorem toNat_rotateRight_add (h : n < 36) : (a.rotateRight n).toNat = a.toNat / 2 ^ n + a.toNat * 2 ^ (36 - n) % 2 ^ 36 := by
  have hlow : a.toNat / 2 ^ n < 2 ^ (36 - n) := by
    rw [Nat.div_lt_iff_lt_mul (by positivity), ← Nat.pow_add, Nat.sub_add_cancel h.le]
    exact a.isLt
  have htop : a.toNat * 2 ^ (36 - n) % 2 ^ 36 = (a.toNat % 2 ^ n) <<< (36 - n) := by
    rw [Nat.shiftLeft_eq, ← Nat.mul_mod_mul_right, ← Nat.pow_add, Nat.add_sub_cancel' h.le]
  rw [BitVec.toNat_rotateRight, Nat.mod_eq_of_lt h, Nat.shiftRight_eq_div_pow, Nat.shiftLeft_eq, htop, Nat.or_comm,
    ← Nat.shiftLeft_add_eq_or_of_lt hlow, Nat.add_comm]

/-! ### The last bit that left -/

variable (c : Bool)

theorem shlCarry_eq : shlCarry a n c = if n = 0 then c else decide (2 ^ 35 ≤ a.toNat * 2 ^ (n - 1) % 2 ^ 36) := by
  have hmsb := BitVec.msb_eq_decide (a <<< (n - 1))
  rw [BitVec.toNat_shiftLeft, Nat.shiftLeft_eq, BitVec.msb_shiftLeft, BitVec.getMsbD_eq_getLsbD] at hmsb
  rw [shlCarry]
  split_ifs with h0 h36
  · rfl
  · rw [← hmsb, show 36 - 1 - (n - 1) = 36 - n by omega, decide_eq_true (by omega), Bool.true_and]
  · rw [← hmsb, decide_eq_false (by omega), Bool.false_and]

theorem shrCarry_zero_fill : shrCarry a n c false = if n = 0 then c else decide (a.toNat / 2 ^ (n - 1) % 2 = 1) := by
  rw [shrCarry, bitOr, ← Nat.testBit_eq_decide_div_mod_eq, ← BitVec.getLsbD]
  split_ifs with h0 h36
  · rfl
  · rfl
  · rw [BitVec.getLsbD_of_ge _ _ (by omega)]

/-- The lowest bit of a word is the parity of its signed value. -/
theorem getLsbD_zero_eq_toInt_parity (w : EWord) : w.getLsbD 0 = decide (w.toInt % 2 = 1) := by
  rw [BitVec.getLsbD, Nat.testBit_zero, BitVec.toInt_eq_toNat_cond, Bool.eq_iff_iff, decide_eq_true_eq, decide_eq_true_eq]
  split_ifs <;> omega

theorem shrCarry_sign_fill : shrCarry a n c a.msb = if n = 0 then c else decide (a.toInt / 2 ^ (n - 1) % 2 = 1) := by
  have hshift : a.toInt / 2 ^ (n - 1) = (a.sshiftRight (n - 1)).toInt := by
    rw [BitVec.toInt_sshiftRight, Int.shiftRight_eq_div_pow]
    norm_cast
  rw [hshift, ← getLsbD_zero_eq_toInt_parity, BitVec.getLsbD_sshiftRight, shrCarry, bitOr]
  simp

/-! ### The instructions -/

variable {t : Task} {m : ShiftBy} (d : Nat) (hn : n = shiftAmount m t)
include hn

theorem kShl_integer (hf : t.fmode.getLsbD 0 = false) : kShl d m t = { t.setReg d (t.reg d <<< n) with
    fl := shiftFlags t.fl (t.reg d <<< n) (if n = 0 then t.fl.c else decide (2 ^ 35 ≤ (t.reg d).toNat * 2 ^ (n - 1) % 2 ^ 36)) } := by
  simp only [kShl, ← hn, shlTo, Task.frac, hf, Bool.false_eq_true, if_false, shiftLeft_min, shlCarry_eq, zn_eq_znFlags]
  rfl

theorem kShr_eq : kShr d m t = { t.setReg d (t.reg d >>> n) with
    fl := shiftFlags t.fl (t.reg d >>> n) (if n = 0 then t.fl.c else decide ((t.reg d).toNat / 2 ^ (n - 1) % 2 = 1)) } := by
  simp only [kShr, ← hn, shrTo, ushiftRight_min, shrCarry_zero_fill, zn_eq_znFlags]
  rfl

theorem kSar_integer (hf : t.fmode.getLsbD 0 = false) : kSar d m t = { t.setReg d ((t.reg d).sshiftRight n) with
    fl := shiftFlags t.fl ((t.reg d).sshiftRight n)
      (if n = 0 then t.fl.c else decide ((t.reg d).toInt / 2 ^ (n - 1) % 2 = 1)) } := by
  simp only [kSar, ← hn, sarTo, Task.frac, hf, Bool.false_eq_true, if_false, sshiftRight_min, shrCarry_sign_fill, zn_eq_znFlags]
  rfl

omit hn

theorem kRor_eq (i : Nat) (hi : n = shiftAmount (.imm i) t) : kRor d i t = { t.setReg d ((t.reg d).rotateRight n) with
    fl := shiftFlags t.fl ((t.reg d).rotateRight n) (((t.reg d).rotateRight n).getLsbD 35) } := by
  simp only [kRor, ← hi, rorTo, zn_eq_znFlags, BitVec.msb_eq_getLsbD_last]
  rfl

/-- An immediate amount is 1 to 32. -/
theorem shiftAmount_imm_lt (i : Nat) (t : Task) : shiftAmount (.imm i) t < 36 := by
  simp only [shiftAmount]
  split_ifs <;> omega

/-- Settles O13: each shift is the model's, whose register reads the moved value and whose C is the last bit that left. -/
theorem kalmelShifts : Obligations.KalmelShifts := by
  unfold Obligations.KalmelShifts
  intro s e t d m n h hn
  replace hn : n = shiftAmount m t := hn
  refine ⟨fun hf => ⟨t.reg d <<< n, ?shlValue, next_compute h (kShl_integer n d hn hf)⟩,
    ⟨t.reg d >>> n, ?shrValue, next_compute h (kShr_eq n d hn)⟩,
    fun hf => ⟨(t.reg d).sshiftRight n, ?sarValue, next_compute h (kSar_integer n d hn hf)⟩, fun i hi => ?ror⟩
  case shlValue => rw [BitVec.toNat_shiftLeft, Nat.shiftLeft_eq]
  case shrValue => rw [BitVec.toNat_ushiftRight, Nat.shiftRight_eq_div_pow]
  case sarValue =>
    rw [BitVec.toInt_sshiftRight, Int.shiftRight_eq_div_pow]
    norm_cast
  case ror =>
    subst hi
    refine ⟨(t.reg d).rotateRight n, toNat_rotateRight_add _ _ ?_, next_compute h (kRor_eq n d i hn)⟩
    rw [hn]
    exact shiftAmount_imm_lt i t

end Sys2Proof.Machine
end

section
/-! PROOF. Fraction mode (11_kalmel_engines.md R414, R415; 12_kalmel_instruction_set.md R459): saturation and its flags, rounding at the
bits dropped, and what the model's bounds on a shift amount leave alone. -/

namespace Sys2Proof.Machine

/-! ### Saturation -/

theorem toInt_wrap36_saturate (x : Int) : (wrap36 (saturate x)).toInt = saturate x := by
  rw [wrap36, BitVec.toInt_ofInt, Int.bmod_def, saturate]
  simp only [Nat.cast_ofNat, Nat.reducePow]
  omega

theorem overflows_eq_saturate_ne (x : Int) : overflows x = decide (saturate x ≠ x) := by
  rw [Bool.eq_iff_iff, overflows, Bool.or_eq_true, decide_eq_true_iff, decide_eq_true_iff, decide_eq_true_iff, saturate]
  omega

/-- The word and the flags that the model makes of an exact value are those of R414 and R415. -/
theorem fracRule_frac (f : KFlags) (x : Int) : FracRule f x (wrap36 (saturate x)) (f.frac x) := by
  refine ⟨toInt_wrap36_saturate x, ?_⟩
  rw [toInt_wrap36_saturate, KFlags.frac, zn_eq_znFlags, overflows_eq_saturate_ne]
  rfl

/-- Two exact values beyond the same end of the range are written alike. -/
theorem fracTo_congr {x y : Int} (h : x = y ∨ (2 ^ 35 ≤ x ∧ 2 ^ 35 ≤ y) ∨ (x < -2 ^ 35 ∧ y < -2 ^ 35)) (t : Task) (d : Nat) :
    t.fracTo d x = t.fracTo d y := by
  have hs : saturate x = saturate y := by
    simp only [saturate]
    omega
  have ho : overflows x = overflows y := by
    rw [Bool.eq_iff_iff]
    simp only [overflows, Bool.or_eq_true, decide_eq_true_eq]
    omega
  rw [Task.fracTo, Task.fracTo, KFlags.frac, KFlags.frac, hs, ho]

/-! ### Rounding -/

section
variable {n : Nat} (x : Int)

theorem fdiv_bounds {D : Int} (hD : 0 < D) : x.fdiv D * D ≤ x ∧ x < (x.fdiv D + 1) * D := by
  rw [Int.fdiv_eq_ediv_of_nonneg _ hD.le]
  exact ⟨Int.ediv_mul_le _ hD.ne', Int.lt_ediv_add_one_mul_self _ hD⟩

theorem roundRule_truncate (hn : n ≠ 0) : RoundRule 0 n x (roundShift 0 n x) := by
  rw [RoundRule, roundShift, if_neg hn]
  exact fdiv_bounds x (by positivity)

/-- Half of 2^n is a whole number where bits are dropped. -/
theorem two_pow_eq_two_mul (hn : n ≠ 0) : (2 : Int) ^ n = 2 * 2 ^ (n - 1) := by
  rw [← pow_succ', Nat.sub_add_cancel (Nat.pos_of_ne_zero hn)]

theorem roundRule_halfUp (hn : n ≠ 0) : RoundRule 1 n x (roundShift 1 n x) := by
  have hpos : (0 : Int) < 2 ^ (n - 1) := by positivity
  obtain ⟨hlo, hhi⟩ := fdiv_bounds (x + 2 ^ (n - 1)) (D := 2 * 2 ^ (n - 1)) (by omega)
  rw [RoundRule, roundShift, if_neg hn]
  simp only [two_pow_eq_two_mul hn, Int.mul_ediv_cancel_left _ (two_ne_zero : (2 : Int) ≠ 0)]
  constructor <;> linarith

theorem roundRule_halfEven (hn : n ≠ 0) : RoundRule 2 n x (roundShift 2 n x) := by
  have hpow : (2 : Int) ^ n = ((2 ^ n : Nat) : Int) := by push_cast; rfl
  have hpos : 0 < 2 ^ n := by positivity
  rw [RoundRule, roundShift, if_neg hn, hpow]
  generalize 2 ^ n = N at hpos
  have hrem : N * x.fdiv N + x.fmod N = x := Int.mul_fdiv_add_fmod x N
  have hlo : 0 ≤ x.fmod N := Int.fmod_nonneg_of_pos _ (by omega)
  have hhi : x.fmod N < N := Int.fmod_lt_of_pos _ (by omega)
  have hparity : (x.fdiv N).fmod 2 = x.fdiv N % 2 := Int.fmod_eq_emod_of_nonneg _ (by omega)
  have hdown : x - x.fdiv N * N = x.fmod N := by linarith
  have hup : x - (x.fdiv N + 1) * N = x.fmod N - N := by linarith
  dsimp only
  rw [hparity]
  split_ifs <;> simp only [hdown, hup] <;> omega

theorem roundRule_towardZero (rnd : Nat) (hn : n ≠ 0) : RoundRule (rnd + 3) n x (roundShift (rnd + 3) n x) := by
  have habs : (x.tdiv (2 ^ n)).natAbs = x.natAbs / 2 ^ n := by
    rw [Int.natAbs_tdiv, Int.natAbs_pow]
    rfl
  have hsign : 0 ≤ x.tdiv (2 ^ n) * x := by
    rcases le_total 0 x with h | h
    · exact mul_nonneg (Int.tdiv_nonneg h (by positivity)) h
    · have hneg := Int.tdiv_nonneg (neg_nonneg.mpr h) (show (0 : Int) ≤ 2 ^ n by positivity)
      rw [Int.neg_tdiv] at hneg
      exact mul_nonneg_of_nonpos_of_nonpos (neg_nonneg.mp hneg) h
  simp only [RoundRule, roundShift, if_neg hn, habs]
  exact ⟨Nat.div_mul_le_self _ _, Nat.lt_mul_of_div_lt (Nat.lt_succ_self _) (by positivity), hsign⟩

/-- Where no bit is dropped the value stands as it is, in every rounding. -/
theorem roundRule_zero (rnd : Nat) : RoundRule rnd 0 x x := by
  match rnd with
  | 0 => simp only [RoundRule]; omega
  | 1 => simp only [RoundRule]; omega
  | 2 => simp only [RoundRule]; omega
  | k + 3 =>
    have hsq : 0 ≤ x * x := mul_self_nonneg x
    simp only [RoundRule]
    omega

/-- Rounding by RND in the words of R414. -/
theorem roundRule_roundShift (rnd n : Nat) : RoundRule rnd n x (roundShift rnd n x) := by
  by_cases hn : n = 0
  · subst hn
    exact roundRule_zero x rnd
  · match rnd with
    | 0 => exact roundRule_truncate x hn
    | 1 => exact roundRule_halfUp x hn
    | 2 => exact roundRule_halfEven x hn
    | k + 3 => exact roundRule_towardZero x k hn

/-- A register shifted by 40 places or more rounds to 0, or truncates to -1. -/
theorem roundShift_far (hn : 40 ≤ n) (hlo : -2 ^ 35 ≤ x) (hhi : x < 2 ^ 35) (rnd : Nat) :
    roundShift rnd n x = if rnd = 0 ∧ x < 0 then -1 else 0 := by
  have hpow : (2 : Int) ^ n = 2 * 2 ^ (n - 1) := two_pow_eq_two_mul (by omega)
  have hbig : (2 : Int) ^ 39 ≤ 2 ^ (n - 1) := pow_le_pow_right₀ (by omega) (by omega)
  have hfloor : ∀ y : Int, -2 ^ 35 ≤ y → y < 2 * 2 ^ (n - 1) → y.fdiv (2 * 2 ^ (n - 1)) = if y < 0 then -1 else 0 := by
    intro y h1 h2
    rw [Int.fdiv_eq_ediv_of_nonneg _ (by omega)]
    split_ifs with hy
    · exact Int.ediv_eq_neg_one_of_neg_of_le hy (by omega)
    · exact Int.ediv_eq_zero_of_lt (by omega) h2
  match rnd with
  | 0 => simp only [roundShift, if_neg (show n ≠ 0 by omega), hpow, hfloor x hlo (by omega), true_and]
  | 1 =>
    simp only [roundShift, if_neg (show n ≠ 0 by omega), hpow, Int.mul_ediv_cancel_left _ (two_ne_zero : (2 : Int) ≠ 0)]
    rw [hfloor _ (by omega) (by omega), if_neg (by omega), if_neg (by omega)]
  | 2 =>
    have hrem := Int.mul_fdiv_add_fmod x (2 * 2 ^ (n - 1))
    simp only [roundShift, if_neg (show n ≠ 0 by omega), hpow]
    rw [hfloor x hlo (by omega)] at hrem ⊢
    by_cases hx : x < 0
    · rw [if_pos hx] at hrem ⊢
      rw [if_neg (by omega), if_pos (by omega)]
      simp
    · rw [if_neg hx] at hrem ⊢
      rw [if_pos (by omega)]
      simp
  | k + 3 =>
    have hzero : x.tdiv (2 ^ n) = 0 := by
      rw [hpow]
      rcases le_total 0 x with hx | hx
      · exact Int.tdiv_eq_zero_of_lt hx (by omega)
      · have hneg := Int.tdiv_eq_zero_of_lt (neg_nonneg.mpr hx) (show -x < 2 * 2 ^ (n - 1) by omega)
        rwa [Int.neg_tdiv, neg_eq_zero] at hneg
    simp only [roundShift, if_neg (show n ≠ 0 by omega), hzero]
    simp

/-- The model's bound of 40 on the amount changes no result. -/
theorem roundShift_min (hlo : -2 ^ 35 ≤ x) (hhi : x < 2 ^ 35) (rnd n : Nat) : roundShift rnd (min n 40) x = roundShift rnd n x := by
  rcases Nat.le_total n 40 with h | h
  · rw [Nat.min_eq_left h]
  · rw [Nat.min_eq_right h, roundShift_far x le_rfl hlo hhi, roundShift_far x h hlo hhi]

end

/-! ### The instructions -/

theorem toInt_range (a : EWord) : -2 ^ 35 ≤ a.toInt ∧ a.toInt < 2 ^ 35 := ⟨a.le_toInt, a.toInt_lt⟩

/-- The model's bound of 72 on a left shift changes no result: beyond it all but 0 saturates. -/
theorem fracTo_shiftLeft_min (t : Task) (d : Nat) (a : EWord) (n : Nat) :
    t.fracTo d (a.toInt * 2 ^ min n 72) = t.fracTo d (a.toInt * 2 ^ n) := by
  rcases Nat.le_total n 72 with h | h
  · rw [Nat.min_eq_left h]
  · have hbig : (2 : Int) ^ 72 ≤ 2 ^ n := pow_le_pow_right₀ (by omega) h
    rw [Nat.min_eq_right h]
    apply fracTo_congr
    rcases lt_trichotomy a.toInt 0 with ha | ha | ha
    · right; right
      constructor <;> nlinarith
    · left
      rw [ha, zero_mul, zero_mul]
    · right; left
      constructor <;> nlinarith

section
variable {t : Task} (hf : t.fmode.getLsbD 0 = true) (d : Nat)
include hf

theorem addTo_frac (b : EWord) : addTo d b t = t.fracTo d ((t.reg d).toInt + b.toInt) := by
  rw [addTo, Task.frac, if_pos hf]

theorem kSub_frac (r : Nat) : kSub d r t = t.fracTo d ((t.reg d).toInt - (t.reg r).toInt) := by
  rw [kSub, Task.frac, if_pos hf]

theorem kNeg_frac : kNeg d t = t.fracTo d (-(t.reg d).toInt) := by
  rw [kNeg, Task.frac, if_pos hf]

theorem kAbs_frac : kAbs d t = t.fracTo d (t.reg d).toInt.natAbs := by
  simp only [kAbs, Task.frac, hf, if_true]

theorem kPmv_frac : kPmv d t = t.fracTo d (roundShift t.rnd 31 t.p3.toInt) := by
  rw [kPmv, Task.frac, if_pos hf]

theorem kShl_frac (m : ShiftBy) : kShl d m t = t.fracTo d ((t.reg d).toInt * 2 ^ shiftAmount m t) := by
  rw [kShl, shlTo, Task.frac, if_pos hf, fracTo_shiftLeft_min]

theorem kSar_frac (m : ShiftBy) : kSar d m t = t.fracTo d (roundShift t.rnd (shiftAmount m t) (t.reg d).toInt) := by
  rw [kSar, sarTo, Task.frac, if_pos hf, roundShift_min _ (toInt_range _).1 (toInt_range _).2]

end

/-- An immediate keeps its signed value. -/
theorem toInt_immSx {w : Nat} (hw : w ≤ 36) (imm : Nat) : (immSx w imm).toInt = (BitVec.ofNat w imm).toInt :=
  BitVec.toInt_signExtend_of_le hw

/-- A row that writes an exact value in fraction mode. -/
theorem next_fracTo {s : State} {e : EngRef} {t : Task} {n d : Nat} (h : s.canRun e t n = true) {g : Task → Task} {x : Int}
    (hg : g t = t.fracTo d x) :
    ∃ w f, FracRule t.fl x w f ∧
      (.next (s.instr e n (compute g)) : Host.Outcome State Fault Refusal) = .next (s.ran e t n { t.setReg d w with fl := f }) :=
  ⟨_, _, fracRule_frac t.fl x, next_compute h hg⟩

/-- Settles O14: each instruction writes its exact value, rounded where bits are dropped, by the one rule of saturation. -/
theorem kalmelFractionMode : Obligations.KalmelFractionMode := by
  unfold Obligations.KalmelFractionMode
  refine fun s e t hf => ⟨fun d r imm h => ?_, fun d imm h => ?_, fun d m n h hn => ?_⟩
  · refine ⟨next_fracTo h (addTo_frac hf d _), ?addi, next_fracTo h (kSub_frac hf d r), next_fracTo h (kNeg_frac hf d),
      next_fracTo h (kAbs_frac hf d), ?pmv⟩
    case addi =>
      rw [← toInt_immSx (by omega) imm]
      exact next_fracTo h (addTo_frac hf d _)
    case pmv =>
      obtain ⟨w, f, hfr, hx⟩ := next_fracTo h (kPmv_frac hf d)
      exact ⟨_, w, f, roundRule_roundShift _ _ _, hfr, hx⟩
  · rw [← toInt_immSx (by omega) imm]
    exact next_fracTo h (addTo_frac hf d _)
  · subst hn
    obtain ⟨w, f, hfr, hx⟩ := next_fracTo h (kSar_frac hf d m)
    exact ⟨next_fracTo h (kShl_frac hf d m), _, w, f, roundRule_roundShift _ _ _, hfr, hx⟩

end Sys2Proof.Machine
end

section
/-! PROOF. Products, special registers and user opcodes (11_kalmel_engines.md R412, R416; 12_kalmel_instruction_set.md R462-R465,
R473, R474): a product moves one place down with each instruction, and PMV reads the last place. -/

namespace Sys2Proof.Machine

variable {s : State} {e : EngRef} {t : Task} {d n : Nat}

/-! ### Registers -/

theorem reg_setReg_same (t : Task) (d : Nat) (v : EWord) : (t.setReg d v).reg d = if d % 16 < t.k.length then v else 0 := by
  rw [Task.reg, Task.setReg, List.getD_eq_getElem?_getD, List.getElem?_set_self']
  split_ifs with h
  · rw [List.getElem?_eq_getElem h]
    rfl
  · rw [List.getElem?_eq_none (by omega)]
    rfl

/-! ### Instructions one after the other -/

/-- The task after an instruction that leaves u in its slot. -/
def Task.after (t u : Task) (words : Nat) : Task :=
  { u with pc := t.pc + words, steps := t.steps.map (· - 1), p2 := t.p1, p3 := t.p2 }

theorem task_ran (h : s.canRun e t n = true) (u : Task) (w : Nat) : (s.ran e t w u).task? e = some (t.after u w) :=
  task_kCommit (ready_spec (canRun_ready h)).1 _ _ _

/-- A task that may run n + 1 words may run the n behind the one it runs. -/
theorem canRun_ran (h : s.canRun e t (n + 1) = true) (hs : t.steps.getD (n + 1) ≥ n + 1) (hn : n ≠ 0) {u : Task}
    (hstart : u.start = t.start) (hwait : u.wait = t.wait) (hhalt : u.halted = t.halted) :
    (s.ran e t 1 u).canRun e (t.after u 1) n = true := by
  obtain ⟨htask, hw, hh, hg⟩ := ready_spec (canRun_ready h)
  have hready : (s.ran e t 1 u).ready e = some (t.after u 1) := by
    rw [State.ready, task_ran h]
    have hgo : (decide ((t.after u 1).wait = .none) && !(t.after u 1).halted && (s.ran e t 1 u).gatesOpen) = true := by
      simp [Task.after, State.ran, hwait, hhalt, hw, hh, hg]
    exact if_pos hgo
  have hcheck := canRun_check h
  simp only [kCheck] at hcheck
  split_ifs at hcheck with h0 hf
  have hsteps : (t.after u 1).steps ≠ some 0 := by
    simp only [Task.after]
    cases hst : t.steps with
    | none => simp
    | some m =>
      simp only [hst, Option.getD_some] at hs
      simp only [Option.map_some, ne_eq, Option.some.injEq]
      omega
  have hfetch : canFetch (t.after u 1).start.priv (t.after u 1).pc n = true := by
    simp only [canFetch, List.all_eq_true, List.mem_range, Task.after, hstart] at hf ⊢
    intro i hi
    have := hf (1 + i) (by omega)
    rwa [← Nat.add_assoc] at this
  simp only [State.canRun, hready, kCheck, if_neg hsteps, hfetch, if_true, decide_true, Bool.and_self]

/-- Fewer words may be fetched where more may. -/
theorem canRun_le {m : Nat} (h : s.canRun e t n = true) (hm : m ≤ n) : s.canRun e t m = true := by
  have hcheck := canRun_check h
  simp only [kCheck] at hcheck
  split_ifs at hcheck with h0 hf
  have hfetch : canFetch t.start.priv t.pc m = true := by
    simp only [canFetch, List.all_eq_true, List.mem_range] at hf ⊢
    exact fun i hi => hf i (by omega)
  simp only [State.canRun, canRun_ready h, kCheck, if_neg h0, hfetch, if_true, decide_true, Bool.and_self]

/-- PMV in integer mode reads the oldest product. -/
theorem kPmv_integer (hf : t.fmode.getLsbD 0 = false) :
    kPmv d t = { t.setReg d (t.p3.setWidth 36) with fl := znFlags t.fl (t.p3.setWidth 36) } := by
  rw [kPmv, Task.frac, hf, logic_eq]
  rfl

/-- The register PMV writes, after it. -/
theorem reg_after_pmv (h : s.canRun e t 1 = true) (hf : t.fmode.getLsbD 0 = false) {u : State}
    (hu : exec (.kPmv e d) s = .next u) :
    (u.task? e).map (fun v => v.reg d) = some (if d % 16 < t.k.length then t.p3.setWidth 36 else 0) := by
  have hx : exec (.kPmv e d) s = .next (s.ran e t 1 (kPmv d t)) := next_compute h rfl
  rw [hx] at hu
  cases hu
  rw [task_ran h, kPmv_integer hf, ← reg_setReg_same t d]
  rfl

/-- NOP leaves its task as it is but for its products, PC and budget. -/
theorem eq_of_nop (h : s.canRun e t 1 = true) {u : State} (hu : exec (.kNopInstruction e) s = .next u) : u = s.ran e t 1 t := by
  have hx : exec (.kNopInstruction e) s = .next (s.ran e t 1 t) := next_compute h rfl
  rw [hx] at hu
  cases hu
  rfl

/-- The low bits of the product's pattern are those of a narrower pattern. -/
theorem setWidth_ofInt_of_le {m n : Nat} (h : m ≤ n) (x : Int) : (BitVec.ofInt n x).setWidth m = BitVec.ofInt m x := by
  apply BitVec.eq_of_toNat_eq
  have hdvd : ((2 ^ m : Nat) : Int) ∣ ((2 ^ n : Nat) : Int) := by exact_mod_cast Nat.pow_dvd_pow 2 h
  have hn := Int.emod_nonneg x (show ((2 ^ n : Nat) : Int) ≠ 0 by positivity)
  rw [BitVec.toNat_setWidth, BitVec.toNat_ofInt, BitVec.toNat_ofInt, ← Int.emod_emod_of_dvd x hdvd,
    Int.toNat_emod hn (Int.natCast_nonneg _), Int.toNat_natCast]

/-- MUL, then two instructions, then PMV: the product is the oldest at the third, and the ones before it at the first and second. -/
theorem mul_nop_nop_pmv {s1 s2 s3 s4 : State} {a b : Nat} (h : s.canRun e t 4 = true) (hs : t.steps.getD 4 ≥ 4)
    (hf : t.fmode.getLsbD 0 = false) (h1 : exec (.kMul e a b) s = .next s1) (h2 : exec (.kNopInstruction e) s1 = .next s2)
    (h3 : exec (.kNopInstruction e) s2 = .next s3) (h4 : exec (.kPmv e d) s3 = .next s4) :
    (s4.task? e).map (fun u => u.reg d) = some (if d % 16 < t.k.length then BitVec.ofInt 36 ((t.reg a).toInt * (t.reg b).toInt) else 0) ∧
    (∀ s5 s6, exec (.kPmv e d) s1 = .next s5 → exec (.kPmv e d) s2 = .next s6 →
      (s5.task? e).map (fun u => u.reg d) = some (if d % 16 < t.k.length then t.p2.setWidth 36 else 0) ∧
      (s6.task? e).map (fun u => u.reg d) = some (if d % 16 < t.k.length then t.p1.setWidth 36 else 0)) := by
  have e1 : exec (.kMul e a b) s = .next (s.ran e t 1 (kMul a b t)) := next_compute (canRun_le h (by omega)) rfl
  rw [e1] at h1
  cases h1
  have r1 := canRun_ran (u := kMul a b t) (n := 3) h hs (by omega) rfl rfl rfl
  set t1 := t.after (kMul a b t) 1 with ht1
  have hs1 : t1.steps.getD 3 ≥ 3 := by
    simp only [ht1, Task.after]
    cases hst : t.steps <;> simp_all
    omega
  obtain rfl := eq_of_nop (canRun_le r1 (by omega)) h2
  have r2 := canRun_ran (u := t1) (n := 2) r1 hs1 (by omega) rfl rfl rfl
  set t2 := t1.after t1 1 with ht2
  have hs2 : t2.steps.getD 2 ≥ 2 := by
    simp only [ht2, Task.after]
    cases hst : t1.steps <;> simp_all
    omega
  obtain rfl := eq_of_nop (canRun_le r2 (by omega)) h3
  have r3 := canRun_ran (u := t2) (n := 1) r2 hs2 (by omega) rfl rfl rfl
  refine ⟨?_, fun s5 s6 h5 h6 => ⟨reg_after_pmv (canRun_le r1 (by omega)) hf h5, reg_after_pmv (canRun_le r2 (by omega)) hf h6⟩⟩
  rw [reg_after_pmv r3 hf h4, ← setWidth_ofInt_of_le (show 36 ≤ 72 by omega), ← sx72_mul]
  rfl

/-! ### MFS and MTS -/

/-- What MFS reads is the register of R412 that its number names. -/
theorem special_eq (n info gen : Nat) (t : Task) : special n (BitVec.ofNat 36 info) gen t = (match n % 16 with
    | 0 => t.fl.word
    | 1 => t.fmode.setWidth 36
    | 2 => BitVec.ofNat 36 (t.p3.toNat / 2 ^ 36)
    | 3 => BitVec.ofNat 36 t.p3.toNat
    | 4 => BitVec.ofNat 36 info
    | 5 => BitVec.ofNat 36 gen
    | 6 => t.dthi.setWidth 36
    | 7 => t.wmask.setWidth 36
    | 8 => t.evpend.setWidth 36
    | 9 => BitVec.ofNat 36 t.start.poolBase
    | 10 => BitVec.ofNat 36 t.start.poolLim
    | 11 => BitVec.ofNat 36 (t.steps.getD (2 ^ 36 - 1))
    | _ => 0) := by
  have hhigh : (t.p3 >>> 36).setWidth 36 = BitVec.ofNat 36 (t.p3.toNat / 2 ^ 36) := by
    rw [← BitVec.ofNat_toNat, BitVec.toNat_ushiftRight, Nat.shiftRight_eq_div_pow]
  have hsteps : (match t.steps with | some k => BitVec.ofNat 36 k | none => BitVec.ofNat 36 (2 ^ 36 - 1)) =
      BitVec.ofNat 36 (t.steps.getD (2 ^ 36 - 1)) := by
    cases t.steps <;> rfl
  unfold special
  rw [hhigh, ← hsteps, BitVec.ofNat_toNat] <;> rfl

theorem instr_mfs (h : s.canRun e t 1 = true) (n d : Nat) :
    s.instr e 1 (s.mfs e n d) = s.ran e t 1 (t.setReg d (special n (BitVec.ofNat 36 (logicalEng e + 64 * s.engHalf e +
      128 * b2n t.start.profile + 256 * (match t.start.priv with | .f => 0 | .p => 1 | .a => 2) + 1024 * b2n t.start.paired))
      (s.eng e).gen t)) := by
  have htask := (ready_spec (canRun_ready h)).1
  unfold State.mfs
  rw [htask, Option.getD_some, einfo]
  refine instr_go h ?_
  rw [kMfs, BitVec.ofNat_toNat, BitVec.setWidth_eq]
  rfl

/-- MTS of a register that can be written. -/
theorem instr_mts_some (h : s.canRun e t 1 = true) {n r : Nat} {u : Task} (hu : mtsTo n (t.reg r) t = some u) :
    s.instr e 1 (kMts n r) = s.ran e t 1 u :=
  instr_go h (by simp only [kMts, kCtx_t, hu])

theorem instr_mts_none (h : s.canRun e t 1 = true) {n r : Nat} (hu : mtsTo n (t.reg r) t = none) :
    s.instr e 1 (kMts n r) = s.kFault e t .illegal :=
  instr_fault h (by simp only [kMts, kCtx_t, hu])

/-! ### User opcodes -/

theorem kUop_some {l : List Nat} (h : (l.drop (8 * (n % 16))).headD 0x1800 ≠ 0x1800) (k : KCtx) :
    kUop (some l) n d k = .go { k with t := microRun d ((l.drop (8 * (n % 16))).take 8) 0 k.t } := by
  have hhead : ((l.drop (8 * (n % 16))).take 8).headD 0x1800 = (l.drop (8 * (n % 16))).headD 0x1800 := by
    cases l.drop (8 * (n % 16)) <;> rfl
  simp only [kUop, hhead, isStop, beq_iff_eq, if_neg h]

/-- Settles O15: PMV reads the oldest product, MFS and MTS go by the number of R412, UOPn runs its steps. -/
theorem kalmelSpecialRegistersAndUserOpcodes : Obligations.KalmelSpecialRegistersAndUserOpcodes := by
  unfold Obligations.KalmelSpecialRegistersAndUserOpcodes
  refine ⟨?pmv, ?product, ?mfs, ?mts, ?uop⟩
  case pmv => exact fun s e t d h hf => next_compute h (kPmv_integer hf)
  case product => exact fun s s1 s2 s3 s4 e t a b d h hs hf h1 h2 h3 h4 => mul_nop_nop_pmv h hs hf h1 h2 h3 h4
  case mfs =>
    intro s e t n d h
    refine (congrArg Host.Outcome.next (instr_mfs h n d)).trans ?_
    rw [special_eq] <;> rfl
  case mts =>
    intro s e t n r h
    show Host.Outcome.next (s.instr e 1 (kMts n r)) = _
    split
    case h_1 hn => exact congrArg Host.Outcome.next (instr_mts_some h (by simp only [mtsTo, hn]; rfl))
    case h_2 hn => exact congrArg Host.Outcome.next (instr_mts_some h (by simp only [mtsTo, hn]))
    case h_3 hn => exact congrArg Host.Outcome.next (instr_mts_some h (by simp only [mtsTo, hn]))
    case h_4 h0 h1 h7 => exact congrArg _ (instr_mts_none h (by unfold mtsTo; split <;> simp_all))
  case uop =>
    intro s e t n d h
    refine ⟨fun l hl hne => ?_, fun hnone => ?_⟩
    · exact congrArg Host.Outcome.next (instr_go h (by rw [hl]; exact kUop_some hne _))
    · exact congrArg Host.Outcome.next (instr_fault h (by rw [hnone]; rfl))

end Sys2Proof.Machine
end

section
/-! PROOF. Loads, stores and the stack of the engines (11_kalmel_engines.md R418-R421; 12_kalmel_instruction_set.md R464, R466). -/

namespace Sys2Proof.Machine

variable {s : State} {e : EngRef} {t : Task}

/-! ### Data memory and the pool window -/

theorem mapRead_putPool_of_outside (m : List (Nat × Byte)) (a : Nat) (bs : Bytes) {x : Nat} (h : x < a ∨ a + bs.length ≤ x) :
    mapRead 0 (putPool m a bs) x = mapRead 0 m x := by
  induction bs generalizing m a with
  | nil => rfl
  | cons b bs ih =>
    rw [List.length_cons] at h
    rw [putPool, ih _ _ (by omega), mapRead_mapSet_ne 0 0 m (by omega)]

theorem mapRead_putPool {m : List (Nat × Byte)} (hm : mapRising 0 m = true) (a : Nat) (bs : Bytes) {i : Nat} (h : i < bs.length) :
    mapRead 0 (putPool m a bs) (a + i) = bs[i] := by
  induction bs generalizing m a i with
  | nil => cases h
  | cons b bs ih =>
    cases i with
    | zero => rw [putPool, mapRead_putPool_of_outside _ _ _ (by omega), mapRead_mapSet 0 hm, if_pos (Nat.add_zero a).symm,
        List.getElem_cons_zero]
    | succ j =>
      rw [putPool, show a + (j + 1) = a + 1 + j by omega, ih (mapRising_mapSet 0 hm (Nat.zero_le _) b) _ (by simpa using h),
        List.getElem_cons_succ]

theorem mapRead_putWords_of_outside (m : List (Nat × EWord)) (a : Nat) (ws : List EWord) {x : Nat}
    (h : x < a ∨ a + ws.length ≤ x) : mapRead 0 (putWords m a ws) x = mapRead 0 m x := by
  induction ws generalizing m a with
  | nil => rfl
  | cons w ws ih =>
    rw [List.length_cons] at h
    rw [putWords, ih _ _ (by omega), mapRead_mapSet_ne 0 0 m (by omega)]

theorem mapRead_putWords {m : List (Nat × EWord)} (hm : mapRising 0 m = true) (a : Nat) (ws : List EWord) {i : Nat}
    (h : i < ws.length) : mapRead 0 (putWords m a ws) (a + i) = ws[i] := by
  induction ws generalizing m a i with
  | nil => cases h
  | cons w ws ih =>
    cases i with
    | zero => rw [putWords, mapRead_putWords_of_outside _ _ _ (by omega), mapRead_mapSet 0 hm, if_pos (Nat.add_zero a).symm,
        List.getElem_cons_zero]
    | succ j =>
      rw [putWords, show a + (j + 1) = a + 1 + j by omega, ih (mapRising_mapSet 0 hm (Nat.zero_le _) w) _ (by simpa using h),
        List.getElem_cons_succ]

/-- The bytes put into a window are those read back from it. -/
theorem poolBytes_setPool {k : KCtx} (hm : mapRising 0 k.pool = true) (off : Nat) (bs : Bytes) :
    (k.setPool off bs).poolBytes off bs.length = bs := by
  apply List.ext_getElem (by simp [KCtx.poolBytes])
  intro i _ hi
  simp only [KCtx.poolBytes, List.getElem_map, List.getElem_range]
  exact mapRead_putPool hm _ bs hi

/-- Data memory after an instruction is what the instruction made of it. -/
theorem dm_kCommit (h : s.task? e = some t) (o : Task) (k : KCtx) (pc : Nat) : ((s.kCommit e o k pc).eng e).dm = k.dm := by
  rw [eng_kCommit h]

theorem poolOk_iff (t : Task) (w : Nat) : poolOk t w = true ↔ w % 4 = 0 ∧ w + 4 ≤ t.start.poolLim := by
  simp [poolOk]

/-! ### The instructions -/

theorem instr_kLd (h : s.canRun e t 2 = true) (r b off : Nat) :
    s.instr e 2 (kLd r b off) = if dmRead t.start.priv ((t.reg b).toNat + off) then
      s.ran e t 2 (t.setReg r (mapRead 0 (s.eng e).dm ((t.reg b).toNat + off))) else s.kFault e t .protect := by
  split
  next hp => exact instr_go h (if_pos hp)
  next hp => exact instr_fault h (if_neg hp)

theorem instr_kLdp (h : s.canRun e t 2 = true) (r b off : Nat) :
    s.instr e 2 (kLdp r b off) = if (((t.reg b).toNat + 4 * off) % 4 = 0 ∧ (t.reg b).toNat + 4 * off + 4 ≤ t.start.poolLim) then
      s.ran e t 2 (t.setReg r (BitVec.ofNat 36 (leNat ((s.kCtx e t).poolBytes ((t.reg b).toNat + 4 * off) 4))))
      else s.kFault e t .protect := by
  split
  next hp => exact instr_go h (if_pos ((poolOk_iff _ _).mpr hp))
  next hp => exact instr_fault h (if_neg (fun hok => hp ((poolOk_iff _ _).mp hok)))

/-- What a store leaves in data memory: its one word, and every other as it was. -/
theorem dm_after_store (h : s.task? e = some t) (a pc : Nat) (w : EWord) :
    (∀ x, x ≠ a → mapRead 0 ((s.kCommit e t ((s.kCtx e t).setDm a [w]) pc).eng e).dm x = mapRead 0 (s.eng e).dm x) ∧
    (mapRising 0 (s.eng e).dm = true → mapRead 0 ((s.kCommit e t ((s.kCtx e t).setDm a [w]) pc).eng e).dm a = w) := by
  rw [dm_kCommit h]
  exact ⟨fun x hx => mapRead_mapSet_ne 0 0 _ (Ne.symm hx) w, fun hm => (mapRead_mapSet 0 hm a a w).trans (if_pos rfl)⟩

/-- What a store into the window leaves in the pools: its four bytes, and every other as it was. -/
theorem pools_after_store (w pc v : Nat) :
    (∀ x, x < (s.kCtx e t).at w ∨ (s.kCtx e t).at w + 4 ≤ x →
      mapRead 0 (s.kCommit e t ((s.kCtx e t).setPool w (leBytes 4 v)) pc).kalmel.pools x = mapRead 0 s.kalmel.pools x) ∧
    (mapRising 0 s.kalmel.pools = true →
      ((s.kCommit e t ((s.kCtx e t).setPool w (leBytes 4 v)) pc).kCtx e t).poolBytes w 4 = leBytes 4 v) := by
  constructor
  · intro x hx
    exact mapRead_putPool_of_outside _ _ _ (by rwa [length_leBytes])
  · intro hm
    have hback := poolBytes_setPool (k := s.kCtx e t) hm w (leBytes 4 v)
    rwa [length_leBytes] at hback

theorem instr_kPush (h : s.canRun e t 1 = true) {a : Nat} (ha : a = (t.reg 14).toNat) (hlo : 0x801 ≤ a) (hhi : a ≤ 0xC00) (r : Nat) :
    s.instr e 1 (kPush r) =
      s.kCommit e t (({ s.kCtx e t with t := t.setReg 14 (BitVec.ofNat 36 (a - 1)) } : KCtx).setDm (a - 1) [t.reg r]) (t.pc + 1) := by
  subst ha
  have hw : dmWrite t.start.priv ((t.reg 14).toNat - 1) = true := by
    unfold dmWrite
    split <;> simp only [decide_eq_true_eq] <;> omega
  exact instr_go h ((if_neg (Nat.not_lt.mpr hlo)).trans (if_pos hw))

theorem instr_kPop (h : s.canRun e t 1 = true) {a : Nat} (ha : a = (t.reg 14).toNat) (hhi : a ≤ 0xBFF) (r : Nat) :
    s.instr e 1 (kPop r) =
      s.ran e t 1 ((t.setReg 14 (BitVec.ofNat 36 (a + 1))).setReg r (mapRead 0 (s.eng e).dm a)) := by
  subst ha
  have hr : dmRead t.start.priv (t.reg 14).toNat = true := by
    unfold dmRead
    split <;> simp only [decide_eq_true_eq] <;> omega
  have hin : ¬ 0xC00 < (t.reg 14).toNat + 1 := by omega
  exact instr_go h ((if_neg hin).trans (if_pos hr))

/-- Settles O16: each access is checked before it has an effect, and writes what it names alone. -/
theorem kalmelMemory : Obligations.KalmelMemory := by
  unfold Obligations.KalmelMemory
  refine ⟨?memory, ?stack⟩
  case memory =>
    rintro s e t r b off a w h rfl rfl
    have ht := (ready_spec (canRun_ready h)).1
    refine ⟨congrArg Host.Outcome.next (instr_kLd h r b off), congrArg Host.Outcome.next (instr_kLdp h r b off), ?_, ?_, ?_, ?_⟩
    · intro hp
      have hno : ¬ dmWrite t.start.priv ((t.reg b).toNat + off) = true := by simp [hp]
      exact congrArg Host.Outcome.next (instr_fault h (f := kSt r b off) (if_neg hno))
    · intro hp
      exact congrArg Host.Outcome.next
        (instr_fault h (f := kStp r b off) (if_neg (fun hok => hp ((poolOk_iff _ _).mp hok))))
    · intro hp
      exact ⟨_, congrArg Host.Outcome.next (instr_go h (f := kSt r b off) (if_pos hp)), rfl, dm_after_store ht _ _ _⟩
    · intro hp
      exact ⟨_, congrArg Host.Outcome.next (instr_go h (f := kStp r b off) (if_pos ((poolOk_iff _ _).mpr hp))), rfl,
        pools_after_store _ _ _⟩
  case stack =>
    intro s e t r a h ha
    refine ⟨fun hlo hhi => congrArg Host.Outcome.next (instr_kPush h ha hlo hhi r),
      fun hhi => congrArg Host.Outcome.next (instr_kPop h ha hhi r), ?_, ?_⟩
    · intro hlo
      subst ha
      exact congrArg Host.Outcome.next (instr_fault h (f := kPush r) (if_pos hlo))
    · intro hhi
      subst ha
      exact congrArg Host.Outcome.next (instr_fault h (f := kPop r) (if_pos (Nat.lt_succ_of_le hhi)))

end Sys2Proof.Machine
end

section
/-! PROOF. CALLM and RETM (11_kalmel_engines.md R421, R424-R428; 12_kalmel_instruction_set.md R468): the frame that CALLM writes is
the one RETM reads, whatever the registers hold in between. -/

namespace Sys2Proof.Machine

variable {s : State} {e : EngRef} {t c : Task} {m n kt : Nat}

/-! ### Registers -/

theorem Task.reg_setReg (h : t.k.length = 16) {i : Nat} (hi : i < 16) (d : Nat) (v : EWord) :
    (t.setReg d v).reg i = if d % 16 = i then v else t.reg i := by
  have hd : d % 16 < 16 := Nat.mod_lt d (by decide)
  simp only [Task.reg, Task.setReg, List.getD_eq_getElem?_getD, List.getElem?_set, h, Nat.mod_eq_of_lt hi, hd, if_true]
  split_ifs <;> rfl

theorem Task.length_setReg (t : Task) (d : Nat) (v : EWord) : (t.setReg d v).k.length = t.k.length :=
  List.length_set

theorem length_foldl_setReg (rs : List Nat) (f : Nat → EWord) (c : Task) :
    (rs.foldl (fun u r => u.setReg r (f r)) c).k.length = c.k.length := by
  induction rs generalizing c with
  | nil => rfl
  | cons r rs ih => rw [List.foldl_cons, ih, Task.length_setReg]

/-- Registers set one after the other, each to the value of its own number. -/
theorem reg_foldl_setReg (hc : c.k.length = 16) {rs : List Nat} (hr : ∀ r ∈ rs, r < 16) (f : Nat → EWord) {i : Nat} (hi : i < 16) :
    (rs.foldl (fun u r => u.setReg r (f r)) c).reg i = if i ∈ rs then f i else c.reg i := by
  induction rs generalizing c with
  | nil => simp
  | cons r rs ih =>
    have hr0 : r % 16 = r := Nat.mod_eq_of_lt (hr r List.mem_cons_self)
    rw [List.foldl_cons, ih (by rw [Task.length_setReg, hc]) (fun x hx => hr x (List.mem_cons_of_mem _ hx)),
      Task.reg_setReg hc hi, hr0]
    by_cases h : i ∈ rs
    · simp [h]
    · by_cases hir : r = i
      · simp [hir]
      · simp [h, hir, Ne.symm hir]

/-! ### The frame -/

theorem mem_maskRegs {i : Nat} (hi : i < 8) : 4 + i ∈ maskRegs m ↔ m.testBit i = true := by
  simp only [maskRegs, maskList, bit, List.mem_map, List.mem_filter, List.mem_range]
  constructor
  · rintro ⟨j, ⟨-, hj⟩, hij⟩
    rwa [show i = j by omega]
  · exact fun h => ⟨i, ⟨hi, h⟩, Nat.add_comm i 4⟩

theorem maskRegs_range {r : Nat} (h : r ∈ maskRegs m) : 4 ≤ r ∧ r < 12 := by
  simp only [maskRegs, maskList, List.mem_map, List.mem_filter, List.mem_range] at h
  obtain ⟨j, ⟨hj, -⟩, rfl⟩ := h
  omega

theorem length_maskRegs : (maskRegs m).length = ((List.range 8).filter m.testBit).length :=
  List.length_map _

theorem length_maskRegs_le : (maskRegs m).length ≤ 8 := by
  rw [length_maskRegs]
  exact List.length_filter_le _ _

/-- The header spells the mask and the return address (R425). -/
theorem toNat_frameHeader (hm : m < 256) {p : Nat} (hp : p < 2 ^ 13) : (frameHeader m p).toNat = m * 2 ^ 28 + p := by
  rw [frameHeader, Nat.mod_eq_of_lt hm, Nat.mod_eq_of_lt hp, BitVec.toNat_ofNat, Nat.mod_eq_of_lt (by omega)]

theorem canExec_lt {q : Priv} {p : Nat} (h : canExec q p = true) : p < 2 ^ 13 := by
  cases q <;> simp only [canExec, Bool.and_eq_true, decide_eq_true_eq] at h <;> omega

/-- Addresses below 0xC00 may be written, and read, at every privilege. -/
theorem dmWrite_of_lt {q : Priv} {a : Nat} (h : a < 0xC00) : dmWrite q a = true := by
  cases q <;> simp only [dmWrite, decide_eq_true_eq] <;> omega

theorem dmRead_of_lt {q : Priv} {a : Nat} (h : a < 0xC00) : dmRead q a = true := by
  cases q <;> simp only [dmRead, decide_eq_true_eq] <;> omega

/-- CALLM whose target may run and whose frame fits the stack. -/
theorem kCallm_goto {k : KCtx} (hx : canExec k.priv (k.t.reg kt).toNat = true) (hlo : 0x800 + (maskRegs m).length + 1 ≤ k.t.sp)
    (hhi : k.t.sp ≤ 0xC00) :
    kCallm m kt k = .goto ({ k with t := k.t.setSp (k.t.sp - ((maskRegs m).length + 1)) }.setDm (k.t.sp - ((maskRegs m).length + 1))
      (frameHeader m (k.t.pc + 1) :: (maskRegs m).map k.t.reg)) (k.t.reg kt).toNat := by
  have hall : (List.range ((maskRegs m).length + 1)).all
      (fun i => dmWrite k.priv (k.t.sp - ((maskRegs m).length + 1) + i)) = true := by
    simp only [List.all_eq_true, List.mem_range]
    exact fun i hi => dmWrite_of_lt (by omega)
  have hfits : ¬ k.t.sp < 0x800 + ((maskRegs m).length + 1) := by omega
  simp only [kCallm, hx, hall, if_neg hfits, Bool.not_true, Bool.false_eq_true, if_false]

/-- RETM at a frame of mask m and return address p that lies in the stack. -/
theorem kRetm_goto {k : KCtx} (hm : m < 256) {p : Nat} (hp : canExec k.priv p = true) (hh : k.dmAt k.t.sp = frameHeader m p)
    (hhi : k.t.sp + 1 + (maskRegs m).length ≤ 0xC00) {f : Nat → EWord}
    (hf : ∀ i (hi : i < (maskRegs m).length), k.dmAt (k.t.sp + 1 + i) = f (maskRegs m)[i]) :
    kRetm k = .goto
      { k with t := ((maskRegs m).foldl (fun u r => u.setReg r (f r)) k.t).setSp (k.t.sp + 1 + (maskRegs m).length) } p := by
  have hp13 := canExec_lt hp
  have hmask : bitsOf (frameHeader m p).toNat 35 28 = m := by
    rw [toNat_frameHeader hm hp13]
    simp only [bitsOf, Nat.reduceSub, Nat.reduceAdd, Nat.reducePow] at hp13 ⊢
    omega
  have hzero : bitsOf (frameHeader m p).toNat 27 13 = 0 := by
    rw [toNat_frameHeader hm hp13]
    simp only [bitsOf, Nat.reduceSub, Nat.reduceAdd, Nat.reducePow] at hp13 ⊢
    omega
  have hpc : bitsOf (frameHeader m p).toNat 12 0 = p := by
    rw [toNat_frameHeader hm hp13]
    simp only [bitsOf, Nat.reduceSub, Nat.reduceAdd, Nat.reducePow] at hp13 ⊢
    omega
  have hfold : (List.range (maskRegs m).length).foldl
      (fun t i => t.setReg ((maskRegs m).getD i 4) (k.dmAt (k.t.sp + 1 + i))) k.t =
      (maskRegs m).foldl (fun u r => u.setReg r (f r)) k.t := by
    have hmap : (List.range (maskRegs m).length).map (fun i => (maskRegs m).getD i 4) = maskRegs m := by
      apply List.ext_getElem (by simp)
      intro i _ hi
      simp [hi]
    conv_rhs => rw [← hmap, List.foldl_map]
    refine List.foldl_ext _ _ _ fun u i hi => ?_
    have hlt := List.mem_range.mp hi
    rw [hf i hlt, List.getD_eq_getElem _ _ hlt]
  have hin : ¬ 0xC00 < k.t.sp + 1 := by omega
  have hlast : decide (0xC00 < k.t.sp + 1 + (maskRegs m).length) = false := decide_eq_false (by omega)
  simp only [kRetm, hh, hmask, hzero, hpc, if_neg hin, dmRead_of_lt (q := k.priv) (show k.t.sp < 0xC00 by omega), hlast, hp, hfold,
    bne_self_eq_false, Bool.or_self, Bool.not_true, Bool.false_eq_true, if_false]

/-! ### The pair -/

/-- The registers RETM restores are those of the mask; the others keep what they hold. -/
theorem reg_after_retm (hc : c.k.length = 16) (f : Nat → EWord) (sp : Nat) {i : Nat} (hi : i < 8) :
    (((maskRegs m).foldl (fun u r => u.setReg r (f r)) c).setSp sp).reg (4 + i) =
      if m.testBit i then f (4 + i) else c.reg (4 + i) := by
  rw [Task.setSp, Task.reg_setReg (by rw [length_foldl_setReg, hc]) (by omega), if_neg (by omega),
    reg_foldl_setReg hc (fun r hr => by have := maskRegs_range hr; omega) f (by omega)]
  simp only [mem_maskRegs hi]

/-- k14 after it was set. -/
theorem sp_setSp (hc : c.k.length = 16) (sp : Nat) : (c.setSp sp).reg 14 = BitVec.ofNat 36 sp := by
  rw [Task.setSp, Task.reg_setReg hc (by omega), if_pos rfl]

/-- Settles O17: RETM reads back the header and the registers that CALLM wrote. -/
theorem kalmelCallAndReturn : Obligations.KalmelCallAndReturn := by
  unfold Obligations.KalmelCallAndReturn
  rintro s e t m kt n h hm rfl hk hdm hx hret hlo hhi
  rw [← length_maskRegs] at hlo ⊢
  set n := (maskRegs m).length with hn
  have hn8 : n ≤ 8 := length_maskRegs_le
  set sp := (t.reg 14).toNat with hsp
  set base := sp - (n + 1) with hbase
  set ws := frameHeader m (t.pc + 1) :: (maskRegs m).map t.reg with hws
  have hlen : ws.length = n + 1 := by rw [hws, List.length_cons, List.length_map]
  have ht := (ready_spec (canRun_ready h)).1
  have hu : s.instr e 1 (kCallm m kt) = s.kCommit e t ({ s.kCtx e t with t := t.setSp base }.setDm base ws) (t.reg kt).toNat :=
    instr_to h (kCallm_goto hx hlo hhi)
  have hbase1 : sp - n - 1 = base := by omega
  have hdm' : ∀ pc, ((s.kCommit e t ({ s.kCtx e t with t := t.setSp base }.setDm base ws) pc).eng e).dm =
      putWords (s.eng e).dm base ws := fun pc => dm_kCommit ht _ _ _
  have hbase36 : (BitVec.ofNat 36 base).toNat = base := by
    rw [BitVec.toNat_ofNat]
    exact Nat.mod_eq_of_lt (by omega)
  have hheader : mapRead 0 (putWords (s.eng e).dm base ws) base = frameHeader m (t.pc + 1) := mapRead_putWords hdm base ws (i := 0) (by omega)
  refine ⟨_, _, congrArg Host.Outcome.next hu, task_kCommit ht _ _ _, rfl, ?sp, ?kept, ?header, ?frame, ?back⟩
  case sp => exact (congrArg BitVec.toNat (sp_setSp hk base)).trans (hbase36.trans hbase1.symm)
  case kept =>
    intro i hi hi16
    exact (Task.reg_setReg hk hi16 14 _).trans (if_neg (fun h14 => hi h14.symm))
  case header =>
    rw [hdm', hbase1, hheader]
    exact BitVec.eq_of_toNat_eq (by rw [toNat_frameHeader hm (canExec_lt hret), BitVec.toNat_ofNat, Nat.mod_eq_of_lt (by
      have := canExec_lt hret
      omega)])
  case frame =>
    intro x hx
    rw [hdm']
    exact mapRead_putWords_of_outside _ _ _ (by omega)
  case back =>
    intro w c hw hc h14 hpriv hwdm
    rw [hdm'] at hwdm
    have hcsp : c.sp = base := by
      rw [Task.sp, h14]
      exact (congrArg BitVec.toNat (sp_setSp hk base)).trans hbase36
    have hsaved : ∀ i (hi : i < (maskRegs m).length), mapRead 0 (w.eng e).dm (c.sp + 1 + i) = t.reg (maskRegs m)[i] := by
      intro i hi
      have hread := mapRead_putWords hdm base ws (i := i + 1) (by omega)
      rw [hwdm, hcsp, Nat.add_assoc, Nat.add_comm 1 i, hread]
      simp [hws]
    have hretc : canExec c.start.priv (t.pc + 1) = true := by rwa [hpriv]
    have hret' : w.instr e 1 kRetm = w.kCommit e c
        { w.kCtx e c with t := ((maskRegs m).foldl (fun u r => u.setReg r (t.reg r)) c).setSp (c.sp + 1 + n) } (t.pc + 1) :=
      instr_to hw (kRetm_goto hm (k := w.kCtx e c) hretc (by
        show mapRead 0 (w.eng e).dm c.sp = _
        rw [hwdm, hcsp, hheader]) (show c.sp + 1 + n ≤ 0xC00 by omega) hsaved)
    refine ⟨_, _, congrArg Host.Outcome.next hret', task_kCommit (ready_spec (canRun_ready hw)).1 _ _ _, rfl, ?_, ?_⟩
    · refine (sp_setSp (by rw [length_foldl_setReg, hc]) _).trans ?_
      rw [show c.sp + 1 + n = sp by omega, hsp, BitVec.ofNat_toNat, BitVec.setWidth_eq]
    · exact fun i hi => reg_after_retm hc t.reg _ hi

end Sys2Proof.Machine
end

section
/-! PROOF. Branches and the faults of CALLM and RETM (11_kalmel_engines.md R421, R428; 12_kalmel_instruction_set.md R455, R461, R467,
R468). -/

namespace Sys2Proof.Machine

variable {s : State} {e : EngRef} {t : Task} {c m kt : Nat}

/-- A jump goes to a target in the X regions and is PROTECT elsewhere. -/
theorem instr_jumpTo {n : Nat} (h : s.canRun e t n = true) {f : KCtx → KOut} {a : Nat} (hf : f (s.kCtx e t) = jumpTo a (s.kCtx e t)) :
    s.instr e n f = if canExec t.start.priv a then s.kCommit e t (s.kCtx e t) a else s.kFault e t .protect := by
  split
  next hx => exact instr_to h (hf.trans (if_pos hx))
  next hx => exact instr_fault h (hf.trans (if_neg hx))

theorem instr_kJmpcc (h : s.canRun e t 2 = true) {a : Nat} (ha : a < 0x2000) : s.instr e 2 (kJmpcc c a) =
    if condHolds c t.fl then (if canExec t.start.priv a then s.kCommit e t (s.kCtx e t) a else s.kFault e t .protect)
    else s.ran e t 2 t := by
  have hin : kJmpcc c a (s.kCtx e t) = if condHolds c t.fl then jumpTo a (s.kCtx e t) else .go (s.kCtx e t) :=
    if_neg (Nat.not_le.mpr ha)
  by_cases hc : condHolds c t.fl = true
  · rw [if_pos hc]
    exact instr_jumpTo h (hin.trans (if_pos hc))
  · rw [if_neg hc]
    exact instr_go h (hin.trans (if_neg hc))

/-- The target of a short branch, within program memory. -/
def branchTarget (pc disp : Nat) : Nat := (pc + 1 + (if disp % 128 < 64 then disp % 128 else 8192 + disp % 128 - 128)) % 8192

theorem branchTarget_eq {pc disp : Nat} (hd : disp < 128) :
    (branchTarget pc disp : Int) = ((pc : Int) + 1 + (if disp < 64 then (disp : Int) else disp - 128)) % 8192 := by
  unfold branchTarget
  split_ifs <;> omega

theorem kBranch_taken {disp : Nat} (hc : condHolds c t.fl = true) :
    kBranch c disp (s.kCtx e t) = jumpTo (branchTarget t.pc disp) (s.kCtx e t) :=
  if_pos hc

/-- Settles O18: a jump's target is checked before it is taken, and CALLM and RETM check the stack before they write. -/
theorem kalmelBranchesAndFrameFaults : Obligations.KalmelBranchesAndFrameFaults := by
  unfold Obligations.KalmelBranchesAndFrameFaults
  refine ⟨fun s e t c a disp r => ⟨?jmp, ?branch, ?jr⟩, fun s e t m kt h => ⟨?target, ?stack, ?top, ?header⟩⟩
  case jmp => exact fun h ha => congrArg Host.Outcome.next (instr_kJmpcc h ha)
  case branch =>
    intro h hd hpc
    refine ⟨fun hc => ?_, fun hc => ⟨branchTarget t.pc disp, Nat.mod_lt _ (by decide), branchTarget_eq hd, ?_⟩⟩
    · have hno : ¬ condHolds c t.fl = true := by simp [hc]
      exact congrArg Host.Outcome.next (instr_go h (f := kBranch c disp) (if_neg hno))
    · exact congrArg Host.Outcome.next (instr_jumpTo h (kBranch_taken hc))
  case jr => exact fun h => congrArg Host.Outcome.next (instr_jumpTo h (f := kJr r) rfl)
  case target =>
    intro hx
    have hno : (!canExec t.start.priv (t.reg kt).toNat) = true := by simp [hx]
    exact congrArg Host.Outcome.next (instr_fault h (f := kCallm m kt) (if_pos hno))
  case stack =>
    intro hx hlo
    have hyes : ¬ (!canExec t.start.priv (t.reg kt).toNat) = true := by simp [hx]
    have hlow : t.sp < 0x800 + ((maskRegs m).length + 1) := by
      rw [Task.sp]
      omega
    exact congrArg Host.Outcome.next (instr_fault h (f := kCallm m kt) ((if_neg hyes).trans (if_pos hlow)))
  case top => exact fun hhi => congrArg Host.Outcome.next (instr_fault h (f := kRetm) (if_pos (Nat.lt_succ_of_le hhi)))
  case header =>
    intro hhi hbits
    have hin : ¬ 0xC00 < t.sp + 1 := by
      rw [Task.sp]
      omega
    have hread : dmRead t.start.priv t.sp = true := dmRead_of_lt hhi
    have hbad : (bitsOf ((s.kCtx e t).dmAt t.sp).toNat 27 13 != 0) = true := bne_iff_ne.mpr hbits
    have hf : kRetm (s.kCtx e t) = .fault .stack := by
      simp only [kRetm, kCtx_t, if_neg hin, KCtx.priv, hread, hbad, Bool.or_true, Bool.true_or, Bool.not_true, Bool.false_eq_true,
        if_false, if_true]
    exact congrArg Host.Outcome.next (instr_fault h hf)

end Sys2Proof.Machine
end

section
/-! PROOF. The SHAPE and TIME groups (11_kalmel_engines.md R430-R432; 12_kalmel_instruction_set.md R470-R472). -/

namespace Sys2Proof.Machine

variable {s : State} {e : EngRef} {t : Task} {d r p w : Nat}

/-! ### SHAPE: values -/

theorem getLsbD_lowMask {i : Nat} (hi : i < 36) : (lowMask w).getLsbD i = decide (i < w) := by
  rw [lowMask, BitVec.getLsbD_ofNat, Nat.testBit_two_pow_sub_one]
  simp [hi]

/-- BFI takes bits p to p + w - 1 from ks and the others from kd. -/
theorem getLsbD_bfi (a b : EWord) {i : Nat} (hi : i < 36) :
    ((a &&& ~~~(lowMask w <<< p)) ||| ((b <<< p) &&& (lowMask w <<< p))).getLsbD i =
      if p ≤ i ∧ i < p + w then b.getLsbD (i - p) else a.getLsbD i := by
  have hmask : (lowMask w <<< p).getLsbD i = decide (p ≤ i ∧ i < p + w) := by
    rw [BitVec.getLsbD_shiftLeft, getLsbD_lowMask (by omega)]
    by_cases hp : p ≤ i
    · simp [hi, hp, Nat.not_lt.mpr hp, Nat.sub_lt_iff_lt_add hp, Nat.add_comm]
    · simp [hp, Nat.lt_of_not_le hp]
  rw [BitVec.getLsbD_or, BitVec.getLsbD_and, BitVec.getLsbD_and, BitVec.getLsbD_not, hmask, BitVec.getLsbD_shiftLeft]
  by_cases hin : p ≤ i ∧ i < p + w
  · simp [hin, hi, Nat.not_lt.mpr hin.1]
  · simp [hin, hi]

theorem toNat_bfx (a : EWord) (hw : w ≤ 36) : ((a >>> p) &&& lowMask w).toNat = a.toNat / 2 ^ p % 2 ^ w := by
  have hlt : 2 ^ w - 1 < 2 ^ 36 := by
    have := Nat.pow_le_pow_right (show 0 < 2 by decide) hw
    omega
  rw [BitVec.toNat_and, lowMask, BitVec.toNat_ofNat, Nat.mod_eq_of_lt hlt, Nat.and_two_pow_sub_one_eq_mod, BitVec.toNat_ushiftRight,
    Nat.shiftRight_eq_div_pow]

/-- The leading zeros of a word: above them nothing is set, and the next bit is. -/
theorem leadingZeros_spec (a : EWord) :
    leadingZeros a ≤ 36 ∧ a.toNat < 2 ^ (36 - leadingZeros a) ∧ (leadingZeros a < 36 → 2 ^ (35 - leadingZeros a) ≤ a.toNat) := by
  have hhigh : ∀ i, 36 ≤ i → a.toNat.testBit i = false := fun i hi =>
    Nat.testBit_lt_two_pow (lt_of_lt_of_le a.isLt (Nat.pow_le_pow_right (by decide) hi))
  unfold leadingZeros
  cases hfind : (List.range 36).find? (fun i => a.getLsbD (35 - i)) with
  | none =>
    refine ⟨le_refl _, Nat.lt_pow_two_of_testBit _ fun i _ => ?_, fun h => absurd h (lt_irrefl _)⟩
    rcases Nat.lt_or_ge i 36 with hi | hi
    · have hno := List.find?_eq_none.mp hfind (35 - i) (List.mem_range.mpr (by omega))
      rw [show 35 - (35 - i) = i by omega] at hno
      exact Bool.eq_false_iff.mpr hno
    · exact hhigh i hi
  | some n =>
    obtain ⟨hset, hn, hbefore⟩ := List.find?_range_eq_some.mp hfind
    have hn36 := List.mem_range.mp hn
    refine ⟨hn36.le, Nat.lt_pow_two_of_testBit _ fun i hi => ?_, fun _ => Nat.ge_two_pow_of_testBit hset⟩
    rw [Option.getD_some] at hi
    rcases Nat.lt_or_ge i 36 with hi36 | hi36
    · have hno := hbefore (35 - i) (by omega)
      rw [show 35 - (35 - i) = i by omega] at hno
      simpa [BitVec.getLsbD] using hno
    · exact hhigh i hi36

/-- Byte i of what BPERM makes of a word. -/
def permByte (src sel zm i : Nat) : Nat := if zm.testBit i then 0 else src / 256 ^ (sel / 4 ^ i % 4) % 256

theorem permByte_lt (src sel zm i : Nat) : permByte src sel zm i < 256 := by
  unfold permByte
  split <;> omega

theorem kBperm_eq {sel zm : Nat} : kBperm d r sel zm t = t.logic d (BitVec.ofNat 36
    (permByte (t.reg r).toNat sel zm 0 * 256 ^ 0 + permByte (t.reg r).toNat sel zm 1 * 256 ^ 1 +
      permByte (t.reg r).toNat sel zm 2 * 256 ^ 2 + permByte (t.reg r).toNat sel zm 3 * 256 ^ 3)) := by
  have hbyte : ∀ i, (if bit zm i then 0 else (t.reg r).toNat / 256 ^ (sel / 4 ^ i % 4) % 256 * 256 ^ i) =
      permByte (t.reg r).toNat sel zm i * 256 ^ i := fun i => by
    unfold permByte bit
    split_ifs <;> simp
  exact congrArg (fun n => t.logic d (BitVec.ofNat 36 n))
    (congrArg₂ (· + ·) (congrArg₂ (· + ·) (congrArg₂ (· + ·) (hbyte 0) (hbyte 1)) (hbyte 2)) (hbyte 3))

/-! ### Which instruction runs -/

theorem canRun_wait (h : s.canRun e t 2 = true) : t.wait = .none := (ready_spec (canRun_ready h)).2.1

/-- Every profile-group instruction but SEV runs as the others do. -/
theorem prof_eq_instr (h : s.canRun e t 2 = true) {pos ks kd x : Nat} (hsev : t.start.profile = false ∨ pos ≠ 1) :
    s.prof e pos ks kd x = s.instr e 2 (profOp s.deviceTime pos ks kd x (e.slot % 32)) := by
  have hno : (t.start.profile && pos == 1 && kd == 0 && x == 0) = false := by
    rcases hsev with hp | hp <;> simp [hp]
  simp only [State.prof, canRun_ready h, hno, Bool.false_eq_true, if_false]

/-- A profile-group instruction that goes on with task u. -/
theorem prof_go (h : s.canRun e t 2 = true) {pos ks kd x : Nat} (hsev : t.start.profile = false ∨ pos ≠ 1) {u : Task}
    (hu : profOp s.deviceTime pos ks kd x (e.slot % 32) (s.kCtx e t) = .go { s.kCtx e t with t := u }) :
    s.prof e pos ks kd x = s.ran e t 2 u :=
  (prof_eq_instr h hsev).trans (instr_go h hu)

theorem fieldX_hi (hp : p < 64) (hw : w < 64) : bitsOf (p % 64 * 64 + w % 64) 11 6 = p := by
  simp only [bitsOf, Nat.reduceSub, Nat.reduceAdd, Nat.reducePow]
  omega

theorem fieldX_lo (hw : w < 64) : bitsOf (p % 64 * 64 + w % 64) 5 0 = w := by
  simp only [bitsOf, Nat.reduceSub, Nat.reduceAdd, Nat.reducePow]
  omega

section
variable (h : s.canRun e t 2 = true) (hs : t.start.profile = false)
include h hs

theorem prof_bfi : p < 64 → w < 64 → s.prof e 0 r d (p % 64 * 64 + w % 64) =
    if fieldOk p w then s.ran e t 2 (kBfi d r p w t) else s.kFault e t .illegal := by
  intro hp hw
  have hop : profOp s.deviceTime 0 r d (p % 64 * 64 + w % 64) (e.slot % 32) (s.kCtx e t) = shapeBfi d r p w (s.kCtx e t) := by
    simp only [profOp, kCtx_t, hs, fieldX_hi hp hw, fieldX_lo hw]
  rw [prof_eq_instr h (.inl hs)]
  split
  next hok => exact instr_go h (hop.trans (if_pos hok))
  next hok => exact instr_fault h (hop.trans (if_neg hok))

theorem prof_bfx : p < 64 → w < 64 → s.prof e 1 r d (p % 64 * 64 + w % 64) =
    if fieldOk p w then s.ran e t 2 (kBfx d r p w t) else s.kFault e t .illegal := by
  intro hp hw
  have hop : profOp s.deviceTime 1 r d (p % 64 * 64 + w % 64) (e.slot % 32) (s.kCtx e t) = shapeBfx d r p w (s.kCtx e t) := by
    simp only [profOp, kCtx_t, hs, fieldX_hi hp hw, fieldX_lo hw]
  rw [prof_eq_instr h (.inl hs)]
  split
  next hok => exact instr_go h (hop.trans (if_pos hok))
  next hok => exact instr_fault h (hop.trans (if_neg hok))

theorem prof_clz : s.prof e 2 r d 0 = s.ran e t 2 (kClz d r t) :=
  prof_go h (.inl hs) (by simp only [profOp, kCtx_t, hs, if_true]; rfl)

theorem prof_bperm {sel zm : Nat} (hsel : sel < 256) (hzm : zm < 16) :
    s.prof e 3 r d (zm % 16 * 256 + sel % 256) = s.ran e t 2 (kBperm d r sel zm t) := by
  have hlo : bitsOf (zm % 16 * 256 + sel % 256) 7 0 = sel := by
    simp only [bitsOf, Nat.reduceSub, Nat.reduceAdd, Nat.reducePow]
    omega
  have hhi : bitsOf (zm % 16 * 256 + sel % 256) 11 8 = zm := by
    simp only [bitsOf, Nat.reduceSub, Nat.reduceAdd, Nat.reducePow]
    omega
  exact prof_go h (.inl hs) (by simp only [profOp, kCtx_t, hs, hlo, hhi]; rfl)

end

/-! ### TIME -/

/-- SEV of a slot the privilege may name goes on, of another is PROTECT (R431). -/
theorem timeSev_eq : timeSev (e.slot % 32) r (s.kCtx e t) =
    if t.start.priv = .f ∨ sevSlot (t.reg r) = e.slot % 32 then .go (s.kCtx e t) else .fault .protect := by
  by_cases h1 : t.start.priv = .f <;> by_cases h2 : sevSlot (t.reg r) = e.slot % 32 <;>
    simp [timeSev, KCtx.priv, h1, h2]

section
variable (h : s.canRun e t 2 = true) (hp : t.start.profile = true)
include h hp

theorem prof_wfe : s.prof e 0 0 d 0 = s.ran e t 2 (if t.evpend &&& t.wfeMask d = 0 then { t with wait := .wfe d }
    else t.takeEvents d (t.wfeMask d)) :=
  prof_go h (.inr (by decide)) (by simp only [profOp, kCtx_t, hp, and_self, if_true]; rfl)

theorem prof_waitc : s.prof e 2 r 0 0 = s.ran e t 2 (
    if reached s.time36 (t.reg r) then { t with fl := { t.fl with c := true } }
    else if t.evpend &&& t.wmask = 0 then { t with wait := .waitc (t.reg r) }
    else { t with fl := { t.fl with c := false } }) :=
  prof_go h (.inr (by decide)) (by simp only [profOp, kCtx_t, hp, and_self, if_true]; rfl)

theorem prof_rdt : s.prof e 3 0 d 0 =
    s.ran e t 2 { t.setReg d s.time36 with dthi := BitVec.ofNat 28 (s.deviceTime / 2 ^ 36) } :=
  prof_go h (.inr (by decide)) (by simp only [profOp, kCtx_t, hp, and_self, if_true]; rfl)

theorem prof_sev_go (hok : t.start.priv = .f ∨ sevSlot (t.reg r) = e.slot % 32) :
    s.prof e 1 r 0 0 = (s.ran e t 2 t).setEvent ⟨e.half, sevSlot (t.reg r)⟩ (sevLine (t.reg r)) := by
  have hgo : timeSev (e.slot % 32) r (s.kCtx e t) = .go (s.kCtx e t) := timeSev_eq.trans (if_pos hok)
  simp only [State.prof, State.sev, State.runInstr, canRun_ready h, canRun_check h, hp, hgo, beq_self_eq_true, Bool.and_self, if_true]
  rfl

theorem prof_sev_fault (h1 : t.start.priv ≠ .f) (h2 : sevSlot (t.reg r) ≠ e.slot % 32) : s.prof e 1 r 0 0 = s.kFault e t .protect := by
  have hno : timeSev (e.slot % 32) r (s.kCtx e t) = .fault .protect := timeSev_eq.trans (if_neg (by simp [h1, h2]))
  simp only [State.prof, State.sev, State.runInstr, canRun_ready h, canRun_check h, hp, hno, beq_self_eq_true, Bool.and_self, if_true]

end

/-- Settles O19: each instruction of the group of the task's profile, its value bit by bit. -/
theorem kalmelProfileGroups : Obligations.KalmelProfileGroups := by
  unfold Obligations.KalmelProfileGroups
  constructor
  · intro s e t d r p w h hs hp hw
    refine ⟨fun h1 h36 => ?_, fun hbad => ?_, ?_, fun sel zm hsel hzm => ?_⟩
    · have hok : fieldOk p w = true := decide_eq_true ⟨h1, h36⟩
      refine ⟨⟨_, fun i hi => getLsbD_bfi (p := p) (w := w) (t.reg d) (t.reg r) hi, ?_⟩,
        ⟨_, toNat_bfx (p := p) (t.reg r) (by omega), ?_⟩⟩
      · exact congrArg Host.Outcome.next ((prof_bfi h hs hp hw).trans ((if_pos hok).trans (congrArg _ (logic_eq _ _ _))))
      · exact congrArg Host.Outcome.next ((prof_bfx h hs hp hw).trans ((if_pos hok).trans (congrArg _ (logic_eq _ _ _))))
    · have hno : ¬ fieldOk p w = true := by
        rw [fieldOk, decide_eq_true_iff]
        omega
      exact ⟨congrArg Host.Outcome.next ((prof_bfi h hs hp hw).trans (if_neg hno)),
        congrArg Host.Outcome.next ((prof_bfx h hs hp hw).trans (if_neg hno))⟩
    · obtain ⟨hle, hlt, hge⟩ := leadingZeros_spec (t.reg r)
      have hval : (BitVec.ofNat 36 (leadingZeros (t.reg r))).toNat = leadingZeros (t.reg r) := by
        rw [BitVec.toNat_ofNat]
        omega
      exact ⟨_, _, hle, hval, hlt, hge, congrArg Host.Outcome.next ((prof_clz h hs).trans (congrArg _ (logic_eq _ _ _)))⟩
    · have h0 := permByte_lt (t.reg r).toNat sel zm 0
      have h1 := permByte_lt (t.reg r).toNat sel zm 1
      have h2 := permByte_lt (t.reg r).toNat sel zm 2
      have h3 := permByte_lt (t.reg r).toNat sel zm 3
      refine ⟨_, ?_, fun i hi => ?_,
        congrArg Host.Outcome.next ((prof_bperm h hs hsel hzm).trans (congrArg _ (kBperm_eq.trans (logic_eq _ _ _))))⟩
      · rw [BitVec.toNat_ofNat]
        omega
      · refine Eq.trans ?_ (show permByte (t.reg r).toNat sel zm i = _ from rfl)
        rw [BitVec.toNat_ofNat]
        interval_cases i <;> omega
  · rintro s e t d r m now h hp rfl rfl
    refine ⟨?wfe, ?waitc, congrArg Host.Outcome.next (prof_rdt h hp), ?sev, ?fault⟩
    case wfe =>
      have htake : t.takeEvents d (t.wfeMask d) = { t.setReg d ((t.evpend &&& t.wfeMask d).setWidth 36) with
          evpend := t.evpend &&& ~~~t.wfeMask d } := by
        rw [Task.takeEvents, ← canRun_wait h]
        rfl
      refine congrArg Host.Outcome.next ((prof_wfe h hp).trans ?_)
      rw [htake]
      rfl
    case waitc =>
      refine congrArg Host.Outcome.next ((prof_waitc h hp).trans ?_)
      simp only [reached, decide_eq_true_eq]
      rfl
    case sev =>
      intro hok
      have hline : sevLine (t.reg r) = 8 + (t.reg r).toNat % 8 := by simp [sevLine, bitsOf]
      rw [← hline]
      exact congrArg Host.Outcome.next (prof_sev_go h hp hok)
    case fault => exact fun h1 h2 => congrArg Host.Outcome.next (prof_sev_fault h hp h1 h2)

end Sys2Proof.Machine
end

section
/-! PROOF. SVC and SVCA, and what ends a wait (07_ranging.md R278; 11_kalmel_engines.md R429-R432, R440, R446;
12_kalmel_instruction_set.md R469). -/

namespace Sys2Proof.Machine

variable {s u : State} {e : EngRef} {t v : Task}

theorem reqPlace_iff : reqPlace t = true ↔ (t.reg 1).toNat % 4 = 0 ∧ (t.reg 1).toNat + 96 ≤ t.start.poolLim := by
  simp [reqPlace]

theorem instr_kSvc (h : s.canRun e t 1 = true) (hp : reqPlace t = true) : s.instr e 1 kSvc =
    s.ran e t 1 { t with wait := .svc ((s.kCtx e t).poolBytes (t.reg 1).toNat 64) (t.reg 1).toNat } :=
  instr_go h (if_pos hp)

theorem instr_kSvca (h : s.canRun e t 1 = true) (hp : reqPlace t = true) (hf : t.start.priv = .f) (hlen : t.svca.length < 4) :
    s.instr e 1 kSvca =
      s.ran e t 1 { t with svca := t.svca ++ [((s.kCtx e t).poolBytes (t.reg 1).toNat 64, (t.reg 1).toNat)] } :=
  instr_go h (by simp only [kSvca, KCtx.priv, kCtx_t, hf, hp, hlen, ne_eq, not_true_eq_false, if_false, Bool.not_true,
    Bool.false_eq_true, if_true])

/-! ### Ends of requests -/

/-- The task whose SVCA request i ended: the request is out of its list, and a fifth that waited goes into it. -/
def Task.served (t : Task) (i : Nat) (g : List Staged) : Task :=
  match t.wait with
  | .svca q o => { t with svca := t.svca.eraseIdx i ++ [(q, o)], staged := t.staged ++ g, wait := .none }
  | _ => { t with svca := t.svca.eraseIdx i, staged := t.staged ++ g }

theorem endSvca_done {req : Bytes} {off i : Nat} {r : Reply} {g : List Staged} (hd : s.service e t req = .done u r g) :
    s.endSvca e t i req off =
      ((u.putReply e (t.served i g) req off r).setTask e ((t.served i g).event 1)).leaveClaimed e := by
  simp only [State.endSvca, hd, Task.served] <;> cases t.wait <;> rfl

/-- EV1 of a task that waits for nothing becomes pending. -/
theorem event_one (hw : t.wait = .none) : t.event 1 = { t with evpend := t.evpend ||| 2 } := by
  simp only [Task.event, hw] <;> rfl

theorem exec_svca_end {req : Bytes} {off i : Nat} {r : Reply} {g : List Staged} (ht : s.task? e = some t)
    (hi : t.svca[i]? = some (req, off)) (hd : s.service e t req = .done u r g) (hv : t.served i g = v) (hw : v.wait = .none) :
    exec (.serviceRequestEnd e (some i)) s =
      .next (((u.putReply e v req off r).setTask e { v with evpend := v.evpend ||| 2 }).leaveClaimed e) := by
  have hend := endSvca_done (i := i) (off := off) hd
  rw [hv, event_one hw] at hend
  show execServiceRequestEnd e (some i) s = _
  simp only [execServiceRequestEnd, ht, hi, hend]

/-! ### Events and deadlines -/

theorem lineOk_iff (n : Nat) : lineOk n = true ↔ n < 3 ∨ (8 ≤ n ∧ n < 16) := by
  simp [lineOk]

theorem setEvent_eq (ht : s.task? e = some t) {n : Nat} (hn : n < 3 ∨ (8 ≤ n ∧ n < 16)) :
    s.setEvent e n = s.setTask e (t.event n) := by
  simp only [State.setEvent, ht, (lineOk_iff n).mpr hn, if_true]

/-- Settles O21: a request waits or goes on, its end writes the reply and lets the task go on, and an event ends the wait it is for. -/
theorem kalmelServicesAndEvents : Obligations.KalmelServicesAndEvents := by
  unfold Obligations.KalmelServicesAndEvents
  refine ⟨?issue, ?illegal, ?svcEnd, ?svcaEnd, ?fifth, ?event, ?deadline, ?record⟩
  case issue =>
    intro s e t h ha hl
    have hp : reqPlace t = true := reqPlace_iff.mpr ⟨ha, hl⟩
    exact ⟨congrArg Host.Outcome.next (instr_kSvc h hp), fun hf hlen => congrArg Host.Outcome.next (instr_kSvca h hp hf hlen)⟩
  case illegal => exact fun s e t h hf => congrArg Host.Outcome.next (instr_fault h (f := kSvca) (if_pos hf))
  case svcEnd =>
    intro s u e t req off r g ht hw hd
    show execServiceRequestEnd e none s = _
    simp only [execServiceRequestEnd, ht, hw, State.endSvc, hd]
  case svcaEnd =>
    rintro s u e t v i req off r g ht hi hw hd rfl
    exact exec_svca_end ht hi hd (by simp only [Task.served, hw]) hw
  case fifth =>
    rintro s u e t v i req q off o r g ht hi hw hd rfl
    exact exec_svca_end ht hi hd (by simp only [Task.served, hw]) rfl
  case event =>
    rintro s e t n p ht hn rfl
    exact (congrArg Host.Outcome.next (setEvent_eq ht hn)).trans rfl
  case deadline =>
    intro s e t d ht hw hr
    show execWaitcDeadline e s = _
    simp only [execWaitcDeadline, ht, hw, hr, if_true]
  case record => exact fun s r h => congrArg Host.Outcome.next (if_pos h)

end Sys2Proof.Machine
end

section
/-! PROOF. The freshness candidate (09_traffic_protection.md R349). -/

namespace Sys2Proof.Machine

variable {w last t : Nat}

theorem candidate_of_lt (h0 : 0 < w) (h64 : w < 64) (ht : last % 2 ^ w < t) : candidate w last t = last / 2 ^ w * 2 ^ w + t := by
  rw [candidate, if_neg (by omega), if_neg (by omega), if_pos ht]

theorem candidate_of_le (h0 : 0 < w) (h64 : w < 64) (ht : t ≤ last % 2 ^ w) : candidate w last t = (last / 2 ^ w + 1) * 2 ^ w + t := by
  rw [candidate, if_neg (by omega), if_neg (by omega), if_neg (by omega)]

/-- Every value with low bits t lies t above a multiple; the candidate's multiple is the first that puts it above the last value. -/
theorem candidate_least (h0 : 0 < w) (h64 : w < 64) {x : Nat} (hx : last < x) (hm : x % 2 ^ w = t) : candidate w last t ≤ x := by
  have hxs := Nat.div_add_mod' x (2 ^ w)
  have hls := Nat.div_add_mod' last (2 ^ w)
  have hle := Nat.div_le_div_right (c := 2 ^ w) hx.le
  rw [hm] at hxs
  rcases Nat.lt_or_ge (last % 2 ^ w) t with ht | ht
  · rw [candidate_of_lt h0 h64 ht]
    have := Nat.mul_le_mul_right (2 ^ w) hle
    omega
  · rw [candidate_of_le h0 h64 ht]
    have hne : last / 2 ^ w ≠ x / 2 ^ w := fun he => by
      rw [he] at hls
      omega
    have := Nat.mul_le_mul_right (2 ^ w) (show last / 2 ^ w + 1 ≤ x / 2 ^ w by omega)
    omega

/-- Settles O30: the candidate is above the last value, within 2^w of it, has the low bits received, and is the least such. -/
theorem freshnessCandidate : Obligations.FreshnessCandidate := by
  unfold Obligations.FreshnessCandidate
  intro w last t h0 h64 htw
  have hls := Nat.div_add_mod' last (2 ^ w)
  have hlm := Nat.mod_lt last (Nat.two_pow_pos w)
  have hmod : ∀ q, (q * 2 ^ w + t) % 2 ^ w = t := fun q => by rw [Nat.mul_add_mod_self_right, Nat.mod_eq_of_lt htw]
  have hleast : ∀ x, last < x → x % 2 ^ w = t → candidate w last t ≤ x := fun x hx hm => candidate_least h0 h64 hx hm
  rcases Nat.lt_or_ge (last % 2 ^ w) t with ht | ht
  · have hc := candidate_of_lt h0 h64 ht
    exact ⟨by omega, by rw [hc, hmod], by omega, hleast⟩
  · have hc := candidate_of_le h0 h64 ht
    have hnext : (last / 2 ^ w + 1) * 2 ^ w = last / 2 ^ w * 2 ^ w + 2 ^ w := by ring
    exact ⟨by omega, by rw [hc, hmod], by omega, hleast⟩

end Sys2Proof.Machine
end

section
/-! PROOF. Steps, checks of a command and the state after a power-on reset (00_scope.md R10, R19; 03_bring_up_and_reset.md R88, R99,
R106, R112; 04_host_link_and_partitions.md R136; 05_command_rings.md R179, R202). -/

namespace Sys2Proof.Machine

/-! ### Steps -/

/-- Every command's arm answers a next state. -/
theorem exec_next (c : Instr) (s : State) : ∃ t, exec c s = .next t := by
  cases c <;> exact ⟨_, rfl⟩

theorem step_next (s : State) : ∃ t, step s = .next t := by
  unfold step
  split
  · exact ⟨_, rfl⟩
  · exact exec_next _ _

theorem runsOn_of_steps (n : Nat) (s : State) : s.runsOn n := by
  induction n generalizing s with
  | zero => trivial
  | succ n ih =>
    obtain ⟨t, ht⟩ := step_next s
    exact ⟨t, ht, ih t⟩

/-- Settles O52: a step runs the front command, and on an empty queue a period passes, which leaves the registers. -/
theorem frontCommandRuns : Obligations.FrontCommandRuns := by
  unfold Obligations.FrontCommandRuns
  refine ⟨fun s c rest h => ?_, fun s h => ⟨?_, rfl, h⟩⟩
  · simp only [step, h]
  · simp only [step, h]

/-- Settles O53: each arm of the dispatch is a next state, so every run goes on. -/
theorem noCommandStops : Obligations.NoCommandStops :=
  ⟨exec_next, fun s n => runsOn_of_steps n s⟩

/-- Settles O55: the fields of the reset state are those of 03 R106, and its one register off its reset value is RESET_CAUSE. -/
theorem resetState : Obligations.ResetState := by
  unfold Obligations.ResetState
  refine ⟨rfl, rfl, rfl, rfl, rfl, rfl, rfl, rfl, fun a ha => ?_, by decide⟩
  have hmiss : mapGet State.reset.regs a = none := by
    show mapGet [(0x108, 1#32)] a = none
    rw [mapGet, if_neg (fun h => ha h.symm), mapGet]
  rw [State.reg, mapRead, hmiss, Option.getD_none]

/-! ### The order of the checks -/

section
variable {s : State} {i : OpInfo} {lifeOk : Bool} {body : State → Inflight → Work} {k : CmdKey} {c : Inflight}

/-- What a command whose turn has come goes through: steps 2 to 5 of R202, then its own rules. -/
def State.checked (s : State) (i : OpInfo) (lifeOk : Bool) (body : State → Inflight → Work) (k : CmdKey) (c : Inflight) : State :=
  match s.preCheck i lifeOk c with
  | some st => s.finish c false (.fail st)
  | none =>
    if c.readFail then s.finish c false { status := .badParam, detail := 1 } else
    if !i.params c then s.finish c false { status := .badParam, detail := i.paramDetail c } else
    match i.first s c <|> s.deviceCheck i c with
    | some st => s.finish c false (.fail st)
    | none => if i.draws c && s.drawHeld c then s.waitDraw k else (body s c).settle s k c

/-- No reset of its partition holds a command whose turn has come. -/
theorem turn_cases (h : s.turn? k c = true) : s.cmd? k = some c ∧ s.boot ≠ .failed ∧ s.admissible c = true ∧ s.halves.lost = false ∧
    s.gatesOpen = true ∧ s.disagrees k = false ∧ (∀ q, s.part? k.part = some q → q.inReset = none) := by
  simp only [State.turn?, Bool.and_eq_true, beq_iff_eq, decide_eq_true_eq, Bool.not_eq_true'] at h
  obtain ⟨⟨⟨⟨⟨⟨hcmd, hboot⟩, hadm⟩, hlost⟩, hgate⟩, hdis⟩, hreset⟩ := h
  refine ⟨hcmd, hboot, hadm, hlost, hgate, hdis, fun q hq => ?_⟩
  rw [hq] at hreset
  exact Option.isNone_iff_eq_none.mp hreset

theorem runCmd_of_turn (h : s.turn? k c = true) (hop : c.opcode = i.code) (hw : i.waits s c = false) :
    s.runCmd i lifeOk body k = s.checked i lifeOk body k c := by
  obtain ⟨hcmd, hboot, hadm, hlost, hgate, hdis, hreset⟩ := turn_cases h
  unfold State.runCmd State.checked
  simp only [hcmd, if_neg hboot, hop, hadm, hlost, hgate, hdis, hw, ne_eq, not_true_eq_false, decide_false, Bool.not_true, Bool.or_self,
    Bool.false_or]
  cases hq : s.part? k.part with
  | none => rfl
  | some q =>
    simp only [hreset q hq]
    rfl

theorem checked_of_preCheck {st : Status} (h : s.preCheck i lifeOk c = some st) :
    s.checked i lifeOk body k c = s.finish c false (.fail st) := by
  simp only [State.checked, h]

/-! The first checks -/

/-- The class a command names in its parameters is above its partition's. -/
def OpInfo.namesAbove (i : OpInfo) (c : Inflight) : Bool :=
  match i.clsAt with
  | some o => decide (leAt c.param o 1 < c.cls)
  | none => false

theorem preCheck_access (ha : i.issuer = .access) (hno : s.issuerOk .access c = false) : s.preCheck i lifeOk c = some .badOpcode := by
  simp only [State.preCheck, ha, hno, decide_true, Bool.not_false, Bool.and_self, if_true]

section
variable (ha : i.issuer = .access → s.issuerOk .access c = true)
include ha

/-- An access opcode from the access partition is an opcode as any other. -/
theorem access_held : (decide (i.issuer = .access) && !s.issuerOk .access c) = false := by
  by_cases hi : i.issuer = .access
  · simp [hi, ha hi]
  · simp [hi]

theorem preCheck_permission (h : s.issuerOk i.issuer c = false ∨ (c.classAbove || i.namesAbove c) = true) :
    s.preCheck i lifeOk c = some .notPermitted := by
  have hbad : (!s.issuerOk i.issuer c || c.classAbove || i.namesAbove c) = true := by
    rcases h with h | h
    · simp [h]
    · rw [Bool.or_assoc, h, Bool.or_true]
  rw [State.preCheck, access_held ha, if_neg Bool.false_ne_true]
  exact if_pos hbad

theorem preCheck_permitted (hi : s.issuerOk i.issuer c = true) (hc : (c.classAbove || i.namesAbove c) = false) :
    s.preCheck i lifeOk c = if !lifeOk || !i.lifeAlso s c then some .lifecycle else if !entryOk i c then some .badParam else none := by
  have hgood : ¬ (!s.issuerOk i.issuer c || c.classAbove || i.namesAbove c) = true := by
    rw [Bool.or_assoc, hc, hi]
    simp
  rw [State.preCheck, access_held ha, if_neg Bool.false_ne_true]
  exact if_neg hgood

end

/-! What follows the first checks -/

section
variable (hp : s.preCheck i lifeOk c = none)
include hp

theorem checked_readFail (hr : c.readFail = true) :
    s.checked i lifeOk body k c = s.finish c false { status := .badParam, detail := 1 } := by
  simp only [State.checked, hp, hr, if_true]

theorem checked_params (hr : c.readFail = false) (hpar : i.params c = false) :
    s.checked i lifeOk body k c = s.finish c false { status := .badParam, detail := i.paramDetail c } := by
  simp only [State.checked, hp, hr, hpar, Bool.false_eq_true, if_false, Bool.not_false, if_true]

theorem checked_device (hr : c.readFail = false) (hpar : i.params c = true) {st : Status}
    (h : (i.first s c <|> s.deviceCheck i c) = some st) : s.checked i lifeOk body k c = s.finish c false (.fail st) := by
  simp only [State.checked, hp, hr, hpar, h, Bool.false_eq_true, if_false, Bool.not_true]

theorem checked_body (hr : c.readFail = false) (hpar : i.params c = true) (h : (i.first s c <|> s.deviceCheck i c) = none) :
    s.checked i lifeOk body k c = if i.draws c = true ∧ s.drawHeld c = true then s.waitDraw k else (body s c).settle s k c := by
  simp only [State.checked, hp, hr, hpar, h, Bool.false_eq_true, if_false, Bool.not_true, Bool.and_eq_true]

end

theorem orElse_of_none {α : Type} {a b : Option α} (h : a = none) : (a <|> b) = b := by
  rw [h]
  rfl

theorem orElse_of_some {α : Type} {a b : Option α} {x : α} (h : a = some x) : (a <|> b) = some x := by
  rw [h]
  rfl

/-- Settles O56: a command whose turn has come runs through the checks, and each is met once those before it pass. -/
theorem checkOrder : Obligations.CheckOrder := by
  unfold Obligations.CheckOrder
  refine ⟨?failed, ?order⟩
  case failed =>
    intro s i lifeOk body k c hcmd hboot
    simp only [State.runCmd, hcmd, hboot, if_true]
  case order =>
    rintro s i lifeOk above body k c h hop hw habove
    rw [runCmd_of_turn h hop hw]
    have hc : (c.classAbove || i.namesAbove c) = above := by
      rw [habove]
      rfl
    refine ⟨fun ha hno => checked_of_preCheck (preCheck_access ha hno),
      fun ha hbad => checked_of_preCheck (preCheck_permission ha (hc ▸ hbad)), fun hi hab => ?_⟩
    have hpre : s.preCheck i lifeOk c = _ := preCheck_permitted (fun ha => ha ▸ hi) hi (hc.trans hab)
    refine ⟨fun hbad => checked_of_preCheck (hpre.trans (if_pos (by simpa using hbad))), fun hl hla => ?_⟩
    have hlife : s.preCheck i lifeOk c = if !entryOk i c then some .badParam else none := hpre.trans (if_neg (by simp [hl, hla]))
    refine ⟨fun he => checked_of_preCheck (hlife.trans (if_pos (by simp [he]))), fun he => ?_⟩
    have hnone : s.preCheck i lifeOk c = none := hlife.trans (if_neg (by simp [he]))
    refine ⟨checked_readFail hnone, checked_params hnone, fun hr hpar => ⟨fun st hst => ?_, fun hst => ?_⟩⟩
    · exact checked_device hnone hr hpar (orElse_of_some hst)
    · have hdev := orElse_of_none (b := s.deviceCheck i c) hst
      refine ⟨fun ht => ?_, fun ht hd hn => ?_, fun ht hd hdur hhold => ?_, fun ht hd hdur => ?_⟩
      · exact checked_device hnone hr hpar (hdev.trans (by simp [State.deviceCheck, ht]))
      · exact checked_device hnone hr hpar (hdev.trans (by simp [State.deviceCheck, ht, hd, hn]))
      · exact checked_device hnone hr hpar (hdev.trans (by rcases hd with hd | hd <;> simp [State.deviceCheck, ht, hd, hdur, hhold]))
      · refine checked_body hnone hr hpar (hdev.trans ?_)
        rcases hd with hd | hd <;> rcases hdur with hdur | hdur <;> simp [State.deviceCheck, ht, hd, hdur]

end

end Sys2Proof.Machine
end

section
/-! PROOF. Tokens, mark J and the CAN controllers (08_access_protocol_and_release.md R318, R320-R322; 21_card_port_and_can.md R720,
R723). -/

namespace Sys2Proof.Machine

variable {s t u : State}

/-! ### What telling a partition can change -/

/-- t differs from s in registers, functions, partitions and outputs alone: what events, messages and interrupts change. -/
def Tells (s t : State) : Prop := ∃ r f p o, t = { s with regs := r, fns := f, parts := p, out := o }

theorem Tells.refl (s : State) : Tells s s := ⟨s.regs, s.fns, s.parts, s.out, rfl⟩

theorem Tells.trans (h : Tells s t) (h' : Tells t u) : Tells s u := by
  obtain ⟨_, _, _, _, rfl⟩ := h
  obtain ⟨r, f, p, o, rfl⟩ := h'
  exact ⟨r, f, p, o, rfl⟩

theorem tells_setFld (s : State) (f : Fld) (v : Nat) : Tells s (s.setFld f v) := ⟨_, s.fns, s.parts, s.out, rfl⟩

theorem tells_updPart (s : State) (p : Nat) (f : PartSt → PartSt) : Tells s (s.updPart p f) := ⟨s.regs, s.fns, _, s.out, rfl⟩

theorem tells_sendMsg (s : State) (p v : Nat) : Tells s (s.sendMsg p v) := by
  unfold State.sendMsg
  split_ifs
  · exact .refl s
  · exact ⟨s.regs, _, s.parts, s.out, rfl⟩
  · exact ⟨s.regs, s.fns, s.parts, _, rfl⟩
  · exact .refl s

theorem tells_writeEvent (s : State) (p : Nat) (r : Evr) (e : Event) : Tells s (s.writeEvent p r e) := by
  have hwrite : ∀ o f, Tells s ((s.emit o).updPart p f) := fun o f => ⟨s.regs, s.fns, _, _, rfl⟩
  unfold State.writeEvent
  by_cases h : (r.head == r.tail) = true
  · exact (if_pos h).symm ▸ (hwrite _ _).trans (tells_sendMsg _ _ _)
  · exact (if_neg h).symm ▸ hwrite _ _

theorem tells_postTo (s : State) (p : Nat) (e : Event) : Tells s (s.postTo p e) := by
  unfold State.postTo
  split
  · exact .refl s
  · split
    · split_ifs
      · exact tells_updPart _ _ _
      · exact tells_updPart _ _ _
      · exact tells_writeEvent _ _ _ _
      · exact tells_updPart _ _ _
      · exact tells_updPart _ _ _
    · split_ifs
      · exact tells_updPart _ _ _
      · exact tells_updPart _ _ _

theorem tells_intNotify (s : State) (pg old : Nat) : Tells s (s.intNotify pg old) := by
  unfold State.intNotify
  dsimp only
  split_ifs
  · exact .refl s
  · exact tells_postTo _ _ _
  · exact tells_sendMsg _ _ _
  · exact .refl s

theorem tells_raise (s : State) (pg mask : Nat) : Tells s (s.raise pg mask) :=
  (tells_setFld s _ _).trans (tells_intNotify _ _ _)

theorem Tells.immo (h : Tells s t) : t.immo = s.immo := by
  obtain ⟨_, _, _, _, rfl⟩ := h
  rfl

@[simp] theorem raise_immo (s : State) (pg mask : Nat) : (s.raise pg mask).immo = s.immo := (tells_raise s pg mask).immo

/-! ### The counter -/

@[simp] theorem canWithdraw_immo (s : State) (n k : Nat) : (s.canWithdraw n k).immo = s.immo := by
  unfold State.canWithdraw
  split_ifs
  · rfl
  · rw [raise_immo, State.bump, setFld_immo]

@[simp] theorem canStart_immo (s : State) (n : Nat) : (s.canStart n).immo = s.immo := by
  unfold State.canStart
  split_ifs
  · rw [setFld_immo, updCan_immo]
  · rfl

@[simp] theorem canFlush_immo (s : State) (n : Nat) : (s.canFlush n).immo = s.immo := by
  unfold State.canFlush
  rw [canWithdraw_immo, updCan_immo]

@[simp] theorem canStop_immo (s : State) (n : Nat) : (s.canStop n).immo = s.immo := by
  rw [State.canStop, setFld_immo, setFld_immo, setFld_immo]

theorem canSend_immo (s : State) (n : Nat) (f : CanFrame) : (s.canSend n f).immo = s.immo := by
  unfold State.canSend
  dsimp only
  split_ifs
  · exact canWithdraw_immo _ _ _
  · rw [canWithdraw_immo, updCan_immo]
  · rw [canStart_immo, updCan_immo]

theorem canSettle_immo (s : State) (n : Nat) : (s.canSettle n).immo = s.immo := by
  unfold State.canSettle
  split_ifs
  · rw [canStop_immo, canFlush_immo]
  · exact canStart_immo _ _
  · rfl
  · exact canStop_immo s n
  · rfl

@[simp] theorem endStream_counter (s : State) : s.endStream.immo.counter = s.immo.counter := by
  unfold State.endStream
  split_ifs
  · rfl
  · rw [raise_immo, setFld_immo, setFld_immo]

/-- Dealing with a token leaves the counter. -/
theorem tokenDone_counter (s : State) (cfg : Bytes) : (s.tokenDone cfg).immo.counter = s.immo.counter := by
  unfold State.tokenDone
  split
  · rfl
  · dsimp only
    split_ifs
    · rw [endStream_counter, setFld_immo]
    · rw [setFld_immo]

theorem sendToken_counter (s : State) (cfg key : Bytes) (t : Token) :
    (s.sendToken cfg t key).immo.counter = (s.immo.counter + 1) % 2 ^ 48 := by
  unfold State.sendToken
  dsimp only
  rw [canSettle_immo, canSend_immo, tokenDone_counter]

/-! ### The rows -/

theorem exec_tokenSend {t : Token} {cfg : Bytes} (hg : s.gatesOpen = true) (hd : s.dueToken = some t) (hc : s.immo.config = some cfg) :
    exec .tokenSend s = .next (s.composeToken cfg t) := by
  show execTokenSend s = _
  simp only [execTokenSend, hg, hd, hc, Bool.not_true, Bool.false_eq_true, if_false]

/-- A token whose key fits goes on to the mark and the use. -/
theorem composeToken_eq {t : Token} {cfg : Bytes} {n : Nat} {x : KeySlot} (hn : n = leAt cfg (if t.door then 16 else 0) 4)
    (hx : s.slot? n = some x) (hf : fitsToken x = true) (hb : s.bindOk n x = true) : s.composeToken cfg t =
      if s.immo.markJ ≤ s.immo.counter ∧ s.canCommit = false then
        if s.txns.contains (.own .tokenMark) then s else { s with txns := s.txns ++ [.own .tokenMark] }
      else match (if s.immo.markJ ≤ s.immo.counter then { s with immo := { s.immo with markJ := s.immo.markJ + 1024 } }
          else s).takeUse n false with
        | .ok u => u.sendToken cfg t x.aesKey
        | .exhausted u => u.tokenExhausted cfg t
        | .wait u => u := by
  subst hn
  simp only [State.composeToken, hx, hf, hb, Bool.not_true, Bool.or_self, Bool.false_eq_true, if_false, Bool.and_eq_true,
    decide_eq_true_eq, Bool.not_eq_true'] <;> rfl

/-- Settles O24: the mark, then the use, then the frame; the counter rises with the frame; the controllers' rows past their checks. -/
theorem tokensAndCan : Obligations.TokensAndCan := by
  unfold Obligations.TokensAndCan
  refine ⟨?send, fun s cfg key t => sendToken_counter s cfg key t, ?gates, ?transmitted, ?busOff, ?recovery, ?notOnBus, ?stays⟩
  case send =>
    intro s u t cfg x n hg hd hc hn hx hf hb
    rw [exec_tokenSend hg hd hc, composeToken_eq hn hx hf hb]
    refine ⟨fun hm hu => ?_, fun hm hcan hu => ?_, fun hm hcan hno => ?_, fun hm hu => ?_⟩
    · rw [if_neg (fun h => absurd h.1 (Nat.not_le.mpr hm)), if_neg (Nat.not_le.mpr hm), hu]
    · rw [if_neg (fun h => absurd h.2 (by simp [hcan])), if_pos hm, hu]
    · rw [if_pos ⟨hm, hcan⟩, hno]
      rfl
    · rw [if_neg (fun h => absurd h.1 (Nat.not_le.mpr hm)), if_neg (Nat.not_le.mpr hm), hu]
  case gates =>
    intro s hg
    show execTokenSend s = _
    simp only [execTokenSend, hg, Bool.not_false, if_true]
  case transmitted =>
    intro s n tec rec' f rest hw h0 h3 hready
    show execTokenTransmitted n tec rec' s = _
    simp only [execTokenTransmitted, hw, h0, h3, Nat.not_lt.mpr hready, decide_false, Bool.or_self, Bool.false_eq_true, if_false,
      State.canOut]
  case busOff =>
    intro s n hn h0 h3
    show execCanBusOff n s = _
    simp only [execCanBusOff, h0, h3, Nat.not_lt.mpr (Nat.le_of_lt_succ hn), decide_false, Bool.or_self, Bool.false_eq_true, if_false]
  case recovery =>
    intro s n hn h3 hb
    show execBusOffRecovery n s = _
    simp only [execBusOffRecovery, hn, h3, hb, decide_true, Bool.and_self, if_true]
  case notOnBus =>
    intro s n tec rec' h
    show execTokenTransmitted n tec rec' s = _
    unfold execTokenTransmitted
    cases (s.canOf n).waiting with
    | nil => rfl
    | cons f rest => exact congrArg Host.Outcome.next (if_pos (by rcases h with h | h <;> simp [h]))
  case stays =>
    intro s n h
    exact congrArg Host.Outcome.next (if_pos (by rcases h with h | h | h <;> simp [h]))

end Sys2Proof.Machine
end

section
/-! PROOF. Escalation of tamper responses (19_tamper.md R671, R672). -/

namespace Sys2Proof.Machine

variable {s : State}

/-- Escalation in the states that escalate: a third WARM, then a Q3 after two. -/
theorem escalate_of_life (h3 : 3 ≤ s.life) (h5 : s.life ≤ 5) (r : Nat) : s.escalate r =
    let w := if r = 2 ∧ 2 ≤ s.warmsInHour then (if s.life = 5 then 4 else 3) else r
    if w = 4 ∧ s.life = 5 ∧ 2 ≤ s.tpLifeQ3 then 5 else w := by
  simp only [State.escalate, if_neg (show ¬ (s.life < 3 ∨ 5 < s.life) by omega), Bool.and_eq_true, decide_eq_true_eq, and_assoc]

theorem escalate_of_not_life (h : s.life < 3 ∨ 5 < s.life) (r : Nat) : s.escalate r = r := by
  rw [State.escalate, if_pos h]

/-- Escalation never lowers a response, and never goes above Q4. -/
theorem escalate_bounds (s : State) (r : Nat) : r ≤ s.escalate r ∧ (r ≤ 5 → s.escalate r ≤ 5) := by
  by_cases h : s.life < 3 ∨ 5 < s.life
  · rw [escalate_of_not_life h]
    exact ⟨le_refl r, id⟩
  · rw [escalate_of_life (by omega) (by omega)]
    dsimp only
    split_ifs <;> omega

/-- A sensor's response is above its first one and above what TP_RAISE asks for. -/
theorem max_le_response (s : State) (n : Nat) :
    firstResponse s.life n ≤ (s.response n).1 ∧ s.raised n ≤ (s.response n).1 := by
  unfold State.response
  dsimp only
  set r := if firstResponse s.life n = 1 && decide (3 ≤ s.life ∧ s.life ≤ 5) && decide (4 ≤ s.tpRecent n) then 2
    else firstResponse s.life n with hr
  have hfirst : firstResponse s.life n ≤ r := by
    rw [hr]
    split_ifs with hc
    · simp only [Bool.and_eq_true, decide_eq_true_eq] at hc
      omega
    · exact le_refl _
  have hup := (escalate_bounds s (max r (s.raised n))).1
  omega

/-- Settles O49: the counts of R671 raise a response, and what R672 asks for is a floor. -/
theorem tamperEscalation : Obligations.TamperEscalation := by
  unfold Obligations.TamperEscalation
  refine ⟨?bounds, ?warms, ?quench, ?recent, ?floor⟩
  case bounds =>
    intro s r hr
    refine ⟨(escalate_bounds s r).1, (escalate_bounds s r).2 hr, fun hne => ?_⟩
    by_contra hlife
    exact hne (escalate_of_not_life (by omega) r)
  case warms =>
    intro s hw
    refine ⟨fun hlife => ?_, fun hlife hq => ?_⟩
    · rw [escalate_of_life (by omega) (by omega)]
      have hne : s.life ≠ 5 := by omega
      simp [hw, hne]
    · rw [escalate_of_life (by omega) (by omega)]
      simp [hw, hlife, Nat.not_le.mpr hq]
  case quench =>
    intro s hlife hq
    rw [escalate_of_life (by omega) (by omega)]
    simp [hlife, hq]
  case recent =>
    intro s n h3 h5 hfirst hrecent hraised hw
    have hesc : s.escalate 2 = 2 := by
      rw [escalate_of_life h3 h5]
      simp [Nat.not_le.mpr hw]
    simp [State.response, hfirst, h3, h5, hrecent, hraised, hesc]
  case floor =>
    intro s n
    refine ⟨(max_le_response s n).1, fun hlife h1 h6 => ?_⟩
    have hraised : s.raised n = bitsOf (s.reg Reg.TP_RAISE).toNat (3 * n - 1) (3 * n - 3) := by
      have h7 : n ≠ 7 := by omega
      simp [State.raised, hlife, h7]
    rw [← hraised]
    exact (max_le_response s n).2

end Sys2Proof.Machine
end

section
/-! PROOF. The baseline of an untouched channel (06_access_front_end.md R216, R217, R219): a register map that lists HS_STAT twice shows
another FAULT mark once its STUCK bit is cleared. -/

namespace Sys2Proof.Machine

/-- A state whose register map, not in canonical form, lists HS_STAT twice: with the STUCK bit of channel 0, then with its FAULT
mark. The round read TOUCH_TH 0 and REL_TH 4,095. -/
def doubledHsStat : State :=
  { State.reset with
    regs := [(Reg.HS_STAT, 0x10000#32), (Reg.HS_STAT, 0x1000000#32)],
    hs := { chans := [{ HsChan.init with base := 4000 * 256 }], round := [], lastRound := 0, cfg := [(Reg.HS_CFG 0, 0xFFF000#32)] } }

/-- Clearing STUCK uncovers the FAULT mark, and no confirmation begins. -/
theorem doubledHsStat_chans : (doubledHsStat.hsMeasure 0 5000 0).hs.chans = [{ HsChan.init with base := 4000 * 256, count := 5000 }] := by
  decide

/-- Refutes O36: in a state that is not sound, clearing STUCK for a delta below REL_TH uncovers a FAULT mark that was not there
before, so a delta of TOUCH_TH or more starts no confirmation. -/
theorem not_baselineTracking : ¬ Obligations.BaselineTracking := by
  unfold Obligations.BaselineTracking
  intro h
  obtain ⟨-, -, -, hstart, -⟩ := h doubledHsStat _ 0 5000 0 _ _ (by decide) rfl rfl (by decide) (by decide) (by decide) rfl
    (congrArg (·[0]?) doubledHsStat_chans)
  have hconfirm := (hstart (by decide)).1
  exact absurd hconfirm (by decide)

end Sys2Proof.Machine
end

section
/-! PROOF. The first-path detector, its square root and C4 (07_ranging.md R270, R272, R279, R283). -/

namespace Sys2Proof.Machine

/-- A tap reaches the greater of the two thresholds, squared, when it reaches both. -/
theorem fpThreshold_le (ntm pmult : Nat) (es : List Nat) (x : Nat) : fpThreshold ntm pmult es ≤ x ↔
    ntm ^ 2 * (es.take 64).sum * 256 ≤ x ∧ (es.drop 64).all (fun e => pmult ^ 2 * e ≤ x) = true := by
  rw [fpThreshold, Nat.max_le, mul_foldl_max_le, Nat.mul_zero, mul_comm (ntm ^ 2 * _) 256, mul_assoc 256]
  simp

/-- The first path is the first tap of 64-255 that reaches the threshold. -/
theorem fpIndex_eq_some (thr : Nat) (es : List Nat) (i : Nat) : fpIndex thr es = some i ↔
    64 ≤ i ∧ i < 256 ∧ thr ≤ 65536 * es.getD i 0 ∧ ∀ j, 64 ≤ j → j < i → ¬ thr ≤ 65536 * es.getD j 0 := by
  rw [fpIndex, List.find?_map, Option.map_eq_some_iff]
  constructor
  · rintro ⟨k, hk, rfl⟩
    obtain ⟨hreach, hmem, hbefore⟩ := List.find?_range_eq_some.mp hk
    have hlt := List.mem_range.mp hmem
    refine ⟨by omega, by omega, of_decide_eq_true hreach, fun j hj hji hle => ?_⟩
    have hno := hbefore (j - 64) (by omega)
    simp only [Function.comp_apply, Nat.sub_add_cancel hj, Bool.not_eq_true', decide_eq_false_iff_not] at hno
    exact hno hle
  · rintro ⟨hlo, hhi, hreach, hbefore⟩
    refine ⟨i - 64, List.find?_range_eq_some.mpr ⟨?_, List.mem_range.mpr (by omega), fun j hj => ?_⟩, by omega⟩
    · simpa only [Function.comp_apply, Nat.sub_add_cancel hlo, decide_eq_true_eq] using hreach
    · simpa only [Function.comp_apply, Bool.not_eq_true', decide_eq_false_iff_not] using hbefore (j + 64) (by omega) (by omega)

/-- Of a predicate that holds of everything below what it holds of, the number of places below m counts the first that fails. -/
theorem le_length_filter_range {p : Nat → Bool} (hp : ∀ a b, a ≤ b → p b = true → p a = true) {n m : Nat} (hnm : n < m) :
    n + 1 ≤ ((List.range m).filter p).length ↔ p n = true := by
  constructor
  · intro h
    by_contra hno
    obtain ⟨k, rfl⟩ := Nat.exists_eq_add_of_le hnm.le
    have hrest : ((List.range k).map (n + ·)).filter p = [] := by
      simp only [List.filter_eq_nil_iff, List.mem_map, List.mem_range]
      rintro _ ⟨i, -, rfl⟩ hi
      exact hno (hp n (n + i) (Nat.le_add_right n i) hi)
    rw [List.range_add, List.filter_append, hrest, List.append_nil] at h
    have hle := (List.range n).length_filter_le p
    rw [List.length_range] at hle
    omega
  · intro h
    obtain ⟨k, rfl⟩ := Nat.exists_eq_add_of_le (Nat.succ_le_of_lt hnm)
    have hall : (List.range (n + 1)).filter p = List.range (n + 1) := by
      refine List.filter_eq_self.mpr fun a ha => hp a n ?_ h
      exact Nat.le_of_lt_succ (List.mem_range.mp ha)
    rw [List.range_add, List.filter_append, hall, List.length_append, List.length_range]
    exact Nat.le_add_right _ _

/-- C4 is at least n exactly where 255 - 12 (q + 20) is. -/
theorem le_cirC4 {p e : Nat} (hpe : 0 < p ∨ 0 < e) (fr : Nat) {n : Nat} (h1 : 1 ≤ n) (h255 : n ≤ 255) :
    n ≤ cirC4 p e fr ↔ p ^ 120 * 10 ^ n ≤ 10 ^ 15 * (29 * e) ^ 120 := by
  have hanti : ∀ a b, a ≤ b → decide (p ^ 120 * 10 ^ (b + 1) ≤ 10 ^ 15 * (29 * e) ^ 120) = true →
      decide (p ^ 120 * 10 ^ (a + 1) ≤ 10 ^ 15 * (29 * e) ^ 120) = true := by
    intro a b hab hb
    rw [decide_eq_true_iff] at hb ⊢
    exact le_trans (Nat.mul_le_mul_left _ (Nat.pow_le_pow_right (by decide) (Nat.succ_le_succ hab))) hb
  have hn : n - 1 + 1 = n := by omega
  have hcount := le_length_filter_range hanti (n := n - 1) (m := 255) (by omega)
  rw [decide_eq_true_iff, hn] at hcount
  rw [cirC4, if_neg (by omega)]
  exact hcount

/-- The whole part of the square root. -/
theorem root_spec (n : Nat) : root n ^ 2 ≤ n ∧ (n < 2 ^ 128 → n < (root n + 1) ^ 2) := by
  obtain ⟨hle, hlt⟩ := rootFrom_bounds 64 0 n (Nat.zero_le _)
  rw [sq, sq]
  exact ⟨hle, hlt⟩

/-- Settles O40: the threshold is reached by the first tap that reaches both of its parts; C4 counts down from 255. -/
theorem firstPathDetector : Obligations.FirstPathDetector := by
  unfold Obligations.FirstPathDetector
  refine ⟨?detector, fun p e fr n hpe h1 h255 => le_cirC4 hpe fr h1 h255, root_spec, ?record⟩
  case detector =>
    intro ntm pmult i es
    rw [fpIndex_eq_some]
    refine and_congr_right fun hlo => and_congr_right fun _ => ?_
    simp only [← fpThreshold_le]
    constructor
    · rintro ⟨hreach, hbefore⟩ j hj hji
      exact ⟨fun heq => heq ▸ hreach, fun hle => by_contra fun hne => hbefore j hj (by omega) hle⟩
    · intro h
      exact ⟨(h i hlo (le_refl i)).mp rfl, fun j hj hji hle => absurd ((h j hj hji.le).mpr hle) (by omega)⟩
  case record =>
    intro s x r hx
    refine ⟨fun hk hr => ?_, fun hk hf => ?_⟩
    · simp only [State.takeRecord, hx, hk, hr, decide_true, Bool.and_self, if_true]
      exact ⟨_, rfl, rfl⟩
    · simp [State.takeRecord, hx, hk, hf]

end Sys2Proof.Machine
end

section
/-! PROOF. The Reservoir, power readings, pace windows, the voltage request and the PMIC (01_architecture.md R36-R38;
02_package_and_electrical.md R86; 18_power_and_reservoir.md R648, R650-R652, R655, R656; 21_card_port_and_can.md R724, R725). -/

namespace Sys2Proof.Machine

variable {s : State}

/-! ### The Reservoir -/

/-- A second's credit: whole nAh to the store up to the cap, the rest carried. -/
theorem creditSecond_spec {l : LedgerSt} (hb : l.budget ≠ noLimit) : l.creditSecond.credit < 86400 ∧
    l.creditSecond.store ≤ l.cap ∧ (l.creditSecond.store ≠ l.cap →
      86400 * (l.creditSecond.store - l.store) + (l.creditSecond.credit : Int) = l.credit + 1000 * l.budget) := by
  simp only [LedgerSt.creditSecond, if_neg hb]
  omega

theorem exec_reservoirCredit (h : s.ledger.creditAt + 1000000000 ≤ s.deviceTime) (nc : Nat) :
    exec (.reservoirCredit nc) s = .next (
      let t := State.showStore { s with ledger := s.ledger.creditSecond }
      if t.parked then t.spend nc else t) :=
  congrArg Host.Outcome.next (if_neg (Nat.not_lt.mpr h))

/-! ### Power readings -/

theorem exec_powerReading (h : s.power.readAt + s.readEvery ≤ s.deviceTime) (hr : s.retrying .telemetry = false) (mw : Option Nat)
    (ack : Bool) : exec (.powerReading mw ack) s = .next (
      match mw with
      | some v => ((s.updPower (fun p => { p with readAt := s.deviceTime })).readRails).powerReading v s.readEvery ack
      | none => ((s.updPower (fun p => { p with readAt := s.deviceTime })).readRails).pmicNack .telemetry) := by
  have hgo : ¬ (decide (s.deviceTime < s.power.readAt + s.readEvery) || s.retrying .telemetry) = true := by
    simp [hr, h]
  show execPowerReading mw ack s = _
  rw [execPowerReading, if_neg hgo] <;> rfl

/-! ### Pace windows -/

theorem regsWf_foldl_setFld (f : Nat → Fld) (v : Nat → Nat) (l : List Nat) {s : State} (hs : regsWf s.regs = true) :
    regsWf (l.foldl (fun (t : State) k => t.setFld (f k) (v k)) s).regs = true := by
  induction l generalizing s with
  | nil => exact hs
  | cons k l ih => exact ih (regsWf_setFld hs _ _)

theorem mapRising_of_regsWf {m : List (Nat × Word)} (h : regsWf m = true) : mapRising 0 m = true :=
  (Bool.and_eq_true _ _ ▸ h).1

/-- Fields of different registers, set one after the other, read the values set. -/
theorem fld_foldl_setFld {f : Nat → Fld} (hinj : ∀ a b, (f a).addr = (f b).addr → a = b) (v : Nat → Nat) (l : List Nat) {s : State}
    (hs : regsWf s.regs = true) {n : Nat} (hle : (f n).lo ≤ (f n).hi) (h32 : (f n).hi < 32) (hn : n ∈ l) :
    (l.foldl (fun (t : State) k => t.setFld (f k) (v k)) s).fld (f n) = v n % 2 ^ ((f n).hi - (f n).lo + 1) := by
  induction l using List.reverseRecOn with
  | nil => cases hn
  | append_singleton l k ih =>
    rw [List.foldl_append, List.foldl_cons, List.foldl_nil]
    by_cases hk : k = n
    · subst hk
      exact fld_setFld (mapRising_of_regsWf (regsWf_foldl_setFld f v l hs)) hle h32 _
    · rw [fld_setFld_ne _ (fun h => hk (hinj _ _ h))]
      exact ih (by simpa [Ne.symm hk] using hn)

/-- The pace value of a meter at the end of a window. -/
def State.paceOf (s : State) (counts : List Nat) (n : Nat) : Nat :=
  if bit s.domains (meterDomain n) then min 65535 (1024 * counts.getD n 0 / Config.paceDivisor n) else 0

theorem paceOf_lt (s : State) (counts : List Nat) (n : Nat) : s.paceOf counts n < 2 ^ 16 := by
  unfold State.paceOf
  split
  · exact Nat.lt_of_le_of_lt (Nat.min_le_left _ _) (by decide)
  · decide

/-- The state at the end of a window, without the lowest pace value and the meters that took part. -/
def State.paced (s : State) (counts : List Nat) : State :=
  (List.range 14).foldl (fun (t : State) k => t.setFld (Fd.PACE_M_PACE k) (s.paceOf counts k)) s

theorem paced_fld (hs : regsWf s.regs = true) (counts : List Nat) (m : Nat) {n : Nat} (hn : n < 14) :
    ((s.paced counts).setFld Fd.PACE_STAT_PACE_MIN m).fld (Fd.PACE_M_PACE n) = s.paceOf counts n := by
  have hne : Fd.PACE_STAT_PACE_MIN.addr ≠ (Fd.PACE_M_PACE n).addr := by
    simp only [Fd.PACE_STAT_PACE_MIN, Fd.PACE_M_PACE, Reg.PACE_STAT, Reg.PACE_M]
    omega
  have hinj : ∀ a b, (Fd.PACE_M_PACE a).addr = (Fd.PACE_M_PACE b).addr → a = b := by
    intro a b hab
    simp only [Fd.PACE_M_PACE, Reg.PACE_M] at hab
    omega
  rw [fld_setFld_ne _ hne, State.paced, fld_foldl_setFld hinj _ _ hs (Nat.zero_le _) (show 15 < 32 by decide) (List.mem_range.mpr hn)]
  exact Nat.mod_eq_of_lt (paceOf_lt s counts n)

/-- The meters that took part in a window. -/
def State.paceMeters (s : State) : List Nat :=
  (List.range 14).filter (fun n => bit s.domains (meterDomain n) && bit s.power.paceOn (meterDomain n))

theorem exec_paceWindow (ht : s.power.paceAt + 106666 ≤ s.deviceTime) (hl : s.supply.lostRef38 = false) (counts : List Nat) :
    exec (.paceWindow counts) s = .next (
      ((s.paced counts).setFld Fd.PACE_STAT_PACE_MIN (((s.paceMeters.map (s.paceOf counts)).min?).getD 0)).updPower
        (fun p => { p with paceAt := s.deviceTime, paceOn := s.domains, tookPart := listMask s.paceMeters })) :=
  congrArg Host.Outcome.next (if_neg (by simp [hl, ht]))

/-- What the end of a window notes beside the registers. -/
theorem paceEnd_spec (u : State) (now on part : Nat) :
    let t := u.updPower (fun p => { p with paceAt := now, paceOn := on, tookPart := part })
    t.power.paceAt = now ∧ t.power.paceOn = on ∧ ∀ f, t.fld f = u.fld f :=
  ⟨rfl, rfl, fun _ => rfl⟩

/-! ### The voltage request -/

/-- With no work held back before, nothing is held and nothing goes on. -/
theorem holdHot_false (h : s.power.hot = 0) (t : Nat) : (s.updPower (fun p => { p with avsAt := t })).holdHot false =
    s.updPower (fun p => { p with avsAt := t, hot := 0 }) :=
  if_neg (by
    show ¬ 0 < s.power.hot
    omega)

theorem updPower_hot (h : s.power.hot = 0) (t : Nat) : s.updPower (fun p => { p with avsAt := t, hot := 0 }) =
    s.updPower (fun p => { p with avsAt := t }) := by
  unfold State.updPower
  rw [← h]

theorem exec_avsEvaluate (ht : s.power.avsAt + 1000000 ≤ s.deviceTime) (hp : s.avsPlace = true) (hr : s.retrying .vout = false)
    (ack hot slow : Bool) : exec (.avsEvaluate ack hot slow) s = .next (
      let u := (s.updPower (fun p => { p with avsAt := s.deviceTime })).holdHot (hot && slow && s.capped)
      if hot && slow && !u.capped then u.askCore (Nat.min u.vmax (u.fld Fd.PACE_STAT_VCORE_MV + 5)) ack
      else if !u.avsRuns || u.power.tookPart = 0 then u else
      if u.fld Fd.PACE_STAT_PACE_MIN < 1024 then
        if u.capped then u else u.askCore (Nat.min u.vmax (u.fld Fd.PACE_STAT_VCORE_MV + 5)) ack
      else if 1075 < u.fld Fd.PACE_STAT_PACE_MIN then u.askCore (Nat.max 720 (u.fld Fd.PACE_STAT_VCORE_MV - 5)) ack
      else u) :=
  congrArg Host.Outcome.next (if_neg (by simp [hp, hr, ht]))

/-! ### The PMIC -/

theorem exec_pmicRetry {k : PmicKind} {n since : Nat} (hs : s.power.retries = [(k, n, since)]) (hd : since + 1000000 ≤ s.deviceTime) :
    (∀ v, exec (.pmicRetry k (some v)) s = .next (
      let u := s.updPower (fun p => { p with retries := [] })
      match k with
      | .telemetry => u.powerReading v u.readEvery true
      | .vout => (u.setFld Fd.PACE_STAT_VCORE_MV u.coreAsked).updPower (fun p => { p with vcoreAsk := none })
      | .status => u.pmicStatus v
      | .rail => u)) ∧
    exec (.pmicRetry k none) s = .next (
      if n < 2 then s.updPower (fun p => { p with retries := [(k, n + 1, s.deviceTime)] })
      else (s.updPower (fun p => { p with retries := [] })).pmicFail k) := by
  have hfind : s.power.retries.find? (fun r => r.1 = k) = some (k, n, since) := by simp [hs]
  have hrest : s.power.retries.filter (fun o => o.1 ≠ k) = [] := by simp [hs]
  have hgo : (!decide (since + 1000000 ≤ s.deviceTime) || s.power.retries.any
      (fun o => decide (o.2.2 + 1000000 ≤ s.deviceTime) && decide (pmicRank o.1 < pmicRank k))) = false := by
    simp [hs, hd]
  constructor
  · intro v
    show execPmicRetry k (some v) s = _
    simp only [execPmicRetry, hfind, hgo, hrest, Bool.false_eq_true, if_false] <;> cases k <;> rfl
  · show execPmicRetry k none s = _
    simp only [execPmicRetry, hfind, hgo, hrest, Bool.false_eq_true, if_false]

/-- Settles O44: each row past its time and its conditions. -/
theorem powerAndReservoir : Obligations.PowerAndReservoir := by
  unfold Obligations.PowerAndReservoir
  refine ⟨fun s nc h => exec_reservoirCredit h nc, fun l hb _ => creditSecond_spec hb, ?plan, ?reading, ?pace, ?slow, ?lowest,
    fun s rail st => rfl, ?retry⟩
  case plan =>
    rintro s u i h rfl
    exact congrArg Host.Outcome.next (if_neg (Nat.not_lt.mpr h))
  case reading =>
    rintro s u mw ack h hr rfl
    rw [exec_powerReading h hr]
    cases mw <;> rfl
  case pace =>
    intro s counts ht hl hs
    obtain ⟨hat, hon, hfld⟩ := paceEnd_spec
      ((s.paced counts).setFld Fd.PACE_STAT_PACE_MIN (((s.paceMeters.map (s.paceOf counts)).min?).getD 0)) s.deviceTime s.domains
      (listMask s.paceMeters)
    exact ⟨_, exec_paceWindow ht hl counts, hat, hon, fun n hn => (hfld _).trans (paced_fld hs counts _ hn)⟩
  case slow =>
    rintro s u ack ht hp hr hh hc rfl
    refine (exec_avsEvaluate ht hp hr ack true true).trans ?_
    rw [hc, Bool.and_false, holdHot_false hh, updPower_hot hh]
    exact congrArg Host.Outcome.next (if_pos (by
      show (!s.capped) = true
      simp [hc]))
  case lowest =>
    rintro s u ack ht hruns hr hh hpart rfl
    have hp : s.avsPlace = true := (Bool.and_eq_true _ _ ▸ hruns).2
    refine (exec_avsEvaluate ht hp hr ack false false).trans ?_
    rw [Bool.false_and, Bool.false_and, holdHot_false hh]
    refine congrArg Host.Outcome.next ((if_neg Bool.false_ne_true).trans (if_neg ?_))
    show ¬ (!s.avsRuns || decide (s.power.tookPart = 0)) = true
    simp [hruns, hpart]
  case retry =>
    rintro s k ⟨k', n, since⟩ hs rfl hd
    obtain ⟨hsome, hnone⟩ := exec_pmicRetry hs hd
    refine ⟨fun hn => hnone.trans (congrArg _ (if_pos hn)), fun hn => hnone.trans (congrArg _ (if_neg (Nat.not_lt.mpr hn))),
      fun v hk => (hsome v).trans ?_⟩
    subst hk
    rfl

end Sys2Proof.Machine
end

section
/-! PROOF. NOP and the commands on partitions, votes, the spill region, the Reservoir and the cap (04_host_link_and_partitions.md
R136-R141, R155-R157; 05_command_rings.md R197; 09_traffic_protection.md R368; 18_power_and_reservoir.md R650, R652, R655). -/

namespace Sys2Proof.Machine

section
variable {s t : State} {i : OpInfo} {lifeOk : Bool} {body : State → Inflight → Work} {k : CmdKey} {c : Inflight} {r : Reply}

/-- Past its checks a command whose rules answer at once ends so. -/
theorem next_finish (h : s.passes k c i lifeOk = true) (hw : body s c = .finish t r) :
    (.next (s.runCmd i lifeOk body k) : Host.Outcome State Fault Refusal) = .next (t.finish c false r) :=
  next_runCmd h hw

/-- Past its checks a command whose rules answer a commit that may begin ends with it. -/
theorem next_commit (h : s.passes k c i lifeOk = true) (hc : s.canCommit = true) (hw : body s c = .commit t r) :
    (.next (s.runCmd i lifeOk body k) : Host.Outcome State Fault Refusal) = .next (State.ends t k c true r) :=
  (next_runCmd h hw).trans (congrArg _ (settle_commit hc t k c r))

/-- Past its checks a command whose rules leave work to do stays fetched. -/
theorem next_more (h : s.passes k c i lifeOk = true) (hw : body s c = .more t) :
    (.next (s.runCmd i lifeOk body k) : Host.Outcome State Fault Refusal) = .next t :=
  next_runCmd h hw

end

variable {s : State} {c : Inflight}

theorem partCreateWork_some {n : Nat} (h : s.partNumber (c.p8 0) = some n) : partCreateWork s c =
    .commit { s with parts := mapPut s.parts n (PartSt.new (PartCfg.ofRecord c.param) (bit (c.p8 1) 1)) }
      { status := .ok, result := leBytes 1 n } := by
  simp only [partCreateWork, h]

theorem partDestroyWork_ok (hr : s.readHolds (s.regionPages (c.p8 0)) = false) (hc : s.canCommit = true) :
    partDestroyWork s c = .commit ((s.resetTarget c).destroyPart (c.p8 0)) .done := by
  simp only [partDestroyWork, hr, hc, Bool.false_eq_true, if_false, if_true]

/-- The votes of partition p after a POWER_VOTE. -/
theorem powerVoteWork_allowed {q : PartSt} (hq : s.part? c.key.part = some q) (hm : maskDiff (c.p8 1) q.cfg.voteMask = 0) {t u : State}
    (ht : t = (s.updPart c.key.part (fun x => match c.p8 0 with
      | 0 => { x with hold := x.hold ||| c.p8 1, gate := maskDiff x.gate (c.p8 1) }
      | 1 => { x with hold := maskDiff x.hold (c.p8 1) }
      | 2 => { x with gate := x.gate ||| c.p8 1, hold := maskDiff x.hold (c.p8 1) }
      | _ => { x with gate := maskDiff x.gate (c.p8 1) }))) (hu : u = t.evalVotes.noteDefer s.deferred) :
    powerVoteWork s c = .finish u
      (if (c.p8 0 = 0 && c.p8 1 &&& u.gated ≠ 0) || (c.p8 0 = 2 && maskDiff (c.p8 1) u.gated ≠ 0) then { status := .deferred }
       else .done) := by
  subst hu ht
  simp only [powerVoteWork, hq, hm, ne_eq, not_true_eq_false, if_false] <;> rfl

theorem spillRegionWork_free (h : s.flows.any (fun f => isSpill f.1) = false) {base : Nat} (hb : base = (if c.p64 8 = 0 then 0 else c.p64 0)) :
    spillRegionWork s c = .commit
      (((if c.p64 8 = 0 then
            { s with spill := { base := 0, usable := 0, key := [], versions := [], retired := [], clock := 0 } }
          else State.draw { s with spill := { base := base, usable := min 65536 (c.p64 8 / 256), key := s.drawn 32,
                                              versions := [], retired := [], clock := 0 } } 32).setFld
        Fd.SPILL_BASE_LO_BASE (base % 2 ^ 32)).setFld Fd.SPILL_BASE_HI_BASE (base / 2 ^ 32)) .done := by
  subst hb
  simp only [spillRegionWork, h, Bool.false_eq_true, if_false]

/-- Settles O3: each command's rules answer the end named, and PART_CREATE judges its record before the device. -/
theorem partitionAndPowerCommands : Obligations.PartitionAndPowerCommands := by
  unfold Obligations.PartitionAndPowerCommands
  refine ⟨fun s k c h => next_finish (body := nopWork) h rfl, fun s k c n h hn hc => next_commit h hc (partCreateWork_some hn),
    fun s k c h hc => next_commit (body := partSetWork) h hc rfl, fun s k c h => next_finish (body := partResetWork) h rfl,
    fun s k c h hr hc => next_commit h hc (partDestroyWork_ok hr hc), ?order,
    fun s t u k c q h hq hm ht hu => next_finish h (powerVoteWork_allowed hq hm ht hu),
    fun s k c base h hf hc hb => next_commit h hc (spillRegionWork_free hf hb),
    fun s k c h hc => next_commit (body := reservoirWork) h hc rfl, fun s k c h hc => next_commit (body := powerCapWork) h hc rfl⟩
  case order =>
    intro s k c h hop hp hr
    show Host.Outcome.next (s.runCmd partCreateInfo (lifeMakerField s) partCreateWork k) = _
    rw [runCmd_of_turn h hop rfl]
    simp only [State.checked, lifeMakerField, hp, hr, Bool.false_eq_true, if_false] <;> rfl

end Sys2Proof.Machine
end

section
/-! PROOF. Doorbells, the ring mailbox, fetching and the event ring (04_host_link_and_partitions.md R121, R139, R146-R149;
05_command_rings.md R163-R174, R183, R184, R196; 17_halves_and_consistency.md R616). -/

namespace Sys2Proof.Machine

variable {s t : State} {p i id : Nat} {q : PartSt}

/-! ### Doorbells -/

theorem exec_sqTail (hq : s.part? p = some q) (hr : q.inReset = none) (ho : s.windowOpen p = true) {r : Sq} (hsq : q.sq? i = some r)
    (data : Word) : exec (.sqTail p i data) s = .next (
      if 2 ^ r.sizeLog2 ≤ data.toNat % 4096 then
        (s.errCap (pageOf (Reg.SQ_TAIL p i)) p 0x82 (pageOff (Reg.SQ_TAIL p i)) data.toNat).stopRing p (.sq i) 5 (data.toNat % 4096)
      else ((s.setReg (Reg.SQ_TAIL p i) (BitVec.ofNat 32 (data.toNat % 4096))).updPart p (fun x => { x with
        sqs := updSq i (fun w => { w with tail := data.toNat % 4096 }) x.sqs })).eddyExit) := by
  show execSqTail p i data s = _
  simp only [execSqTail, hq, hr, ho, hsq, Option.isSome_none, Bool.not_true, Bool.or_self, Bool.false_eq_true, if_false] <;> rfl

theorem exec_cqHead (hq : s.part? p = some q) (hr : q.inReset = none) (ho : s.windowOpen p = true) {r : Cq} (hcq : q.cq? i = some r)
    (data : Word) (ht : t = (s.setReg (Reg.CQ_HEAD p i) (BitVec.ofNat 32 (data.toNat % 4096))).updPart p (fun x => { x with
      cqs := updCq i (fun w => { w with rd := data.toNat % 4096 }) x.cqs })) : exec (.cqHead p i data) s = .next (
      if 2 ^ r.sizeLog2 ≤ data.toNat % 4096 then
        (s.errCap (pageOf (Reg.CQ_HEAD p i)) p 0x82 (pageOff (Reg.CQ_HEAD p i)) data.toNat).stopRing p (.cq i) 5 (data.toNat % 4096)
      else if r.wr = data.toNat % 4096 then t else t.sendMsg p r.vec) := by
  subst ht
  show execCqHead p i data s = _
  simp only [execCqHead, hq, hr, ho, hcq, Option.isSome_none, Bool.not_true, Bool.or_self, Bool.false_eq_true, if_false, Cq.size,
    beq_iff_eq]

/-- A value in range is one that is not out of it. -/
theorem if_lt_eq_if_le {α : Type} (a b : Nat) (x y : α) : (if a < b then x else y) = if b ≤ a then y else x := by
  by_cases h : b ≤ a
  · rw [if_pos h, if_neg (Nat.not_lt.mpr h)]
  · rw [if_neg h, if_pos (Nat.lt_of_not_le h)]

/-! ### The mailbox -/

section
variable (hq : s.part? p = some q) (ho : s.windowOpen p = true) (hb : s.fld (Fd.RC_STAT_BUSY p) = 0)
include hq ho hb

theorem ringCreate_cq {n lg base : Nat} (hty : s.fld (Fd.RC_CFG_TYPE p) = 1) (hid : id = s.fld (Fd.RC_CFG_ID p))
    (hlg : lg = s.fld (Fd.RC_CFG_SIZE_LOG2 p)) (h6 : 6 ≤ lg) (h12 : lg ≤ 12) (hcq : q.cq? id = none)
    (hquota : q.ringCount < q.cfg.ringQuota) (hn : s.takeReserve = some (n, t))
    (hbase : base = s.fld (Fd.RC_BASE_LO_ADDR p) * 0x1000 + s.fld (Fd.RC_BASE_HI_ADDR p) * 2 ^ 32) :
    exec (.ringCreate p) s = .next ((((t.rcResult p .ok).setFld (Fd.RC_QUEUE_QUEUE p) (n - reserveBase)).setReg
      (Reg.CQ_HEAD p id) 0).updPart p (fun x => { x with cqs := x.cqs ++ [{
        id := id, base := base, sizeLog2 := lg,
        vec := ((t.rcResult p .ok).setFld (Fd.RC_QUEUE_QUEUE p) (n - reserveBase)).fld (Fd.RC_CFG_VEC p), queue := n, wr := 0,
        rd := 0, reserved := 0, phase := true, stopped := false }] })) := by
  have hfree : q.cq? (s.fld (Fd.RC_CFG_ID p)) = none := hid ▸ hcq
  have hsize : (decide (s.fld (Fd.RC_CFG_SIZE_LOG2 p) < 6) || decide (12 < s.fld (Fd.RC_CFG_SIZE_LOG2 p))) = false := by
    rw [← hlg]
    simp only [Bool.or_eq_false_iff, decide_eq_false_iff_not]
    omega
  subst hbase hid hlg
  show execRingCreate p s = _
  simp only [execRingCreate, hq, ho, hb, hty, hsize, hfree, Nat.not_le.mpr hquota, hn, Nat.reduceBEq, Bool.not_true, Bool.false_eq_true,
    if_false, if_true, Option.isSome_none, Bool.or_self]

theorem ringCreate_sq {n lg cq base : Nat} {w : Cq} (hty : s.fld (Fd.RC_CFG_TYPE p) = 0) (hid : id = s.fld (Fd.RC_CFG_ID p))
    (hlg : lg = s.fld (Fd.RC_CFG_SIZE_LOG2 p)) (hcqid : cq = s.fld (Fd.RC_CFG_CQ_ID p)) (h6 : 6 ≤ lg) (h12 : lg ≤ 12)
    (hsq : q.sq? id = none) (hcq : q.cq? cq = some w) (hquota : q.ringCount < q.cfg.ringQuota) (hn : s.takeReserve = some (n, t))
    (hbase : base = s.fld (Fd.RC_BASE_LO_ADDR p) * 0x1000 + s.fld (Fd.RC_BASE_HI_ADDR p) * 2 ^ 32) :
    exec (.ringCreate p) s = .next (((((t.rcResult p .ok).setFld (Fd.RC_QUEUE_QUEUE p) (n - reserveBase)).setReg
      (Reg.SQ_TAIL p id) 0).updPart p (fun x => { x with
        resume := x.resume.map (fun r => if r.sq = id then { r with ordinal := none, durOrdinal := none } else r),
        sqs := x.sqs ++ [{ id := id, base := base, sizeLog2 := lg, cq := cq, queue := n, head := 0, tail := 0, fetched := 0,
                           stopped := false, draining := false }] })).post p 2 p (resumeDetail id q.resume)) := by
  have hfree : q.sq? (s.fld (Fd.RC_CFG_ID p)) = none := hid ▸ hsq
  have hlink : q.cq? (s.fld (Fd.RC_CFG_CQ_ID p)) = some w := hcqid ▸ hcq
  have hsize : (decide (s.fld (Fd.RC_CFG_SIZE_LOG2 p) < 6) || decide (12 < s.fld (Fd.RC_CFG_SIZE_LOG2 p))) = false := by
    rw [← hlg]
    simp only [Bool.or_eq_false_iff, decide_eq_false_iff_not]
    omega
  subst hbase hid hlg hcqid
  show execRingCreate p s = _
  simp only [execRingCreate, hq, ho, hb, hty, hsize, hfree, hlink, Nat.not_le.mpr hquota, hn, Nat.reduceBEq, Bool.not_true,
    Bool.false_eq_true, if_false, Option.isSome_none, Option.isNone_some, Bool.or_self]

theorem ringDestroy_cq {r : Cq} (hty : s.fld (Fd.RC_CFG_TYPE p) = 1) (hid : id = s.fld (Fd.RC_CFG_ID p)) (hcq : q.cq? id = some r)
    (hlinked : q.sqs.any (fun w => w.cq == id) = false) : exec (.ringDestroy p) s =
      .next ((s.updPart p (fun x => { x with cqs := x.cqs.filter (fun w => !(w.id == id)) })).rcResult p .ok) := by
  subst hid
  show execRingDestroy p s = _
  simp only [execRingDestroy, hq, ho, hb, hty, hcq, hlinked, Nat.reduceBEq, Bool.not_true, Bool.false_eq_true, if_false, if_true,
    Option.isNone_some, Bool.or_self]

theorem ringDestroy_sq {r : Sq} (hty : s.fld (Fd.RC_CFG_TYPE p) = 0) (hid : id = s.fld (Fd.RC_CFG_ID p)) (hsq : q.sq? id = some r)
    (ht : t = s.updPart p (fun x => { x with sqs := updSq id (fun w => { w with draining := true }) x.sqs })) :
    exec (.ringDestroy p) s = .next (if t.sqIdle p id then t.freeSq p id else t.setFld (Fd.RC_STAT_BUSY p) 1) := by
  subst hid ht
  show execRingDestroy p s = _
  simp only [execRingDestroy, hq, ho, hb, hty, hsq, Nat.reduceBEq, Bool.not_true, Bool.false_eq_true, if_false]

end

theorem exec_sqDrained (hq : s.part? p = some q) {r : Sq} (hsq : q.sq? i = some r) (hd : r.draining = true)
    (hin : s.ringInflight p i = []) (hheld : q.heldCompl.all (fun m => !(m.sq == i)) = true) :
    exec (.sqDrained p i) s = .next (s.freeSq p i) := by
  have hidle : s.sqIdle p i = true := by simp only [State.sqIdle, hin, hq, Option.all_some, hheld, List.isEmpty_nil, Bool.and_self]
  show execSqDrained p i s = _
  simp only [execSqDrained, hq, hsq, hd, hidle, Bool.and_self, if_true]

/-- RC_RESULT changes registers alone. -/
theorem fld_rcResult (s : State) (p : Nat) {f : Fld} (hf : f.addr ≠ (Fd.RC_STAT_BUSY p).addr) (st : Status) :
    (s.rcResult p st).fld f = s.fld f := by
  rw [State.rcResult, fld_setFld_ne _ (show (Fd.RC_STAT_RESULT p).addr ≠ f.addr from Ne.symm hf), fld_setFld_ne _ (Ne.symm hf)]

theorem ringInflight_rcResult (s : State) (p i : Nat) (st : Status) : (s.rcResult p st).ringInflight p i = s.ringInflight p i := by
  rw [State.ringInflight, State.rcResult, setFld_inflight, setFld_inflight, State.ringInflight]

section
variable (hq : s.part? p = some q) (ho : s.windowOpen p = true) (hb : s.fld (Fd.RC_STAT_BUSY p) = 0)
include hq ho hb

theorem ringQuery_sq {r : Sq} (hty : s.fld (Fd.RC_CFG_TYPE p) = 0) (hid : id = s.fld (Fd.RC_CFG_ID p)) (hsq : q.sq? id = some r) :
    exec (.ringQuery p) s = .next ((((((s.rcResult p .ok).setFld (Fd.RC_INFO_ACTIVE p) 1).setFld (Fd.RC_INFO_STOPPED p)
      (b2n r.stopped)).setFld (Fd.RC_INFO_INFLIGHT p) (s.ringInflight p id).length).setFld
      (Fd.RC_INFO_HEAD p) r.head).setFld (Fd.RC_QUEUE_QUEUE p) (r.queue - reserveBase)) := by
  have hty' : (s.rcResult p .ok).fld (Fd.RC_CFG_TYPE p) = 0 := by
    rw [fld_rcResult s p (by simp [Fd.RC_CFG_TYPE, Fd.RC_STAT_BUSY, Reg.RC_CFG, Reg.RC_STAT]), hty]
  subst hid
  show execRingQuery p s = _
  simp only [execRingQuery, hq, ho, hb, hty', hsq, ringInflight_rcResult, Nat.reduceBEq, Bool.not_true, Bool.false_eq_true, if_false]

theorem ringQuery_cq {r : Cq} (hty : s.fld (Fd.RC_CFG_TYPE p) = 1) (hid : id = s.fld (Fd.RC_CFG_ID p)) (hcq : q.cq? id = some r) :
    exec (.ringQuery p) s = .next ((((((s.rcResult p .ok).setFld (Fd.RC_INFO_ACTIVE p) 1).setFld (Fd.RC_INFO_STOPPED p)
      (b2n r.stopped)).setFld (Fd.RC_INFO_INFLIGHT p) 0).setFld
      (Fd.RC_INFO_HEAD p) r.wr).setFld (Fd.RC_QUEUE_QUEUE p) (r.queue - reserveBase)) := by
  have hty' : (s.rcResult p .ok).fld (Fd.RC_CFG_TYPE p) = 1 := by
    rw [fld_rcResult s p (by simp [Fd.RC_CFG_TYPE, Fd.RC_STAT_BUSY, Reg.RC_CFG, Reg.RC_STAT]), hty]
  subst hid
  show execRingQuery p s = _
  simp only [execRingQuery, hq, ho, hb, hty', hcq, Nat.reduceBEq, Bool.not_true, Bool.false_eq_true, if_false, if_true]

end

/-- Settles O4: the doorbells judge their range, and each mailbox operation takes effect past its checks. -/
theorem doorbellsAndMailbox : Obligations.DoorbellsAndMailbox := by
  unfold Obligations.DoorbellsAndMailbox
  refine ⟨?tail, ?head, ?createCq, ?createSq, ?destroyCq, ?destroySq, ?drained, ?querySq, ?queryCq⟩
  case tail =>
    intro s p i data q r hq hr ho hsq
    rw [if_lt_eq_if_le]
    exact exec_sqTail hq hr ho hsq data
  case head =>
    intro s t p i data q r hq hr ho hcq ht
    rw [if_lt_eq_if_le]
    exact exec_cqHead hq hr ho hcq data ht
  case createCq =>
    intro s t p n id lg base q hq ho hb hty hid hlg h6 h12 hcq hquota hn hbase
    exact ringCreate_cq hq ho hb hty hid hlg h6 h12 hcq hquota hn hbase
  case createSq =>
    intro s t p n id lg cq base q w hq ho hb hty hid hlg hcqid h6 h12 hsq hcq hquota hn hbase
    exact ringCreate_sq hq ho hb hty hid hlg hcqid h6 h12 hsq hcq hquota hn hbase
  case destroyCq => exact fun s p id q r hq ho hb hty hid hcq hl => ringDestroy_cq hq ho hb hty hid hcq hl
  case destroySq => exact fun s p id q r hq ho hb hty hid hsq => ringDestroy_sq hq ho hb hty hid hsq rfl
  case drained => exact fun s p i q r hq hsq hd hin hheld => exec_sqDrained hq hsq hd hin hheld
  case querySq => exact fun s p id q r hq ho hb hty hid hsq => ringQuery_sq hq ho hb hty hid hsq
  case queryCq => exact fun s p id q r hq ho hb hty hid hcq => ringQuery_cq hq ho hb hty hid hcq

/-! ### Fetching and failed reads -/

theorem exec_sqFetch {f : Fetch} {r : Sq} {c : Inflight} (hq : s.part? p = some q) (hnext : s.nextSq p q = some i)
    (hmay : s.mayAdmit p q = true) (hsq : q.sq? i = some r)
    (hc : c = { s.withImage (Inflight.ofEntry { part := p, sq := i, idx := r.head } r.fetched s.admitted q f) with
          solo := s.fld Fd.HW_ROLE_SOLO == 1 })
    (hroom : s.inputUsed + min c.inLen 16777216 ≤ 16777216) (hres : s.canReserve c = true) (hheld : s.classHeld c.runClass = false)
    (hlife : s.inflight.any (fun o => o.opcode == 0x0901) = false) (ht : t = (s.takeTurn p q).emitReads p (c.reads (r.base + 64 * r.head))) :
    exec (.sqFetch p i f) s = .next ((State.admitJobs (State.followCmd
      (State.updPart { t with inflight := t.inflight ++ [c], admitted := t.admitted + 1 } p (fun x => { x with
        lastSq := i, sqs := updSq i (fun w => { w with head := (w.head + 1) % 2 ^ w.sizeLog2, fetched := w.fetched + 1 }) x.sqs,
        cqs := updCq r.cq (fun w => { w with reserved := w.reserved + 1 }) x.cqs })) c) c r.queue).sweepBad 1) := by
  subst ht hc
  have hturn : ¬ (decide (s.nextSq p q ≠ some i) || !s.mayAdmit p q) = true := by simp [hnext, hmay]
  show execSqFetch p i f s = _
  simp only [execSqFetch, hq]
  refine congrArg Host.Outcome.next ((if_neg hturn).trans ?_)
  simp only [hsq]
  refine (if_neg ?_).trans rfl
  rw [hres, hheld, hlife, decide_eq_false (Nat.not_lt.mpr hroom)]
  exact Bool.false_ne_true

theorem hostReadError_alive (hq : s.part? p = some q) {r : RingRef} (e : HostErr) (idx : Nat) (halive : (match r with
      | .sq i => (match q.sq? i with | some w => !w.stopped | none => false)
      | .cq i => (match q.cq? i with | some w => !w.stopped | none => false)
      | .evr => q.evr.isSome) = true) :
    exec (.hostReadError p r e idx) s = .next ((s.aerLog p e).stopRing p r (hostErrCode e) idx) := by
  show execHostReadError p r e idx s = _
  simp only [execHostReadError, hq]
  exact congrArg Host.Outcome.next (if_pos halive)

/-! ### The event ring -/

section
variable {data : Word}

theorem exec_evrEnable {u : State} {n : Nat} (hq : s.part? p = some q) (ho : s.pageOpen p (pageOf (Reg.EVR_CFG p)) = true)
    (he : q.evr = none) (h6 : 6 ≤ bitsOf data.toNat 3 0) (h12 : bitsOf data.toNat 3 0 ≤ 12) (hquota : q.ringCount < q.cfg.ringQuota)
    (ht : t = (s.setFld (Fd.EVR_CFG_VEC p) (bitsOf data.toNat 20 16)).setFld (Fd.EVR_CFG_SIZE_LOG2 p) (bitsOf data.toNat 3 0))
    (hn : t.takeReserve = some (n, u)) : exec (.evrEnable p data) s = .next (u.startEvr p n) := by
  have hsize : (decide (bitsOf data.toNat 3 0 < 6) || decide (12 < bitsOf data.toNat 3 0)) = false := by
    simp only [Bool.or_eq_false_iff, decide_eq_false_iff_not]
    omega
  show execEvrEnable p data s = _
  simp only [execEvrEnable, hq, ho, he, hsize, ← ht, Nat.not_le.mpr hquota, hn, Bool.not_true, Bool.false_eq_true, if_false]

theorem exec_evrDisable (hq : s.part? p = some q) (ho : s.pageOpen p (pageOf (Reg.EVR_CFG p)) = true) :
    exec (.evrDisable p data) s = .next (((if q.evr.isSome && bitsOf data.toNat 3 0 ≠ s.fld (Fd.EVR_CFG_SIZE_LOG2 p) then
        s.errCap (pageOf (Reg.EVR_CFG p)) p 0x05 (pageOff (Reg.EVR_CFG p)) data.toNat
      else s.setFld (Fd.EVR_CFG_SIZE_LOG2 p) (bitsOf data.toNat 3 0)).setFld (Fd.EVR_CFG_VEC p)
      (bitsOf data.toNat 20 16)).updPart p (fun x => { x with evr := none })) := by
  show execEvrDisable p data s = _
  simp only [execEvrDisable, hq, ho, Bool.not_true, Bool.false_eq_true, if_false]

theorem exec_evrHead (hq : s.part? p = some q) (ho : s.pageOpen p (pageOf (Reg.EVR_HEAD p)) = true) {r : Evr} (he : q.evr = some r)
    (hv : data.toNat % 4096 < 2 ^ r.sizeLog2) (ht : t = State.drainEvents ((s.setFld (Fd.EVR_HEAD_HEAD p) (data.toNat % 4096)).updPart p
      (fun x => { x with evr := some { r with head := data.toNat % 4096 } })) p) :
    exec (.evrHead p data) s = .next (match (t.part? p).bind (·.evr) with
      | some r' => if r'.head = r'.tail || data.toNat % 4096 = r.tail then t else t.sendMsg p r'.vec
      | none => t) := by
  have hin : ¬ r.size ≤ data.toNat % 4096 := Nat.not_le.mpr hv
  show execEvrHead p data s = _
  simp only [execEvrHead, hq, ho, he, if_neg hin, ← ht, Bool.not_true, Bool.false_eq_true, if_false, beq_eq_decide] <;>
    cases (t.part? p).bind (·.evr) <;> rfl

end

/-- Settles O5: an entry joins the fetched commands once its turn has come, a failed read stops its ring alone, and EVR_CFG and
EVR_HEAD start, release and drain the event ring. -/
theorem fetchAndEventRings : Obligations.FetchAndEventRings := by
  unfold Obligations.FetchAndEventRings
  refine ⟨?fetch, ?readSq, ?readCq, ?readEvr, ?enable, ?disableNone, ?disable, ?head⟩
  case fetch =>
    intro s t p i f q r c hq hnext hmay hsq hc hroom hres hheld hlife ht
    exact exec_sqFetch hq hnext hmay hsq hc hroom hres hheld hlife ht
  case readSq =>
    intro s p i idx e q r hq hsq hr
    exact hostReadError_alive hq (r := .sq i) e idx (by simp only [hsq, hr, Bool.not_false])
  case readCq =>
    intro s p i idx e q r hq hcq hr
    exact hostReadError_alive hq (r := .cq i) e idx (by simp only [hcq, hr, Bool.not_false])
  case readEvr =>
    intro s p idx e q r hq hr
    exact hostReadError_alive hq (r := .evr) e idx (by simp only [hr, Option.isSome_some])
  case enable =>
    intro s t u p n data q hq ho he h6 h12 hquota ht hn
    exact exec_evrEnable hq ho he h6 h12 hquota ht hn
  case disableNone =>
    intro s p data q hq ho he
    rw [exec_evrDisable hq ho, if_neg (by simp [he])]
  case disable =>
    intro s p data q r hq ho he
    rw [exec_evrDisable hq ho]
    by_cases hsize : bitsOf data.toNat 3 0 = s.fld (Fd.EVR_CFG_SIZE_LOG2 p)
    · rw [if_neg (by simp [hsize]), if_pos hsize]
    · rw [if_pos (by simp [he, hsize]), if_neg hsize] <;> rfl
  case head =>
    intro s t p data q r hq ho he hv ht
    exact exec_evrHead hq ho he hv ht

end Sys2Proof.Machine
end

section
/-! PROOF. Device warm reset, WARM, brown-out and power-on reset (02_package_and_electrical.md R61, R62; 03_bring_up_and_reset.md
R104-R106, R112). -/

namespace Sys2Proof.Machine

variable {s t u : State}

/-! ### Changes of registers alone -/

/-- t is s with other registers. -/
def RegsOnly (s t : State) : Prop := ∃ r, t = { s with regs := r }

theorem RegsOnly.refl (s : State) : RegsOnly s s := ⟨s.regs, rfl⟩

theorem RegsOnly.trans (h : RegsOnly s t) (h' : RegsOnly t u) : RegsOnly s u := by
  obtain ⟨_, rfl⟩ := h
  obtain ⟨r, rfl⟩ := h'
  exact ⟨r, rfl⟩

theorem regsOnly_setFld (s : State) (f : Fld) (v : Nat) : RegsOnly s (s.setFld f v) := ⟨_, rfl⟩

theorem regsOnly_resetRegs (s : State) (p : Nat → Bool) : RegsOnly s (s.resetRegs p) := ⟨_, rfl⟩

theorem RegsOnly.setFld (h : RegsOnly s t) (f : Fld) (v : Nat) : RegsOnly s (t.setFld f v) := h.trans (regsOnly_setFld t f v)

theorem regsOnly_bootCleared (s : State) : RegsOnly s s.bootCleared :=
  ((((regsOnly_setFld s _ _).setFld _ _).setFld _ _).setFld _ _).setFld _ _

theorem regsOnly_reshow (s old : State) : RegsOnly s (s.reshow old) :=
  (((regsOnly_setFld s _ _).setFld _ _).setFld _ _).trans (regsOnly_bootCleared _)

theorem regsWf_bootCleared (h : regsWf s.regs = true) : regsWf s.bootCleared.regs = true :=
  regsWf_setFld (regsWf_setFld (regsWf_setFld (regsWf_setFld (regsWf_setFld h _ _) _ _) _ _) _ _) _ _

theorem regsWf_reshow (h : regsWf s.regs = true) (old : State) : regsWf (s.reshow old).regs = true :=
  regsWf_bootCleared (regsWf_setFld (regsWf_setFld (regsWf_setFld h _ _) _ _) _ _)

/-! ### Device warm reset -/

/-- The work of a device warm reset on everything but the registers. -/
def State.warmBase (s : State) (start : Nat) : State :=
  { s.loseVolatile with boot := if s.boot = .power then .power else .warm, bootAt := start, capDone := false }

theorem warmTo_regsOnly (s : State) (start : Nat) : RegsOnly (s.warmBase start) (s.warmTo start) := by
  have hreset := (regsOnly_resetRegs s.loseVolatile (fun a => !keptWarm a)).setFld Fd.CR_STAT_QUENCH (max 2 (s.fld Fd.CR_STAT_QUENCH))
  obtain ⟨r, hr⟩ := hreset
  refine RegsOnly.trans ⟨r, ?_⟩ (regsOnly_reshow _ s)
  rw [hr]
  rfl

theorem loseVolatile_regs (s : State) : s.loseVolatile.regs = s.regs := rfl

theorem regsWf_warmTo (h : regsWf s.regs = true) (start : Nat) : regsWf (s.warmTo start).regs = true := by
  have hlost : regsWf s.loseVolatile.regs = true := by rwa [loseVolatile_regs]
  have hkept := regsWf_setFld (regsWf_resetRegs hlost (fun a => !keptWarm a)) Fd.CR_STAT_QUENCH (max 2 (s.fld Fd.CR_STAT_QUENCH))
  unfold State.warmTo
  exact regsWf_reshow hkept s

theorem deviceWarm_regsOnly (s : State) (c : WarmCause) : RegsOnly (s.warmBase (s.deviceTime + 20000)) (s.deviceWarm c) :=
  (warmTo_regsOnly s _).setFld _ _

/-- A rebuilt partition keeps its number and record. -/
theorem warmBase_parts (s : State) (start : Nat) :
    (s.warmBase start).parts.map (fun x => (x.1, x.2.cfg)) = s.parts.map (fun x => (x.1, x.2.cfg)) := by
  show (s.parts.map (fun (c : Nat × PartSt) => (c.1, c.2.rebuilt s.strapCompat))).map (fun x => (x.1, x.2.cfg)) = _
  rw [List.map_map]
  rfl

/-- RESET_CAUSE's bit of a warm reset. -/
def warmCauseFld : WarmCause → Fld
  | .request => Fd.RESET_CAUSE_WARM_REQ
  | .brownout => Fd.RESET_CAUSE_BROWNOUT
  | .tamper => Fd.RESET_CAUSE_TAMPER
  | .lifecycle => Fd.RESET_CAUSE_LIFECYCLE

theorem deviceWarm_eq (s : State) (c : WarmCause) :
    s.deviceWarm c = (s.warmTo (s.deviceTime + 20000)).setFld (warmCauseFld c) 1 := by
  cases c <;> rfl

theorem deviceWarm_cause (h : regsWf s.regs = true) (c : WarmCause) : (s.deviceWarm c).fld (warmCauseFld c) = 1 := by
  rw [deviceWarm_eq, fld_setFld (mapRising_of_regsWf (regsWf_warmTo h _)) (by cases c <;> decide) (by cases c <;> decide)]
  cases c <;> decide

/-! ### Brown-out -/

/-- The end of a brown-out: the supplies as the monitor tripped, and RESET_CAUSE. -/
def State.tripEnd (w : State) (m : Monitor) (mv : Nat) : State :=
  ((State.setVhold { w with supply := w.supply.tripped m } mv).setFld Fd.RESET_CAUSE_BROWNOUT 1).setFld Fd.HOLD_STAT_BOD_SEEN 1

theorem RegsOnly.tripEnd (h : RegsOnly s t) (m : Monitor) (mv : Nat) :
    RegsOnly { s with supply := { s.supply.tripped m with vholdMv := mv } } (t.tripEnd m mv) := by
  obtain ⟨r, rfl⟩ := h
  exact ⟨_, rfl⟩

/-- A dip of VDD_CORE under judgement was no tamper event. -/
def dropDip (m : Monitor) (t : TamperSt) : TamperSt :=
  { t with dip := match t.dip with | some (sub, at') => if m = .core && sub % 4 ≠ 3 then none else some (sub, at') | none => none }

theorem exec_brownOut (h : s.monitorsOn = true) (m : Monitor) (mv : Nat) : exec (.brownOut m mv) s =
    .next (((s.updTamper (dropDip m)).warmTo (s.deviceTime + 1000000)).tripEnd m mv) :=
  congrArg Host.Outcome.next (if_neg (by simp [h]))

/-! ### Power-on reset -/

/-- What a power-on reset leaves beside the registers and the ledger. -/
def State.porBase (s : State) (vaon : Bool) : State := (s.warmBase 0).losePd00 vaon

/-- PD00 forgets every register. -/
theorem RegsOnly.losePd00 (h : RegsOnly s t) (vaon : Bool) : t.losePd00 vaon = s.losePd00 vaon := by
  obtain ⟨r, rfl⟩ := h
  rfl

/-- The bit that shows the cause of a power-on reset. -/
def porFld : PorCause → Fld
  | .porst => Fd.RESET_CAUSE_PORST
  | .vaonLow => Fd.RESET_CAUSE_VAON_LOW

/-- The part before its ledger is refilled. -/
def State.porShown (s : State) (c : PorCause) : State := ((s.porBase (decide (c = .vaonLow))).reshow s).setFld (porFld c) 1

theorem porShown_regsOnly (s : State) (c : PorCause) : RegsOnly (s.porBase (decide (c = .vaonLow))) (s.porShown c) :=
  (regsOnly_reshow _ s).setFld _ _

/-- The ledger after a power-on reset, where it has a limit. -/
def State.refilled (s : State) : State :=
  let t := s.refill s.ledger.budget s.ledger.horizon
  { t with ledger := { t.ledger with refilled := true } }

theorem exec_powerOnReset (s : State) (c : PorCause) : exec (.powerOnReset c) s = .next (
    if (s.porShown c).ledger.budget = noLimit then s.porShown c else (s.porShown c).refilled) := by
  have hlost := (warmTo_regsOnly s 0).losePd00 (decide (c = .vaonLow))
  have hexec : exec (.powerOnReset c) s = .next (
      let t := (((s.warmTo 0).losePd00 (decide (c = .vaonLow))).reshow s).setFld (porFld c) 1
      if t.ledger.budget = noLimit then t else t.refilled) := by cases c <;> rfl
  rw [hexec, hlost]
  rfl

theorem refilled_spec (s : State) : ∃ r l, s.refilled = { s with regs := r, ledger := l } := ⟨_, _, rfl⟩

/-- Registers and ledger aside, a power-on reset leaves its base. -/
theorem powerOnReset_spec (s : State) (c : PorCause) :
    ∃ r l, exec (.powerOnReset c) s = .next { s.porBase (decide (c = .vaonLow)) with regs := r, ledger := l } := by
  obtain ⟨r, hr⟩ := porShown_regsOnly s c
  rw [exec_powerOnReset]
  split
  · exact ⟨r, _, congrArg Host.Outcome.next hr⟩
  · obtain ⟨r', l, hl⟩ := refilled_spec (s.porShown c)
    rw [hl, hr]
    exact ⟨r', l, rfl⟩

/-! RESET_CAUSE -/

theorem reg_setFld_ne (s : State) {f : Fld} {a : Nat} (h : f.addr ≠ a) (v : Nat) : (s.setFld f v).reg a = s.reg a :=
  reg_setReg_ne s h _

theorem reg_setFld {s : State} (h : mapRising 0 s.regs = true) (f : Fld) (v : Nat) :
    (s.setFld f v).reg f.addr = insertBits (s.reg f.addr) f.hi f.lo v :=
  reg_setReg h _ _

/-- What shows again after a reset shows in other registers. -/
theorem reshow_cause (s old : State) : (s.reshow old).reg Reg.RESET_CAUSE = s.reg Reg.RESET_CAUSE := by
  rw [State.reshow, State.bootCleared, reg_setFld_ne _ (by decide), reg_setFld_ne _ (by decide), reg_setFld_ne _ (by decide),
    reg_setFld_ne _ (by decide), reg_setFld_ne _ (by decide), reg_setFld_ne _ (by decide), reg_setFld_ne _ (by decide),
    reg_setFld_ne _ (by decide)]

theorem refilled_cause (s : State) : s.refilled.reg Reg.RESET_CAUSE = s.reg Reg.RESET_CAUSE := by
  show (s.refill s.ledger.budget s.ledger.horizon).reg Reg.RESET_CAUSE = _
  rw [State.refill, State.showStore, reg_setFld_ne _ (by decide), reg_setFld_ne _ (by decide), reg_setFld_ne _ (by decide)]
  rfl

theorem porShown_cause (s : State) (c : PorCause) : (s.porShown c).reg Reg.RESET_CAUSE = (match c with | .porst => 1#32 | .vaonLow => 2#32) := by
  have hnone : (s.porBase (decide (c = .vaonLow))).reg Reg.RESET_CAUSE = 0#32 := by
    show mapRead (regReset Reg.RESET_CAUSE) [] Reg.RESET_CAUSE = _
    decide
  have hwf : mapRising 0 ((s.porBase (decide (c = .vaonLow))).reshow s).regs = true := mapRising_of_regsWf (regsWf_reshow rfl s)
  have haddr : (porFld c).addr = Reg.RESET_CAUSE := by cases c <;> rfl
  have hshown := reg_setFld hwf (porFld c) 1
  rw [haddr, reshow_cause, hnone] at hshown
  rw [State.porShown, hshown]
  cases c <;> decide

/-- Settles O6: the resets change what R106 names, and RESET_CAUSE's bit is set last. -/
theorem deviceResetsAndCauses : Obligations.DeviceResetsAndCauses := by
  unfold Obligations.DeviceResetsAndCauses
  refine ⟨?warm, ?keyed, ?brownOut, ?power, ?warmCause, ?powerCause⟩
  case warm =>
    intro s c
    obtain ⟨r, hr⟩ := deviceWarm_regsOnly s c
    refine ⟨_, rfl, ?_⟩
    rw [hr]
    exact ⟨rfl, rfl, rfl, rfl, rfl, rfl, rfl, rfl, rfl, rfl, rfl, rfl, rfl, rfl, warmBase_parts s (s.deviceTime + 20000), rfl⟩
  case keyed =>
    intro s src data ho hs hk hb
    show execWarm src data s = _
    simp only [execWarm, ho, hs, hk, hb, decide_true, Bool.not_true, Bool.and_self, Bool.false_eq_true, if_false, if_true]
    rfl
  case brownOut =>
    intro s m mv h
    obtain ⟨r, hr⟩ := (warmTo_regsOnly (s.updTamper (dropDip m)) (s.deviceTime + 1000000)).tripEnd m mv
    refine ⟨_, exec_brownOut h m mv, ?_⟩
    rw [hr]
    refine ⟨rfl, rfl, rfl, ?_, rfl, rfl, rfl, rfl, rfl⟩
    cases m <;> rfl
  case power =>
    intro s c
    obtain ⟨r, l, h⟩ := powerOnReset_spec s c
    refine ⟨_, h, rfl, rfl, rfl, rfl, rfl, rfl, rfl, rfl, rfl, rfl, rfl, ?_⟩
    cases c <;> rfl
  case warmCause =>
    intro s t c h ht
    obtain rfl : s.deviceWarm c = t := Host.Outcome.next.inj ht
    have hcause := deviceWarm_cause h c
    cases c <;> exact hcause
  case powerCause =>
    intro s t c ht
    rw [exec_powerOnReset] at ht
    have hshown := porShown_cause s c
    obtain rfl := Host.Outcome.next.inj ht
    split
    · cases c <;> exact hshown
    · rw [refilled_cause]
      cases c <;> exact hshown

end Sys2Proof.Machine
end

section
/-! PROOF. Link and partition resets, configuration requests, supplies and references (02_package_and_electrical.md R60, R78-R80;
03_bring_up_and_reset.md R95, R103-R111; 04_host_link_and_partitions.md R113-R123, R145, R153). -/

namespace Sys2Proof.Machine

variable {s : State}

/-! ### What the work of units, keys and events leaves -/

/-- What bring-up asks of the part: its transitions, a HOLD or Quench, its firmware key, its storage seed, its lost pages. -/
def State.lasting (s : State) := (s.lc, s.tamper.quench, s.tamper.hold, s.keys.fuses, s.keys.seed, s.ee.lostPages)

/-- Power, bring-up, the life cycle, the fetched commands and the configurations of the partitions. -/
def State.kept (s : State) :=
  (s.supply, s.boot, s.retry, s.gatesOpen, s.life, s.lasting, s.inflight, fun p => (s.part? p).map (·.cfg))

theorem kept_supply {t : State} (h : t.kept = s.kept) : t.supply = s.supply := congrArg Prod.fst h

theorem kept_inflight {t : State} (h : t.kept = s.kept) : t.inflight = s.inflight :=
  congrArg (fun k => k.2.2.2.2.2.2.1) h

theorem kept_cfg {t : State} (h : t.kept = s.kept) (p : Nat) : (t.part? p).map (·.cfg) = (s.part? p).map (·.cfg) :=
  congrFun (congrArg (fun k => k.2.2.2.2.2.2.2) h) p

theorem kept_foldl {α : Type} {f : State → α → State} (h : ∀ s a, (f s a).kept = s.kept) (l : List α) (s : State) :
    (l.foldl f s).kept = s.kept := by
  induction l generalizing s with
  | nil => rfl
  | cons a l ih => rw [List.foldl_cons, ih, h]

theorem kept_ite {c : Prop} [Decidable c] {a b : State} (ha : a.kept = s.kept) (hb : b.kept = s.kept) :
    (if c then a else b).kept = s.kept := by split <;> assumption

@[simp] theorem kept_setFld (s : State) (f : Fld) (v : Nat) : (s.setFld f v).kept = s.kept := rfl
@[simp] theorem kept_bump (s : State) (f : Fld) (n : Nat) : (s.bump f n).kept = s.kept := rfl
@[simp] theorem kept_resetRegs (s : State) (p : Nat → Bool) : (s.resetRegs p).kept = s.kept := rfl
@[simp] theorem kept_emit (s : State) (o : Output) : (s.emit o).kept = s.kept := rfl
@[simp] theorem kept_setFn (s : State) (p : Nat) (f : FnSt) : (s.setFn p f).kept = s.kept := rfl
@[simp] theorem kept_putSlot (s : State) (n : Nat) (k : KeySlot) : (s.putSlot n k).kept = s.kept := rfl
@[simp] theorem kept_updEng (s : State) (e : EngRef) (f : Eng → Eng) : (s.updEng e f).kept = s.kept := rfl
@[simp] theorem kept_setLane (s : State) (n : Nat) (l : LaneSt) : (s.setLane n l).kept = s.kept := rfl
@[simp] theorem kept_startJob (s : State) (i : Nat) (j : Job) (u : Nat) : (s.startJob i j u).kept = s.kept := rfl
@[simp] theorem kept_free (s : State) : s.free.2.kept = s.kept := rfl
@[simp] theorem kept_showStore (s : State) : s.showStore.kept = s.kept := rfl

theorem mapGet_mapUpd {α : Type} (m : List (Nat × α)) (a b : Nat) (f : α → α) :
    mapGet (mapUpd m a f) b = if a = b then (mapGet m a).map f else mapGet m b := by
  unfold mapUpd
  cases h : mapGet m a with
  | none =>
    by_cases e : a = b
    · simp [← e, h]
    · simp [e]
  | some v => simp [mapGet_mapPut]

theorem part?_updPart (s : State) (p q : Nat) (f : PartSt → PartSt) :
    (s.updPart p f).part? q = if p = q then (s.part? p).map f else s.part? q :=
  mapGet_mapUpd s.parts p q f

theorem kept_updPart {f : PartSt → PartSt} (s : State) (p : Nat) (h : ∀ q, (f q).cfg = q.cfg) :
    (s.updPart p f).kept = s.kept := by
  have hcfg : (fun q => ((s.updPart p f).part? q).map (·.cfg)) = fun q => (s.part? q).map (·.cfg) := by
    funext q
    rw [part?_updPart]
    split
    · next e =>
      subst e
      simp [Function.comp_def, h]
    · rfl
  simp only [State.kept, hcfg]
  rfl

/-! Events, messages and page interrupts -/

@[simp] theorem kept_sendMsg (s : State) (p v : Nat) : (s.sendMsg p v).kept = s.kept := by
  unfold State.sendMsg
  split_ifs <;> rfl

@[simp] theorem kept_writeEvent (s : State) (p : Nat) (r : Evr) (e : Event) : (s.writeEvent p r e).kept = s.kept := by
  have hwrite : ∀ x, ((s.emit x).updPart p (fun q => { q with evr := some { r with
      tail := (r.tail + 1) % r.size, seq := r.seq + 1, phase := if (r.tail + 1) % r.size == 0 then !r.phase else r.phase } })).kept =
      s.kept := fun x => kept_updPart _ p (fun _ => rfl)
  unfold State.writeEvent
  exact kept_ite ((kept_sendMsg _ _ _).trans (hwrite _)) (hwrite _)

@[simp] theorem kept_postTo (s : State) (p : Nat) (e : Event) : (s.postTo p e).kept = s.kept := by
  unfold State.postTo
  split
  · rfl
  · split
    · split_ifs
      · exact kept_updPart s p (fun _ => rfl)
      · exact kept_updPart s p (fun _ => rfl)
      · exact kept_writeEvent s p _ e
      · exact kept_updPart s p (fun _ => rfl)
      · exact kept_updPart s p (fun _ => rfl)
    · split_ifs
      · exact kept_updPart s p (fun _ => rfl)
      · exact kept_updPart s p (fun _ => rfl)

@[simp] theorem kept_post (s : State) (p code src : Nat) (detail : Bytes) : (s.post p code src detail).kept = s.kept :=
  kept_postTo s p _

@[simp] theorem kept_intNotify (s : State) (pg old : Nat) : (s.intNotify pg old).kept = s.kept := by
  unfold State.intNotify
  dsimp only
  split_ifs
  · rfl
  · exact kept_post s _ _ _ _
  · exact kept_sendMsg s _ _
  · rfl

@[simp] theorem kept_raise (s : State) (pg mask : Nat) : (s.raise pg mask).kept = s.kept := by
  rw [State.raise, kept_intNotify, kept_setFld]

/-! Key uses, jobs and tasks -/

/-! Key uses, jobs and tasks -/

@[simp] theorem kept_raiseGen (s : State) (p : Nat) : (s.raiseGen p).kept = s.kept := rfl

@[simp] theorem kept_writePage (s : State) (p : Nat) : (s.writePage p).kept = s.kept := by
  rw [State.writePage, kept_raiseGen]
  unfold State.clearPage
  refine kept_ite rfl (kept_ite (kept_raise _ _ _) rfl)

@[simp] theorem kept_rekeyAdvised (s : State) (n cause : Nat) (k : KeySlot) : (s.rekeyAdvised n cause k).kept = s.kept := by
  rw [State.rekeyAdvised, kept_raise, kept_post]

@[simp] theorem kept_raiseMark (s : State) (n : Nat) (t : OwnTxn) (k : KeySlot) : (s.raiseMark n t k).kept = s.kept := by
  unfold State.raiseMark State.writeSlot
  split_ifs
  · rfl
  · exact kept_writePage _ _
  · rfl
  · rfl

@[simp] theorem kept_checkUseMark (s : State) (n : Nat) : (s.checkUseMark n).kept = s.kept := by
  unfold State.checkUseMark
  split
  · exact kept_ite rfl (kept_raiseMark _ _ _ _)
  · rfl

@[simp] theorem kept_checkDrawMark (s : State) (n : Nat) : (s.checkDrawMark n).kept = s.kept := by
  unfold State.checkDrawMark
  split
  · exact kept_ite rfl (kept_raiseMark _ _ _ _)
  · rfl

/-- The state a use leaves, taken or not. -/
def Take.state : Take → State
  | .ok t => t
  | .exhausted t => t
  | .wait t => t

theorem kept_takeUse (s : State) (n : Nat) (drawn : Bool) : (s.takeUse n drawn).state.kept = s.kept := by
  have hadvise : ∀ (c : Bool) (t : State) (m : Nat) (k : KeySlot), (if c then t.rekeyAdvised n m k else t).kept = t.kept :=
    fun c t m k => kept_ite (kept_rekeyAdvised t n m k) rfl
  have hdraw : ∀ t : State, (if drawn then t.checkDrawMark n else t).kept = t.kept := fun t => kept_ite (kept_checkDrawMark t n) rfl
  unfold State.takeUse
  split
  · rfl
  · split
    · rfl
    · split
      · exact kept_checkUseMark s n
      · split
        · exact kept_checkDrawMark s n
        · exact (hdraw _).trans ((kept_checkUseMark _ n).trans ((hadvise _ _ _ _).trans ((hadvise _ _ _ _).trans (kept_putSlot s n _))))

@[simp] theorem kept_keepUse (s : State) (c : Inflight) : (s.keepUse c).kept = s.kept := by
  have huse := kept_takeUse s c.keyUsed false
  unfold State.keepUse
  refine kept_ite rfl ?_
  cases h : s.takeUse c.keyUsed false with
  | ok t => rwa [h] at huse
  | exhausted t => rfl
  | wait t => rwa [h] at huse

@[simp] theorem kept_serve (s : State) (n : Nat) : (s.serve n).kept = s.kept := by
  induction n generalizing s with
  | zero => rfl
  | succ n ih =>
    unfold State.serve
    split
    · rfl
    · rw [ih]
      unfold State.noteWait
      exact kept_ite rfl rfl

@[simp] theorem kept_dropJobs (s : State) (o : JobOwner) : (s.dropJobs o).kept = s.kept := kept_serve _ _

@[simp] theorem kept_abortTasks (s : State) (p : Task → Bool) : (s.abortTasks p).kept = s.kept := by
  refine kept_foldl (fun t e => ?_) _ _
  split
  · refine kept_ite ?_ rfl
    unfold State.abortTask
    split <;> rfl
  · rfl

theorem kept_dropCmds (s : State) (x : List Txn) (h : HalvesSt) (a : AccessSt) (c : CardSt) :
    State.kept { s with txns := x, halves := h, acc := a, card := c } = s.kept := rfl

theorem kept_haltCmds (s : State) (p : Nat → Bool) : (s.haltCmds p).kept = s.kept := by
  have hdone := kept_foldl (f := fun t c => (t.keepUse c).dropJobs (.cmd c.key)) (fun t c => by rw [kept_dropJobs, kept_keepUse])
    (s.inflight.filter (fun c => p c.key.part)) s
  exact (kept_dropCmds _ _ _ _ _).trans ((kept_abortTasks _ _).trans hdone)

/-! Ranging and lanes -/

@[simp] theorem kept_spend (s : State) (n : Nat) : (s.spend n).kept = s.kept := kept_ite (kept_raise _ _ _) rfl

@[simp] theorem kept_book (s : State) (b : Booking) : (s.book b).kept = s.kept := by
  have hspend : ∀ n, (s.free.2.spend n).kept = s.kept := fun n => (kept_spend _ n).trans (kept_free s)
  unfold State.book
  dsimp only
  split
  · exact hspend _
  · exact hspend _
  all_goals exact kept_ite rfl (hspend _)

@[simp] theorem kept_showRound (s : State) (x : Round) (fob : Nat) (r : RngResult) : (s.showRound x fob r).kept = s.kept := by
  unfold State.showRound
  have hcount : ∀ (t : State) (o : RngOutcome), (match o with
    | .noResponse => t.bump Fd.RNG_CNT1_NO_RESPONSE
    | .aborted => t.bump Fd.RNG_CNT1_ABORTED
    | .stsFail => t.bump Fd.RNG_CNT2_STS_FAIL
    | .fpMismatch => t.bump Fd.RNG_CNT2_FP_MISMATCH
    | .edlcSuspect => t.bump Fd.RNG_CNT3_EDLC_SUSPECT
    | .reportFail => t.bump Fd.RNG_CNT3_REPORT_FAIL
    | _ => t).kept = t.kept := fun t o => by cases o <;> rfl
  rw [kept_raise]
  refine (hcount _ r.outcome).trans ?_
  rw [kept_bump]
  repeat rw [kept_setFld]

theorem kept_endRound (s : State) (u : UwbSt) (a : AccessSt) : State.kept { s with uwb := u, acc := a } = s.kept := rfl

@[simp] theorem kept_abortRound (s : State) : s.abortRound.kept = s.kept := by
  unfold State.abortRound
  split
  · exact (kept_endRound _ _ _).trans ((kept_book _ _).trans (kept_showRound _ _ _ _))
  · rfl

@[simp] theorem kept_laneDown (s : State) (n : Nat) : (s.laneDown n).kept = s.kept := by
  have hdown : ((s.setFld (Fd.LANE_STAT_UP n) 0).raise 0x030000 1).kept = s.kept := (kept_raise _ _ _).trans (kept_setFld s _ _)
  unfold State.laneDown
  split
  · rfl
  · generalize (s.setFld (Fd.LANE_STAT_UP n) 0).raise 0x030000 1 = t at hdown ⊢
    refine (kept_ite ?_ rfl).trans hdown
    rw [kept_bump, kept_setLane]

@[simp] theorem kept_lanesDown (s : State) : s.lanesDown.kept = s.kept := by
  unfold State.lanesDown
  exact kept_foldl kept_laneDown _ s
/-! ### Link resets -/

/-- A link reset of one partition. -/
def State.linkDrop (s : State) (p : Nat) : State := (((s.dropRings p).setFn p FnSt.init).resetMsix p).unlockWindow p

theorem linkResetOf_eq (s : State) (l : List Nat) :
    s.linkResetOf l = l.foldl State.linkDrop (s.abortRound.haltCmds l.contains) := rfl

theorem linkDrop_supply (s : State) (p : Nat) : (s.linkDrop p).supply = s.supply := rfl

theorem linkDrop_inflight (s : State) (p : Nat) : (s.linkDrop p).inflight = s.inflight.filter (fun c => !(c.key.part == p)) := rfl

theorem linkDrop_part? (s : State) (p q : Nat) : (s.linkDrop p).part? q =
    if p = q then (s.part? p).map (fun x => { x with sqs := [], cqs := [], evr := none, heldCompl := [] }) else s.part? q :=
  mapGet_mapUpd s.parts p q _

theorem linkDrops_supply (l : List Nat) (s : State) : (l.foldl State.linkDrop s).supply = s.supply := by
  induction l generalizing s with
  | nil => rfl
  | cons p l ih => rw [List.foldl_cons, ih, linkDrop_supply]

theorem linkDrops_inflight (l : List Nat) (s : State) {c : Inflight} (h : c ∈ (l.foldl State.linkDrop s).inflight) :
    c ∈ s.inflight ∧ c.key.part ∉ l := by
  induction l generalizing s with
  | nil => exact ⟨h, List.not_mem_nil⟩
  | cons p l ih =>
    obtain ⟨hmem, hnot⟩ := ih _ h
    rw [linkDrop_inflight, List.mem_filter] at hmem
    obtain ⟨hmem, hne⟩ := hmem
    refine ⟨hmem, fun h => ?_⟩
    rcases List.mem_cons.mp h with h | h
    · simp [h] at hne
    · exact hnot h

theorem linkDrops_cfg (l : List Nat) (s : State) (q : Nat) :
    ((l.foldl State.linkDrop s).part? q).map (·.cfg) = (s.part? q).map (·.cfg) := by
  induction l generalizing s with
  | nil => rfl
  | cons p l ih =>
    rw [List.foldl_cons, ih, linkDrop_part?]
    split
    · next h => rw [h, Option.map_map]; rfl
    · rfl

/-- Partition p, if it is there, has no ring. -/
def State.ringless (s : State) (p : Nat) : Prop := ∀ q, s.part? p = some q → q.sqs = [] ∧ q.cqs = [] ∧ q.evr = none

theorem ringless_linkDrop (s : State) (p : Nat) : (s.linkDrop p).ringless p := by
  intro q h
  rw [linkDrop_part?, if_pos rfl, Option.map_eq_some_iff] at h
  obtain ⟨x, _, rfl⟩ := h
  exact ⟨rfl, rfl, rfl⟩

theorem linkDrop_keeps_ringless {s : State} {p : Nat} (h : s.ringless p) (a : Nat) : (s.linkDrop a).ringless p := by
  by_cases e : a = p
  · exact e ▸ ringless_linkDrop s a
  · intro q hq
    rw [linkDrop_part?, if_neg e] at hq
    exact h q hq

theorem linkDrops_keep_ringless (l : List Nat) {s : State} {p : Nat} (h : s.ringless p) : (l.foldl State.linkDrop s).ringless p := by
  induction l generalizing s with
  | nil => exact h
  | cons a l ih => exact ih (linkDrop_keeps_ringless h a)

theorem ringless_linkDrops (l : List Nat) (s : State) {p : Nat} (h : p ∈ l) : (l.foldl State.linkDrop s).ringless p := by
  induction l generalizing s with
  | nil => exact absurd h List.not_mem_nil
  | cons a l ih =>
    rcases List.mem_cons.mp h with rfl | h
    · exact linkDrops_keep_ringless l (ringless_linkDrop s p)
    · exact ih _ h

theorem kept_halted (s : State) (l : List Nat) : (s.abortRound.haltCmds l.contains).kept = s.kept :=
  (kept_haltCmds _ _).trans (kept_abortRound s)

theorem linkResetOf_supply (s : State) (l : List Nat) : (s.linkResetOf l).supply = s.supply := by
  rw [linkResetOf_eq, linkDrops_supply, kept_supply (kept_halted s l)]

theorem linkResetOf_inflight (s : State) (l : List Nat) {c : Inflight} (h : c ∈ (s.linkResetOf l).inflight) : c.key.part ∉ l := by
  rw [linkResetOf_eq] at h
  exact (linkDrops_inflight _ _ h).2

theorem linkResetOf_cfg (s : State) (l : List Nat) (p : Nat) :
    ((s.linkResetOf l).part? p).map (·.cfg) = (s.part? p).map (·.cfg) := by
  rw [linkResetOf_eq, linkDrops_cfg, kept_cfg (kept_halted s l)]

theorem linkResetOf_ringless (s : State) {l : List Nat} {p : Nat} (h : p ∈ l) : (s.linkResetOf l).ringless p := by
  rw [linkResetOf_eq]
  exact ringless_linkDrops l _ h

/-- The functions' state a link reset clears beside its partitions. -/
def State.clearVfs (s : State) (b : Bool) : State := { s with vfEnable := false, numVfs := 0, d3hot := false, linkUp := b }

theorem linkReset_eq (s : State) : s.linkReset = (s.linkResetOf (List.range 64)).clearVfs (s.linkResetOf (List.range 64)).linkCan := by
  unfold State.linkReset State.clearVfs
  rfl

theorem clearVfs_supply (s : State) (b : Bool) : (s.clearVfs b).supply = s.supply := rfl
theorem clearVfs_linkUp (s : State) (b : Bool) : (s.clearVfs b).linkUp = b := rfl
theorem clearVfs_inflight (s : State) (b : Bool) : (s.clearVfs b).inflight = s.inflight := rfl
theorem clearVfs_part? (s : State) (b : Bool) (p : Nat) : (s.clearVfs b).part? p = s.part? p := rfl

/-- A link reset of the part keeps the supplies, and the link stays down where they do not allow it. -/
theorem linkReset_supply (s : State) : s.linkReset.supply = s.supply := by
  rw [linkReset_eq, clearVfs_supply, linkResetOf_supply]

theorem linkReset_linkUp (s : State) (h : s.supply.serdesLow = true ∨ s.supply.lostPcie = true) : s.linkReset.linkUp = false := by
  have hkept := linkResetOf_supply s (List.range 64)
  rw [linkReset_eq, clearVfs_linkUp, State.linkCan]
  rw [hkept]
  rcases h with h | h <;> simp [h]

theorem dataLinkDown_supply (s : State) : s.dataLinkDown.supply = s.supply := by
  unfold State.dataLinkDown
  split
  · rfl
  · rw [linkReset_supply, setFld_supply]

theorem dataLinkDown_linkUp (s : State) (h : s.supply.serdesLow = true ∨ s.supply.lostPcie = true) :
    s.dataLinkDown.linkUp = false := by
  unfold State.dataLinkDown
  split
  · unfold State.linkBack State.linkCan
    rcases h with h | h <;> simp [h]
  · exact linkReset_linkUp _ (by rwa [setFld_supply])

/-- LINK_RESET's first effect: PERST_N is noted. -/
def State.noted (s : State) (c : LinkCause) : State := if c = .perst then { s with power := { s.power with perstLow := true } } else s

theorem noted_boot (s : State) (c : LinkCause) : (s.noted c).boot = s.boot := by cases c <;> rfl

theorem noted_parts (s : State) (c : LinkCause) : (s.noted c).parts = s.parts := by cases c <;> rfl

theorem exec_linkReset {s : State} {c : LinkCause} (hp : s.boot ≠ .power) (hw : s.boot ≠ .warm) : exec (.linkReset c) s =
    .next (((s.noted c).setFld (if c = .perst then Fd.RESET_CAUSE_PERST else Fd.RESET_CAUSE_LINK) 1).linkReset) := by
  have hopen : ∀ t : State, t.boot = s.boot → ∀ u v : State, (if t.boot = .power || t.boot = .warm then u else v) = v := by
    intro t ht u v
    simp [ht, hp, hw]
  cases c <;> exact congrArg Host.Outcome.next (hopen _ rfl _ _)

end Sys2Proof.Machine
end

section
/-! PROOF. Links, partition resets, configuration requests and supplies, row by row. -/

namespace Sys2Proof.Machine

theorem exec_pcieLoss {s : State} (h : s.supply.lostPcie = false) : exec (.refclkLoss .pcie) s =
    .next (State.dataLinkDown (State.setFld { s with supply := { s.supply with lostPcie := true } } Fd.CLKMON_STAT_PCIE_LOSS 1)) := by
  show execRefclkLoss .pcie s = _
  unfold execRefclkLoss
  rw [if_neg (by rw [Supply.lost, h]; decide)]
  rfl

theorem exec_laneLoss {s : State} (h : s.supply.lostLane = false) : exec (.refclkLoss .lane) s =
    .next (State.lanesDown (State.setFld { s with supply := { s.supply with lostLane := true } } Fd.CLKMON_STAT_LANE_LOSS 1)) := by
  show execRefclkLoss .lane s = _
  unfold execRefclkLoss
  rw [if_neg (by rw [Supply.lost, h]; decide)]
  rfl

/-- Settles O8: configuration requests, resets and supplies row by row; the partitions keep their records through a link reset. -/
theorem linkAndSupplies : Obligations.LinkAndSupplies := by
  unfold Obligations.LinkAndSupplies
  refine ⟨?link, ?linkLeaves, ?wider, ?flr, ?flr0, ?resetEnds, ?resetWhole, ?perst, ?notReady, ?read, ?bar, ?payload, ?maxRead, ?aer,
    ?master, ?msix, ?fnMask, ?vecMask, ?vfOn, ?vfOff, ?vfOffLeaves, ?d3hot, ?serdes, ?serdesDown, ?serdesBack, ?pcieLoss,
    ?pcieDown, ?laneLoss, ?xtalLoss, ?refLoss, ?refBack⟩
  case link =>
    intro s u c hp hw hu
    rw [exec_linkReset hp hw, hu]
    rfl
  case linkLeaves =>
    intro s c hp hw
    refine ⟨_, exec_linkReset hp hw, ?_⟩
    have hparts : ((s.noted c).setFld (if c = .perst then Fd.RESET_CAUSE_PERST else Fd.RESET_CAUSE_LINK) 1).parts = s.parts := by
      rw [setFld_parts, noted_parts]
    revert hparts
    generalize (s.noted c).setFld (if c = .perst then Fd.RESET_CAUSE_PERST else Fd.RESET_CAUSE_LINK) 1 = x
    intro hparts
    rw [linkReset_eq]
    generalize (x.linkResetOf (List.range 64)).linkCan = b
    refine ⟨rfl, rfl, rfl, fun c hc => ?_, fun p => ?_, fun p q hp hq => ?_⟩
    · rw [clearVfs_inflight] at hc
      have hnot := linkResetOf_inflight x (List.range 64) hc
      rw [List.mem_range] at hnot
      exact Nat.le_of_not_lt hnot
    · rw [clearVfs_part?, linkResetOf_cfg]
      unfold State.part?
      rw [hparts]
    · rw [clearVfs_part?] at hq
      exact linkResetOf_ringless x (List.mem_range.mpr hp) q hq
  case wider =>
    intro s c h
    have hclosed : ∀ t : State, t.boot = s.boot → ∀ u v : State, (if t.boot = .power || t.boot = .warm then u else v) = u := by
      intro t ht u v
      rcases h with h | h <;> simp [ht, h]
    cases c <;> exact congrArg Host.Outcome.next (hclosed _ rfl _ _)
  case flr =>
    intro s p hr hp hq hne
    refine congrArg Host.Outcome.next ((if_neg ?_).trans (if_pos hne))
    simp [hr, hp, Option.ne_none_iff_isSome.mpr hq]
  case flr0 =>
    intro s hr hp hq
    refine congrArg Host.Outcome.next ((if_neg ?_).trans (if_neg (fun h => h rfl)))
    simp [hr, hp, Option.ne_none_iff_isSome.mpr hq]
  case resetEnds =>
    intro s p c q hq hc hne
    show execPartitionReset p c s = _
    simp [execPartitionReset, hq, hc, hne]
  case resetWhole =>
    intro s p c q hq hc hr hne
    show execPartitionReset p c s = _
    simp [execPartitionReset, hq, hc, hne, hr]
  case perst =>
    intro s u hl hu
    subst hu
    exact congrArg Host.Outcome.next (if_neg (by rw [hl]; decide))
  case notReady =>
    intro s p op hr
    exact congrArg Host.Outcome.next (if_pos (by rw [hr, Bool.true_or]))
  case read => exact fun s p r hr hp => congrArg Host.Outcome.next (if_neg (by rw [hr, hp]; decide))
  case bar => exact fun s p k a hr hp => congrArg Host.Outcome.next (if_neg (by rw [hr, hp]; decide))
  case payload =>
    intro s p n hr hp
    refine congrArg Host.Outcome.next ((if_neg (by rw [hr, hp]; decide)).trans ?_)
    simp
  case maxRead =>
    intro s p n hr hp
    refine congrArg Host.Outcome.next ((if_neg (by rw [hr, hp]; decide)).trans ?_)
    simp
  case aer => exact fun s p m hr hp => congrArg Host.Outcome.next (if_neg (by rw [hr, hp]; decide))
  case master => exact fun s p b hr hp => congrArg Host.Outcome.next (if_neg (by rw [hr, hp]; decide))
  case msix => exact fun s p b hr hp => congrArg Host.Outcome.next (if_neg (by rw [hr, hp]; decide))
  case fnMask => exact fun s p b hr hp => congrArg Host.Outcome.next (if_neg (by rw [hr, hp]; decide))
  case vecMask => exact fun s p v b hr hp => congrArg Host.Outcome.next (if_neg (by rw [hr, hp]; decide))
  case vfOn => exact fun s n hr hp => congrArg Host.Outcome.next (if_neg (by rw [hr, hp]; decide))
  case vfOff => exact fun s n hr hp => congrArg Host.Outcome.next (if_neg (by rw [hr, hp]; decide))
  case vfOffLeaves =>
    intro s n hr hp
    refine ⟨(s.setVfs false n), congrArg Host.Outcome.next (if_neg (by rw [hr, hp]; decide)), rfl, fun c hc hin => ?_⟩
    have hgone : c ∈ (s.linkResetOf ((List.range 63).map (· + 1))).inflight := by
      unfold State.setVfs at hc
      simpa only [Bool.false_eq_true, if_false] using hc
    refine linkResetOf_inflight s _ hgone ?_
    simp only [List.mem_map, List.mem_range]
    exact ⟨c.key.part - 1, by omega, by omega⟩
  case d3hot => exact fun s b hr hp => congrArg Host.Outcome.next (if_neg (by rw [hr, hp]; decide))
  case serdes => exact fun s h => congrArg Host.Outcome.next (if_neg (by rw [h]; decide))
  case serdesDown =>
    intro s h
    refine ⟨_, congrArg Host.Outcome.next (if_neg (by rw [h]; decide)), ?_⟩
    have hdown := kept_supply (kept_lanesDown { s with supply := { s.supply with serdesLow := true } })
    refine ⟨?_, dataLinkDown_linkUp _ (.inl ?_)⟩
    · rw [dataLinkDown_supply, hdown]
    · rw [hdown]
  case serdesBack =>
    intro s
    show execSerdesSupplyReturn s = _
    unfold execSerdesSupplyReturn State.linkBack State.linkCan
    simp only [Bool.not_false, Bool.and_true]
    rfl
  case pcieLoss => exact fun s h => exec_pcieLoss h
  case pcieDown =>
    intro s h
    refine ⟨_, exec_pcieLoss h, ?_⟩
    rw [dataLinkDown_supply, setFld_supply]
    exact ⟨rfl, dataLinkDown_linkUp _ (.inr (by rw [setFld_supply]))⟩
  case laneLoss => exact fun s h => exec_laneLoss h
  case xtalLoss => exact fun s h => congrArg Host.Outcome.next (if_neg (by rw [Supply.lost, h]; decide))
  case refLoss => exact fun s h => congrArg Host.Outcome.next (if_neg (by rw [Supply.lost, h]; decide))
  case refBack =>
    intro s u r h hu
    subst hu
    refine congrArg Host.Outcome.next ((if_neg (by rw [h]; decide)).trans ?_)
    cases r <;> rfl

end Sys2Proof.Machine
end

section
/-! PROOF. Page-header rows and clearing writes (04_host_link_and_partitions.md R124-R133; 06_access_front_end.md R244). -/

namespace Sys2Proof.Machine

theorem addrPart_winBase (p : Nat) : addrPart (winBase p) = some p := by
  have hlow : ¬ winBase p < 0x1000000 := by unfold winBase; omega
  rw [addrPart, if_neg hlow, winBase, Nat.mul_div_cancel_left _ (by decide), Nat.add_sub_cancel]

theorem addrOff_winBase (p : Nat) : addrOff (winBase p) = 0 := Nat.mul_mod_right _ _

theorem addrPart_device {a : Nat} (h : a < 0x1000000) : addrPart a = none := if_pos h

theorem addrPart_window {a : Nat} (h : 0x1000000 ≤ a) : addrPart a = some (a / 0x1000000 - 1) := if_neg (Nat.not_lt.mpr h)

theorem bitsOf_zero_zero (n : Nat) : bitsOf n 0 0 = n % 2 := by simp [bitsOf]

theorem bitsOf_one_one (n : Nat) : bitsOf n 1 1 = n / 2 % 2 := by simp [bitsOf]

/-- Settles O9: each row's guard is its page's and its bit's; the page decides the rest by where it lies. -/
theorem pageRows : Obligations.PageRows := by
  unfold Obligations.PageRows
  refine ⟨?resetPart, ?resetDevice, ?resetOther, ?quiesce, ?enable, ?enablePart, ?lock, ?clear, ?force, ?capture, ?closed, ?peak,
    ?lat, ?hammers, ?weirs⟩
  case resetPart =>
    intro s src p data ho hb
    refine congrArg Host.Outcome.next ((if_neg (by rw [ho, hb]; decide)).trans ?_)
    simp only [addrPart_winBase, addrOff_winBase, if_true]
  case resetDevice =>
    intro s src pg data ho hb hpg
    refine congrArg Host.Outcome.next ((if_neg (by rw [ho, hb]; decide)).trans ?_)
    simp only [addrPart_device hpg]
  case resetOther =>
    intro s src pg data ho hb hpg hne
    refine congrArg Host.Outcome.next ((if_neg (by rw [ho, hb]; decide)).trans ?_)
    simp only [addrPart_window hpg]
    exact if_neg hne
  case quiesce =>
    intro s src pg data ho
    refine congrArg Host.Outcome.next ((if_pos ho).trans ?_)
    rw [bitsOf_one_one]
  case enable =>
    intro s src pg data ho hpg
    refine congrArg Host.Outcome.next ((if_neg (by rw [ho]; decide)).trans ?_)
    rw [bitsOf_zero_zero]
    rcases Nat.lt_or_ge pg 0x1000000 with h | h
    · simp only [addrPart_device h]
    · simp only [addrPart_window h]
      refine if_neg ?_
      rcases hpg h with hoff | heven
      · simp [addrOff, hoff]
      · simp [heven]
  case enablePart =>
    intro s src p data ho hb
    refine congrArg Host.Outcome.next ((if_neg (by rw [ho]; decide)).trans ?_)
    simp only [bitsOf_zero_zero, hb, addrPart_winBase, addrOff_winBase, decide_true, Bool.and_self, if_true]
  case lock =>
    intro s src pg data ho hb hl ht
    refine congrArg Host.Outcome.next ((if_neg (by rw [ho, hb, hl]; decide)).trans ((if_neg ?_).trans rfl))
    simp only [Bool.and_eq_true, decide_eq_true_eq, not_and, Bool.not_eq_true]
    exact ht
  case clear =>
    intro s t src pg data ho ht
    subst ht
    refine congrArg Host.Outcome.next ((if_neg (by rw [ho]; decide)).trans ?_)
    simp only [beq_iff_eq, Bool.or_eq_true, decide_eq_true_eq]
  case force => exact fun s src pg data ho => congrArg Host.Outcome.next (if_pos ho)
  case capture => exact fun s src pg data ho hb => congrArg Host.Outcome.next (if_pos (by rw [ho, hb]; decide))
  case closed =>
    intro s src pg data ho
    exact ⟨congrArg Host.Outcome.next (if_pos (by rw [ho]; rfl)), congrArg Host.Outcome.next (if_neg (by rw [ho]; decide)),
      congrArg Host.Outcome.next (if_pos (by rw [ho]; rfl)), congrArg Host.Outcome.next (if_pos (by rw [ho]; rfl)),
      congrArg Host.Outcome.next (if_pos (by rw [ho]; rfl)), congrArg Host.Outcome.next (if_neg (by rw [ho]; decide)),
      congrArg Host.Outcome.next (if_neg (by rw [ho]; simp))⟩
  case peak => exact fun s src data ho hb => congrArg Host.Outcome.next (if_pos (by rw [pgPw, ho, hb]; decide))
  case lat => exact fun s src data ho hb => congrArg Host.Outcome.next (if_pos (by rw [ho, hb]; decide))
  case hammers => exact fun s src data ho hb => congrArg Host.Outcome.next (if_pos (by rw [ho, hb]; decide))
  case weirs => exact fun s src data ho hb => congrArg Host.Outcome.next (if_pos (by rw [ho, hb]; decide))

end Sys2Proof.Machine
end

section
/-! PROOF. Applet and access commands (11_kalmel_engines.md R441-R445; 08_access_protocol_and_release.md R305-R309, R316, R317). -/

namespace Sys2Proof.Machine

section
variable {s : State} {k : CmdKey} {c : Inflight} {i : OpInfo} {lifeOk : Bool}

theorem turn_of_passes (h : s.passes k c i lifeOk = true) : s.turn? k c = true := by
  simp only [State.passes, Bool.and_eq_true] at h
  exact h.1.1.1.1.1.1.1

theorem cmd_of_passes (h : s.passes k c i lifeOk = true) : s.cmd? k = some c := (turn_cases (turn_of_passes h)).1

end

variable {s : State} {k : CmdKey} {c : Inflight}

/-! ### Applets -/

theorem imageType_applet {n : Nat} (h : n < 32) : imageType n = some 3 := if_pos h

/-- APPLET_LOAD of an applet, which no staged image is. -/
theorem exec_appletLoad_applet (hn : c.p16 0 < 32) (h : s.passes k c (appletLoadInfo false) s.lifeKeys = true) :
    exec (.appletLoad k) s = .next (s.runCmd (appletLoadInfo false) s.lifeKeys appletLoadWork k) := by
  have hcmd := cmd_of_passes h
  have hlow : ¬ (0xFFF0 ≤ c.p16 0 ∧ c.p16 0 ≤ 0xFFF2) := by omega
  show execAppletLoad k s = _
  simp only [execAppletLoad, hcmd, hlow, Nat.not_le.mpr hn, decide_false, Bool.or_false]

/-- APPLET_LOAD of a staged image, which every life-cycle state takes. -/
theorem exec_appletLoad_staged {n : Nat} (hn : n < 3) (hp : c.p16 0 = 0xFFF0 + n) (h : s.passes k c (appletLoadInfo true) true = true) :
    exec (.appletLoad k) s = .next (s.runCmd (appletLoadInfo true) true appletLoadWork k) := by
  have hcmd := cmd_of_passes h
  have hstaged : 0xFFF0 ≤ c.p16 0 ∧ c.p16 0 ≤ 0xFFF2 := by omega
  have hhigh : 32 ≤ c.p16 0 := by omega
  show execAppletLoad k s = _
  simp only [execAppletLoad, hcmd, hstaged, hhigh, and_self, decide_true, Bool.or_true]

theorem appletLoadWork_unsigned (h : s.imageSigned ((imageType (c.p16 0)).getD 0) c.input = false) :
    appletLoadWork s c = .finish s (.fail .authFail) := by
  simp only [appletLoadWork, h, Bool.not_false, if_true]

theorem appletLoadWork_new (hn : c.p16 0 < 32) (h : s.imageSigned 3 c.input = true) (ha : s.applet? (c.p16 0) = none) :
    appletLoadWork s c = .commit (s.setApplets (mapPut s.kalmel.applets (c.p16 0)
      { owner := c.key.part, image := readImage c.input, state := List.replicate 4096 0 })) .done := by
  simp only [appletLoadWork, imageType_applet hn, Option.getD_some, h, Bool.not_true, Bool.false_eq_true, Nat.not_le.mpr hn, if_false, ha]

theorem appletLoadWork_replace {a : Applet} (hn : c.p16 0 < 32) (h : s.imageSigned 3 c.input = true)
    (ha : s.applet? (c.p16 0) = some a) :
    appletLoadWork s c = if a.owner ≠ c.key.part ∨ (readImage c.input).svn < a.image.svn then .finish s (.fail .notPermitted)
      else .commit (s.setApplets (mapPut s.kalmel.applets (c.p16 0) { a with image := readImage c.input })) .done := by
  simp only [appletLoadWork, imageType_applet hn, Option.getD_some, h, Bool.not_true, Bool.false_eq_true, Nat.not_le.mpr hn, if_false,
    ha, Bool.or_eq_true, decide_eq_true_eq]

theorem appletLoadWork_staged {n : Nat} (hp : c.p16 0 = 0xFFF0 + n) (h : s.imageSigned ((imageType (c.p16 0)).getD 0) c.input = true) :
    appletLoadWork s c = .commit { s with kalmel := { s.kalmel with staged := mapPut s.kalmel.staged n c.input } } .done := by
  have hhigh : 32 ≤ c.p16 0 := by omega
  have hidx : c.p16 0 - 0xFFF0 = n := by omega
  simp only [appletLoadWork, h, Bool.not_true, Bool.false_eq_true, if_false, hhigh, if_true, hidx]

theorem appletUnloadWork_own {a : Applet} (ha : s.applet? (c.p16 0) = some a) (ho : a.owner = c.key.part)
    (hb : s.appletBusy (c.p16 0) c = false) :
    appletUnloadWork s c = .commit (s.setApplets (mapDel s.kalmel.applets (c.p16 0))) .done := by
  simp only [appletUnloadWork, ha, ho, hb, ne_eq, not_true_eq_false, if_false, Bool.false_eq_true]

theorem invokeWork_starts {e : EngRef} {base : Nat} {a : Applet} {i : Image} (hnone : s.invocation c.key = none)
    (ha : s.applet? (c.p16 0) = some a) (hi : c.image = some i) (hentry : c.p16 2 < i.entries.length)
    (howner : a.owner = c.key.part ∨ i.share = true) (hlost : s.appletLost (c.p16 0) = false ∨ s.holdsApplet e (c.p16 0) i = true)
    (hplace : s.placeOk e (c.p16 0) i (if i.state then s.fld Fd.HW_ROLE_LEAD else s.cmdHome c) = true)
    (hwin : s.windowFree e.half base i.poolBytes = true) (hcopy : i.state = true → s.slotFree (s.copySlot e) = true) :
    invokeWork e base s c = .more (s.startTask e (invokeStart i (c.p16 0) c base) (some i)) := by
  have hmine : (decide (a.owner ≠ c.key.part) && !i.share) = false := by
    rcases howner with h | h <;> simp [h]
  have hroom : (s.placeOk e (c.p16 0) i (if i.state then s.fld Fd.HW_ROLE_LEAD else s.cmdHome c) &&
      s.windowFree e.half base i.poolBytes && (!i.state || s.slotFree (s.copySlot e))) = true := by
    rw [hplace, hwin]
    cases hs : i.state with
    | false => rfl
    | true => rw [hcopy hs]; rfl
  have hthere : (s.appletLost (c.p16 0) && !s.holdsApplet e (c.p16 0) i) = false := by
    rcases hlost with h | h <;> simp [h]
  simp only [invokeWork, hnone, ha, hi, Nat.not_le.mpr hentry, if_false, hmine, hroom, hthere, Bool.false_eq_true, if_true]

/-- Settles O22: each command's rules with its applet, owner and image in hand. -/
theorem appletCommands : Obligations.AppletCommands := by
  unfold Obligations.AppletCommands
  refine ⟨?new, ?replace, ?staged, ?unload, ?invoke⟩
  case new =>
    intro s k c hn h hc ha
    rw [exec_appletLoad_applet hn h]
    cases hs : s.imageSigned 3 c.input with
    | false => exact next_finish h (appletLoadWork_unsigned (by rw [imageType_applet hn]; exact hs))
    | true => exact next_commit h hc (appletLoadWork_new hn hs ha)
  case replace =>
    intro s k c a hn h hc ha
    rw [exec_appletLoad_applet hn h]
    cases hs : s.imageSigned 3 c.input with
    | false => exact next_finish h (appletLoadWork_unsigned (by rw [imageType_applet hn]; exact hs))
    | true =>
      rw [if_neg (by decide)]
      split
      · next hbad => exact next_finish h ((appletLoadWork_replace hn hs ha).trans (if_pos hbad))
      · next hgood => exact next_commit h hc ((appletLoadWork_replace hn hs ha).trans (if_neg hgood))
  case staged =>
    intro s k c n hn hp h hc
    rw [exec_appletLoad_staged hn hp h]
    cases hs : s.imageSigned ((imageType (c.p16 0)).getD 0) c.input with
    | false => exact next_finish h (appletLoadWork_unsigned hs)
    | true => exact next_commit h hc (appletLoadWork_staged hp hs)
  case unload =>
    intro s k c a h ha ho hb hc
    exact next_commit h hc (appletUnloadWork_own ha ho hb)
  case invoke =>
    intro s k e base c a i h hnone ha hi hentry howner hlost hplace hwin hcopy
    have hexec : exec (.appletInvoke k e base) s = .next (s.runCmd (invokeInfo i.state) true (invokeWork e base) k) := by
      show execAppletInvoke k e base s = _
      simp only [execAppletInvoke, State.declares, cmd_of_passes h, hi]
    rw [hexec]
    exact next_more h (invokeWork_starts hnone ha hi hentry howner hlost hplace hwin hcopy)

/-! ### Access commands -/

/-- Settles O23: each command's rules with its policy, FOB and keys in hand. -/
theorem accessCommands : Obligations.AccessCommands := by
  unfold Obligations.AccessCommands
  refine ⟨?policy, ?remove, ?release, ?immo, ?pair, ?tries, ?confirmed, ?again⟩
  case policy =>
    intro s k c h hc
    cases hg : s.policyGpios c.input with
    | false => exact next_finish h (by simp only [policySetWork, hg, Bool.not_false, if_true])
    | true => exact next_commit h hc (by simp only [policySetWork, hg, Bool.not_true, Bool.false_eq_true, if_false])
  case remove =>
    intro s k c r h hr hc
    exact next_commit h hc (by simp only [fobRemoveWork, hr, Option.isNone_some, Bool.false_eq_true, if_false])
  case release =>
    intro s k c t h ht
    subst ht
    refine ⟨fun h4 h8 => next_finish h (by simp only [releaseWork, h4, h8, Bool.false_eq_true, if_false, if_true]),
      fun h4 h8 => next_finish h (by simp only [releaseWork, h4, h8, if_true]), fun h4 he hr h8 => ?_, fun h4 hbad => ?_⟩
    · by_cases hl : s.level = 4
      · rw [if_pos hl]
        exact next_finish h (by
          simp only [releaseWork, h4, he, hr, h8, hl, Bool.not_true, Bool.or_self, Bool.false_eq_true, if_false, if_true])
      · rw [if_neg hl]
        exact next_finish h (by simp only [releaseWork, h4, he, hr, h8, hl, Bool.not_true, Bool.or_self, Bool.false_eq_true, if_false])
    · have hnot : (!tgtEnabled (polTarget s.policy (c.p16 0 % 8)) || !tgtHostRelease (polTarget s.policy (c.p16 0 % 8))) = true := by
        rw [← Bool.not_and, hbad]
        rfl
      exact next_finish h (by simp only [releaseWork, h4, hnot, Bool.false_eq_true, if_false, if_true])
  case immo =>
    intro s k c q x h hq hx hd hc
    exact next_commit h hc (by simp only [immoWork, hx, hd, hq, if_true])
  case pair =>
    intro s t k c w h hp hsess hf hslot hw hu
    have hbody : pairWork s c = if Config.primOk .kwCheck [w.aesKey, slice c.input 16 24] then
        .more (t.sendPair {
          key := c.key, fob := c.p8 0, fobId := leAt c.input 0 4, slot := leAt c.input 4 1, rights := leAt c.input 6 2,
          kFob := Config.prim .kwUnwrap [w.aesKey, slice c.input 16 24] 16, nonceV := [], triesLeft := 3, started := false })
        else .finish (t.bump Fd.HM_CNT_AUTHFAIL_COUNT) (.fail .authFail) := by
      simp only [pairWork, hp, pairStart, hf, Option.isSome_none, Bool.false_or, Nat.not_lt.mpr hslot, decide_false, Bool.false_eq_true,
        if_false, hw, hsess, hu, Take.andThen]
      cases Config.primOk .kwCheck [w.aesKey, slice c.input 16 24] <;> rfl
    split
    · next hgood => exact next_more h (hbody.trans (if_pos hgood))
    · next hbad => exact next_finish h (hbody.trans (if_neg hbad))
  case tries => exact fun s p _ => rfl
  case confirmed =>
    intro s k c p h hp hk hst hc
    exact next_commit h hc (by simp only [pairWork, hp, hk, hst, ne_eq, not_true_eq_false, if_false, if_true])
  case again =>
    intro s k c p h hp hk hst hidle
    by_cases h0 : p.triesLeft = 0
    · rw [if_pos h0]
      exact next_finish h (by
        simp only [pairWork, hp, hk, hst, hidle, h0, ne_eq, not_true_eq_false, Bool.not_true, Bool.false_eq_true, if_false, if_true])
    · rw [if_neg h0]
      exact next_more h (by
        simp only [pairWork, hp, hk, hst, hidle, h0, ne_eq, not_true_eq_false, Bool.not_true, Bool.false_eq_true, if_false])

end Sys2Proof.Machine
end

section
/-! PROOF. The flow commands (09_traffic_protection.md R336-R341, R354, R362, R364, R365). -/

namespace Sys2Proof.Machine

variable {s : State} {c : Inflight}

/-- FLOW_CREATE with a fit key and no clash, within its quota. -/
theorem flowCreateWork_placed {q : PartSt} {h : Nat} {f : Flow} (hf : f = Flow.ofDesc c.input c.key.part (c.p8 0))
    (hkey : s.flowKeyBad f = none) (hfree : s.flows.any (fun o => o.2.clashes f) = false) (hq : s.part? c.key.part = some q)
    (hquota : s.flowsOf c.key.part < q.cfg.flowQuota) (hp : s.placeFlow = some h) :
    flowCreateWork s c = if isSpill h then
        .commit ((s.enterSpill (h - 262144) f).checkCkpt h) { status := .spilled, result := leBytes 4 h }
      else .commit (State.checkCkpt { s with flows := mapPut s.flows h f } h) { status := .ok, result := leBytes 4 h } := by
  subst hf
  simp only [flowCreateWork, hkey, hfree, Bool.false_eq_true, if_false, hq, hp, Nat.not_le.mpr hquota]

theorem flowCreateWork_clash {f : Flow} (hf : f = Flow.ofDesc c.input c.key.part (c.p8 0)) (hkey : s.flowKeyBad f = none)
    (hclash : s.flows.any (fun o => o.2.clashes f) = true) :
    flowCreateWork s c = .finish s { status := .badParam, detail := 0x0101 } := by
  subst hf
  simp only [flowCreateWork, hkey, hclash, if_true]

theorem flowCreateWork_full {q : PartSt} {f : Flow} (hf : f = Flow.ofDesc c.input c.key.part (c.p8 0))
    (hkey : s.flowKeyBad f = none) (hfree : s.flows.any (fun o => o.2.clashes f) = false) (hq : s.part? c.key.part = some q)
    (hquota : q.cfg.flowQuota ≤ s.flowsOf c.key.part) : flowCreateWork s c = .finish s (.fail .queueFull) := by
  subst hf
  cases hp : s.placeFlow with
  | none => simp only [flowCreateWork, hkey, hfree, Bool.false_eq_true, if_false, hq, hp]
  | some h => simp only [flowCreateWork, hkey, hfree, Bool.false_eq_true, if_false, hq, hp, hquota, if_true]

theorem flowModifyWork_fits {f n : Flow} {fv : Bool} (hf : s.ownFlow c.key.part (c.p32 0) = some f)
    (hn : n = Flow.ofDesc c.input c.key.part f.ctx.cls) (hfv : fv = bit (leAt c.input 6 1) 0)
    (hok : descOk c.input f.ctx.cls true = true) (hkind : n.ctx.kind = f.ctx.kind) (hcarry : n.ctx.carry = f.ctx.carry)
    (hmatch : n.key = f.key) (hup : fv = true → f.ctx.fv0 ≤ n.ctx.fv0) (hkey : s.flowKeyBad n = none)
    (hfree : s.flows.any (fun o => o.1 != c.p32 0 && o.2.clashes n) = false) (hmid : s.midFrame (c.p32 0) = false) :
    flowModifyWork s c = .commit ((s.writeFlow (c.p32 0) (f.modified n fv)).checkCkpt (c.p32 0)) .done := by
  have hrise : (fv && decide (n.ctx.fv0 < f.ctx.fv0)) = false := by
    rw [Bool.and_eq_false_imp]
    intro h
    exact decide_eq_false (Nat.not_lt.mpr (hup h))
  subst hn hfv
  simp only [flowModifyWork, hf, hok, hkind, hcarry, hmatch, hrise, hkey, hfree, hmid, Bool.not_true, ne_eq, not_true_eq_false,
    decide_false, Bool.or_self, Bool.false_eq_true, if_false]

theorem flowDestroyWork_idle {f : Flow} (hf : s.ownFlow c.key.part (c.p32 0) = some f) (hmid : s.midFrame (c.p32 0) = false) :
    flowDestroyWork s c = .commit (s.destroyFlow (c.p32 0)) .done := by
  simp only [flowDestroyWork, hf, hmid, Bool.false_eq_true, if_false]

theorem flowDestroyWork_mid (hf : (s.ownFlow c.key.part (c.p32 0)).isSome = true) (hmid : s.midFrame (c.p32 0) = true) :
    flowDestroyWork s c = .more s := by
  obtain ⟨f, hf⟩ := Option.isSome_iff_exists.mp hf
  simp only [flowDestroyWork, hf, hmid, if_true]

/-- SAK_INSTALL of a new association number, where the flow has a place without one. -/
theorem sakInstallWork_free {f : Flow} {x : KeySlot} {i : Nat} (hf : s.ownFlow c.key.part (c.p32 0) = some f)
    (hmid : s.midFrame (c.p32 0) = false) (hkind : f.ctx.isSecoc = false) (hpn : f.ctx.xpn = true ∨ c.p64 16 ≤ 0xFFFFFFFF)
    (hslot : c.p32 4 ≠ 0xFFFFFFFF) (hx : s.ownSlot c.key.part (c.p32 4) = some x) (hfits : f.ctx.suiteFits x.ktype = true)
    (hattr : bit x.attr atTraffic = true) (hsame : (List.range 2).find? (fun i => f.ctx.saValid i && f.ctx.an i == c.p8 8 % 4) = none)
    (hfree : (List.range 2).find? (fun i => !f.ctx.saValid i) = some i) :
    sakInstallWork s c = .finish (s.writeFlow (c.p32 0) { f with
      ctx := if bit (c.p8 8) 7 then
          { f.ctx.setSa i (c.p8 8 % 4) (c.p32 4) (c.p64 16) with
            param := clrBit (f.ctx.setSa i (c.p8 8 % 4) (c.p32 4) (c.p64 16)).param 9 + i * 512 }
        else f.ctx.setSa i (c.p8 8 % 4) (c.p32 4) (c.p64 16) }) .done := by
  have hlow : (!f.ctx.xpn && decide (0xFFFFFFFF < c.p64 16)) = false := by
    rcases hpn with h | h
    · rw [h]; rfl
    · rw [decide_eq_false (Nat.not_lt.mpr h), Bool.and_false]
  simp only [sakInstallWork, hf, hmid, hkind, hlow, hslot, hx, hfits, hattr, hsame, hfree, Bool.or_self, Bool.not_true,
    Bool.false_eq_true, if_false, HOrElse.hOrElse, OrElse.orElse, Option.orElse]

theorem flowStatsWork_own {f : Flow} (hf : s.ownFlow c.key.part (c.p32 0) = some f) :
    flowStatsWork s c = .finish (if c.p8 4 = 1 then
        (s.writeFlow (c.p32 0) { f with ctx := { f.ctx with okCnt := 0, failCnt := 0, lastFail := 0 } }).replicate c.key .ok
          (s.flowStats (c.p32 0) f) else s) { status := .ok, out := s.flowStats (c.p32 0) f } := by
  simp only [flowStatsWork, hf]

/-- Settles O25: past its checks each flow command's rules, with the flow, its key and its place in hand. -/
theorem flowCommands : Obligations.FlowCommands := by
  unfold Obligations.FlowCommands
  refine ⟨?create, ?clash, ?full, ?mid, ?modify, ?destroy, ?sak, ?stats⟩
  case create =>
    intro s k c q h f hpass hf hkey hfree hq hquota hp hc
    have hwork := flowCreateWork_placed hf hkey hfree hq hquota hp
    split
    · next hs => exact next_commit hpass hc (hwork.trans (if_pos hs))
    · next hs => exact next_commit hpass hc (hwork.trans (if_neg hs))
  case clash => exact fun s k c f hpass hf hkey hclash => next_finish hpass (flowCreateWork_clash hf hkey hclash)
  case full => exact fun s k c q f hpass hf hkey hfree hq hquota => next_finish hpass (flowCreateWork_full hf hkey hfree hq hquota)
  case mid => exact fun s k c hpass hf hmid => next_more hpass (flowDestroyWork_mid hf hmid)
  case modify =>
    intro s k c f n fv hpass hf hn hfv hok hkind hcarry hmatch hup hkey hfree hmid hc
    exact next_commit hpass hc (flowModifyWork_fits hf hn hfv hok hkind hcarry hmatch hup hkey hfree hmid)
  case destroy => exact fun s k c f hpass hf hmid hc => next_commit hpass hc (flowDestroyWork_idle hf hmid)
  case sak =>
    intro s k c f x i hpass hf hmid hkind hpn hslot hx hfits hattr hsame hfree
    exact next_finish hpass (sakInstallWork_free hf hmid hkind hpn hslot hx hfits hattr hsame hfree)
  case stats => exact fun s k c f hpass hf => next_finish hpass (flowStatsWork_own hf)

end Sys2Proof.Machine
end

section
/-! PROOF. Life-cycle advance, debug challenge and grant (20_life_cycle_and_debug.md R687-R701). -/

namespace Sys2Proof.Machine

variable {s : State} {k : CmdKey} {c : Inflight}

/-- LIFECYCLE_ADVANCE alone in the device, with nothing that holds it back. -/
theorem exec_lifecycleAdvance (hcmd : s.cmd? k = some c) (hop : c.opcode = 0x0901) (halone : s.inflight.length ≤ 1)
    (hlost : s.halves.lost = false) (hgate : s.gatesOpen = true)
    (hreset : (s.part? k.part).any (fun q => q.inReset.isSome) = false) (rb whole : Bool) :
    exec (.lifecycleAdvance k rb whole) s = .next (s.runAdvance c rb whole) := by
  show execLifecycleAdvance k rb whole s = _
  simp only [execLifecycleAdvance, hcmd, hop, hlost, hgate, hreset, Nat.not_lt.mpr halone, ne_eq, not_true_eq_false, decide_false,
    Bool.not_true, Bool.or_self, Bool.false_eq_true, if_false]

theorem runAdvance_refused {st : Status} (hp : s.lc.progress = none) (h : s.advanceRefused c = some st) (rb whole : Bool) :
    s.runAdvance c rb whole = s.finish c false (.fail st) := by
  simp only [State.runAdvance, hp, h]

/-- A transition to FIELD commits, and does its work where power lasts. -/
theorem advance'_field (hdest : c.p8 0 = 4) (rb whole : Bool) :
    s.advance' c rb whole = if whole then ((((s.dropWait c.key).lifeCommit c 4).lifeWork 4).lifeEnd c)
      else (s.dropWait c.key).lifeCommit c 4 := by
  have h6 : ¬ (4 = 6) := by decide
  have h7 : ¬ (4 = 7) := by decide
  have h2 : ¬ (4 = 2) := by decide
  unfold State.advance'
  simp only [hdest, if_neg h6, if_neg h7, h2, decide_false, Bool.false_and, Bool.false_eq_true, if_false]

theorem lifeInputOk_field (hdest : c.p8 0 = 4) (hhash : allZero (c.input.take 48) = false) : s.lifeInputOk (c.p8 0) c.input = none := by
  rw [hdest, State.lifeInputOk, hhash]
  rfl

/-- A transition that needs no draw, with an input that is right. -/
theorem runAdvance_passed (hp : s.lc.progress = none) (h : s.advanceRefused c = none) (hin : s.lifeInputOk (c.p8 0) c.input = none)
    (hdest : c.p8 0 ≠ 2) (hc : s.canCommit = true) (rb whole : Bool) : s.runAdvance c rb whole = s.advance' c rb whole := by
  have hdraw : ¬ ((decide (c.p8 0 = 2) && s.freshWaits) = true) := by simp [hdest]
  unfold State.runAdvance
  rw [hp]
  simp only [h, hin]
  rw [if_neg hdraw, if_pos hc]

theorem grantWork_allowed (hlife : 2 < s.life) (hnone : s.keys.grant = none) (hret : bit (grantScope c.input) 15 = false)
    (hscope : maskDiff (grantScope c.input) (scopesOf s.life) = 0) :
    grantWork s c = if s.grantBound c.input && s.grantSigned c.input then .finish (s.useChallenge.acceptGrant c.input) .done
      else .finish ((s.useChallenge.bump Fd.DBG_CNT_REFUSED).raise pgLc 4) (.fail .authFail) := by
  have hstate : ¬ ((decide (s.life ≤ 2) || s.keys.grant.isSome || bit (grantScope c.input) 15) = true) := by
    simp [hnone, hret, hlife]
  unfold grantWork
  rw [if_neg hstate, if_neg (not_not_intro hscope)]
  unfold State.grantRefused
  cases s.grantBound c.input with
  | false => rw [if_pos (by rfl), Bool.false_and, if_neg (by decide)]
  | true =>
    rw [if_neg (by decide), Bool.true_and]
    cases s.grantSigned c.input with
    | false => rw [if_pos (by rfl), if_neg (by decide)]
    | true => rw [if_neg (by decide), if_pos (by rfl)]

/-- Settles O26: the transition's checks, the challenge and the grant, each by what its hypotheses leave open. -/
theorem lifeAndDebugCommands : Obligations.LifeAndDebugCommands := by
  unfold Obligations.LifeAndDebugCommands
  refine ⟨?advance, ?challenge, ?grant, ?lapse⟩
  case advance =>
    intro s k c rb whole st hcmd hop halone hlost hgate hreset hp
    rw [exec_lifecycleAdvance hcmd hop halone hlost hgate hreset]
    exact ⟨fun h => congrArg Host.Outcome.next (runAdvance_refused hp h rb whole),
      fun h hdest hhash hc => congrArg Host.Outcome.next ((runAdvance_passed hp h (lifeInputOk_field hdest hhash)
        (by rw [hdest]; decide) hc rb whole).trans (advance'_field hdest rb whole))⟩
  case challenge => exact fun s k c h => next_finish h rfl
  case grant =>
    intro s k c h hlife hnone hret hscope
    have hwork := grantWork_allowed hlife hnone hret hscope
    split
    · next hgood => exact next_finish h (hwork.trans (if_pos hgood))
    · next hbad => exact next_finish h (hwork.trans (if_neg hbad))
  case lapse =>
    intro s n t e h
    show execChallengeLapse s = _
    simp only [execChallengeLapse, h]

end Sys2Proof.Machine
end

section
/-! PROOF. Store, card and half-test commands (16_ee_store.md R562-R568, R571, R578; 17_halves_and_consistency.md R624;
21_card_port_and_can.md R712-R715). -/

namespace Sys2Proof.Machine

section
variable {s : State} {k : CmdKey} {c : Inflight} {i : OpInfo} {lifeOk : Bool}

theorem params_of_passes (h : s.passes k c i lifeOk = true) : i.params c = true := by
  simp only [State.passes, Bool.and_eq_true] at h
  exact h.1.1.2

end

variable {s t : State} {c : Inflight}

/-! ### The store -/

theorem storeReadWork_ok {a : Nat} (hok : s.storeCheck c (·.rdPw) = .ok t) (ha : a = (s.region c.regionNo).addr (c.p32 4))
    (hcard : s.cardHolds (pagesOf a c.outLen) = false) (hlost : (pagesOf a c.outLen).any (fun p => !(s.lostWords p).isEmpty) = false) :
    storeReadWork s c = .finish t { status := .ok, out := s.eeBytes a c.outLen } := by
  subst ha
  simp only [storeReadWork, hok, hcard, hlost, Bool.false_eq_true, if_false]

theorem storeWriteWork_bytes {a : Nat} (hok : s.storeCheck c (·.wrPw) = .ok t) (hctl : c.ctl = false)
    (ha : a = (s.region c.regionNo).addr (c.p32 4)) (hcard : s.cardHolds (pagesOf a c.inLen) = false)
    (hread : s.readHolds (pagesOf a c.inLen) = false) : storeWriteWork s c = .commit (t.storeBytes a c.input) .done := by
  subst ha
  simp only [storeWriteWork, hok, hctl, hcard, hread, Bool.false_eq_true, if_false]

theorem storeWriteWork_ctl (hok : s.storeCheck c (·.wrPw) = .ok t) (hctl : c.ctl = true) :
    storeWriteWork s c = .commit (t.setRegion c.regionNo { s.region c.regionNo with
      rdPw := pwKept c.regionNo (c.input.take 16), wrPw := pwKept c.regionNo (c.input.drop 16), misses := 0, refuseUntil := 0 })
      .done := by
  simp only [storeWriteWork, hok, hctl, if_true]

theorem storeSanitizeWork_ok {ps : List Nat} (hok : s.storeCheck c (·.wrPw) = .ok t)
    (hps : ps = pagesOf ((s.region c.regionNo).addr (c.p32 4)) (c.p32 8)) (hcard : s.cardHolds ps = false)
    (hread : s.readHolds ps = false) : storeSanitizeWork s c =
    .commit (t.markPages ps) { status := .ok, result := leBytes 4 (ps.filter (fun p => !s.marked p)).length } := by
  subst hps
  simp only [storeSanitizeWork, hok, hcard, hread, Bool.false_eq_true, if_false]

/-- A credential that does not match is counted. -/
theorem storeCheck_mismatch {r : Region} {pw : Region → Bytes} (hctl : c.ctl = false) (hr : r = s.region c.regionNo) (hen : r.en = true)
    (ho : r.owner = c.key.part ∨ r.shared = true) (htime : s.deviceTime ≥ r.refuseUntil) (hbad : credOk c.regionNo (pw r) c.cred = false) :
    s.storeCheck c pw = .refused (((s.setRegion c.regionNo { r with
      misses := r.misses + 1, refuseUntil := refusalEnd s.deviceTime (r.misses + 1) }).bump Fd.EE_CREDFAIL_COUNT).raise 0x0C0000 4)
      { status := .notPermitted, detail := 0x0C01 } := by
  have hmine : (!r.en || !(r.owner == c.key.part || r.shared)) = false := by
    rcases ho with h | h <;> simp [hen, h]
  subst hr
  simp only [State.storeCheck, hmine, hctl, Nat.not_lt.mpr htime, hbad, Bool.false_and, Bool.false_eq_true, if_false]

/-! ### The card -/

theorem cardOff_card (s : State) (n : Nat) : (s.cardOff n).card = s.card := by
  rw [State.cardOff, setFld_card, setFld_card, setFld_card, setFld_card, setFld_card]

theorem cardActivate_txn (s : State) (b n : Bool) : (s.cardActivate b n).card.txn = s.card.txn := by
  rw [State.cardActivate, setFld_card, setFld_card, cardOff_card]
  rfl

theorem cardSettle_txn (s : State) : s.cardSettle.card.txn = s.card.txn := by
  unfold State.cardSettle
  dsimp only
  split_ifs
  · rfl
  · rw [cardActivate_txn]
    rfl
  · rw [setFld_card]
    rfl
  · rfl
  · rw [setFld_card]
    rfl
  · rfl
  · rw [cardOff_card]

theorem cardFree_txn (s : State) (k : CmdKey) : (s.cardFree k).card.txn = s.card.txn := by
  unfold State.cardFree
  dsimp only
  split
  · rw [cardSettle_txn]
    rfl
  · rfl

theorem cardWork_absent (hbusy : s.card.busy = none) (h : s.fld Fd.CD_STAT_PRESENT = 0 ∨ s.fld Fd.CD_STAT_STATE = 4) :
    cardWork s c = .finish (s.cardFree c.key) { status := .badParam, detail := 0x1001 } := by
  have hgone : (decide (s.fld Fd.CD_STAT_PRESENT = 0) || decide (s.fld Fd.CD_STAT_STATE = 4)) = true := by
    rcases h with h | h <;> simp [h]
  unfold cardWork
  rw [hbusy, if_neg (by simp), if_pos hgone]

theorem cardWork_ready (hbusy : s.card.busy = none) (hthere : s.fld Fd.CD_STAT_PRESENT = 1) (hstate : s.fld Fd.CD_STAT_STATE = 3)
    (hgate : s.card.gated = false) (hpage : s.pageAdmits pgCard = true) (hstore : c.cardStore = false)
    (hbegin : c.cardBegin = true → s.card.txn = none) : cardWork s c = .more (s.cardSend c) := by
  have hgone : ¬ ((decide (s.fld Fd.CD_STAT_PRESENT = 0) || decide (s.fld Fd.CD_STAT_STATE = 4)) = true) := by simp [hthere, hstate]
  have howner : ¬ ((c.cardBegin && s.cardOwner c.key.part) = true) := by
    cases hb : c.cardBegin with
    | false => simp
    | true => simp [State.cardOwner, hbegin hb]
  have hopen : ¬ ((c.cardBegin && s.card.txn.isSome) = true) := by
    cases hb : c.cardBegin with
    | false => simp
    | true => simp [hbegin hb]
  have hmay : ¬ ((s.card.busy.isSome || !s.pageAdmits pgCard) = true) := by simp [hbusy, hpage]
  have hready : ¬ ((!s.cardReady) = true) := by simp [State.cardReady, hstate, hgate]
  unfold cardWork State.cardGo
  rw [if_neg (by simp [hbusy]), if_neg hgone, if_neg howner, if_neg hopen, if_neg (by simp [hstore]), if_neg hmay, if_neg hready]

theorem cardWork_answered {r : Bytes} (hbusy : s.card.busy = some c.key) (hresp : s.card.resp = some r) (htxn : s.card.txn = none) :
    cardWork s c = .finish (s.cardFree c.key) { status := .ok, out := r } := by
  unfold cardWork cardFinish
  rw [if_pos hbusy, hresp]
  simp only [cardFree_txn, htxn]

/-- Settles O27: the store's checks and effects, the card's exchange, and the half test, each as its hypotheses fix it. -/
theorem storeAndCardCommands : Obligations.StoreAndCardCommands := by
  unfold Obligations.StoreAndCardCommands
  refine ⟨?read, ?write, ?control, ?sanitize, ?credential, ?absent, ?ready, ?answered, ?half⟩
  case read => exact fun s t k c a h hok ha hcard hlost => next_finish h (storeReadWork_ok hok ha hcard hlost)
  case write => exact fun s t k c a h hok hctl ha hcard hread hc => next_commit h hc (storeWriteWork_bytes hok hctl ha hcard hread)
  case control => exact fun s t k c h hok hctl hc => next_commit h hc (storeWriteWork_ctl hok hctl)
  case sanitize => exact fun s t k c ps h hok hps hcard hread hc => next_commit h hc (storeSanitizeWork_ok hok hps hcard hread)
  case credential =>
    intro s k c r h hr hen ho htime
    have hctl : c.ctl = false := by
      have hpar := params_of_passes h
      simp only [State.storeReadInfo, Bool.and_eq_true, Bool.not_eq_true'] at hpar
      exact hpar.1.1
    split
    · exact next_runCmd h rfl
    · next hbad =>
      refine next_finish h ?_
      simp only [storeReadWork, storeCheck_mismatch (pw := (·.rdPw)) hctl hr hen ho htime (Bool.eq_false_iff.mpr hbad)]
  case absent => exact fun s k c h hbusy hgone => next_finish h (cardWork_absent hbusy hgone)
  case ready =>
    exact fun s k c h hbusy hthere hstate hgate hpage hstore hbegin =>
      next_more h (cardWork_ready hbusy hthere hstate hgate hpage hstore hbegin)
  case answered => exact fun s k c r h hbusy hresp htxn => next_finish h (cardWork_answered hbusy hresp htxn)
  case half =>
    intro s k c f hf fails h hh hfails
    subst hh hfails
    by_cases hup : s.halfUp (if c.p8 0 = 0 then .north else .south) = true
    · rw [if_pos hup]
      exact next_finish h (by simp only [halfTestWork, hup, Bool.not_true, Bool.false_eq_true, if_false])
    · rw [if_neg hup]
      exact next_finish h (by simp only [halfTestWork, Bool.eq_false_iff.mpr hup, Bool.not_false, if_true])

end Sys2Proof.Machine
end

section
/-! PROOF. Lane reception, PAUSE, link changes and transmission (09_traffic_protection.md R326-R334). -/

namespace Sys2Proof.Machine

variable {s : State} {n : Nat}

theorem exec_frameReceive {sh : Bool} (h : (s.lane n).arriving = some sh) (data : Bytes) (cut : Bool) :
    exec (.frameReceive n data cut) s = .next (State.settleLanes <|
      let t := s.setLane n { s.lane n with arriving := none }
      if cut || data.length < 64 || maxFrame < data.length then t.bump (Fd.LANE_CNTA_LEN_ERR n)
      else if fcs (data.take (data.length - 4)) ≠ data.drop (data.length - 4) then t.bump (Fd.LANE_CNTA_FCS_ERR n)
      else
        let p := t.classify n (data.take (data.length - 4))
        let unknown := p.msgs.all (fun m => m.flow.isNone)
        let u := if unknown then t.bump (Fd.LANE_CNTB_UNCLASSIFIED n) else t
        if unknown && u.fld (Fd.LANE_CFG_UNKNOWN n) == 1 then u else u.addFrame n sh data unknown p) := by
  show execFrameReceive n data cut s = _
  unfold execFrameReceive
  rw [h]

/-- FRAME_TRANSMIT of a finished frame whose order has come. -/
theorem exec_frameTransmit {id : Nat} {f : Frame} (hf : s.frame? id = some f) (hdone : f.msgs.all (·.done) = true)
    (horder : s.inOrder f = true) (hgate : s.gatesOpen = true) : exec (.frameTransmit id) s = .next (
      if s.fld (Fd.LANE_STAT_PAUSED (s.outLane f)) = 1 then s
      else if !f.unknown && decide (f.epoch ≠ s.halves.epoch) then s.remakeFrame f
      else
        let b := if f.build.length < 60 then padTo 60 f.build else f.build
        (if s.laneUp (s.outLane f) then (s.emit (.laneTx (s.outLane f) (b ++ fcs b))).noteLatency f else s).endFrame f) := by
  show execFrameTransmit id s = _
  unfold execFrameTransmit
  rw [hf]
  simp only [hdone, horder, hgate, Bool.not_true, Bool.or_self, Bool.false_or, decide_eq_true_eq]

/-- Settles O28: each lane row's guards as its hypotheses fix them. -/
theorem lanes : Obligations.Lanes := by
  unfold Obligations.Lanes
  refine ⟨?start, ?receive, ?again, ?pause, ?expiry, ?up, ?down, ?transmit⟩
  case start =>
    intro s n hup hidle hgate hpage
    have hopen : ¬ ((!s.laneUp n || (s.lane n).arriving.isSome || bit s.gated (n / 4) || !s.pageAdmits 0x030000) = true) := by
      rw [hup, hidle, hgate, hpage]
      decide
    show execFrameStart n s = _
    unfold execFrameStart
    cases hr : s.eddyExit.roomFor n with
    | some sh => simp only [if_neg hopen, hr]
    | none => simp only [if_neg hopen, hr]
  case receive =>
    intro s t n data cut sh harr ht
    subst ht
    rw [exec_frameReceive harr]
    refine ⟨fun hbad => ?_, fun hcut hmin hmax => ?_⟩
    · have hlen : (cut || decide (data.length < 64) || decide (maxFrame < data.length)) = true := by
        rcases hbad with h | h | h
        · simp [h]
        · simp [h]
        · simp [maxFrame, h]
      exact congrArg (fun x => Host.Outcome.next (State.settleLanes x)) (if_pos hlen)
    · have hlen : ¬ ((cut || decide (data.length < 64) || decide (maxFrame < data.length)) = true) := by
        simp only [hcut, Nat.not_lt.mpr hmin, maxFrame, Nat.not_lt.mpr hmax, decide_false, Bool.or_self, Bool.false_eq_true,
          not_false_eq_true]
      refine congrArg (fun x => Host.Outcome.next (State.settleLanes x)) ((if_neg hlen).trans ?_)
      refine if_congr Iff.rfl rfl ?_
      cases hu : ((s.setLane n { s.lane n with arriving := none }).classify n (data.take (data.length - 4))).msgs.all
          (fun m => m.flow.isNone) with
      | false => simp only [hu, Bool.false_and, Bool.false_eq_true, if_false]
      | true => simp only [hu, Bool.true_and, if_true, beq_iff_eq]
  case again =>
    intro s n hx hlast hocc
    exact congrArg Host.Outcome.next (if_pos (by simp [hx, hlast, hocc]))
  case pause =>
    intro s n q hup hrx
    exact congrArg Host.Outcome.next (if_neg (by simp [hup, hrx]))
  case expiry =>
    intro s n t hp hle
    show execPauseTimerExpiry n s = _
    unfold execPauseTimerExpiry
    rw [hp]
    exact congrArg Host.Outcome.next (if_pos hle)
  case up =>
    intro s n hfree hdown
    have hlow : ¬ 8 ≤ n := by
      simp only [State.laneFree, Bool.and_eq_true, decide_eq_true_eq] at hfree
      omega
    refine congrArg Host.Outcome.next ((if_neg hlow).trans ?_)
    simp only [hfree, hdown, b2n, Bool.false_and, Bool.not_false, Bool.and_self, Bool.not_true, Nat.reduceBEq, Bool.true_eq_false,
      Bool.false_eq_true, if_false, if_true]
  case down =>
    intro s t n hn hup ht
    subst ht
    refine congrArg Host.Outcome.next ((if_neg (Nat.not_le.mpr hn)).trans ?_)
    simp only [hup, b2n, Bool.false_and, Bool.not_false, Bool.true_and, BEq.rfl, Bool.false_eq_true, if_false]
  case transmit =>
    intro s id f b hf hdone horder hgate hb
    subst hb
    refine ⟨fun hp hcur => ?_, fun hp hknown hold => ?_, fun hp => ?_⟩
    · have hfresh : ¬ ((!f.unknown && decide (f.epoch ≠ s.halves.epoch)) = true) := by
        rcases hcur with h | h <;> simp [h]
      rw [exec_frameTransmit hf hdone horder hgate, if_neg (by omega), if_neg hfresh]
      cases s.laneUp (s.outLane f) with
      | true => rfl
      | false => rfl
    · rw [exec_frameTransmit hf hdone horder hgate, if_neg (by omega), if_pos (by simp [hknown, hold])]
    · rw [exec_frameTransmit hf hdone horder hgate, if_pos hp]

end Sys2Proof.Machine
end

section
/-! PROOF. SECOC_VERIFY and SECOC_SIGN (09_traffic_protection.md R347-R349, R356, R360, R363). -/

namespace Sys2Proof.Machine

variable {s t u : State} {id kind i h cand fv n v : Nat} {f : Frame} {m : Msg} {fl : Flow} {x : KeySlot}

/-! ### How the message whose turn it is ends -/

section
variable {body : State → Nat → Flow → Frame → Msg → MsgEnd} (ht : s.turn id = some (f, i, m, h, fl))
  (hmay : s.mayProcess id kind fl = true) (hspill : fl.spill = none) (hlost : fl.ctx.lost = false)
  (hu : u = (s.laneTake id).touchFlow h)
include ht hmay hspill hlost hu

theorem process_ok {raw : Bytes} (hb : body u h fl f m = .ok t raw fv) : s.process id kind body = t.passMsg f i h fl.ctx m raw fv := by
  rw [process_turn ht hmay hspill hlost, ← hu, hb]

theorem process_fail {r : FlowFail} (hb : body u h fl f m = .fail t r fv) : s.process id kind body = t.failMsg f i h fl.ctx m r fv := by
  rw [process_turn ht hmay hspill hlost, ← hu, hb]

theorem process_wait (hb : body u h fl f m = .wait t cand) : s.process id kind body = (t.stall h).updFrame id (fun g => { g with
    msgs := g.msgs.set i { m with cand := cand, waitSince := m.waitSince <|> some u.deviceTime } }) := by
  rw [process_turn ht hmay hspill hlost, ← hu, hb]

end

theorem withKey_gone {p slot : Nat} {fit : Nat → Bool} {g : State → KeySlot → MsgEnd} (hk : u.trafficKey p slot fit = none) :
    u.withKey p slot fv fit g = .fail u .keyGone fv := by
  simp only [State.withKey, hk]

theorem withKey_taken {p slot : Nat} {fit : Nat → Bool} {g : State → KeySlot → MsgEnd} (hk : u.trafficKey p slot fit = some x)
    (htake : u.takeUse slot false = .ok t) : u.withKey p slot fv fit g = g t x := by
  simp only [State.withKey, hk, htake]

/-! ### SECOC_VERIFY -/

/-- Where the authentic part of a message ends. -/
def Ctx.secocCut (c : Ctx) (m : Msg) : Nat := if c.carry = 2 && c.authLen ≠ 0 then c.authLen else m.body.length - c.trailerLen

/-- The padding bits of a trailer. -/
def Ctx.secocPad (c : Ctx) : Nat := 8 * c.trailerLen - c.fvBits - c.macBits

/-- The trailer of a message as a number. -/
def Ctx.secocRx (c : Ctx) (m : Msg) : Nat := beNat (slice m.body (c.secocCut m) c.trailerLen)

/-- The freshness value that a message's trailer means. -/
def Ctx.secocCand (c : Ctx) (m : Msg) : Nat :=
  candidate c.fvBits c.fv0 (c.secocRx m / 2 ^ c.secocPad / 2 ^ c.macBits)

theorem verifyMsg_first (hw : m.waitSince = none) : verifyMsg u h fl f m =
    if m.body.length < fl.ctx.secocCut m + fl.ctx.trailerLen || fl.ctx.secocRx m % 2 ^ fl.ctx.secocPad ≠ 0 then .fail u .format 0
    else if 2 ^ 64 ≤ fl.ctx.secocCand m then .fail u .freshness 0
    else if fl.ctx.secocCand m ≤ fl.ctx.fv0 || (fl.ctx.acceptWin ≠ 0 && fl.ctx.acceptWin < fl.ctx.secocCand m - fl.ctx.fv0) then
      .fail u .freshness (fl.ctx.secocCand m)
    else u.withKey fl.ctx.part fl.ctx.key0 (fl.ctx.secocCand m) (· == 1) (fun s k =>
      if secocMac fl.ctx k.aesKey (m.body.take (fl.ctx.secocCut m)) (fl.ctx.secocCand m) ≠
          fl.ctx.secocRx m / 2 ^ fl.ctx.secocPad % 2 ^ fl.ctx.macBits then .fail s .macFail (fl.ctx.secocCand m)
      else acceptFresh s h (fl.ctx.secocCand m) m.raw) := by
  simp only [verifyMsg, hw, Option.isSome_none, Bool.false_eq_true, if_false]
  rfl

theorem trailer_fits (hlen : fl.ctx.secocCut m + fl.ctx.trailerLen ≤ m.body.length)
    (hpad : fl.ctx.secocRx m % 2 ^ fl.ctx.secocPad = 0) :
    ¬ ((decide (m.body.length < fl.ctx.secocCut m + fl.ctx.trailerLen) ||
      decide (fl.ctx.secocRx m % 2 ^ fl.ctx.secocPad ≠ 0)) = true) := by
  simp [hpad, hlen]

section
variable (hw : m.waitSince = none)
include hw

theorem verifyMsg_format (hbad : m.body.length < fl.ctx.secocCut m + fl.ctx.trailerLen ∨ fl.ctx.secocRx m % 2 ^ fl.ctx.secocPad ≠ 0) :
    verifyMsg u h fl f m = .fail u .format 0 := by
  rw [verifyMsg_first hw, if_pos (by simpa using hbad)]

variable (hlen : fl.ctx.secocCut m + fl.ctx.trailerLen ≤ m.body.length) (hpad : fl.ctx.secocRx m % 2 ^ fl.ctx.secocPad = 0)
include hlen hpad

theorem verifyMsg_wrapped (hbig : 2 ^ 64 ≤ fl.ctx.secocCand m) : verifyMsg u h fl f m = .fail u .freshness 0 := by
  rw [verifyMsg_first hw, if_neg (trailer_fits hlen hpad), if_pos hbig]

variable (hsmall : fl.ctx.secocCand m < 2 ^ 64)
include hsmall

theorem verifyMsg_stale (hold : fl.ctx.secocCand m ≤ fl.ctx.fv0 ∨
    (fl.ctx.acceptWin ≠ 0 ∧ fl.ctx.acceptWin < fl.ctx.secocCand m - fl.ctx.fv0)) :
    verifyMsg u h fl f m = .fail u .freshness (fl.ctx.secocCand m) := by
  rw [verifyMsg_first hw, if_neg (trailer_fits hlen hpad), if_neg (Nat.not_le.mpr hsmall), if_pos (by simpa using hold)]

variable (hnew : fl.ctx.fv0 < fl.ctx.secocCand m) (hwin : fl.ctx.acceptWin = 0 ∨ fl.ctx.secocCand m - fl.ctx.fv0 ≤ fl.ctx.acceptWin)
include hnew hwin

/-- A fresh value goes to the key. -/
theorem verifyMsg_fresh : verifyMsg u h fl f m =
    u.withKey fl.ctx.part fl.ctx.key0 (fl.ctx.secocCand m) (· == 1) (fun s k =>
      if secocMac fl.ctx k.aesKey (m.body.take (fl.ctx.secocCut m)) (fl.ctx.secocCand m) ≠
          fl.ctx.secocRx m / 2 ^ fl.ctx.secocPad % 2 ^ fl.ctx.macBits then .fail s .macFail (fl.ctx.secocCand m)
      else acceptFresh s h (fl.ctx.secocCand m) m.raw) := by
  have hfresh : ¬ ((decide (fl.ctx.secocCand m ≤ fl.ctx.fv0) ||
      (decide (fl.ctx.acceptWin ≠ 0) && decide (fl.ctx.acceptWin < fl.ctx.secocCand m - fl.ctx.fv0))) = true) := by
    simp only [Bool.or_eq_true, Bool.and_eq_true, decide_eq_true_eq]
    omega
  rw [verifyMsg_first hw, if_neg (trailer_fits hlen hpad), if_neg (Nat.not_le.mpr hsmall), if_neg hfresh]

end

theorem acceptFresh_below {g : Flow} (hg : mapGet t.flows h = some g) (hb : cand < g.ctx.ckpt + 1024) (raw : Bytes) :
    acceptFresh t h cand raw = .ok ((t.updFlow h (fun f => { f with ctx := { f.ctx with fv0 := cand } })).checkCkpt h) raw cand := by
  simp only [acceptFresh, hg, if_neg (Nat.not_le.mpr hb)]

/-! ### SECOC_SIGN -/

/-- A message with a trailer, as its carrier takes it. -/
def secocOut (c : Ctx) (m : Msg) (tr : Bytes) : Bytes :=
  rebuildMsg c.carry m.hdr (if c.carry = 2 then padTo ((canFdLen (m.body ++ tr).length).getD (m.body ++ tr).length) (m.body ++ tr)
    else m.body ++ tr)

/-- A message with its trailer fits its carrier. -/
def secocFits (c : Ctx) (f : Frame) (m : Msg) : Bool :=
  !(c.carry == 2 && (canFdLen (m.body.length + c.trailerLen)).isNone) &&
    decide (f.build.length + 4 + (secocOut c m (List.replicate c.trailerLen 0)).length - m.raw.length ≤ 9216)

theorem signMsg_eq : signMsg u h fl f m = if secocFits fl.ctx f m = false then .fail u .oversize fl.ctx.fv0
    else if 2 ^ 64 - 1 ≤ fl.ctx.fv0 then .fail u .freshness fl.ctx.fv0
    else if fl.ctx.ckpt + 1024 ≤ fl.ctx.fv0 then .wait (u.askCkpt h (ckptBelow fl.ctx.fv0)) fl.ctx.fv0
    else u.withKey fl.ctx.part fl.ctx.key0 fl.ctx.fv0 (· == 1) (fun s k =>
      .ok ((s.updFlow h (fun g => { g with ctx := { g.ctx with fv0 := fl.ctx.fv0 + 1 } })).checkCkpt h)
        (secocOut fl.ctx m (secocTrailer fl.ctx fl.ctx.fv0 (secocMac fl.ctx k.aesKey m.body fl.ctx.fv0))) fl.ctx.fv0) := by
  have hfits : ((decide (fl.ctx.carry = 2) && (canFdLen (m.body.length + fl.ctx.trailerLen)).isNone) ||
      decide (maxFrame < f.build.length + 4 + (secocOut fl.ctx m (List.replicate fl.ctx.trailerLen 0)).length - m.raw.length)) =
      !secocFits fl.ctx f m := by
    rw [secocFits, maxFrame, Bool.not_and, Bool.not_not, ← decide_not, decide_eq_decide.mpr Nat.not_le]
    rfl
  unfold signMsg
  refine if_congr ?_ rfl rfl
  exact (iff_of_eq (congrArg (· = true) hfits)).trans (by rw [Bool.not_eq_true'])

/-- Settles O29: the trailer, the freshness value, the key and the MAC are checked in this order. -/
theorem secureOnboardCommunication : Obligations.SecureOnboardCommunication := by
  unfold Obligations.SecureOnboardCommunication
  refine ⟨?verify, ?sign⟩
  case verify =>
    intro s u id i h n cand v pad cut f m fl ht hmay hspill hlost hw hu hn hcut hpad hv hcand
    subst hn
    obtain rfl : cut = fl.ctx.secocCut m := hcut
    obtain rfl : pad = fl.ctx.secocPad := hpad
    obtain rfl : v = fl.ctx.secocRx m := hv
    obtain rfl : cand = fl.ctx.secocCand m := hcand
    refine ⟨fun hbad => ?_, fun hlen hz hbig => ?_, fun hlen hz hsmall hold => ?_, fun hlen hz hsmall hnew hwin hk => ?_,
      fun t x g hlen hz hsmall hnew hwin hk htake hg hb => ?_⟩
    · exact congrArg Host.Outcome.next (process_fail ht hmay hspill hlost hu (verifyMsg_format hw hbad))
    · exact congrArg Host.Outcome.next (process_fail ht hmay hspill hlost hu (verifyMsg_wrapped hw hlen hz hbig))
    · exact congrArg Host.Outcome.next (process_fail ht hmay hspill hlost hu (verifyMsg_stale hw hlen hz hsmall hold))
    · exact congrArg Host.Outcome.next (process_fail ht hmay hspill hlost hu
        ((verifyMsg_fresh hw hlen hz hsmall hnew hwin).trans (withKey_gone hk)))
    · have hkey := (verifyMsg_fresh (u := u) (h := h) (f := f) hw hlen hz hsmall hnew hwin).trans (withKey_taken hk htake)
      split
      · next hmac => exact congrArg Host.Outcome.next (process_fail ht hmay hspill hlost hu (hkey.trans (if_pos hmac)))
      · next hmac =>
        exact congrArg Host.Outcome.next (process_ok ht hmay hspill hlost hu
          (hkey.trans ((if_neg hmac).trans (acceptFresh_below hg hb m.raw))))
  case sign =>
    intro s u id i h f m fl fits out ht hmay hspill hlost hu hout hfits
    obtain rfl : out = secocOut fl.ctx m := hout
    obtain rfl : fits = secocFits fl.ctx f m := hfits
    refine ⟨fun hno => ?_, fun hfit hend => ?_, fun hfit hlow hk => ?_, fun t x hfit hlow hk hx htake => ?_⟩
    · exact congrArg Host.Outcome.next (process_fail ht hmay hspill hlost hu (signMsg_eq.trans (if_pos hno)))
    all_goals have hfit' : ¬ (secocFits fl.ctx f m = false) := by simp [hfit]
    · exact congrArg Host.Outcome.next (process_fail ht hmay hspill hlost hu (signMsg_eq.trans ((if_neg hfit').trans (if_pos hend))))
    · exact congrArg Host.Outcome.next (process_wait ht hmay hspill hlost hu
        (signMsg_eq.trans ((if_neg hfit').trans ((if_neg (Nat.not_le.mpr hlow)).trans (if_pos hk)))))
    · exact congrArg Host.Outcome.next (process_ok ht hmay hspill hlost hu
        (signMsg_eq.trans ((if_neg hfit').trans ((if_neg (Nat.not_le.mpr hlow)).trans ((if_neg (Nat.not_le.mpr hk)).trans
          (withKey_taken hx htake))))))

end Sys2Proof.Machine
end

section
/-! PROOF. Checkpoints, spill records and write-back (09_traffic_protection.md R356-R359, R370-R374). -/

namespace Sys2Proof.Machine

variable {s : State} {id kind i h : Nat} {f : Frame} {m : Msg} {fl : Flow}

/-! ### The checkpoint a context holds -/

theorem ckpt_setCkpt (c : Ctx) {k : Nat} (hmod : k % 1024 = 0) (hk : k ≤ 2 ^ 64 - 1024) : (c.setCkpt k).ckpt = k := by
  simp only [Ctx.ckpt, Ctx.setCkpt, Nat.reducePow, Nat.reduceSub] at hk ⊢
  omega

theorem commitCkpt_table {f : Flow} {k : Nat} (hf : mapGet s.flows h = some f) (hk : f.ckptTo = some k) (hh : h < 262144) :
    s.commitCkpt h = s.updFlow h (fun f' =>
      { f' with
        ctx := { f.ctx.setCkpt k with stalled := false }, ckptTo := none,
        spill := f'.spill.map (fun i => { i with changed := true }) }) := by
  have htable : isSpill h = false := decide_eq_false (Nat.not_le.mpr hh)
  simp only [State.commitCkpt, hf, hk, htable, Bool.false_and, Bool.false_eq_true, if_false]

theorem flow_updFlow {f : Flow} (hf : mapGet s.flows h = some f) (g : Flow → Flow) :
    mapGet (s.updFlow h g).flows h = some (g f) := by
  simp only [State.updFlow, mapUpd, hf, mapGet_mapPut, if_true]

/-- A change of flow h depends on its value there alone. -/
theorem updFlow_congr {f : Flow} (hf : mapGet s.flows h = some f) {g g' : Flow → Flow} (e : g f = g' f) :
    s.updFlow h g = s.updFlow h g' := by
  simp only [State.updFlow, mapUpd, hf, e]

/-! ### Messages of Spillway flows -/

section
variable {body : State → Nat → Flow → Frame → Msg → MsgEnd} (ht : s.turn id = some (f, i, m, h, fl))
  (hmay : s.mayProcess id kind fl = true)
include ht hmay

theorem process_lost (hlost : fl.ctx.lost = true) :
    s.process id kind body = ((s.laneTake id).touchFlow h).failMsg f i h fl.ctx m .spillLost 0 := by
  simp only [State.mayProcess, Bool.and_eq_true, decide_eq_true_eq, Bool.not_eq_true'] at hmay
  obtain ⟨⟨⟨hkind, hgate⟩, hheld⟩, hlane⟩ := hmay
  have hhit : (match fl.spill with | some x => !x.cached && !fl.ctx.lost | none => false) = false := by
    cases fl.spill with
    | none => rfl
    | some x => simp [hlost]
  simp only [State.process, ht, hkind, hgate, hheld, hlane, ne_eq, not_true_eq_false, decide_false, Bool.not_true, Bool.or_self,
    Bool.false_eq_true, if_false]
  cases hs : fl.spill with
  | none => simp only [hlost, if_true, Bool.false_eq_true, if_false]
  | some x => simp only [hlost, Bool.not_true, Bool.and_false, Bool.false_eq_true, if_false, if_true]

theorem process_uncached {y : SpillInfo} (hlost : fl.ctx.lost = false) (hs : fl.spill = some y) (hc : y.cached = false) :
    s.process id kind body = (s.laneTake id).coldMiss h y := by
  simp only [State.mayProcess, Bool.and_eq_true, decide_eq_true_eq, Bool.not_eq_true'] at hmay
  obtain ⟨⟨⟨hkind, hgate⟩, hheld⟩, hlane⟩ := hmay
  simp only [State.process, ht, hkind, hgate, hheld, hlane, hs, hc, hlost, ne_eq, not_true_eq_false, decide_false, Bool.not_true,
    Bool.or_self, Bool.false_eq_true, if_false, Bool.not_false, Bool.and_self, if_true]

end

/-- Each kind of message is processed by its own command. -/
theorem exec_process {x : Nat × Instr} (hx : x ∈ [(1, Instr.secocVerify id), (2, .secocSign id), (3, .macsecRx id), (4, .macsecTx id)]) :
    ∃ body, exec x.2 s = .next (s.process id x.1 body) := by
  simp only [List.mem_cons, List.not_mem_nil, or_false] at hx
  rcases hx with rfl | rfl | rfl | rfl <;> exact ⟨_, rfl⟩

/-- SPILL_RECORD_READ of a flow that waits for its record. -/
theorem exec_spillRecordRead {f : Flow} {x : SpillInfo} (hf : mapGet s.flows h = some f) (hx : f.spill = some x)
    (hload : x.loading = true) (hmaster : s.canMaster 0 = true) :
    exec (.spillRecordRead h none) s = .next (s.loseFlow h) ∧
    (∀ r, s.openRecord (h - 262144) r = none →
      exec (.spillRecordRead h (some r)) s = .next (((s.bump Fd.SPILL_CNT2_REJECTED).raise 0x021000 1).loseFlow h)) ∧
    (∀ r c d t, s.openRecord (h - 262144) r = some c →
      d = (if f.restart then Ctx.restarted (if c.isSecoc then { c with aux := f.ctx.aux } else c)
        else if c.isSecoc then { c with aux := f.ctx.aux } else c) →
      t = s.updFlow h (fun g => { g with
          ctx := { d with stalled := false }, restart := false,
          spill := some { x with cached := true, loading := false, changed := f.restart } }) →
      exec (.spillRecordRead h (some r)) s = .next (if f.restart && d.isSecoc then t.askCkpt h (d.ckpt + 1024) else t)) := by
  have hwait : ¬ ((!x.loading || !s.canMaster 0) = true) := by rw [hload, hmaster]; decide
  refine ⟨?_, fun r hr => ?_, fun r c d t hr hd ht => ?_⟩
  · show execSpillRecordRead h none s = _
    simp only [execSpillRecordRead, hf, hx, if_neg hwait]
  · show execSpillRecordRead h (some r) s = _
    simp only [execSpillRecordRead, hf, hx, if_neg hwait, hr]
  · show execSpillRecordRead h (some r) s = _
    simp only [execSpillRecordRead, hf, hx, if_neg hwait, hr, ← hd]
    have hsame : ∀ u v : State, u = v → (Host.Outcome.next (if f.restart && d.isSecoc then u.askCkpt h (d.ckpt + 1024) else u) :
        Host.Outcome State Fault Refusal) = .next (if f.restart && d.isSecoc then v.askCkpt h (d.ckpt + 1024) else v) := by
      rintro u _ rfl
      rfl
    exact hsame _ t (Eq.trans (updFlow_congr hf rfl) ht.symm)

/-- Settles O32: the checkpoint's parts rejoin; records, write-backs and Spillway messages go as their flow's entry says. -/
theorem checkpointsAndSpillRecords : Obligations.CheckpointsAndSpillRecords := by
  unfold Obligations.CheckpointsAndSpillRecords
  refine ⟨?commit, ?holds, ?timeout, ?record, ?back, ?messages⟩
  case commit => exact fun s h => rfl
  case holds =>
    intro s h k f _ hf hk hh hmod hmax
    rw [commitCkpt_table hf hk hh]
    exact ⟨_, flow_updFlow hf _, ckpt_setCkpt f.ctx hmod hmax, rfl, rfl, rfl⟩
  case timeout =>
    intro s id i h t f m fl ht hw
    show execCheckpointTimeout id s = _
    simp only [execCheckpointTimeout, ht, hw]
  case record => exact fun s h f x hf hx hload hmaster => exec_spillRecordRead hf hx hload hmaster
  case back =>
    intro s h f x hf hx hc hch hmay
    show execWriteBack h s = _
    simp only [execWriteBack, hf, hx, hc, hch, hmay, Bool.and_self, if_true]
    rfl
  case messages =>
    intro s id i h f m fl x ht hx hmay
    obtain ⟨body, hexec⟩ := exec_process (s := s) hx
    rw [hexec]
    exact ⟨fun hlost => congrArg Host.Outcome.next (process_lost ht hmay hlost),
      fun y hlost hs hc => congrArg Host.Outcome.next (process_uncached ht hmay hlost hs hc)⟩

end Sys2Proof.Machine
end

section
/-! PROOF. Ends of Hammer, digest and Anvil work, and the reseed of a Hammer's defence (10_hammers.md R393-R406;
14_anvils.md R519; 17_halves_and_consistency.md R613). -/

namespace Sys2Proof.Machine

/-- Settles O33: the unit runs the work the hypothesis names, or none, and its check decides. -/
theorem unitRowsEnd : Obligations.UnitRowsEnd := by
  unfold Obligations.UnitRowsEnd
  refine ⟨?hammer, ?digest, ?anvil, ?late, ?reseed⟩
  case hammer =>
    intro s h i r hr
    refine ⟨fun hin => ⟨?_, ?_⟩, ?_⟩
    · show execHammerSegmentEnd h i true s = _
      simp only [execHammerSegmentEnd, hr, hin, Bool.not_true, Bool.false_eq_true, if_false, if_true]
    · show execHammerSegmentEnd h i false s = _
      simp only [execHammerSegmentEnd, hr, hin, Bool.not_true, Bool.false_eq_true, if_false]
    · show execHammerRequestEnd h i s = _
      simp only [execHammerRequestEnd, hr]
  case digest =>
    intro s h r j hr hj
    refine ⟨?_, ?_⟩
    · show execDigestBlockEnd h true s = _
      simp only [execDigestBlockEnd, hr, ← hj, if_true]
    · show execDigestBlockEnd h false s = _
      simp only [execDigestBlockEnd, hr, Bool.false_eq_true, if_false]
  case anvil =>
    intro s h i r hr
    refine ⟨?_, fun vh vi => ?_⟩
    · show execAnvilOpEnd h i none s = _
      simp only [execAnvilOpEnd, hr]
    · show execAnvilOpEnd h i (some (vh, vi)) s = _
      simp only [execAnvilOpEnd, hr]
  case late =>
    intro s h i ok hr
    refine ⟨?_, ?_⟩
    · show execHammerSegmentEnd h i ok s = _
      simp only [execHammerSegmentEnd, hr]
    · show execHammerRequestEnd h i s = _
      simp only [execHammerRequestEnd, hr]
  case reseed =>
    intro s h i hi hblocks hdraw hent
    show execDefenceReseed h i s = _
    simp [execDefenceReseed, hi, hblocks, hdraw, hent]

end Sys2Proof.Machine
end

section
/-! PROOF. Scan rounds, confirmation, repeats and stuck touches (06_access_front_end.md R207, R209-R219). -/

namespace Sys2Proof.Machine

/-- Settles O35: each row's guards hold, so it takes the branch the clause names. -/
theorem handleSensing : Obligations.HandleSensing := by
  unfold Obligations.HandleSensing
  refine ⟨?round, ?measurement, ?confirm, ?remeasure, ?stuck⟩
  case round =>
    intro s hper hstate hpage hdue
    refine ⟨{ s with hs := { s.hs with
        round := (List.range 6).filter (fun n => bit (s.fld Fd.HS_PLAN_SCANNED) n && s.fld (Fd.HS_CFG_EN n) == 1 &&
          (s.hsChan n).confirm.isNone),
        lastRound := s.deviceTime, cfg := s.pageCfg 0x040000, ssc := s.fld Fd.SSC_CTL_HS_SSC } }, ?_, rfl, rfl, rfl, rfl, rfl, ?_, ?_⟩
    · refine congrArg Host.Outcome.next (if_neg ?_)
      have hdue' : crystalDue s.deviceTime s.hs.lastRound (s.fld Fd.HS_PLAN_PERIOD) = true := by
        simpa [crystalDue] using hdue
      simp [hper, hstate, hdue', pgHs, hpage]
    · intro n
      simp [and_assoc]
    · exact List.Pairwise.filter _ List.pairwise_lt_range
  case measurement =>
    rintro s u n count startedAt rest hround rfl
    refine congrArg Host.Outcome.next ((if_neg ?_).trans ?_)
    · simp [hround]
    · rw [hround]; rfl
  case confirm =>
    intro s u v w n count startedAt left stamp hconf hmeas hdue hu hconf' hlap hv hw
    have hdue' : crystalDue startedAt (s.hsChan n).lastAt 16 = true := by
      simpa [crystalDue] using hdue
    have hrun : exec (.hsConfirm n count startedAt) s = .next (u.hsConfirm n count startedAt) := by
      show execHsConfirm n count startedAt s = _
      simp only [execHsConfirm, hconf, hmeas, hdue', ← hu, hlap, Option.isNone_some, Bool.false_eq_true, if_false, Bool.not_true]
    have hbody : u.hsConfirm n count startedAt =
        if bit (w.fld Fd.HS_STAT_FAULT) n || decide ((v.hsChan n).delta count < (cfgFld (v.hsChan n).cfg (Fd.HS_CFG_TOUCH_TH n) : Int) * 256)
        then w.hsReturn n
        else if left ≤ 1 then w.hsTouch (v.hsChan n).cfg n stamp
        else w.setHsChan n (fun c => { c with confirm := some (left - 1, stamp) }) := by
      unfold State.hsConfirm
      rw [hconf', hw, hv]
    rw [hrun, hbody]
    refine ⟨fun hend => congrArg Host.Outcome.next (if_pos ?_), fun hfault hhigh => congrArg Host.Outcome.next (if_neg ?_)⟩
    · simpa using hend
    · simpa [hfault] using hhigh
  case remeasure =>
    intro s n count startedAt hdis hmeas hair hbc hend
    show execHsRemeasure n count startedAt s = _
    simp [execHsRemeasure, hdis, hmeas, hair, hbc, hend]
  case stuck =>
    intro s n t htouched hsec hdue
    show execStuckTouch n s = _
    unfold execStuckTouch
    rw [htouched]
    exact congrArg Host.Outcome.next (if_neg (by simp [hsec, hdue]))

end Sys2Proof.Machine
end

section
/-! PROOF. LF frames and their diagnostics, UHF windows, hypotheses and slot outcomes (06_access_front_end.md R221-R242). -/

namespace Sys2Proof.Machine

/-! ### What an interrupt leaves of the registers -/

@[simp] theorem sendMsg_regs (s : State) (p v : Nat) : (s.sendMsg p v).regs = s.regs := by
  unfold State.sendMsg
  split_ifs <;> rfl

@[simp] theorem writeEvent_regs (s : State) (p : Nat) (r : Evr) (e : Event) : (s.writeEvent p r e).regs = s.regs := by
  unfold State.writeEvent
  by_cases h : (r.head == r.tail) = true
  · exact (congrArg State.regs (if_pos h)).trans (sendMsg_regs _ _ _)
  · exact (congrArg State.regs (if_neg h)).trans rfl

@[simp] theorem postTo_regs (s : State) (p : Nat) (e : Event) : (s.postTo p e).regs = s.regs := by
  unfold State.postTo
  split
  · rfl
  · split
    · split_ifs
      · rfl
      · rfl
      · exact writeEvent_regs s p _ e
      · rfl
      · rfl
    · split_ifs <;> rfl

@[simp] theorem post_regs (s : State) (p code src : Nat) (detail : Bytes) : (s.post p code src detail).regs = s.regs :=
  postTo_regs s p _

@[simp] theorem intNotify_regs (s : State) (pg old : Nat) : (s.intNotify pg old).regs = s.regs := by
  unfold State.intNotify
  dsimp only
  split_ifs
  · rfl
  · exact post_regs s _ _ _ _
  · exact sendMsg_regs s _ _
  · rfl

theorem regsWf_rising {m : CfgWords} (h : regsWf m = true) : mapRising 0 m = true :=
  (Bool.and_eq_true_iff.mp h).1

/-- An interrupt of a page changes its INT_RAW alone. -/
theorem fld_raise_ne (s : State) {pg : Nat} {f : Fld} (h : (Fd.INT_RAW_RAW pg).addr ≠ f.addr) (mask : Nat) :
    (s.raise pg mask).fld f = s.fld f := by
  rw [State.raise, State.fld, State.reg, intNotify_regs]
  exact fld_setFld_ne s h _

theorem Tells.lf {s t : State} (h : Tells s t) : t.lf = s.lf := by
  obtain ⟨_, _, _, _, rfl⟩ := h
  rfl

theorem Tells.deviceTime {s t : State} (h : Tells s t) : t.deviceTime = s.deviceTime := by
  obtain ⟨_, _, _, _, rfl⟩ := h
  rfl

@[simp] theorem raise_lf (s : State) (pg mask : Nat) : (s.raise pg mask).lf = s.lf := (tells_raise s pg mask).lf

/-! ### Masks -/

theorem bit_setBit (m i j : Nat) : bit (setBit m i) j = true ↔ bit m j = true ∨ j = i := by
  rw [bit, setBit, Nat.testBit_or, Bool.or_eq_true, Nat.testBit_two_pow, decide_eq_true_iff, eq_comm (a := i), bit]

theorem bit_foldl_setBit (l : List Nat) (m j : Nat) : bit (l.foldl setBit m) j = true ↔ bit m j = true ∨ j ∈ l := by
  induction l generalizing m with
  | nil => simp
  | cons i l ih => rw [List.foldl_cons, ih, bit_setBit, List.mem_cons, or_assoc]

theorem bit_listMask (l : List Nat) (j : Nat) : bit (listMask l) j = true ↔ j ∈ l := by
  rw [listMask, bit_foldl_setBit]
  simp [bit]

theorem bit_mod_two_pow {m n j : Nat} (h : j < n) : bit (m % 2 ^ n) j = bit m j := by
  simp [bit, Nat.testBit_mod_two_pow, h]

/-! ### A frame in the air -/

@[simp] theorem noteBursts_lf (s : State) (a : LfAir) : (s.noteBursts a).lf = s.lf := by
  unfold State.noteBursts
  split_ifs <;> rfl

/-- The frame that lfStart puts in the air. -/
def State.lfAirOf (s : State) (r : LfReq) : LfAir :=
  { req := r, startedAt := s.deviceTime, broadcast := s.lfBroadcast r, asked := r.bursts,
    bursts := listMask ((maskList r.bursts 8).filter s.lfUsable),
    omitted := maskDiff r.bursts (listMask ((maskList r.bursts 8).filter s.lfUsable)) }

theorem emit_setFld_noteBursts_lf (s : State) (a : LfAir) (f : Fld) (v : Nat) (o : Output) :
    (((s.noteBursts a).setFld f v).emit o).lf = s.lf := by
  rw [emit_lf, setFld_lf, noteBursts_lf]

theorem raise_unless_lf (c : Prop) [Decidable c] (s : State) (pg mask : Nat) : (if c then s else s.raise pg mask).lf = s.lf := by
  split
  · rfl
  · exact raise_lf s pg mask

/-- The state in which the frame is in the air and gone out, before LIMITED is raised. -/
def State.lfSent (s : State) (r : LfReq) (short : Nat) : State :=
  ((State.noteBursts { s with lf := { s.lf with
      air := some (s.lfAirOf r), waiting := s.lf.waiting.tail, cfg := s.pageCfg pgLf, charge := s.drew (s.lfWould r) } }
    (s.lfAirOf r)).setFld Fd.LF_STAT_LIMITED (s.lfLimited (s.pageCfg pgLf) (s.lfAirOf r).broadcast (s.lfAirOf r).bursts short)).emit
    (.lfFrame {
      pre := max 1 (cfgFld (s.pageCfg pgLf) Fd.LF_MODE_PRE), wup := cfgFld (s.pageCfg pgLf) Fd.LF_MODE_WUP, data := r.data,
      broadcast := (s.lfAirOf r).broadcast, bursts := (s.lfAirOf r).bursts,
      scale := lfScale (lfCurrent (s.pageCfg pgLf) (s.lfAirOf r).broadcast + s.bcCurrent) })

theorem lfStart_eq (s : State) (r : LfReq) (short : Nat) : s.lfStart r short =
    if s.lfLimited (s.pageCfg pgLf) (s.lfAirOf r).broadcast (s.lfAirOf r).bursts short = 0 then s.lfSent r short
    else (s.lfSent r short).raise pgLf 4 := rfl

theorem lfSent_lf (s : State) (r : LfReq) (short : Nat) :
    (s.lfSent r short).lf = { s.lf with
      air := some (s.lfAirOf r), waiting := s.lf.waiting.tail, cfg := s.pageCfg pgLf, charge := s.drew (s.lfWould r) } := by
  rw [State.lfSent]
  exact emit_setFld_noteBursts_lf _ _ _ _ _

theorem lfStart_lf (s : State) (r : LfReq) (short : Nat) :
    (s.lfStart r short).lf = { s.lf with
      air := some (s.lfAirOf r), waiting := s.lf.waiting.tail, cfg := s.pageCfg pgLf, charge := s.drew (s.lfWould r) } := by
  rw [lfStart_eq]
  exact (raise_unless_lf _ _ _ _).trans (lfSent_lf s r short)

theorem bit_lfBroadcast (s : State) (r : LfReq) {n : Nat} (h : n < 8) :
    bit (s.lfBroadcast r) n = true ↔ s.lfUsable n = true ∧ s.fld (Fd.LF_CH_BCAST n) = 1 ∧ bit r.bcast n = true := by
  simp [State.lfBroadcast, bit_listMask, h, and_assoc]

theorem lfDiagnose_lf (s : State) (n st : Nat) : (s.lfDiagnose n st).lf = s.lf := by
  refine (raise_unless_lf _ _ _ _).trans ?_
  rw [State.setFldBit, setFld_lf, setFld_lf]

@[simp] theorem raise_deviceTime (s : State) (pg mask : Nat) : (s.raise pg mask).deviceTime = s.deviceTime :=
  (tells_raise s pg mask).deviceTime

theorem lfDiagnose_deviceTime (s : State) (n st : Nat) : (s.lfDiagnose n st).deviceTime = s.deviceTime := by
  have hraise : ∀ (c : Prop) [Decidable c] (t : State), (if c then t else t.raise pgLf 1).deviceTime = t.deviceTime := by
    intro c _ t
    split
    · rfl
    · exact raise_deviceTime t _ _
  refine (hraise _ _).trans ?_
  rw [State.setFldBit, setFld_deviceTime, setFld_deviceTime]

/-- The diagnosis decides the channel's bit of EXCLUDED. -/
theorem bit_excluded_lfDiagnose {s : State} (hs : regsWf s.regs = true) {n : Nat} (h : n < 8) (st : Nat) :
    bit ((s.lfDiagnose n st).fld Fd.LF_STAT_EXCLUDED) n = true ↔ 1 ≤ st ∧ st ≤ 4 := by
  have hu : mapRising 0 (s.setFld (Fd.LF_DIAG_STATE n) st).regs = true := regsWf_rising (regsWf_setFld hs _ _)
  have hraise : (s.lfDiagnose n st).fld Fd.LF_STAT_EXCLUDED =
      ((s.setFld (Fd.LF_DIAG_STATE n) st).setFldBit Fd.LF_STAT_EXCLUDED n (decide (1 ≤ st ∧ st ≤ 4))).fld Fd.LF_STAT_EXCLUDED := by
    unfold State.lfDiagnose
    dsimp only
    split_ifs
    · rfl
    · exact fld_raise_ne _ (by decide) _
  rw [hraise, State.setFldBit, fld_setFld hu (by decide) (by decide)]
  refine (iff_of_eq (congrArg (· = true) (bit_mod_two_pow h))).trans ?_
  split_ifs with hst
  · simpa [bit_setBit] using hst
  · simpa [bit_clrBit] using hst

/-! ### Telegrams and slots -/

theorem crc16_lt (b : Bytes) : crc16 b < 65536 := (b.foldl crc16Byte 0xFFFF#16).isLt

theorem beAt_append_beBytes {a : Bytes} {o : Nat} (h : a.length = o) {n v : Nat} (hv : v < 256 ^ n) :
    beAt (a ++ beBytes n v) o n = v := by
  have hslice := slice_append_length a (beBytes n v)
  rw [beBytes, List.length_reverse, length_leBytes, h] at hslice
  rw [beAt, beBytes, hslice, beNat, List.reverse_reverse, leNat_leBytes, Nat.mod_eq_of_lt hv]

/-- A telegram of LEN, a payload and their CRC gives the payload. -/
theorem telegramPayload_framed {p : Bytes} (hpos : 1 ≤ p.length) (hmax : p.length ≤ 64) :
    telegramPayload (leBytes 1 p.length ++ p ++ beBytes 2 (crc16 (leBytes 1 p.length ++ p))) = some p := by
  have hhead : (leBytes 1 p.length).length = 1 := length_leBytes 1 _
  have hlen : leAt (leBytes 1 p.length ++ p ++ beBytes 2 (crc16 (leBytes 1 p.length ++ p))) 0 1 = p.length := by
    rw [List.append_assoc, leAt_append_of_le (by rw [hhead]), leAt_leBytes]
    omega
  have hframe : (leBytes 1 p.length ++ p).length = p.length + 1 := by rw [List.length_append, hhead, Nat.add_comm]
  have hbody : slice (leBytes 1 p.length ++ p ++ beBytes 2 (crc16 (leBytes 1 p.length ++ p))) 1 p.length = p := by
    have := slice_append_length (leBytes 1 p.length) p
    rw [hhead] at this
    rw [slice_append_of_le (by rw [hframe, Nat.add_comm]), this]
  have hcrc : beAt (leBytes 1 p.length ++ p ++ beBytes 2 (crc16 (leBytes 1 p.length ++ p))) (p.length + 1) 2 =
      crc16 (leBytes 1 p.length ++ p) := beAt_append_beBytes hframe (crc16_lt _)
  have htake : (leBytes 1 p.length ++ p ++ beBytes 2 (crc16 (leBytes 1 p.length ++ p))).take (p.length + 1) =
      leBytes 1 p.length ++ p := List.take_left' hframe
  have hall : (leBytes 1 p.length ++ p ++ beBytes 2 (crc16 (leBytes 1 p.length ++ p))).length = p.length + 3 := by
    rw [List.length_append, hframe, beBytes, List.length_reverse, length_leBytes]
  have hgood : ¬(p.length = 0 ∨ 64 < p.length) := by omega
  unfold telegramPayload lenBad
  dsimp only
  rw [hlen, hcrc, htake, hall, hbody, decide_eq_false hgood]
  simp

/-- The outcomes of the slots, two bits each. -/
theorem foldr_outcomes (l : List Nat) :
    l.foldr (fun v a => v + 4 * a) 0 = (((List.range l.length).map (fun k => l.getD k 0 * 4 ^ k)).sum) := by
  induction l with
  | nil => rfl
  | cons v l ih =>
    rw [List.foldr_cons, ih, List.length_cons, List.range_succ_eq_map, List.map_cons, List.sum_cons, List.map_map,
      ← List.sum_map_mul_left]
    simp only [List.getD_cons_zero, pow_zero, mul_one, Function.comp_def, List.getD_cons_succ, pow_succ]
    congr 2
    exact List.map_congr_left fun k _ => by ring

/-- Settles O37: each row's guards hold, so it takes the branch the clause names. -/
theorem lfFramesAndUhfWindows : Obligations.LfFramesAndUhfWindows := by
  unfold Obligations.LfFramesAndUhfWindows
  refine ⟨?frame, ?start, ?frameEnd, ?diag, ?excluded, ?vlf, ?window, ?sync, ?failed, ?telegram,
    fun p => telegramPayload_framed, ?windowEnd, ?outcomes, ?outcome⟩
  case frame =>
    intro s short r rest hwait hair href hlevel hpage
    have hrun : exec (.lfFrameStart short) s = .next (if s.lf.vlfMv < 6000 then s.lfNotSent
        else if s.welcomeDeferred r then s else s.lfStart (s.lfCompose r) short) := by
      show execLfFrameStart short s = _
      unfold execLfFrameStart
      rw [hwait]
      exact congrArg Host.Outcome.next (if_neg (by simp [hair, href, hlevel, pgLf, hpage]))
    rw [hrun]
    refine ⟨fun hlow => ?_, fun hhigh hdef => ?_, fun hhigh hdef => ?_⟩
    · rw [if_pos hlow, State.lfNotSent, hwait]
      rfl
    · rw [if_neg (by omega), if_neg (by simp [hdef])]
    · rw [if_neg (by omega), if_pos hdef]
  case start =>
    intro s short r
    rw [lfStart_lf]
    refine ⟨s.lfAirOf r, rfl, rfl, rfl, rfl, rfl, rfl, fun n hn => ⟨bit_lfBroadcast s r hn, ?_⟩⟩
    rw [State.lfAirOf, bit_listMask]
    simp [maskList, hn, and_comm]
  case frameEnd =>
    rintro s u shorted l a e hair hover rfl rfl rfl
    show execLfFrameEnd shorted s = _
    unfold execLfFrameEnd
    rw [hair]
    exact congrArg Host.Outcome.next (if_neg (by omega))
  case diag =>
    intro s n st res why hen hst hbank hruns hdue
    have hlf : ((s.lfDiagnose n st).setFld (Fd.LF_DIAG_RES_HZ n) res).lf = s.lf := by rw [setFld_lf, lfDiagnose_lf]
    have hguard : (s.fld (Fd.LF_CH_EN n) = 1 && st < 6 && bit (bankChannels s.domains) n && s.lfRuns && s.diagDue n why) = true := by
      simp [hen, hst, hbank, hruns, hdue]
    have htime : ((s.lfDiagnose n st).setFld (Fd.LF_DIAG_RES_HZ n) res).deviceTime = s.deviceTime := by
      rw [setFld_deviceTime, lfDiagnose_deviceTime]
    rw [← hlf, ← htime]
    exact congrArg Host.Outcome.next (if_pos hguard)
  case excluded => exact fun s n st hs hn _ => bit_excluded_lfDiagnose hs hn st
  case vlf =>
    intro s mv
    have hlow : b2n (decide (mv < 6000)) = if mv < 6000 then 1 else 0 := by simp [b2n]
    show execVlfLowChange mv s = _
    rw [execVlfLowChange, State.showVlf, hlow]
    rfl
  case window =>
    rintro s a w hended hon href hpage hdelay rfl
    show execUhfWindowOpen s = _
    unfold execUhfWindowOpen
    rw [hended]
    refine congrArg Host.Outcome.next (if_neg ?_)
    have hopen : ¬s.deviceTime < (s.windowFor a).opensAt := Nat.not_lt.mpr hdelay
    simp [hon, href, pgUhf, hpage, hopen]
  case sync =>
    intro s w word hw hslot
    have hslot' : ¬w.slots ≤ w.slotAt s.deviceTime := by omega
    refine ⟨fun hnear hlen => ?_, fun h l hnear hh hlen => ?_, fun hfar => ?_⟩
    · show execSyncMatch word s = _
      cases hh : w.hyps with
      | nil => simp only [execSyncMatch, hw, hslot', hh, Nat.not_lt.mpr hnear, decide_false, Bool.or_false, Bool.false_eq_true, if_false, List.nil_append]
      | cons h l =>
        rw [hh] at hlen
        simp only [execSyncMatch, hw, hslot', hh, Nat.not_lt.mpr hnear, decide_false, Bool.or_false, Bool.false_eq_true, if_false,
          Nat.not_le.mpr hlen]
    · show execSyncMatch word s = _
      rw [hh] at hlen
      simp only [execSyncMatch, hw, hslot', hh, Nat.not_lt.mpr hnear, decide_false, Bool.or_false, Bool.false_eq_true, if_false, hlen, if_true]
      rfl
    · show execSyncMatch word s = _
      simp only [execSyncMatch, hw, hfar, decide_true, Bool.or_true, if_true]
  case failed =>
    intro s w i h raw hw hi
    show execHypothesisFailed i raw s = _
    simp only [execHypothesisFailed, hw, hi]
    cases telegramFails raw <;> rfl
  case telegram =>
    rintro s u w v i r0 r1 inp k h raw p hw hi hp rfl rfl rfl rfl
    show execUhfTelegram i raw r0 r1 s = _
    simp only [execUhfTelegram, hw, hi, hp]
    rfl
  case windowEnd =>
    intro s v w l hw hnone hover hv
    have hrun : exec (.uhfWindowEnd l) s = .next (match w.past, v.acc.session with
        | some _, _ => v
        | none, none => v.pollOver
        | none, some x =>
          match w.repoll with
          | some f => v.closeRepoll x w f (((List.range w.slots).map (w.outcome (w.heard l))).getD 0 0)
          | none =>
            (v.updSession (fun x => { x with
              polled := x.polled ++ x.repolls.map (fun r => (r.fob, r.count)),
              repolls := v.listRepolls x w (w.heard l) l })).nextRepoll) := by
      show execUhfWindowEnd l s = _
      unfold execUhfWindowEnd
      rw [hw, hv]
      exact congrArg Host.Outcome.next (if_neg (by simp [hnone, hover]))
    rw [hrun]
    refine ⟨fun hpast => ?_, fun hpast hsess => ?_, fun x f hpast hsess hrep hslots => ?_, fun x hpast hsess hrep => ?_⟩
    · obtain ⟨x, hx⟩ := Option.isSome_iff_exists.mp hpast
      rw [hx]
    · rw [hpast, hsess]
    · have hfirst : ((List.range w.slots).map (w.outcome (w.heard l))).getD 0 0 = w.outcome (w.heard l) 0 := by
        simp [List.getD, hslots]
      rw [hpast, hsess, hrep, hfirst]
    · rw [hpast, hsess, hrep]
  case outcomes =>
    rintro s oc n rfl
    rw [State.showOutcomes, foldr_outcomes]
    rfl
  case outcome =>
    intro w heard k
    simp [UhfWindow.outcome]

end Sys2Proof.Machine
end

section
/-! PROOF. The backup coil, the session's timeout and release pulses (06_access_front_end.md R206, R231;
08_access_protocol_and_release.md R288, R295, R312-R315). -/

namespace Sys2Proof.Machine

/-- The downlink of R295: a fresh nonce of eight bytes, and the BACKUP frame with it. -/
theorem bcDownlink_eq (s : State) (b : BcSession) : s.bcDownlink b =
    let u := (s.draw 8).updSession (fun x => { x with source := .backupCoil, nonceV := s.drawn 8, cmd := 0x14, bursts := 0, sent := 0 })
    State.emit (State.setFld (State.setFld { u with bc := some { b with
        exchange := true, nonceV := s.drawn 8, downEnd := u.deviceTime + 88 * 250000,
        till := max b.till (u.deviceTime + 88 * 250000 + 36000000) } } Fd.AC_STAT_SOURCE 3) Fd.BC_STAT_STATE 2)
      (.backupCoil ([0x14] ++ u.vidBytes ++ s.drawn 8)) := by
  unfold State.bcDownlink
  simp only [State.backupData, State.vidBytes, State.policy, Source.code]

/-- Settles O38: each row's guards hold, so it takes the branch the clause names. -/
theorem backupCoilAndSessionEnds : Obligations.BackupCoilAndSessionEnds := by
  unfold Obligations.BackupCoilAndSessionEnds
  refine ⟨?start, ?check, ?reply, ?sessionEnd, ?decide, ?timeout, ?pulse⟩
  case start =>
    intro s u x k hen hbc href hvlf hpage hu hx htarget hair
    have hguard : ¬(s.fld Fd.BC_CFG_EN = 0 || s.supply.lostRef38 || s.lf.vlfMv < 6000 || !s.pageAdmits pgBc) = true := by
      simp [hen, href, hvlf, pgBc, hpage]
    show execBcSessionStart k s = _
    simp only [execBcSessionStart, hbc]
    refine congrArg Host.Outcome.next ?_
    unfold State.bcStart
    rw [if_neg hguard, ← hu]
    dsimp only
    rw [hx]
    refine (if_neg (not_not.mpr htarget)).trans ?_
    rw [setFld_lf, hair]
    rfl
  case check =>
    rintro s u b hbc hex hdraw htime rfl
    have hguard : ¬(b.exchange || decide (s.deviceTime < b.startedAt + cfgFld b.cfg Fd.BC_CFG_POWERUP_MS * 1000000) ||
        s.drawWaits (s.fld Fd.HW_ROLE_LEAD)) = true := by
      simp [hex, hdraw, htime]
    refine ⟨?_, ?_⟩
    · show execBcSessionStart false s = _
      simp only [execBcSessionStart, hbc, State.bcCheck]
      exact congrArg Host.Outcome.next (if_neg hguard)
    · show execBcSessionStart true s = _
      simp only [execBcSessionStart, hbc, State.bcCheck]
      refine congrArg Host.Outcome.next ((if_neg hguard).trans ((if_pos trivial).trans (bcDownlink_eq s b)))
  case reply =>
    rintro s u b x raw p hbc hx hp htime rfl
    show execBcReply raw s = _
    simp only [execBcReply, hbc, hx, hp, htime, Bool.not_true, Bool.false_eq_true, if_false]
    generalize (s.askOwn (answerCmacBytes p)).classifyAnswer x _ p 0x14 0 true = c
    generalize (s.askOwn (answerCmacBytes p)).fob? _ = o
    cases c <;> cases o <;> rfl
  case sessionEnd =>
    intro s b hbc htill
    show execBcSessionEnd s = _
    simp only [execBcSessionEnd, hbc]
    exact congrArg Host.Outcome.next (if_neg (by omega))
  case decide =>
    intro s x hx hsource hheld hfob
    have hown : ¬(x.source ≠ .backupCoil || s.decisionHeld) = true := by simp [hsource, hheld]
    have hnone : ¬x.bcFob.isSome = true := by simp [hfob]
    unfold State.bcDecide
    rw [hx]
    refine (if_neg hown).trans ((if_neg hnone).trans ?_)
    rw [noBackup]
  case timeout =>
    intro s x hx hover
    show execSessionTimeout s = _
    simp only [execSessionTimeout, hx]
    cases hheld : s.decisionHeld
    · exact congrArg Host.Outcome.next (if_neg (by simp [hover]))
    · exact congrArg Host.Outcome.next (if_pos (by simp))
  case pulse =>
    intro s g t hg ht
    refine ⟨s.setAcc (fun a => { a with pulses := mapDel a.pulses g }), ?_, rfl, rfl, rfl⟩
    show execReleasePulseEnd g s = _
    simp only [execReleasePulseEnd, hg, ht, if_true]

end Sys2Proof.Machine
end

section
/-! PROOF. The rows of a ranging round (07_ranging.md R253-R265, R275). -/

namespace Sys2Proof.Machine

/-- A round on a plan entry: its ports tested and powered, then POLL with its STS, or a return loss that ends it at once. -/
theorem startRound_eq (s : State) (y : Session) (fob r t1 cleared : Nat) {u v : State} {x : Round}
    (hu : u = (s.testPorts (portMask [(s.planPorts r).1, (s.planPorts r).2]) cleared).portsPower
      (portMask [(s.planPorts r).1, (s.planPorts r).2]))
    (hx : x =
      { idx := u.uwb.roundsRun, n := y.rounds, txPort := (s.planPorts r).1, rxPort := (s.planPorts r).2,
        t1 := (t1 / 512 * 512 + u.uwbFld (Fd.UWB_CAL_TX_DELAY (s.planPorts r).1)) % 2 ^ 40, responseSeen := false, t4c := 0,
        t5 := 0, finalSent := false, reportSeen := false, report := [], startedAt := u.deviceTime, found := none,
        reportC1 := none })
    (hv : v = { u with uwb := { u.uwb with planIdx := r + 1, twinClaimed := true } }) (low : Bool) :
    s.startRound y fob r t1 cleared low =
      if low then ((v.setFldBit Fd.RNG_PORT_FAULT x.txPort true).raise 0x051000 4).endRound x { outcome := .aborted } false
      else State.emit { v.askOwn (2 * v.stsBytes) with uwb := { (v.askOwn (2 * v.stsBytes)).uwb with
          round := some x, stsHeld := [(1, (v.askOwn (2 * v.stsBytes)).sts y.rounds 1)] } }
        (.uwbPoll x.txPort fob ((v.askOwn (2 * v.stsBytes)).sts y.rounds 0)) := by
  subst hv hx hu
  rfl

/-- Settles O39: each row's guards hold, so it takes the branch the clause names. -/
theorem rangingRounds : Obligations.RangingRounds := by
  unfold Obligations.RangingRounds
  refine ⟨?roundStart, ?responseRx, ?responseTimeout, ?finalTx, ?reportRx, ?reportEnds⟩
  case roundStart =>
    intro s t1 cleared fob low y hfob hy hround hpage
    have hrun : ∀ l, exec (.uwbRoundStart t1 cleared l) s = .next (
        if s.rangingOver y then s.rangingDone fob { outcome := .aborted }
        else match s.planEntry s.uwb.planIdx with
          | none => s.rangingDone fob { outcome := .aborted }
          | some r => s.startRound y fob r t1 cleared l) := by
      intro l
      show execUwbRoundStart t1 cleared l s = _
      unfold execUwbRoundStart
      rw [hfob, hy]
      exact congrArg Host.Outcome.next (if_neg (by simp [hround, hpage]))
    refine ⟨fun hover => ?_, fun r need u v x hover hplan hneed hu hx hv => ⟨?_, fun w hw => ?_⟩⟩
    · rw [hrun]
      by_cases hend : s.rangingOver y = true
      · rw [if_pos hend]
      · rw [if_neg hend, hover.resolve_left hend]
    · subst hneed
      rw [hrun, hover, hplan]
      exact congrArg Host.Outcome.next ((if_neg Bool.false_ne_true).trans
        ((startRound_eq s y fob r t1 cleared hu hx hv true).trans (if_pos rfl)))
    · subst hneed hw
      rw [hrun, hover, hplan]
      exact congrArg Host.Outcome.next ((if_neg Bool.false_ne_true).trans
        ((startRound_eq s y fob r t1 cleared hu hx hv false).trans (if_neg Bool.false_ne_true)))
  case responseRx =>
    intro s x t4c hround hseen
    show execUwbResponseRx t4c s = _
    unfold execUwbResponseRx
    rw [hround]
    refine congrArg Host.Outcome.next ?_
    cases hin : s.inWindow x.t1 ((t4c + tsMod - s.uwbFld (Fd.UWB_CAL_RX_DELAY x.rxPort)) % tsMod)
    · exact (if_pos (by rw [hin, Bool.not_false, Bool.or_true])).trans (if_neg (of_decide_eq_false hin)).symm
    · exact (if_neg (by rw [hseen, hin]; exact Bool.false_ne_true)).trans (if_pos (of_decide_eq_true hin)).symm
  case responseTimeout =>
    intro s x p hround hseen hwin
    show execUwbResponseTimeout p s = _
    unfold execUwbResponseTimeout
    rw [hround]
    exact congrArg Host.Outcome.next (if_neg (by simp [hseen, hwin]))
  case finalTx =>
    rintro s u x fob hround hfob hseen hsent hgrid rfl
    show execUwbFinalTx s = _
    unfold execUwbFinalTx
    rw [hround, hfob]
    exact congrArg Host.Outcome.next (if_neg (by simp [hseen, hsent, hgrid]))
  case reportRx =>
    intro s x p hround hsent hseen
    show execUwbReportRx p s = _
    unfold execUwbReportRx
    rw [hround]
    exact congrArg Host.Outcome.next (if_pos (by simp [hsent, hseen]))
  case reportEnds =>
    intro s x c hround hcand
    refine ⟨fun hsent hmissing hwin => ?_, fun hseen hheld => ?_⟩
    · show execUwbReportTimeout s = _
      unfold execUwbReportTimeout
      rw [hround, hcand]
      refine congrArg Host.Outcome.next (if_pos ?_)
      simpa [hsent, hwin] using hmissing
    · show execUwbVerdict s = _
      unfold execUwbVerdict
      rw [hround, hcand]
      exact congrArg Host.Outcome.next (if_pos (by simp [hseen, hheld]))

end Sys2Proof.Machine
end

section
/-! PROOF. Parked states, returns, wakes and welcome polls (18_power_and_reservoir.md R628-R646). -/

namespace Sys2Proof.Machine

variable {s : State}

/-! ### WAIT -/

theorem parkWait_eq_zero {t : Nat} (h : ∀ n, n < 7 → s.parkCond t n = true) : s.parkWait t = 0 := by
  have hnone : (List.range 7).filter (fun n => !s.parkCond t n) = [] := by
    simpa [List.filter_eq_nil_iff] using h
  rw [State.parkWait, hnone]
  rfl

/-- The conditions but the first hold: WAIT has no other bit. -/
theorem clrBit_parkWait {t : Nat} (h : ∀ n, 1 ≤ n → n < 7 → s.parkCond t n = true) : clrBit (s.parkWait t) 0 = 0 := by
  have htail : ∀ n ∈ [1, 2, 3, 4, 5, 6], s.parkCond t n = true := by
    intro n hn
    refine h n ?_ ?_ <;> fin_cases hn <;> decide
  have hnone : [1, 2, 3, 4, 5, 6].filter (fun n => !s.parkCond t n) = [] := by
    simpa [List.filter_eq_nil_iff] using htail
  have hlist : List.range 7 = 0 :: [1, 2, 3, 4, 5, 6] := rfl
  rw [State.parkWait, hlist, List.filter_cons, hnone]
  split <;> rfl

/-! ### A wake is latched -/

theorem Tells.acc {t : State} (h : Tells s t) : t.acc = s.acc := by
  obtain ⟨_, _, _, _, rfl⟩ := h
  rfl

@[simp] theorem raise_acc (s : State) (pg mask : Nat) : (s.raise pg mask).acc = s.acc := (tells_raise s pg mask).acc

@[simp] theorem setPowerState_acc (s : State) (n : Nat) : (s.setPowerState n).acc = s.acc := by
  unfold State.setPowerState
  split
  · rfl
  · rw [raise_acc, setFld_acc]

theorem fld_congr {t : State} (h : t.regs = s.regs) (f : Fld) : t.fld f = s.fld f := by
  rw [State.fld, State.reg, h]
  rfl

/-- Leaving Eddy changes STATE of PW_STAT and INT_RAW alone among the registers. -/
theorem fld_eddyExit_ne (s : State) {f : Fld} (hstat : Fd.PW_STAT_STATE.addr ≠ f.addr)
    (hraw : (Fd.INT_RAW_RAW 0x0E0000).addr ≠ f.addr) : s.eddyExit.fld f = s.fld f := by
  unfold State.eddyExit
  dsimp only
  split
  · refine (fld_congr (setDomains_regs _ _) f).trans ?_
    unfold State.setPowerState
    split
    · rfl
    · rw [fld_raise_ne _ hraw, fld_setFld_ne _ hstat]
      rfl
  · rfl

@[simp] theorem eddyExit_acc (s : State) : s.eddyExit.acc = s.acc := by
  unfold State.eddyExit
  dsimp only
  split
  · rw [setDomains_acc, setPowerState_acc]
  · rfl

/-- What a wake shows in the registers before its interrupt. -/
def State.wakeShown (s : State) (w : WakeSrc) : State :=
  ((if s.fld Fd.PW_WAKE_STAT_SRC = 0 then
      (s.setFld Fd.PW_WAKE_TIME_LO_TIME (s.deviceTime % 2 ^ 32)).setFld Fd.PW_WAKE_TIME_HI_TIME (s.deviceTime / 2 ^ 32)
    else s).setFld Fd.PW_WAKE_STAT_SRC (setBit (s.fld Fd.PW_WAKE_STAT_SRC) w.code)).setFld Fd.PW_STAT_LAST_WAKE w.code

/-- What a wake leaves for its interrupt to follow. -/
def State.wakeNoted (s : State) (w : WakeSrc) : State :=
  { s.wakeShown w with power := { (s.wakeShown w).power with
    lingerAt := (s.wakeShown w).deviceTime,
    railFails := if (s.wakeShown w).power.railFails = 3 then 0 else (s.wakeShown w).power.railFails,
    wakeLow := (s.wakeShown w).power.wakeLow ||
      ((s.wakeShown w).wakesHost w && (s.wakeShown w).parked && (s.wakeShown w).power.perstLow) } }

theorem latchWake_eq (s : State) (w : WakeSrc) : s.latchWake w = ((s.wakeNoted w).raise 0x0E0000 2).eddyExit := rfl

theorem latchWake_acc (s : State) (w : WakeSrc) : (s.latchWake w).acc = s.acc := by
  have hshown : (s.wakeShown w).acc = s.acc := by
    rw [State.wakeShown, setFld_acc, setFld_acc]
    split
    · rw [setFld_acc, setFld_acc]
    · rfl
  rw [latchWake_eq, eddyExit_acc, raise_acc]
  exact hshown

theorem fld_latchWake (s : State) (w : WakeSrc) {f : Fld} (hstat : Fd.PW_STAT_STATE.addr ≠ f.addr)
    (hraw : (Fd.INT_RAW_RAW 0x0E0000).addr ≠ f.addr) : (s.latchWake w).fld f = (s.wakeShown w).fld f := by
  rw [latchWake_eq, fld_eddyExit_ne _ hstat hraw, fld_raise_ne _ hraw]
  rfl

theorem code_lt (w : WakeSrc) : w.code < 16 := by
  cases w <;> simp only [WakeSrc.code] <;> omega

/-- A wake is latched in SRC. -/
theorem bit_src_latchWake (hs : regsWf s.regs = true) (w : WakeSrc) :
    bit ((s.latchWake w).fld Fd.PW_WAKE_STAT_SRC) w.code = true := by
  have hwf : mapRising 0 (if s.fld Fd.PW_WAKE_STAT_SRC = 0 then
      (s.setFld Fd.PW_WAKE_TIME_LO_TIME (s.deviceTime % 2 ^ 32)).setFld Fd.PW_WAKE_TIME_HI_TIME (s.deviceTime / 2 ^ 32)
      else s).regs = true := by
    split
    · exact regsWf_rising (regsWf_setFld (regsWf_setFld hs _ _) _ _)
    · exact regsWf_rising hs
  rw [fld_latchWake _ _ (by decide) (by decide), State.wakeShown, fld_setFld_ne _ (by decide),
    fld_setFld hwf (by decide) (by decide)]
  exact (congrArg (· = true) (bit_mod_two_pow (code_lt w))).mpr ((bit_setBit _ _ _).mpr (Or.inr rfl))

/-- The first wake keeps its time. -/
theorem time_latchWake (hs : regsWf s.regs = true) (w : WakeSrc) (h : s.fld Fd.PW_WAKE_STAT_SRC = 0) :
    (s.latchWake w).fld Fd.PW_WAKE_TIME_LO_TIME = s.deviceTime % 2 ^ 32 := by
  rw [fld_latchWake _ _ (by decide) (by decide), State.wakeShown, if_pos h, fld_setFld_ne _ (by decide),
    fld_setFld_ne _ (by decide), fld_setFld_ne _ (by decide), fld_setFld (regsWf_rising hs) (by decide) (by decide)]
  exact Nat.mod_mod _ _

/-! ### The rows -/

/-- FILT of a pin names its samples. -/
theorem pinSamples_eq (s : State) (k : Nat) : s.pinSamples k = [1, 4, 33].getD (s.fld (Fd.PW_WAKE_FILT k)) 328 := by
  unfold State.pinSamples
  match s.fld (Fd.PW_WAKE_FILT k) with
  | 0 => rfl
  | 1 => rfl
  | 2 => rfl
  | _ + 3 => rfl

theorem pinWake_of_armed {k : Nat} (h : s.pinArmed k = true) (hstart : s.startPin k = false) :
    s.pinWake k = s.latchWake (.pin k) := by
  have hstart' : (s.latchWake (.pin k)).startPin k = false := by
    rw [State.startPin, State.policy, latchWake_acc]
    exact hstart
  unfold State.pinWake
  refine (if_neg (by rw [h]; decide)).trans (if_neg ?_)
  rw [hstart', Bool.false_and]
  exact Bool.false_ne_true

/-- Settles O43: each row's guards hold, so it takes the branch the clause names. -/
theorem powerStates : Obligations.PowerStates := by
  unfold Obligations.PowerStates
  refine ⟨?eddy, ?target, ?park, ?pond, ?linger, ?dry, ?back, ?pwrgd, ?pin, fun s k => pinWake_of_armed,
    fun s k h => if_pos (by rw [h]; decide), ?alarm, ?poll, fun s w hs => ⟨bit_src_latchWake hs w, time_latchWake hs w⟩⟩
  case eddy =>
    intro s w hus hstate hgates hidle hbusy
    exact congrArg Host.Outcome.next (if_neg (by simp [hus, hstate, hgates, hidle, hbusy]))
  case target =>
    intro s src data hopen
    refine ⟨fun hv hsec => ?_, fun hv => ?_, fun hne hle hsec => ?_⟩
    · refine congrArg Host.Outcome.next ((if_neg ?_).trans (if_pos ?_))
      · simp [pgPw, hopen, hv]
      · simp [hsec, hv]
    · refine congrArg Host.Outcome.next (if_pos ?_)
      simpa [pgPw, hopen] using hv
    · refine congrArg Host.Outcome.next ((if_neg ?_).trans (if_neg ?_))
      · simp [pgPw, hopen, hne, hle]
      · simpa using hsec
  case park =>
    rintro s w t rfl hne hstate hgates hcond
    exact congrArg Host.Outcome.next (if_neg (by simp [hne, hstate, hgates, parkWait_eq_zero hcond]))
  case pond =>
    intro s w hstate hsec hdue hcond
    exact congrArg Host.Outcome.next (if_neg (by simp [hstate, hsec, hdue, parkWait_eq_zero hcond]))
  case linger =>
    intro s w hexc hlow hqueue hcond hdue
    exact congrArg Host.Outcome.next (if_neg (by simp [hexc, hlow, hqueue, clrBit_parkWait hcond, hdue]))
  case dry =>
    rintro s u hstate hexc rfl
    exact congrArg Host.Outcome.next (if_neg (by simp [hstate, hexc]))
  case back =>
    intro s rail images hwant hretry
    refine ⟨fun hfails => ?_, fun hone htwo hdue => ?_⟩
    · exact congrArg Host.Outcome.next (if_pos (by simp [hwant, hretry, hfails]))
    · exact congrArg Host.Outcome.next (if_pos (by simp [hwant, hretry, hone, htwo, hdue]))
  case pwrgd =>
    rintro s u images hstate rfl
    exact congrArg Host.Outcome.next (if_neg (not_not.mpr hstate))
  case pin =>
    rintro s u k n high active hk rfl rfl
    show execWakePin k high n s = _
    rw [execWakePin, Nat.mod_eq_of_lt hk, pinSamples_eq]
    refine congrArg Host.Outcome.next (if_congr Iff.rfl rfl ?_)
    refine if_congr ?_ rfl rfl
    rw [State.pinActive, Bool.and_eq_true, Bool.not_eq_true']
    exact Iff.rfl
  case alarm =>
    intro s halarm hnew hdue
    exact congrArg Host.Outcome.next (if_neg (by simp [halarm, hnew, hdue]))
  case poll =>
    rintro s u hw hlevel hdue hsess hpair hpoll rfl
    refine congrArg Host.Outcome.next ((if_neg ?_).trans ?_)
    · simp [hw, hlevel, hdue, hsess, hpair, hpoll]
    · refine if_congr Iff.rfl rfl ?_
      exact ite_not _ _ _

end Sys2Proof.Machine
end

section
/-! PROOF. Halves and comparators (17_halves_and_consistency.md R597, R612): a register map that lists HW_PATHS twice shows other banks
once the REBUILD bit is cleared. -/

namespace Sys2Proof.Machine

/-- A state whose register map, not in canonical form, lists HW_PATHS twice: with bank 0 of North under rebuild and the rest as
reset leaves it, then with the banks turned over. -/
def doubledHwPaths : State :=
  { State.reset with
    regs := [(Reg.HW_PATHS, regReset Reg.HW_PATHS ||| 0x100#32), (Reg.HW_PATHS, regReset Reg.HW_PATHS ^^^ 0xF0#32)] }

/-- The row puts bank 0 back among the banks shown before it. -/
theorem bankRebuilt_doubledHwPaths : ((doubledHwPaths.setFld Fd.HW_PATHS_REBUILD 0).setFld Fd.HW_PATHS_BANKS
    (setBit (doubledHwPaths.fld Fd.HW_PATHS_BANKS) 0)).fld Fd.HW_PATHS_BANKS ≠
    ((doubledHwPaths.setFld Fd.HW_PATHS_REBUILD 0).setFld Fd.HW_PATHS_BANKS
      (setBit ((doubledHwPaths.setFld Fd.HW_PATHS_REBUILD 0).fld Fd.HW_PATHS_BANKS) 0)).fld Fd.HW_PATHS_BANKS := by
  decide

/-- Refutes O45: in a state that is not sound, clearing REBUILD uncovers other banks than those the row goes on from. -/
theorem not_halvesAndComparators : ¬ Obligations.HalvesAndComparators := by
  unfold Obligations.HalvesAndComparators
  intro h
  obtain ⟨-, -, -, -, -, -, hbank, -⟩ := h
  have hrow := hbank doubledHwPaths _ .north 0 0 (by decide) rfl (by decide) rfl
  exact bankRebuilt_doubledHwPaths (congrArg (fun o => match o with
    | .next t => t.fld Fd.HW_PATHS_BANKS
    | _ => 0) hrow)

end Sys2Proof.Machine
end

section
/-! PROOF. Entropy health tests, phases, raw mode and reseeds (15_wellhead_and_bellows.md R536-R548, R552). -/

namespace Sys2Proof.Machine

/-! ### Runs of equal samples -/

/-- 41 samples in a row are equal. -/
def HasRun (l : List Bool) : Prop := ∃ p, List.replicate 41 p <:+: l

theorem hasRun_iff (l : List Bool) : HasRun l ↔ ∃ (n : Nat) (p : Bool), (l.drop n).take 41 = List.replicate 41 p := by
  constructor
  · rintro ⟨p, a, b, rfl⟩
    refine ⟨a.length, p, ?_⟩
    rw [List.append_assoc, List.drop_left, List.take_left' List.length_replicate]
  · rintro ⟨n, p, h⟩
    exact ⟨p, h ▸ (List.take_prefix _ _).isInfix.trans (List.drop_suffix _ _).isInfix⟩

/-- A run longer than the one it starts in does not pass the sample that ends it. -/
theorem not_replicate_prefix {p q : Bool} (hne : q ≠ p) {n m : Nat} (h : n < m) (t : List Bool) :
    ¬ List.replicate m p <+: List.replicate n p ++ q :: t := by
  induction n generalizing m with
  | zero =>
    obtain ⟨m, rfl⟩ := Nat.exists_eq_add_of_lt h
    rw [Nat.zero_add, List.replicate_succ, List.replicate_zero, List.nil_append, List.cons_prefix_cons]
    exact fun hp => hne hp.1.symm
  | succ n ih =>
    obtain ⟨m, rfl⟩ : ∃ k, m = k + 1 := ⟨m - 1, by omega⟩
    rw [List.replicate_succ, List.replicate_succ, List.cons_append, List.cons_prefix_cons]
    exact fun hp => ih (by omega) hp.2

theorem hasRun_replicate_append {p q : Bool} (hne : q ≠ p) (n : Nat) (t : List Bool) :
    HasRun (List.replicate n p ++ q :: t) ↔ 41 ≤ n ∨ HasRun (q :: t) := by
  induction n with
  | zero => simp
  | succ n ih =>
    have hprefix : (∃ r, List.replicate 41 r <+: p :: (List.replicate n p ++ q :: t)) ↔ 41 ≤ n + 1 := by
      constructor
      · rintro ⟨r, hr⟩
        by_contra hlt
        obtain rfl : r = p := (List.cons_prefix_cons.mp (by rwa [List.replicate_succ] at hr)).1
        exact not_replicate_prefix hne (n := n + 1) (m := 41) (by omega) t (by rwa [List.replicate_succ (n := n), List.cons_append])
      · intro hle
        have hsplit : p :: (List.replicate n p ++ q :: t) =
            List.replicate 41 p ++ (List.replicate (n + 1 - 41) p ++ q :: t) := by
          rw [← List.append_assoc, List.replicate_append_replicate, Nat.add_sub_cancel' hle, List.replicate_succ, List.cons_append]
        exact ⟨p, hsplit ▸ List.prefix_append _ _⟩
    have hstep : HasRun (List.replicate (n + 1) p ++ q :: t) ↔
        (∃ r, List.replicate 41 r <+: p :: (List.replicate n p ++ q :: t)) ∨ HasRun (List.replicate n p ++ q :: t) := by
      rw [HasRun, List.replicate_succ (n := n), List.cons_append]
      simp only [List.infix_cons_iff, exists_or]
      rfl
    rw [hstep, hprefix, ih]
    constructor
    · rintro (h | h | h)
      · exact .inl h
      · exact .inl (by omega)
      · exact .inr h
    · rintro (h | h)
      · exact .inl h
      · exact .inr (.inr h)

/-- A run of at least 41 equal samples is one. -/
theorem hasRun_of_le {n : Nat} (h : 41 ≤ n) (p : Bool) (l : List Bool) : HasRun (List.replicate n p ++ l) := by
  refine ⟨p, List.IsPrefix.isInfix ⟨List.replicate (n - 41) p ++ l, ?_⟩⟩
  rw [← List.append_assoc, List.replicate_append_replicate, Nat.add_sub_cancel' h]

theorem hasRun_replicate (n : Nat) (p : Bool) : HasRun (List.replicate n p) ↔ 41 ≤ n := by
  constructor
  · rintro ⟨r, hr⟩
    simpa using hr.length_le
  · intro h
    simpa using hasRun_of_le h p []

/-- The repetition count after n samples of value p. -/
theorem longRun_iff (p : Bool) (n : Nat) (x : List Bool) : longRun p n x = true ↔ HasRun (List.replicate n p ++ x) := by
  induction x generalizing p n with
  | nil => rw [longRun, decide_eq_true_iff, List.append_nil, hasRun_replicate]
  | cons q t ih =>
    rw [longRun, Bool.or_eq_true, decide_eq_true_iff]
    by_cases hq : q = p
    · subst hq
      have hshift : List.replicate (n + 1) q ++ t = List.replicate n q ++ q :: t := by
        rw [List.replicate_succ', List.append_assoc, List.singleton_append]
      rw [if_pos rfl, ih, hshift]
      exact ⟨fun h => h.elim (fun hn => hasRun_of_le hn q _) id, .inr⟩
    · rw [if_neg hq, ih, hasRun_replicate_append hq]
      rfl

/-! ### Raw mode -/

theorem bitsOf_zero_of_bit {d : Nat} (h : bit d 0 = true) : bitsOf d 0 0 = 1 := by
  rw [bit, Nat.testBit_zero, decide_eq_true_iff] at h
  simpa [bitsOf] using h

/-- The half that a write of RAW_EN names enters RAW. -/
theorem raw_writeWhCtl {s : State} {src d : Nat} (hs : regsWf s.regs = true) (hsec : s.secure src = true)
    (hen : s.fld Fd.WH_CTL_RAW_EN = 0) (hset : bit d 0 = true) (htest : bit d 7 = false) (hlife : s.life = 2 ∨ s.life = 4)
    (hup : s.halfUp (halfOf (1 - bitsOf d 4 4)) = true) (hother : s.whState (1 - bitsOf d 4 4) = 2)
    (hcan : s.cannotTest (bitsOf d 4 4) = false) :
    (s.writeWhCtl src d).whState (bitsOf d 4 4) = 5 ∧ (s.writeWhCtl src d).fld Fd.WH_CTL_RAW_EN = 1 := by
  have hn : bitsOf d 4 4 < 2 := bitsOf_lt d 4 4
  have hlife' : (s.life == lifeTested || s.life == lifeMaker) = true := by simpa [lifeTested, lifeMaker] using hlife
  have hadmit : ¬s.rawRefused src d = true := by
    simp [State.rawRefused, hen, hsec, hlife', hup, hother, whService]
  generalize hgen : bitsOf d 4 4 = n at hn hcan ⊢
  have hstat : ∀ a, a = Reg.WH_CTL → a ≠ (Fd.WH_STAT_STATE n).addr := by
    rintro a rfl
    show 0xB0100 ≠ 0xB0104 + 4 * n
    omega
  have hinst : (Fd.BW_STAT_INST n).addr ≠ (Fd.WH_STAT_STATE n).addr := by
    interval_cases n <;> decide
  have hinst' : (Fd.BW_STAT_INST n).addr ≠ Fd.WH_CTL_RAW_EN.addr := by
    interval_cases n <;> decide
  generalize hw : ((s.setFld Fd.WH_CTL_RAW_HALF n).setFld Fd.WH_CTL_RAW_SEL (bitsOf d 3 2)).setFld Fd.WH_CTL_RAW_EN (bitsOf d 0 0) = w
  have hwf : regsWf w.regs = true := by
    rw [← hw]
    exact regsWf_setFld (regsWf_setFld (regsWf_setFld hs _ _) _ _) _ _
  have hwState : w.whState n = s.whState n := by
    rw [← hw, State.whState, fld_setFld_ne _ (hstat _ rfl), fld_setFld_ne _ (hstat _ rfl), fld_setFld_ne _ (hstat _ rfl)]
    rfl
  have hwEn : w.fld Fd.WH_CTL_RAW_EN = 1 := by
    rw [← hw, fld_setFld (regsWf_rising (regsWf_setFld (regsWf_setFld hs _ _) _ _)) (by decide) (by decide), bitsOf_zero_of_bit hset]
    rfl
  have hwCan : ¬w.cannotTest n = true := by
    rw [State.cannotTest, hwState]
    exact (Bool.not_eq_true _).mpr hcan
  have hraw : s.writeRaw src d = w.enterRaw n := by
    unfold State.writeRaw
    dsimp only
    rw [hgen, hw, hsec, hen, hset]
    rfl
  have hctl : s.writeWhCtl src d = ((State.setWhState (w.updWell n (fun x => { x with
      pool := 0, since := 0, stretched := false, testNext := false, rawPart := [] })) n whRaw).setFld (Fd.BW_STAT_INST n) 0) := by
    unfold State.writeWhCtl
    refine (if_neg hadmit).trans ((if_neg ((Bool.not_eq_true _).mpr htest)).trans ?_)
    rw [hraw]
    exact if_neg hwCan
  rw [hctl]
  refine ⟨?_, ?_⟩
  · rw [State.whState, fld_setFld_ne _ hinst, State.setWhState]
    exact fld_setFld (s := w.updWell n _) (regsWf_rising hwf) (by simp [Fd.WH_STAT_STATE]) (by simp [Fd.WH_STAT_STATE]) whRaw
  · rw [fld_setFld_ne _ hinst', State.setWhState, fld_setFld_ne _ (hstat _ rfl).symm]
    exact hwEn

/-- Settles O46: the state of the source decides each row, and the last three lines of the window's tests are the definitions'
own. -/
theorem wellheads : Obligations.Wellheads := by
  unfold Obligations.Wellheads
  refine ⟨?window, ?proportion, fun x => (longRun_iff true 0 x).trans (hasRun_iff x), fun p q t => rfl, ?repetition, ?oscillator,
    ?phase, ?fail, ?ctl, fun s src d => raw_writeWhCtl, ?rawRead, fun s h => rfl⟩
  case window =>
    intro s h a b ha hb hstate
    have hruns : s.whRuns (halfNum h) = true := by simp [State.whRuns, hstate]
    show execHealthWindow h a b s = _
    rw [execHealthWindow, if_pos ⟨ha, hb⟩]
    simp only [State.healthWindow, hruns, hstate, whRaw, whService, repetition, Bool.not_true, Bool.false_eq_true, if_false,
      Nat.reduceEqDiff, if_true]
    split_ifs <;> rfl
  case proportion =>
    intro x p hp
    obtain ⟨t, rfl⟩ := List.head?_eq_some_iff.mp hp
    rw [proportionFails, decide_eq_true_iff, List.count_eq_length_filter]
  case repetition =>
    intro s h c hlo hhi hone hthree
    exact congrArg Host.Outcome.next (if_pos (by simp [State.whRuns, hlo, hhi, hone, hthree]))
  case oscillator =>
    rintro s u h a b vn lck hlo hhi rfl
    refine congrArg Host.Outcome.next ((if_neg ?_).trans (if_congr ?_ rfl rfl))
    · simp [State.whRuns, hlo, hhi]
    · simp only [Bool.or_eq_true, Bool.not_eq_true', decide_eq_false_iff_not]
      omega
  case phase =>
    intro s h ka
    refine ⟨fun hstate => ?_, fun hstate => ?_, fun hstate => ?_⟩
    · show execWellheadPhaseEnd h ka s = _
      simp only [execWellheadPhaseEnd, hstate, whStartup, if_true]
      rfl
    · show execWellheadPhaseEnd h ka s = _
      simp only [execWellheadPhaseEnd, hstate, whStartup, whRecovery, Nat.reduceEqDiff, if_false, if_true]
      rfl
    · show execWellheadPhaseEnd h ka s = _
      simp only [execWellheadPhaseEnd, hstate, whStartup, whRecovery, whTest, Nat.reduceEqDiff, if_false, if_true]
      rfl
  case fail =>
    intro s n c
    refine ⟨?_, fun hstate => ?_⟩
    · rintro (hstate | hstate | hstate) <;>
        simp [State.whFail, State.whHaltNext, hstate, whService, whRaw, whStartup, whRecovery, whTest]
    · simp only [State.whFail, State.whHaltNext, hstate, whService, whRecovery, if_true]
  case ctl =>
    intro s src data hopen
    refine ⟨fun htest => ?_, fun htest => ?_, fun href => if_pos href, fun href hsec htest => ?_⟩
    · exact congrArg Host.Outcome.next (if_pos (by simp [hopen, htest]))
    · exact congrArg Host.Outcome.next (if_pos (by simp [hopen, htest]))
    · unfold State.writeWhCtl
      refine (if_neg ((Bool.not_eq_true _).mpr href)).trans ((if_neg ((Bool.not_eq_true _).mpr htest)).trans ?_)
      exact if_pos (by rw [hsec]; decide)
  case rawRead =>
    intro s src hopen
    have hpage : ¬(!s.pageOpen src 0x0B0000) = true := by simp [hopen]
    refine ⟨fun hraw => ?_, fun w t hraw => ?_⟩
    · refine congrArg Host.Outcome.next ((if_neg hpage).trans ?_)
      dsimp only
      rw [hraw]
    · refine congrArg Host.Outcome.next ((if_neg hpage).trans ?_)
      dsimp only
      rw [hraw]

end Sys2Proof.Machine
end

section
/-! PROOF. Tamper events, the judgement of dips, guards, the alarm and the release of a HOLD (19_tamper.md R663-R669, R675, R679). -/

namespace Sys2Proof.Machine

/-- Settles O47: each row's guards hold, so it takes the branch the clause names. -/
theorem tamperRows : Obligations.TamperRows := by
  unfold Obligations.TamperRows
  refine ⟨?event, ?dip, ?decide, ?clear, ?guardEnd, ?alarm, ?release⟩
  case event =>
    intro s sensor sub hon hdip
    refine congrArg Host.Outcome.next ((if_neg (by simp [hon])).trans (if_neg ?_))
    simpa using hdip
  case dip =>
    rintro s u sub hon hsub hdip hhalves rfl
    refine congrArg Host.Outcome.next ((if_neg (by simp [hon])).trans ((if_pos (by simp [hsub])).trans (if_neg ?_)))
    rw [updTamper_tamper]
    simp [hdip]
  case decide =>
    intro s sub time hdip
    refine ⟨fun hearly => ?_, fun hdue => ?_⟩
    · show execGlitchDecide s = _
      simp only [execGlitchDecide, hdip]
      exact congrArg Host.Outcome.next (if_pos hearly)
    · show execGlitchDecide s = _
      simp only [execGlitchDecide, hdip]
      exact congrArg Host.Outcome.next (if_neg (by omega))
  case clear =>
    intro s n hlo hhi
    exact congrArg Host.Outcome.next (if_neg (by simp; omega))
  case guardEnd =>
    rintro s u rfl
    show execGuardEnd s = _
    rfl
  case alarm =>
    intro s t htill ht
    show execAlarmEnd s = _
    simp only [execAlarmEnd, htill, ht, if_true]
  case release =>
    intro s src data hopen
    have hpage : ¬(!s.pageOpen src pgTp) = true := by simp [pgTp, hopen]
    refine ⟨fun hkey hhold hlife hbit => ?_, fun hother => ?_⟩
    · exact congrArg Host.Outcome.next ((if_neg hpage).trans ((if_pos (by simp [hkey, hhold, hlife])).trans (if_pos hbit)))
    · refine congrArg Host.Outcome.next ((if_neg hpage).trans (if_neg ?_))
      simp only [Bool.and_eq_true, decide_eq_true_eq]
      rintro ⟨⟨hkey, hhold⟩, hlife⟩
      rcases hother with h | h | h
      · exact h hkey
      · exact Bool.false_ne_true (h.symm.trans hhold)
      · exact hlife h

end Sys2Proof.Machine
end

section
/-! PROOF. The TAP, DBG_MEM and DBG_ENG (20_life_cycle_and_debug.md R694-R703). -/

namespace Sys2Proof.Machine

/-- A change that commutes with taking the head off the FIFO shows in the well it names, and in the empty one beyond them. -/
theorem raw_updWell_tail (s : State) (n : Nat) :
    ((s.updWell n (fun x => { x with raw := x.raw.tail })).well n).raw = (s.well n).raw.tail := by
  rw [State.well, updWell_wells, State.well, List.getD_eq_getElem?_getD, List.getD_eq_getElem?_getD, List.getElem?_modify_eq]
  cases s.wells[n]? <;> rfl

theorem dbgTask_of_rangingSlot {s : State} {e : EngRef} (h : s.rangingSlot e = true) : s.dbgTask e = none :=
  if_pos (by simp [h])

/-- A task that DBG_ENG may not reach answers 0. -/
theorem dbgDenied_of_tapNow {s : State} (h : s.tapNow = 0x11) (e : EngRef) (op : Nat) :
    s.dbgDenied e op = s.emit (.tdo (dbgEngBytes e op 0 false 0)) := if_pos h

/-- Settles O50: the selected instruction and the scope decide each row. -/
theorem debugPort : Obligations.DebugPort := by
  unfold Obligations.DebugPort
  refine ⟨fun s => rfl, ?instruction, ?extest, ?mem, ?eng, ?ranging⟩
  case instruction =>
    rintro s u c rfl
    refine ⟨fun h => ?_, fun h => ?_, fun h1 h2 hff => ?_, fun h => ?_⟩
    · show Host.Outcome.next (s.selectTap c).captureDr = _
      simp [State.captureDr, h]
    · show Host.Outcome.next (s.selectTap c).captureDr = _
      simp [State.captureDr, h]
    · show Host.Outcome.next (s.selectTap c).captureDr = _
      unfold State.captureDr
      split
      · next h => exact absurd h h1
      · next h => exact absurd h h2
      · next h => exact absurd h hff
      · rfl
    · show Host.Outcome.next (s.selectTap c).captureDr = _
      simp [State.captureDr, h]
  case extest =>
    exact fun s c => ⟨rfl, rfl⟩
  case mem =>
    intro s dr htap
    have htap' : ¬ s.tapNow ≠ 0x10 := not_not.mpr htap
    refine ⟨fun hbad => ?_, fun hal hread hraw => ?_, fun hraw hread => ?_, fun hal hwrite hscope => ?_⟩
    · refine ⟨_, congrArg Host.Outcome.next ((if_neg htap').trans (if_pos ?_)), rfl⟩
      simpa using hbad
    · refine congrArg Host.Outcome.next ((if_neg htap').trans ((if_neg (by simp [hal, hread])).trans ?_))
      exact (if_neg (by rw [hread]; decide)).trans ((if_neg hraw).trans (by rw [← hread]))
    · refine ⟨s.updWell (s.fld Fd.WH_CTL_RAW_HALF) (fun x => { x with raw := x.raw.tail }), ?_, raw_updWell_tail _ _, rfl⟩
      refine congrArg Host.Outcome.next ((if_neg htap').trans ((if_neg ?_).trans ?_))
      · have hal : Reg.WH_RAW % 4 = 0 := by decide
        simp [hraw, hread, hal]
      · exact (if_neg (by rw [hread]; decide)).trans ((if_pos hraw).trans (by rw [hraw]))
    · refine ⟨(s.dbgWrite (bitsOf dr.toNat 21 1) (bitsOf dr.toNat 55 24)).2, ?_⟩
      refine congrArg Host.Outcome.next ((if_neg htap').trans ((if_neg (by simp [hal, hscope])).trans ?_))
      exact (if_pos hwrite).trans (by rw [← hwrite])
  case eng =>
    intro s e t r htask htap
    have htap' : ¬ s.tapNow ≠ 0x11 := not_not.mpr htap
    refine ⟨?_, ?_, fun hend => ?_, fun hhalt => ⟨?_, ?_⟩⟩
    · refine congrArg Host.Outcome.next ((if_neg htap').trans ?_)
      rw [htask]
      rfl
    · refine congrArg Host.Outcome.next ((if_neg htap').trans ?_)
      rw [htask]
      rfl
    · show execDbgEngHalt e s = _
      simp only [execDbgEngHalt, htask, hend, if_false]
    · show execDbgEngStep e s = _
      simp only [execDbgEngStep, htask, hhalt, if_true]
    · show execDbgEngResume e s = _
      simp only [execDbgEngResume, htask, hhalt, if_true]
  case ranging =>
    intro s e r spec hslot htap
    have htap' : ¬ s.tapNow ≠ 0x11 := not_not.mpr htap
    have hnone := dbgTask_of_rangingSlot hslot
    refine ⟨?_, ?_, ?_, ?_⟩
    · refine congrArg Host.Outcome.next ((if_neg htap').trans ?_)
      rw [hnone]
    · show execDbgEngHalt e s = _
      simp only [execDbgEngHalt, hnone, dbgDenied_of_tapNow htap]
    · show execDbgEngStep e s = _
      simp only [execDbgEngStep, hnone, dbgDenied_of_tapNow htap]
    · show execDbgEngResume e s = _
      simp only [execDbgEngResume, hnone, dbgDenied_of_tapNow htap]

end Sys2Proof.Machine
end

section
/-! PROOF. The card: activation, the conditions poll, a response, removal, the transaction's timeout and clock stop
(21_card_port_and_can.md R706-R718). -/

namespace Sys2Proof.Machine

/-- Settles O51: each row's guards hold, so it takes the branch the clause names. -/
theorem cardPort : Obligations.CardPort := by
  unfold Obligations.CardPort
  refine ⟨?insert, ?atrTimeout, ?atr, ?poll, ?condOver, ?response, ?removed, ?lost, ?txn, ?stop⟩
  case insert => exact fun s h => congrArg Host.Outcome.next (if_neg (by simp [h]))
  case atrTimeout => exact fun s h => congrArg Host.Outcome.next (if_pos h)
  case atr =>
    intro s a hstate
    refine ⟨fun hbad => ?_, fun hlo hhi hgap => ?_⟩
    · refine congrArg Host.Outcome.next ((if_neg (not_not.mpr hstate)).trans (if_pos ?_))
      simpa [or_assoc] using hbad
    · refine congrArg Host.Outcome.next ((if_neg (not_not.mpr hstate)).trans ((if_neg (by simp [hlo, hhi, hgap])).trans ?_))
      rfl
  case poll =>
    rintro s u r hstate hopen hdue rfl
    have hover : ¬s.condOver = true := by simp [State.condOver, hopen]
    have hnow : ¬s.deviceTime < s.card.pollAt := by omega
    refine ⟨fun hlen hend hver => ⟨fun hready => ?_, fun hagain => ?_⟩, fun hbad => ?_⟩
    · refine congrArg Host.Outcome.next ((if_neg (not_not.mpr hstate)).trans ((if_neg hover).trans ((if_neg hnow).trans
        ((if_neg ?_).trans (if_neg ?_)))))
      · simp [hlen, hend, hver, hready]
      · rw [hready]
        decide
    · refine congrArg Host.Outcome.next ((if_neg (not_not.mpr hstate)).trans ((if_neg hover).trans ((if_neg hnow).trans
        ((if_neg ?_).trans (if_pos hagain)))))
      simp [hlen, hend, hver, hagain]
    · refine congrArg Host.Outcome.next ((if_neg (not_not.mpr hstate)).trans ((if_neg hover).trans ((if_neg hnow).trans
        (if_pos ?_))))
      simpa [or_assoc] using hbad
  case condOver =>
    intro s hstate hover r
    exact congrArg Host.Outcome.next ((if_neg (not_not.mpr hstate)).trans (if_pos (decide_eq_true hover)))
  case response =>
    rintro s u k r hbusy hresp hlo hhi rfl
    show execCardResponse r s = _
    simp only [execCardResponse, hbusy]
    exact congrArg Host.Outcome.next (if_neg (by simp [hresp, hhi]; omega))
  case removed =>
    rintro s u hpresent rfl
    show execCardRemove false s = _
    refine congrArg Host.Outcome.next ((if_neg (by simp [hpresent])).trans ?_)
    simp only [Bool.false_eq_true, if_false, pgCard]
  case lost =>
    rintro s u hpresent hstate rfl
    have hloss : ¬(s.fld Fd.CD_STAT_PRESENT = 0 || (true && (s.fld Fd.CD_STAT_STATE = 0 || s.fld Fd.CD_STAT_STATE = 1 ||
        s.fld Fd.CD_STAT_STATE = 4))) = true := by
      simp only [List.mem_cons, List.not_mem_nil, or_false] at hstate
      rcases hstate with h | h | h <;> simp [hpresent, h]
    show execCardRemove true s = _
    refine congrArg Host.Outcome.next ((if_neg hloss).trans ?_)
    simp only [if_true]
  case txn =>
    intro s x htxn hgates hbusy hdue
    show execCardTxnTimeout s = _
    simp only [execCardTxnTimeout, htxn]
    exact congrArg Host.Outcome.next (if_neg (by simp [hgates, hbusy, hdue]))
  case stop =>
    intro s hok hstate hbusy hdue
    exact congrArg Host.Outcome.next (if_pos (by simp [hok, hstate, hbusy, hdue]))

end Sys2Proof.Machine
end

section
/-! PROOF. Every step keeps a sound state sound (00_scope.md, 11_kalmel_engines.md, 16_ee_store.md): the canonical form of the
registers, the EE store and the engine pools, and one lemma for each function of the model that answers a state. -/

namespace Sys2Proof.Machine

-- The lemmas below are many and short: checked one after another, they keep the number of waiting threads small.
set_option Elab.async false

variable {W M : Prop} {s t : State}

/-! ### The canonical form, part by part -/

theorem wf_ite {c : Prop} [Decidable c] {m n : List Host.Cell} (hm : Memory.wf m = true) (hn : Memory.wf n = true) :
    Memory.wf (if c then m else n) = true := by split <;> assumption

/-- The registers rise in address; where W holds none of them has its reset value, and where M holds the EE store and the pools
are canonical too. The two propositions let one proof serve the order of the registers alone and soundness as a whole. -/
structure State.Tidy (W M : Prop) (s : State) : Prop where
  rising : mapRising 0 s.regs = true
  words : W → regsWf s.regs = true
  store : M → Memory.wf s.ee.mem = true
  pools : M → Memory.wf s.kalmel.pools = true

theorem tidy_iff_sound : s.Tidy True True ↔ s.sound = true := by
  rw [sound_iff]
  exact ⟨fun h => ⟨h.words trivial, h.store trivial, h.pools trivial⟩,
    fun ⟨hr, hm, hp⟩ => ⟨regsWf_rising hr, fun _ => hr, fun _ => hm, fun _ => hp⟩⟩

theorem tidy_of_rising (h : mapRising 0 s.regs = true) : s.Tidy False False :=
  ⟨h, False.elim, False.elim, False.elim⟩

namespace State.Tidy

/-- A change of any part but the registers. The statement names every part, so that the state changed is read off the
registers. -/
theorem of_parts (h : s.Tidy W M) {pending out draws deviceTime refPhase supply gatesOpen retry linkUp vfEnable numVfs d3hot fns parts
    inflight admitted gated txns noEntropy life domains strapCompat keys units wells halves flows spill lanes frames nextFrame hs lf
    bc uhf uwb acc immo power ledger tamper lc card can journals boot bootAt capDone rtc} {ee : EeSt} {kalmel : KalmelSt}
    (hm : M → Memory.wf ee.mem = true) (hp : M → Memory.wf kalmel.pools = true) :
    State.Tidy W M ⟨pending, out, draws, deviceTime, refPhase, s.regs, supply, gatesOpen, retry, linkUp, vfEnable, numVfs, d3hot,
      fns, parts, inflight, admitted, gated, txns, noEntropy, life, domains, strapCompat, keys, units, wells, halves, ee, kalmel,
      flows, spill, lanes, frames, nextFrame, hs, lf, bc, uhf, uwb, acc, immo, power, ledger, tamper, lc, card, can, journals, boot,
      bootAt, capDone, rtc⟩ :=
  ⟨h.rising, h.words, hm, hp⟩

/-- A change that leaves the EE store's bytes and the pools too. -/
theorem frame (h : s.Tidy W M) {pending out draws deviceTime refPhase supply gatesOpen retry linkUp vfEnable numVfs d3hot fns parts
    inflight admitted gated txns noEntropy life domains strapCompat keys units wells halves flows spill lanes frames nextFrame hs lf
    bc uhf uwb acc immo power ledger tamper lc card can journals boot bootAt capDone rtc} {ee : EeSt} {kalmel : KalmelSt}
    (hm : ee.mem = s.ee.mem := by rfl) (hp : kalmel.pools = s.kalmel.pools := by rfl) :
    State.Tidy W M ⟨pending, out, draws, deviceTime, refPhase, s.regs, supply, gatesOpen, retry, linkUp, vfEnable, numVfs, d3hot,
      fns, parts, inflight, admitted, gated, txns, noEntropy, life, domains, strapCompat, keys, units, wells, halves, ee, kalmel,
      flows, spill, lanes, frames, nextFrame, hs, lf, bc, uhf, uwb, acc, immo, power, ledger, tamper, lc, card, can, journals, boot,
      bootAt, capDone, rtc⟩ :=
  h.of_parts (fun m => hm ▸ h.store m) (fun m => hp ▸ h.pools m)

/-- A change of registers alone. -/
theorem of_regs (h : s.Tidy W M) (hrise : mapRising 0 t.regs = true) (hwf : W → regsWf t.regs = true)
    (hm : t.ee.mem = s.ee.mem) (hp : t.kalmel.pools = s.kalmel.pools) : t.Tidy W M :=
  ⟨hrise, hwf, fun m => hm ▸ h.store m, fun m => hp ▸ h.pools m⟩

theorem ite {c : Prop} [Decidable c] (hs : s.Tidy W M) (ht : t.Tidy W M) : (if c then s else t).Tidy W M := by
  split <;> assumption

theorem foldl {α : Type} {f : State → α → State} {l : List α} (hf : ∀ s a, s.Tidy W M → (f s a).Tidy W M) (hs : s.Tidy W M) :
    (l.foldl f s).Tidy W M := by
  induction l generalizing s with
  | nil => exact hs
  | cons a l ih => exact ih (hf s a hs)

end State.Tidy

/-! ### Answers that carry a state -/

/-- The outcome's next state, if it has one. -/
def TidyOutcome (W M : Prop) : Host.Outcome State Fault Refusal → Prop
  | .next s => s.Tidy W M
  | _ => True

theorem TidyOutcome.next (h : s.Tidy W M) : TidyOutcome W M (.next s) := h

theorem TidyOutcome.of_next {o : Host.Outcome State Fault Refusal} (h : TidyOutcome W M o) (e : o = .next s) : s.Tidy W M := by
  subst e
  exact h

theorem TidyOutcome.ite {c : Prop} [Decidable c] {a b : Host.Outcome State Fault Refusal} (ha : TidyOutcome W M a)
    (hb : TidyOutcome W M b) : TidyOutcome W M (if c then a else b) := by split <;> assumption

/-- The state of an answer that may be none. -/
def TidyOption (W M : Prop) (o : Option State) : Prop := ∀ s, o = some s → s.Tidy W M

namespace TidyOption

theorem get {o : Option State} (h : TidyOption W M o) (e : o = some s) : s.Tidy W M := h s e

theorem some (h : s.Tidy W M) : TidyOption W M (some s) := by
  rintro _ ⟨⟩
  exact h

theorem none : TidyOption W M none := fun _ e => absurd e.symm (Option.some_ne_none _)

theorem ite {c : Prop} [Decidable c] {a b : Option State} (ha : TidyOption W M a) (hb : TidyOption W M b) :
    TidyOption W M (if c then a else b) := by split <;> assumption

end TidyOption

/-- The state of an answer that may be none and names a number too. -/
def TidyPair (W M : Prop) (o : Option (Nat × State)) : Prop := ∀ n s, o = some (n, s) → s.Tidy W M

namespace TidyPair

theorem get {o : Option (Nat × State)} {n : Nat} (h : TidyPair W M o) (e : o = some (n, s)) : s.Tidy W M := h n s e

theorem some {n : Nat} (h : s.Tidy W M) : TidyPair W M (some (n, s)) := by
  rintro _ _ ⟨⟩
  exact h

theorem none : TidyPair W M none := fun _ _ e => absurd e.symm (Option.some_ne_none _)

theorem map {o : Option State} {n : Nat} (h : TidyOption W M o) : TidyPair W M (o.map (fun t => (n, t))) := by
  intro m t e
  obtain ⟨u, hu, hut⟩ := Option.map_eq_some_iff.mp e
  cases hut
  exact h.get hu

end TidyPair

/-- The state a command's work leaves. -/
def Work.Tidy (W M : Prop) : Work → Prop
  | .finish s _ => s.Tidy W M
  | .more s => s.Tidy W M
  | .commit s _ => s.Tidy W M

namespace Work.Tidy

variable {w v : Work} {r : Reply}

theorem finish (h : s.Tidy W M) : (Work.finish s r).Tidy W M := h
theorem more (h : s.Tidy W M) : (Work.more s).Tidy W M := h
theorem commit (h : s.Tidy W M) : (Work.commit s r).Tidy W M := h

theorem of_finish (h : w.Tidy W M) (e : w = .finish s r) : s.Tidy W M := by
  subst e
  exact h

theorem of_more (h : w.Tidy W M) (e : w = .more s) : s.Tidy W M := by
  subst e
  exact h

theorem of_commit (h : w.Tidy W M) (e : w = .commit s r) : s.Tidy W M := by
  subst e
  exact h

theorem ite {c : Prop} [Decidable c] (hw : w.Tidy W M) (hv : v.Tidy W M) : (if c then w else v).Tidy W M := by
  split <;> assumption

end Work.Tidy

/-- The state in which the use of a key was asked for. -/
def Take.Tidy (W M : Prop) : Take → Prop
  | .ok s => s.Tidy W M
  | .exhausted s => s.Tidy W M
  | .wait s => s.Tidy W M

namespace Take.Tidy

variable {x y : Take}

theorem ok (h : s.Tidy W M) : (Take.ok s).Tidy W M := h
theorem exhausted (h : s.Tidy W M) : (Take.exhausted s).Tidy W M := h
theorem wait (h : s.Tidy W M) : (Take.wait s).Tidy W M := h

theorem of_ok (h : x.Tidy W M) (e : x = .ok s) : s.Tidy W M := by
  subst e
  exact h

theorem of_exhausted (h : x.Tidy W M) (e : x = .exhausted s) : s.Tidy W M := by
  subst e
  exact h

theorem of_wait (h : x.Tidy W M) (e : x = .wait s) : s.Tidy W M := by
  subst e
  exact h

theorem ite {c : Prop} [Decidable c] (hx : x.Tidy W M) (hy : y.Tidy W M) : (if c then x else y).Tidy W M := by
  split <;> assumption

end Take.Tidy

/-- The state a message's work leaves. -/
def MsgEnd.Tidy (W M : Prop) : MsgEnd → Prop
  | .ok s _ _ => s.Tidy W M
  | .fail s _ _ => s.Tidy W M
  | .wait s _ => s.Tidy W M
  | .hold s => s.Tidy W M

namespace MsgEnd.Tidy

variable {x y : MsgEnd} {raw : Bytes} {fv cand : Nat} {r : FlowFail}

theorem ok (h : s.Tidy W M) : (MsgEnd.ok s raw fv).Tidy W M := h
theorem fail (h : s.Tidy W M) : (MsgEnd.fail s r fv).Tidy W M := h
theorem wait (h : s.Tidy W M) : (MsgEnd.wait s cand).Tidy W M := h
theorem hold (h : s.Tidy W M) : (MsgEnd.hold s).Tidy W M := h

theorem of_ok (h : x.Tidy W M) (e : x = .ok s raw fv) : s.Tidy W M := by
  subst e
  exact h

theorem of_fail (h : x.Tidy W M) (e : x = .fail s r fv) : s.Tidy W M := by
  subst e
  exact h

theorem of_wait (h : x.Tidy W M) (e : x = .wait s cand) : s.Tidy W M := by
  subst e
  exact h

theorem of_hold (h : x.Tidy W M) (e : x = .hold s) : s.Tidy W M := by
  subst e
  exact h

theorem ite {c : Prop} [Decidable c] (hx : x.Tidy W M) (hy : y.Tidy W M) : (if c then x else y).Tidy W M := by
  split <;> assumption

end MsgEnd.Tidy

/-- The state a task's request leaves. -/
def ReqEnd.Tidy (W M : Prop) : ReqEnd → Prop
  | .done s _ _ => s.Tidy W M
  | .wait s => s.Tidy W M

namespace ReqEnd.Tidy

variable {x y : ReqEnd} {r : Reply} {g : List Staged}

theorem done (h : s.Tidy W M) : (ReqEnd.done s r g).Tidy W M := h
theorem wait (h : s.Tidy W M) : (ReqEnd.wait s).Tidy W M := h

theorem of_done (h : x.Tidy W M) (e : x = .done s r g) : s.Tidy W M := by
  subst e
  exact h

theorem of_wait (h : x.Tidy W M) (e : x = .wait s) : s.Tidy W M := by
  subst e
  exact h

theorem ite {c : Prop} [Decidable c] (hx : x.Tidy W M) (hy : y.Tidy W M) : (if c then x else y).Tidy W M := by
  split <;> assumption

end ReqEnd.Tidy

/-- The state a check of a store region leaves. -/
def StoreCheck.Tidy (W M : Prop) : StoreCheck → Prop
  | .ok s => s.Tidy W M
  | .refused s _ => s.Tidy W M

namespace StoreCheck.Tidy

variable {x y : StoreCheck} {r : Reply}

theorem ok (h : s.Tidy W M) : (StoreCheck.ok s).Tidy W M := h
theorem refused (h : s.Tidy W M) : (StoreCheck.refused s r).Tidy W M := h

theorem of_ok (h : x.Tidy W M) (e : x = .ok s) : s.Tidy W M := by
  subst e
  exact h

theorem of_refused (h : x.Tidy W M) (e : x = .refused s r) : s.Tidy W M := by
  subst e
  exact h

theorem ite {c : Prop} [Decidable c] (hx : x.Tidy W M) (hy : y.Tidy W M) : (if c then x else y).Tidy W M := by
  split <;> assumption

end StoreCheck.Tidy

/-- The pools an instruction runs on. -/
def KCtx.Tidy (M : Prop) (k : KCtx) : Prop := M → Memory.wf k.pool = true

/-- A change of the task or of its data memory. -/
theorem KCtx.Tidy.frame {k l : KCtx} (h : k.Tidy M) (e : l.pool = k.pool := by rfl) : l.Tidy M := fun m => e ▸ h m

/-- The pools an instruction leaves. -/
def KOut.Tidy (M : Prop) : KOut → Prop
  | .go k => k.Tidy M
  | .goto k _ => k.Tidy M
  | .fault _ => True

namespace KOut.Tidy

variable {o p : KOut} {k : KCtx} {a : Nat} {x : KFault}

theorem go (h : k.Tidy M) : (KOut.go k).Tidy M := h
theorem goto (h : k.Tidy M) : (KOut.goto k a).Tidy M := h
theorem fault : (KOut.fault x).Tidy M := trivial

theorem of_go (h : o.Tidy M) (e : o = .go k) : k.Tidy M := by
  subst e
  exact h

theorem of_goto (h : o.Tidy M) (e : o = .goto k a) : k.Tidy M := by
  subst e
  exact h

theorem ite {c : Prop} [Decidable c] (ho : o.Tidy M) (hp : p.Tidy M) : (if c then o else p).Tidy M := by
  split <;> assumption

end KOut.Tidy

/-! ### One lemma for each function that answers a state, in the order in which they use one another -/

theorem State.Tidy.updCan (hs : s.Tidy W M) {n f} : (s.updCan n f).Tidy W M := by
  unfold State.updCan
  exact hs.frame

theorem State.Tidy.emit (hs : s.Tidy W M) {o} : (s.emit o).Tidy W M := by
  unfold State.emit
  exact hs.frame

theorem State.Tidy.setReg (hs : s.Tidy W M) {a w} : (s.setReg a w).Tidy W M :=
  .of_regs hs (mapRising_mapSet _ hs.rising (Nat.zero_le _) _) (fun h => regsWf_setReg (hs.words h) a w) rfl rfl

theorem State.Tidy.setFld (hs : s.Tidy W M) {f v} : (s.setFld f v).Tidy W M := by
  unfold State.setFld
  exact hs.setReg

theorem State.Tidy.canErrors (hs : s.Tidy W M) {n tec rec'} : (s.canErrors n tec rec').Tidy W M := by
  unfold State.canErrors
  exact hs.setFld.setFld.setFld

theorem State.Tidy.canStart (hs : s.Tidy W M) {n} : (s.canStart n).Tidy W M := by
  unfold State.canStart
  exact .ite hs.updCan.setFld hs

theorem State.Tidy.bump (hs : s.Tidy W M) {f n} : (s.bump f n).Tidy W M := by
  unfold State.bump
  exact hs.setFld

theorem State.Tidy.setFn (hs : s.Tidy W M) {p f} : (s.setFn p f).Tidy W M := by
  unfold State.setFn
  exact hs.frame

theorem State.Tidy.sendMsg (hs : s.Tidy W M) {p v} : (s.sendMsg p v).Tidy W M := by
  unfold State.sendMsg
  exact .ite hs (.ite hs.setFn (.ite hs.emit hs))

theorem State.Tidy.updPart (hs : s.Tidy W M) {p f} : (s.updPart p f).Tidy W M := by
  unfold State.updPart
  exact hs.frame

theorem State.Tidy.writeEvent (hs : s.Tidy W M) {p r e} : (s.writeEvent p r e).Tidy W M := by
  unfold State.writeEvent
  exact .ite hs.emit.updPart.sendMsg hs.emit.updPart

theorem State.Tidy.postTo (hs : s.Tidy W M) {p e} : (s.postTo p e).Tidy W M := by
  unfold State.postTo
  split
  · exact hs
  · split
    · exact .ite hs.updPart (.ite (.ite hs.updPart hs.writeEvent) (.ite hs.updPart hs.updPart))
    · exact .ite hs.updPart hs.updPart

theorem State.Tidy.post (hs : s.Tidy W M) {p code src detail} : (s.post p code src detail).Tidy W M := by
  unfold State.post
  exact hs.postTo

theorem State.Tidy.intNotify (hs : s.Tidy W M) {pg old} : (s.intNotify pg old).Tidy W M := by
  unfold State.intNotify
  exact .ite hs (.ite hs.post (.ite hs.sendMsg hs))

theorem State.Tidy.raise (hs : s.Tidy W M) {pg mask} : (s.raise pg mask).Tidy W M := by
  unfold State.raise
  exact hs.setFld.intNotify

theorem State.Tidy.canWithdraw (hs : s.Tidy W M) {n k} : (s.canWithdraw n k).Tidy W M := by
  unfold State.canWithdraw
  exact .ite hs hs.bump.raise

theorem State.Tidy.canFlush (hs : s.Tidy W M) {n} : (s.canFlush n).Tidy W M := by
  unfold State.canFlush
  exact hs.updCan.canWithdraw

theorem State.Tidy.canStop (hs : s.Tidy W M) {n} : (s.canStop n).Tidy W M := by
  unfold State.canStop
  exact hs.setFld.setFld.setFld

theorem State.Tidy.canSettle (hs : s.Tidy W M) {n} : (s.canSettle n).Tidy W M := by
  unfold State.canSettle
  exact .ite hs.canFlush.canStop (.ite hs.canStart (.ite hs (.ite hs.canStop hs)))

theorem State.Tidy.execTokenTransmitted (hs : s.Tidy W M) {n tec rec'} : TidyOutcome W M (execTokenTransmitted n tec rec' s) := by
  unfold Machine.execTokenTransmitted
  refine .next ?_
  split
  · exact hs
  · exact .ite hs hs.updCan.emit.canErrors.canSettle

theorem State.Tidy.updTamper (hs : s.Tidy W M) {f} : (s.updTamper f).Tidy W M := by
  unfold State.updTamper
  exact hs.frame

theorem State.Tidy.writeEntry (hs : s.Tidy W M) {e} : (s.writeEntry e).Tidy W M := by
  unfold State.writeEntry
  exact hs.updTamper.postTo

theorem State.Tidy.flushLog (hs : s.Tidy W M) : (s.flushLog).Tidy W M := by
  unfold State.flushLog
  exact .foldl (fun _ _ h => h.writeEntry) hs.updTamper

theorem State.Tidy.postAccess (hs : s.Tidy W M) {code detail} : (s.postAccess code detail).Tidy W M := by
  unfold State.postAccess
  split
  · exact hs.post
  · exact hs

theorem State.Tidy.suspect (hs : s.Tidy W M) {fob kind slot rng rssi ref} : (s.suspect fob kind slot rng rssi ref).Tidy W M := by
  unfold State.suspect
  exact hs.postAccess.bump.raise

theorem State.Tidy.invalidAnswer (hs : s.Tidy W M) {x fob slot rssi nonceK correlate} :
    (s.invalidAnswer x fob slot rssi nonceK correlate).Tidy W M := by
  unfold State.invalidAnswer
  refine .ite hs.bump ?_
  split
  · exact hs.bump.suspect
  · split
    · exact hs.bump.suspect
    · exact hs.bump

theorem State.Tidy.rejectAnswer (hs : s.Tidy W M) {x c fob slot rssi nonceK} :
    (s.rejectAnswer x c fob slot rssi nonceK).Tidy W M := by
  unfold State.rejectAnswer
  split
  · exact hs.invalidAnswer
  · exact hs.invalidAnswer
  · exact hs.bump.suspect
  · exact hs.bump.suspect
  · exact hs
  · exact hs

theorem State.Tidy.setAcc (hs : s.Tidy W M) {f} : (s.setAcc f).Tidy W M := by
  unfold State.setAcc
  exact hs.frame

theorem State.Tidy.logNonce (hs : s.Tidy W M) {fob nonce} : (s.logNonce fob nonce).Tidy W M := by
  unfold State.logNonce
  exact hs.setAcc

theorem State.Tidy.updSession (hs : s.Tidy W M) {f} : (s.updSession f).Tidy W M := by
  unfold State.updSession
  exact hs.frame

theorem State.Tidy.acceptAnswer (hs : s.Tidy W M) {r payload} : (s.acceptAnswer r payload).Tidy W M := by
  unfold State.acceptAnswer
  exact hs.bump.logNonce.updSession

theorem State.Tidy.requestLf (hs : s.Tidy W M) {r} : (s.requestLf r).Tidy W M := by
  unfold State.requestLf
  exact hs.frame

theorem State.Tidy.updWell (hs : s.Tidy W M) {n f} : (s.updWell n f).Tidy W M := by
  unfold State.updWell
  exact hs.frame

theorem State.Tidy.bellows (hs : s.Tidy W M) {n} : (s.bellows n).Tidy W M := by
  unfold State.bellows
  exact .ite (.ite hs.updWell.setFld hs) (.ite hs (.ite hs.updWell (.ite hs hs.updWell.bump.raise)))

theorem State.Tidy.drawAt (hs : s.Tidy W M) {pref n} : (s.drawAt pref n).Tidy W M := by
  unfold State.drawAt
  exact hs.bellows.frame.updWell

theorem State.Tidy.draw (hs : s.Tidy W M) {n} : (s.draw n).Tidy W M := by
  unfold State.draw
  exact hs.drawAt

theorem State.Tidy.sendChallenge (hs : s.Tidy W M) {x} : (s.sendChallenge x).Tidy W M := by
  unfold State.sendChallenge
  exact hs.draw.updSession.requestLf

theorem State.Tidy.challenge (hs : s.Tidy W M) : (s.challenge).Tidy W M := by
  unfold State.challenge
  split
  · exact hs
  · exact .ite hs.updSession hs.sendChallenge

theorem State.Tidy.setDomains (hs : s.Tidy W M) {d} : (s.setDomains d).Tidy W M := by
  have hmem : ∀ (e : EeSt) (now : Nat) (was on : Bool), (e.power now was on).mem = e.mem := by
    intro e now was on
    unfold EeSt.power
    split_ifs <;> rfl
  exact hs.frame (hm := hmem _ _ _ _)

theorem State.Tidy.setSession (hs : s.Tidy W M) {x} : (s.setSession x).Tidy W M := by
  unfold State.setSession
  exact hs.setDomains.frame.setFld

theorem State.Tidy.postCollision (hs : s.Tidy W M) {x slot} : (s.postCollision x slot).Tidy W M := by
  unfold State.postCollision
  exact hs.postAccess

theorem State.Tidy.showRound (hs : s.Tidy W M) {x fob r} : (s.showRound x fob r).Tidy W M := by
  unfold State.showRound
  extract_lets ok s1 s2 s3 s4 s5 s6 s7
  have h1 : s1.Tidy W M := hs.setFld.setFld.setFld.setFld.setFld.setFld
  have h2 : s2.Tidy W M := h1.setFld.setFld
  have h3 : s3.Tidy W M := h2.setFld.setFld.setFld.setFld.setFld
  have h4 : s4.Tidy W M := h3.setFld.setFld.setFld.setFld
  have h5 : s5.Tidy W M := h4.setFld.setFld
  have h6 : s6.Tidy W M := h5.bump
  refine .raise ?_
  clear_value s6
  unfold s7
  split
  any_goals exact h6.bump
  exact h6

theorem State.Tidy.showStore (hs : s.Tidy W M) : (s.showStore).Tidy W M := by
  unfold State.showStore
  exact hs.setFld

theorem State.Tidy.spend (hs : s.Tidy W M) {nc} : (s.spend nc).Tidy W M := by
  unfold State.spend
  exact .ite hs.frame.setFld.setFld.showStore.raise hs.frame.setFld.setFld.showStore

theorem State.Tidy.free (hs : s.Tidy W M) : (s.free).2.Tidy W M := by
  unfold State.free
  exact hs.frame

theorem State.Tidy.book (hs : s.Tidy W M) {b} : (s.book b).Tidy W M := by
  unfold State.book
  dsimp only
  split
  · exact hs.free.spend
  · exact hs.free.spend
  · exact .ite hs hs.free.spend
  · exact .ite hs hs.free.spend
  · exact .ite hs hs.free.spend
  · exact .ite hs hs.free.spend

theorem State.Tidy.abortRound (hs : s.Tidy W M) : (s.abortRound).Tidy W M := by
  unfold State.abortRound
  split
  · exact hs.showRound.book.frame
  · exact hs

theorem State.Tidy.portsPower (hs : s.Tidy W M) {m} : (s.portsPower m).Tidy W M := by
  unfold State.portsPower
  exact hs.frame.setDomains

theorem State.Tidy.stopRanging (hs : s.Tidy W M) : (s.stopRanging).Tidy W M := by
  unfold State.stopRanging
  exact hs.abortRound.portsPower.frame

theorem State.Tidy.bcOff (hs : s.Tidy W M) {st} : (s.bcOff st).Tidy W M := by
  unfold State.bcOff
  split
  · exact hs
  · exact hs.book.frame.setFld.raise

theorem State.Tidy.closeSession (hs : s.Tidy W M) : (s.closeSession).Tidy W M := by
  unfold State.closeSession
  refine .setSession (.frame ?_)
  split
  · exact .foldl (fun _ _ h => h.postCollision) hs.stopRanging.bcOff
  · exact hs.stopRanging.bcOff

theorem State.Tidy.postDecision (hs : s.Tidy W M) {d} : (s.postDecision d).Tidy W M := by
  unfold State.postDecision
  exact .raise (.setAcc (.ite hs.postAccess.setFld.setFld.setFld.setFld.setFld.bump
      hs.postAccess.setFld.setFld.setFld.setFld.setFld.bump))

theorem State.Tidy.openSession (hs : s.Tidy W M) {src target} : (s.openSession src target).Tidy W M := by
  unfold State.openSession
  exact .ite hs (.ite (.ite hs.setSession.setFld.closeSession hs.setSession.setFld.bump.postDecision.closeSession) (.ite (.ite
      hs.setSession.setFld hs.setSession.setFld.bump) (.challenge (.ite hs.setSession.setFld hs.setSession.setFld.bump))))

theorem State.Tidy.serveQueue (hs : s.Tidy W M) {n} : (s.serveQueue n).Tidy W M := by
  induction n generalizing s with
  | zero => exact hs
  | succ n ih =>
    unfold State.serveQueue
    split
    · exact ih hs.setAcc.setFld.openSession
    · exact hs

theorem State.Tidy.endSession (hs : s.Tidy W M) : (s.endSession).Tidy W M := by
  unfold State.endSession
  exact hs.closeSession.serveQueue

theorem State.Tidy.queueToken (hs : s.Tidy W M) {t} : (s.queueToken t).Tidy W M := by
  unfold State.queueToken
  exact hs.frame

theorem State.Tidy.pulse (hs : s.Tidy W M) {e} : (s.pulse e).Tidy W M := by
  unfold State.pulse
  exact hs.setAcc

theorem State.Tidy.openStream (hs : s.Tidy W M) {fob backup} : (s.openStream fob backup).Tidy W M := by
  unfold State.openStream
  split
  · exact hs
  · exact hs.frame.setFld.setFld.raise

theorem State.Tidy.releaseOutputs (hs : s.Tidy W M) {target fob backup} : (s.releaseOutputs target fob backup).Tidy W M := by
  unfold State.releaseOutputs
  exact .ite hs.openStream (.ite hs.pulse.queueToken hs.pulse)

theorem State.Tidy.settle (hs : s.Tidy W M) {d} : (s.settle d).Tidy W M := by
  unfold State.settle
  exact .endSession (.ite (.releaseOutputs (.postDecision (.ite hs.bump hs))) (.postDecision (.ite hs.bump hs)))

theorem State.Tidy.decision (hs : s.Tidy W M) {d} : (s.decision d).Tidy W M := by
  unfold State.decision
  exact .ite hs.settle (.ite hs.endSession hs.settle)

theorem State.Tidy.updEng (hs : s.Tidy W M) {e f} : (s.updEng e f).Tidy W M := by
  unfold State.updEng
  exact hs.frame

theorem State.Tidy.moveTask (hs : s.Tidy W M) {e d t} : (s.moveTask e d t).Tidy W M := by
  unfold State.moveTask
  exact hs.updEng.updEng.bump

theorem State.Tidy.skew (hs : s.Tidy W M) : (s.skew).2.Tidy W M := by
  unfold State.skew
  split
  · exact hs
  · exact hs.drawAt

theorem State.Tidy.startCopy (hs : s.Tidy W M) {e b} : (s.startCopy e b).Tidy W M := by
  unfold State.startCopy
  exact .ite hs hs.skew.updEng

theorem State.Tidy.startTask (hs : s.Tidy W M) {e b img} : (s.startTask e b img).Tidy W M := by
  unfold State.startTask
  refine .startCopy (.updEng (.of_parts hs hs.store fun m => ?_))
  have hfirst : ∀ c : Bool, Memory.wf (match (s.eng e).last with
      | some (_, _, base, lim) => if c then zeroPool s.kalmel.pools (poolOrg e.half + base) lim else s.kalmel.pools
      | none => s.kalmel.pools) = true := by
    intro c
    split
    · split
      · exact wf_zeroPool (hs.pools m) _ _
      · exact hs.pools m
    · exact hs.pools m
  exact wf_ite (wf_zeroPool (hfirst _) _ _) (hfirst _)

theorem State.Tidy.abortTask (hs : s.Tidy W M) {e} : (s.abortTask e).Tidy W M := by
  unfold State.abortTask
  split
  · exact hs.updEng
  · exact hs

theorem State.Tidy.leave (hs : s.Tidy W M) {e} : (s.leave e).Tidy W M := by
  unfold State.leave
  split
  · exact hs
  · refine .ite hs ?_
    split
    · exact hs.abortTask
    · exact .ite hs.abortTask.startTask hs.moveTask

theorem State.Tidy.claimTwin31 (hs : s.Tidy W M) : (s.claimTwin31).Tidy W M := by
  unfold State.claimTwin31
  exact .ite hs (.frame (.foldl (fun _ _ h => h.leave) hs))

theorem State.Tidy.requestRanging (hs : s.Tidy W M) {fob} : (s.requestRanging fob).Tidy W M := by
  unfold State.requestRanging
  exact hs.claimTwin31.frame.updSession

theorem State.Tidy.tryCandidates (hs : s.Tidy W M) {n} : (s.tryCandidates n).Tidy W M := by
  induction n generalizing s with
  | zero => exact hs
  | succ n ih =>
    unfold State.tryCandidates
    split
    · exact hs
    · refine .ite hs ?_
      split
      · exact hs
      · exact .ite (ih hs.updSession) (.ite (ih hs.updSession) (.ite hs.decision (.ite (ih hs.updSession) hs.requestRanging)))

theorem State.Tidy.tryWelcome (hs : s.Tidy W M) {x} : (s.tryWelcome x).Tidy W M := by
  unfold State.tryWelcome
  split
  · exact hs.decision
  · exact hs

theorem State.Tidy.tryBackup (hs : s.Tidy W M) {x} : (s.tryBackup x).Tidy W M := by
  unfold State.tryBackup
  split
  · exact hs
  · exact hs.decision

theorem State.Tidy.advance (hs : s.Tidy W M) : (s.advance).Tidy W M := by
  unfold State.advance
  refine .ite hs ?_
  split
  · exact hs
  · refine .ite hs.tryBackup (.ite ?_ ?_)
    · dsimp only
      split
      · exact .ite hs.tryWelcome.endSession hs.tryWelcome
      · exact hs.tryWelcome
    · dsimp only
      split
      · exact hs.tryCandidates
      · exact .ite hs.tryCandidates (.ite hs.tryCandidates.decision (.ite hs.tryCandidates.updSession.challenge
            hs.tryCandidates.decision))

theorem State.Tidy.acceptLate (hs : s.Tidy W M) {r payload} : (s.acceptLate r payload).Tidy W M := by
  unfold State.acceptLate
  exact hs.frame.bump.logNonce

theorem State.Tidy.startJob (hs : s.Tidy W M) {i j u} : (s.startJob i j u).Tidy W M := by
  unfold State.startJob
  exact hs.frame

theorem State.Tidy.noteWait (hs : s.Tidy W M) {j} : (s.noteWait j).Tidy W M := by
  unfold State.noteWait
  exact .ite hs hs.setFld

theorem State.Tidy.serve (hs : s.Tidy W M) {n} : (s.serve n).Tidy W M := by
  induction n generalizing s with
  | zero => exact hs
  | succ n ih =>
    unfold State.serve
    split
    · exact hs
    · exact ih hs.startJob.noteWait

theorem State.Tidy.addJob (hs : s.Tidy W M) {j} : (s.addJob j).Tidy W M := by
  unfold State.addJob
  exact hs.frame.serve

theorem State.Tidy.newJob (hs : s.Tidy W M) {o u h part cls full mode slot total} :
    (s.newJob o u h part cls full mode slot total).Tidy W M := by
  unfold State.newJob
  exact hs.addJob

theorem State.Tidy.ownNext (hs : s.Tidy W M) {h} : (s.ownNext h).Tidy W M := by
  unfold State.ownNext
  refine .ite hs ?_
  split
  · exact hs
  · exact hs.frame.newJob

theorem State.Tidy.askOwn (hs : s.Tidy W M) {n} : (s.askOwn n).Tidy W M := by
  unfold State.askOwn
  exact .foldl (fun _ _ h => .ite h.frame.ownNext h) hs

theorem State.Tidy.answer (hs : s.Tidy W M) {x late payload slot rssi repoll} :
    (s.answer x late payload slot rssi repoll).Tidy W M := by
  unfold State.answer
  dsimp only
  split
  · exact .ite hs.askOwn.acceptLate hs.askOwn.acceptAnswer.advance
  · exact hs.askOwn.rejectAnswer

theorem State.Tidy.updPower (hs : s.Tidy W M) {f} : (s.updPower f).Tidy W M := by
  unfold State.updPower
  exact hs.frame

theorem State.Tidy.serveHeard (hs : s.Tidy W M) : (s.serveHeard).Tidy W M := by
  unfold State.serveHeard
  split
  · exact hs
  · exact .ite hs.updPower (.advance (.foldl (fun _ _ h => by
    split
    · exact h.answer
    · exact h) hs.updPower.setSession.setFld))

theorem State.Tidy.pmbus (hs : s.Tidy W M) {rail code data} : (s.pmbus rail code data).Tidy W M := by
  unfold State.pmbus
  exact hs.emit.emit

theorem State.Tidy.railSet (hs : s.Tidy W M) {rail on} : (s.railSet rail on).Tidy W M := by
  unfold State.railSet
  exact hs.pmbus

theorem State.Tidy.railsOff (hs : s.Tidy W M) : (s.railsOff).Tidy W M := by
  unfold State.railsOff
  exact hs.railSet.railSet.railSet.railSet

theorem State.Tidy.hsOff (hs : s.Tidy W M) : (s.hsOff).Tidy W M := by
  unfold State.hsOff
  exact hs.frame

theorem State.Tidy.setPowerState (hs : s.Tidy W M) {n} : (s.setPowerState n).Tidy W M := by
  unfold State.setPowerState
  exact .ite hs hs.setFld.raise

theorem State.Tidy.canSettleAll (hs : s.Tidy W M) : (s.canSettleAll).Tidy W M := by
  unfold State.canSettleAll
  exact hs.canSettle.canSettle

theorem State.Tidy.cardOff (hs : s.Tidy W M) {st} : (s.cardOff st).Tidy W M := by
  unfold State.cardOff
  exact hs.setFld.setFld.setFld.setFld.setFld

theorem State.Tidy.updCard (hs : s.Tidy W M) {f} : (s.updCard f).Tidy W M := by
  unfold State.updCard
  exact hs.frame

theorem State.Tidy.cardActivate (hs : s.Tidy W M) {classB noPps} : (s.cardActivate classB noPps).Tidy W M := by
  unfold State.cardActivate
  exact hs.updCard.cardOff.setFld.setFld

theorem State.Tidy.cardSettle (hs : s.Tidy W M) : (s.cardSettle).Tidy W M := by
  unfold State.cardSettle
  exact .ite hs (.ite (.ite hs.updCard.cardActivate (.ite hs.updCard.setFld hs.updCard)) (.ite hs.updCard.setFld (.ite hs
      hs.cardOff)))

theorem State.Tidy.stageNonces (hs : s.Tidy W M) : (s.stageNonces).Tidy W M := by
  unfold State.stageNonces
  exact .ite hs.updPower hs.updPower.draw

theorem State.Tidy.dropSlots (hs : s.Tidy W M) {p} : (s.dropSlots p).Tidy W M := by
  unfold State.dropSlots
  exact hs.frame

theorem State.Tidy.quench2 (hs : s.Tidy W M) : (s.quench2).Tidy W M := by
  unfold State.quench2
  exact hs.dropSlots.frame

theorem State.Tidy.noteQuench (hs : s.Tidy W M) {level} : (s.noteQuench level).Tidy W M := by
  unfold State.noteQuench
  exact hs.setFld.raise

theorem State.Tidy.powerOff (hs : s.Tidy W M) : (s.powerOff).Tidy W M := by
  unfold State.powerOff
  exact .setFld (.setFld (.setFld (.setFld (.setFld (.of_parts hs.quench2.noteQuench hs.quench2.noteQuench.store fun _ => rfl)))))

theorem State.Tidy.setLane (hs : s.Tidy W M) {n l} : (s.setLane n l).Tidy W M := by
  unfold State.setLane
  exact hs.frame

theorem State.Tidy.laneDown (hs : s.Tidy W M) {n} : (s.laneDown n).Tidy W M := by
  unfold State.laneDown
  exact .ite hs (.ite hs.setFld.raise.setLane.bump hs.setFld.raise)

theorem State.Tidy.lanesDown (hs : s.Tidy W M) : (s.lanesDown).Tidy W M := by
  unfold State.lanesDown
  exact .foldl (fun _ _ h => h.laneDown) hs

theorem State.Tidy.enterTarn (hs : s.Tidy W M) {st} : (s.enterTarn st).Tidy W M := by
  unfold State.enterTarn
  exact .setDomains (.railsOff (.ite hs.stageNonces.powerOff.lanesDown.setFld.setPowerState.canSettleAll.cardSettle.hsOff
      hs.stageNonces.powerOff.lanesDown.setFld.setPowerState.canSettleAll.cardSettle))

theorem State.Tidy.markPages (hs : s.Tidy W M) {ps} : (s.markPages ps).Tidy W M := by
  unfold State.markPages
  exact .ite hs (.of_parts hs (fun m => wf_filter (hs.store m) _) hs.pools)

theorem State.Tidy.quench3 (hs : s.Tidy W M) : (s.quench3).Tidy W M := by
  unfold State.quench3
  exact hs.quench2.markPages.frame

theorem State.Tidy.quench4 (hs : s.Tidy W M) : (s.quench4).Tidy W M := by
  unfold State.quench4
  exact hs.quench3.frame

theorem State.Tidy.runQuench (hs : s.Tidy W M) {level} : (s.runQuench level).Tidy W M := by
  unfold State.runQuench
  exact .updTamper (.noteQuench (.ite hs.quench4.frame.raise hs.quench3))

theorem State.Tidy.runPendingQuench (hs : s.Tidy W M) : (s.runPendingQuench).Tidy W M := by
  unfold State.runPendingQuench
  exact .ite hs hs.runQuench

theorem State.Tidy.grantLease (hs : s.Tidy W M) {h} : (s.grantLease h).Tidy W M := by
  unfold State.grantLease
  exact hs.frame.setFld.setFld

theorem State.Tidy.journalEpoch (hs : s.Tidy W M) : (s.journalEpoch).Tidy W M := by
  unfold State.journalEpoch
  exact .ite hs.frame.grantLease (.ite hs.frame.grantLease hs.frame)

theorem State.Tidy.showEpoch (hs : s.Tidy W M) {e} : (s.showEpoch e).Tidy W M := by
  unfold State.showEpoch
  exact hs.setFld.setFld

theorem State.Tidy.grantEpoch (hs : s.Tidy W M) : (s.grantEpoch).Tidy W M := by
  unfold State.grantEpoch
  exact .ite hs.frame.showEpoch.journalEpoch hs.frame.showEpoch.setFld.frame

theorem State.Tidy.wellService (hs : s.Tidy W M) {h} : (s.wellService h).Tidy W M := by
  unfold State.wellService
  exact hs.updWell.setFld.setFld

theorem State.Tidy.setLink (hs : s.Tidy W M) {h v} : (s.setLink h v).Tidy W M := by
  unfold State.setLink
  split <;> exact hs.frame

theorem State.Tidy.drawLink (hs : s.Tidy W M) {h} : (s.drawLink h).Tidy W M := by
  unfold State.drawLink
  exact hs.setLink.drawAt

theorem State.Tidy.wellsService (hs : s.Tidy W M) : (s.wellsService).Tidy W M := by
  unfold State.wellsService
  exact .ite (.drawLink (.wellService (.ite hs.wellService.drawLink hs))) (.ite hs.wellService.drawLink hs)

theorem State.Tidy.rekeyAdvised (hs : s.Tidy W M) {n cause k} : (s.rekeyAdvised n cause k).Tidy W M := by
  unfold State.rekeyAdvised
  exact hs.post.raise

theorem State.Tidy.putSlot (hs : s.Tidy W M) {n k} : (s.putSlot n k).Tidy W M := by
  unfold State.putSlot
  exact hs.frame

theorem State.Tidy.reloadSlot (hs : s.Tidy W M) {n k} : (s.reloadSlot n k).Tidy W M := by
  unfold State.reloadSlot
  exact .ite hs.putSlot.rekeyAdvised hs.putSlot

theorem State.Tidy.reloadSlots (hs : s.Tidy W M) : (s.reloadSlots).Tidy W M := by
  unfold State.reloadSlots
  exact .foldl (fun _ _ h => h.reloadSlot) hs

theorem State.Tidy.halvesBack (hs : s.Tidy W M) : (s.halvesBack).Tidy W M := by
  unfold State.halvesBack
  exact hs.wellsService.reloadSlots.frame.grantEpoch

theorem State.Tidy.stopRing (hs : s.Tidy W M) {p r err idx} : (s.stopRing p r err idx).Tidy W M := by
  unfold State.stopRing
  split <;> exact hs.updPart.post

theorem State.Tidy.discardItem (hs : s.Tidy W M) : (s.discardItem).Tidy W M := by
  unfold State.discardItem
  exact .ite hs.bump.raise hs.bump.raise.frame.setFld.setFld

theorem State.Tidy.dropReplica (hs : s.Tidy W M) {m} : (s.dropReplica m).Tidy W M := by
  unfold State.dropReplica
  exact hs.frame

theorem State.Tidy.passGate (hs : s.Tidy W M) {m} : (s.passGate m).Tidy W M := by
  unfold State.passGate
  exact .dropReplica (.ite hs hs.discardItem)

theorem State.Tidy.writeOutputs (hs : s.Tidy W M) {p m} : (s.writeOutputs p m).1.Tidy W M := by
  unfold State.writeOutputs
  split
  · exact hs
  · exact .foldl (fun _ _ h => h.emit) hs

theorem State.Tidy.writeCompl (hs : s.Tidy W M) {p m} : (s.writeCompl p m).Tidy W M := by
  unfold State.writeCompl
  dsimp only
  split
  · exact hs.passGate.writeOutputs
  · split
    · exact hs.passGate.writeOutputs
    · exact .ite hs.passGate.writeOutputs (.ite hs.passGate.writeOutputs.stopRing (.ite
          hs.passGate.writeOutputs.emit.updPart.sendMsg hs.passGate.writeOutputs.emit.updPart))

theorem State.Tidy.postCompl (hs : s.Tidy W M) {p m} : (s.postCompl p m).Tidy W M := by
  unfold State.postCompl
  exact .ite hs.writeCompl hs.updPart

theorem State.Tidy.dropJobs (hs : s.Tidy W M) {o} : (s.dropJobs o).Tidy W M := by
  unfold State.dropJobs
  exact hs.frame.serve

theorem State.Tidy.complete (hs : s.Tidy W M) {c durable r} : (s.complete c durable r).Tidy W M := by
  unfold State.complete
  exact hs.frame.dropJobs.updPart.postCompl

theorem State.Tidy.sweepBad (hs : s.Tidy W M) {n} : (s.sweepBad n).Tidy W M := by
  induction n generalizing s with
  | zero => exact hs
  | succ n ih =>
    unfold State.sweepBad
    split
    · exact ih hs.complete
    · exact hs

theorem State.Tidy.finish (hs : s.Tidy W M) {c durable r} : (s.finish c durable r).Tidy W M := by
  unfold State.finish
  exact hs.complete.sweepBad

theorem State.Tidy.raiseGen (hs : s.Tidy W M) {p} : (s.raiseGen p).Tidy W M := by
  unfold State.raiseGen
  exact hs.frame

theorem State.Tidy.clearPage (hs : s.Tidy W M) {p} : (s.clearPage p).Tidy W M := by
  unfold State.clearPage
  exact .ite hs (.ite hs.frame.raiseGen.raise hs.frame.raiseGen)

theorem State.Tidy.writePage (hs : s.Tidy W M) {p} : (s.writePage p).Tidy W M := by
  unfold State.writePage
  exact hs.clearPage.raiseGen

theorem State.Tidy.restoreImages (hs : s.Tidy W M) {l} : (s.restoreImages l).Tidy W M := by
  unfold State.restoreImages
  exact .foldl (fun t c h => .of_parts h.writePage (fun m => wf_putBytes (h.writePage.store m) _ _) h.writePage.pools) hs

theorem State.Tidy.cardRestore (hs : s.Tidy W M) {cause waits} : (s.cardRestore cause waits).Tidy W M := by
  unfold State.cardRestore
  dsimp only
  split
  · refine .finish ?_
    split
    · exact hs
    · exact .ite hs.restoreImages.updCard.bump.raise hs.restoreImages.updCard.bump.raise.post
  · split
    · exact hs
    · exact .ite hs.restoreImages.updCard.bump.raise hs.restoreImages.updCard.bump.raise.post

theorem State.Tidy.cardRollback (hs : s.Tidy W M) {cause waits} : (s.cardRollback cause waits).Tidy W M := by
  unfold State.cardRollback
  exact .ite hs.cardRestore (.ite hs hs.frame)

theorem State.Tidy.recoverCard (hs : s.Tidy W M) : (s.recoverCard).Tidy W M := by
  unfold State.recoverCard
  exact .ite hs hs.free.cardRollback

theorem State.Tidy.beginExcursion (hs : s.Tidy W M) : (s.beginExcursion).Tidy W M := by
  unfold State.beginExcursion
  extract_lets s1 pw s2 s3
  have h2 : s2.Tidy W M := hs.setFld.bump.frame.setDomains
  have h3 : s3.Tidy W M := (State.Tidy.ite h2.runPendingQuench h2).halvesBack.recoverCard
  exact .ite h3.enterTarn (.serveQueue (.serveHeard (.ite h3.flushLog h3)))

theorem State.Tidy.repostTamper (hs : s.Tidy W M) : (s.repostTamper).Tidy W M := by
  unfold State.repostTamper
  exact .foldl (fun _ _ h => h.postTo) hs.updTamper

theorem State.Tidy.restartFlows (hs : s.Tidy W M) : (s.restartFlows).Tidy W M := by
  unfold State.restartFlows
  exact hs.frame

theorem State.Tidy.linkBack (hs : s.Tidy W M) : (s.linkBack).Tidy W M := by
  unfold State.linkBack
  exact hs.frame

theorem State.Tidy.flowBack (hs : s.Tidy W M) : (s.flowBack).Tidy W M := by
  unfold State.flowBack
  exact .serveQueue (.cardSettle (.canSettleAll (.repostTamper (.ite hs.restartFlows.halvesBack.recoverCard.linkBack.flushLog
      hs.restartFlows.halvesBack.recoverCard.linkBack))))

theorem State.Tidy.bootCleared (hs : s.Tidy W M) : (s.bootCleared).Tidy W M := by
  unfold State.bootCleared
  exact hs.setFld.setFld.setFld.setFld.setFld

theorem State.Tidy.reshow {old : State} (hs : s.Tidy W M) (_ : old.Tidy W M) : (s.reshow old).Tidy W M := by
  unfold State.reshow
  exact hs.setFld.setFld.setFld.bootCleared

theorem State.Tidy.loseVolatile (hs : s.Tidy W M) : (s.loseVolatile).Tidy W M := by
  unfold State.loseVolatile
  exact .of_parts hs.quench2 hs.quench2.store fun _ => rfl

theorem State.Tidy.resetRegs (hs : s.Tidy W M) {p} : (s.resetRegs p).Tidy W M :=
  .of_regs hs (mapRising_filter hs.rising _) (fun h => regsWf_resetRegs (hs.words h) p) rfl rfl

theorem State.Tidy.warmTo (hs : s.Tidy W M) {start} : (s.warmTo start).Tidy W M := by
  unfold State.warmTo
  exact hs.loseVolatile.resetRegs.setFld.frame.reshow hs

theorem State.Tidy.deviceWarm (hs : s.Tidy W M) {c} : (s.deviceWarm c).Tidy W M := by
  unfold State.deviceWarm
  exact hs.warmTo.setFld

theorem State.Tidy.flowState (hs : s.Tidy W M) : (s.flowState).Tidy W M := by
  unfold State.flowState
  exact hs.loseVolatile.frame

theorem State.Tidy.returnFlow (hs : s.Tidy W M) : (s.returnFlow).Tidy W M := by
  unfold State.returnFlow
  exact .ite (.deviceWarm (.ite hs.flowState.setFld.setFld.setPowerState.setDomains.runPendingQuench
      hs.flowState.setFld.setFld.setPowerState.setDomains)) (.flowBack (.ite
      hs.flowState.setFld.setFld.setPowerState.setDomains.runPendingQuench hs.flowState.setFld.setFld.setPowerState.setDomains))

theorem State.Tidy.abandonReturn (hs : s.Tidy W M) : (s.abandonReturn).Tidy W M := by
  unfold State.abandonReturn
  exact hs.loseVolatile.frame.bootCleared.setFld.setFld.setPowerState.setFld

theorem State.Tidy.pmicNack (hs : s.Tidy W M) {k} : (s.pmicNack k).Tidy W M := by
  unfold State.pmicNack
  exact hs.updPower

theorem State.Tidy.railsOn (hs : s.Tidy W M) {flow} : (s.railsOn flow).Tidy W M := by
  unfold State.railsOn
  exact .ite hs.railSet.railSet.railSet.railSet hs.railSet.railSet.railSet

theorem State.Tidy.parkReturn (hs : s.Tidy W M) {railOk imagesOk} : (s.parkReturn railOk imagesOk).Tidy W M := by
  unfold State.parkReturn
  exact .ite hs.railsOn.pmicNack (.ite hs.railsOn.updPower.abandonReturn (.ite hs.railsOn.updPower.returnFlow
      hs.railsOn.updPower.beginExcursion))

theorem State.Tidy.execRailOnRetry (hs : s.Tidy W M) {railOk imagesOk} : TidyOutcome W M (execRailOnRetry railOk imagesOk s) := by
  unfold Machine.execRailOnRetry
  exact .next (.ite hs.parkReturn hs)

theorem State.Tidy.execPauseTimerExpiry (hs : s.Tidy W M) {n} : TidyOutcome W M (execPauseTimerExpiry n s) := by
  unfold Machine.execPauseTimerExpiry
  refine .next ?_
  split
  · exact .ite hs.setFld.setLane hs
  · exact hs

theorem State.Tidy.setWhState (hs : s.Tidy W M) {n v} : (s.setWhState n v).Tidy W M := by
  unfold State.setWhState
  exact hs.setFld

theorem State.Tidy.soloCmds (hs : s.Tidy W M) : (s.soloCmds).Tidy W M := by
  unfold State.soloCmds
  exact hs.frame

theorem State.Tidy.loseBoth (hs : s.Tidy W M) : (s.loseBoth).Tidy W M := by
  unfold State.loseBoth
  exact hs.frame.setFld

theorem State.Tidy.wellStartup (hs : s.Tidy W M) {n} : (s.wellStartup n).Tidy W M := by
  unfold State.wellStartup
  exact hs.updWell.setFld.setFld.setFld

theorem State.Tidy.engineReset (hs : s.Tidy W M) {e} : (s.engineReset e).Tidy W M := by
  unfold State.engineReset
  exact hs.updEng

theorem State.Tidy.abortTasks (hs : s.Tidy W M) {p} : (s.abortTasks p).Tidy W M := by
  unfold State.abortTasks
  exact .foldl (fun _ _ h => by
  split
  · exact .ite h.abortTask h
  · exact h) hs

theorem State.Tidy.halfReset (hs : s.Tidy W M) {h} : (s.halfReset h).Tidy W M := by
  unfold State.halfReset
  exact .abortTasks (.foldl (fun _ _ h => h.engineReset) hs)

theorem State.Tidy.restamp (hs : s.Tidy W M) {other e} : (s.restamp other e).Tidy W M := by
  unfold State.restamp
  exact hs.frame

theorem State.Tidy.moveJobs (hs : s.Tidy W M) {k h} : (s.moveJobs k h).Tidy W M := by
  unfold State.moveJobs
  exact hs.frame.serve

theorem State.Tidy.halfUnitsOff (hs : s.Tidy W M) {h} : (s.halfUnitsOff h).Tidy W M := by
  unfold State.halfUnitsOff
  refine .setFld (.setFld (.setFld (.setFld ?_)))
  split <;> exact hs.setFld.setFld.setFld.setFld

theorem State.Tidy.fence (hs : s.Tidy W M) {h cause} : (s.fence h cause).Tidy W M := by
  unfold State.fence
  extract_lets o wasLead e third s1 hv s2 s3 s4 s5 s6 s7 s8 hw s9 s10 s11 s12
  have h2 : s2.Tidy W M := hs.abortRound.frame
  have h5 : s5.Tidy W M := h2.showEpoch.halfUnitsOff.setLink.moveJobs.moveJobs.moveJobs.halfReset.restamp
  have h8 : s8.Tidy W M := h5.wellStartup.bump.setFld.setFld
  have h10 : s10.Tidy W M := State.Tidy.post (s := s9) h8.frame |>.raise
  have h11 : s11.Tidy W M := .ite h10.post.raise h10
  exact .ite h11.loseBoth (.ite h11.setFld.soloCmds.journalEpoch h11.setFld.soloCmds.setFld.frame)

theorem State.Tidy.entropyAlarm (hs : s.Tidy W M) {n cause st action} : (s.entropyAlarm n cause st action).Tidy W M := by
  unfold State.entropyAlarm
  exact hs.post

theorem State.Tidy.whHalt (hs : s.Tidy W M) {n cause} : (s.whHalt n cause).Tidy W M := by
  unfold State.whHalt
  exact .ite hs.setWhState.setFld.raise.entropyAlarm (.ite hs.setWhState.setFld.raise.entropyAlarm.fence
      hs.setWhState.setFld.raise.entropyAlarm.frame)

theorem State.Tidy.startTest (hs : s.Tidy W M) : (s.startTest).Tidy W M := by
  unfold State.startTest
  exact .ite hs (.ite hs.updWell.setWhState (.ite hs.updWell.setWhState hs))

theorem State.Tidy.whHaltNext (hs : s.Tidy W M) {n cause} : (s.whHaltNext n cause).Tidy W M := by
  unfold State.whHaltNext
  exact hs.whHalt.startTest

theorem State.Tidy.bumpSat (hs : s.Tidy W M) {f n} : (s.bumpSat f n).Tidy W M := by
  unfold State.bumpSat
  exact hs.setFld

theorem State.Tidy.countFail (hs : s.Tidy W M) {n cause} : (s.countFail n cause).Tidy W M := by
  unfold State.countFail
  exact hs.updWell.bumpSat.setFld.raise

theorem State.Tidy.whFail (hs : s.Tidy W M) {n cause} : (s.whFail n cause).Tidy W M := by
  unfold State.whFail
  exact .ite (.ite hs.countFail.whHaltNext hs.countFail.setWhState) (.ite hs.countFail (.ite hs.whHaltNext hs))

theorem State.Tidy.execRepetitionCountFail (hs : s.Tidy W M) {h cause} : TidyOutcome W M (execRepetitionCountFail h cause s) := by
  unfold Machine.execRepetitionCountFail
  exact .next (.ite hs.whFail hs)

theorem State.Tidy.execSensorClear (hs : s.Tidy W M) {sensor} : TidyOutcome W M (execSensorClear sensor s) := by
  unfold Machine.execSensorClear
  exact .next (.ite hs hs.updTamper)

theorem State.Tidy.catchUp (hs : s.Tidy W M) {h} : (s.catchUp h).Tidy W M := by
  unfold State.catchUp
  exact hs.frame

theorem State.Tidy.drawCheck (hs : s.Tidy W M) : (s.drawCheck).Tidy W M := by
  unfold State.drawCheck
  exact hs.frame.draw

theorem State.Tidy.drawMesh (hs : s.Tidy W M) : (s.drawMesh).Tidy W M := by
  unfold State.drawMesh
  exact hs.frame.draw

theorem State.Tidy.refillSlot (hs : s.Tidy W M) {h j} : (s.refillSlot h j).Tidy W M := by
  unfold State.refillSlot
  split
  · dsimp only
    split <;> exact hs.frame.setFld.setFld
  · split <;> exact hs.setFld

theorem State.Tidy.setMaskBit (hs : s.Tidy W M) {f b} : (s.setMaskBit f b).Tidy W M := by
  unfold State.setMaskBit
  exact hs.setFld

theorem State.Tidy.halfUnitsOn (hs : s.Tidy W M) {h} : (s.halfUnitsOn h).Tidy W M := by
  unfold State.halfUnitsOn
  extract_lets on
  have hon : ∀ {t : State} {u}, t.Tidy W M → (on t u).Tidy W M := fun ht => .ite ht.setMaskBit ht.setMaskBit
  clear_value on
  refine .setFld (.foldl (fun _ _ ht => .ite ht ht.refillSlot) (.foldl (fun t i ht => ?_) (.foldl (fun _ _ ht => hon ht)
    (.foldl (fun _ _ ht => hon ht) hs))))
  exact hon (hon (hon (hon ht)))

theorem State.Tidy.rejoinEvent (hs : s.Tidy W M) {h result us} : (s.rejoinEvent h result us).Tidy W M := by
  unfold State.rejoinEvent
  exact hs.post.raise

theorem State.Tidy.rejoin (hs : s.Tidy W M) {h ok} : (s.rejoin h ok).Tidy W M := by
  unfold State.rejoin
  split
  · exact hs
  · exact .ite hs (.ite hs.fence.frame.setFld.rejoinEvent
        hs.frame.halfUnitsOn.setFld.setFld.setFld.setFld.catchUp.drawLink.drawCheck.drawMesh.rejoinEvent.serve)

theorem State.Tidy.execRejoin (hs : s.Tidy W M) {h ok} : TidyOutcome W M (execRejoin h ok s) := by
  unfold Machine.execRejoin
  exact .next hs.rejoin

theorem State.Tidy.cardFree (hs : s.Tidy W M) {k} : (s.cardFree k).Tidy W M := by
  unfold State.cardFree
  exact .ite hs.updCard.cardSettle hs.updCard

theorem State.Tidy.cardSend (hs : s.Tidy W M) {c} : (s.cardSend c).Tidy W M := by
  unfold State.cardSend
  exact hs.cardFree.updCard.setFld.emit

theorem State.Tidy.cardWait (hs : s.Tidy W M) {c} : (s.cardWait c).Tidy W M := by
  unfold State.cardWait
  split
  · exact .ite (.finish hs.cardFree) (.more hs)
  · exact .more hs.updCard

theorem State.Tidy.cardGo (hs : s.Tidy W M) {c} : (s.cardGo c).Tidy W M := by
  unfold State.cardGo
  exact .ite (.more hs) (.ite hs.cardWait (.more hs.cardSend))

theorem State.Tidy.setRegion (hs : s.Tidy W M) {k r} : (s.setRegion k r).Tidy W M := by
  unfold State.setRegion
  exact hs.frame

theorem State.Tidy.storeCheck (hs : s.Tidy W M) {c pw} : (s.storeCheck c pw).Tidy W M := by
  unfold State.storeCheck
  exact .ite (.refused hs) (.ite (.refused hs) (.ite (.refused hs) (.ite (.ok hs.setRegion) (.refused hs.setRegion.bump.raise))))

theorem State.Tidy.coverLost (hs : s.Tidy W M) {a n} : (s.coverLost a n).Tidy W M := by
  unfold State.coverLost
  exact hs.frame

theorem State.Tidy.storeBytes (hs : s.Tidy W M) {a bs} : (s.storeBytes a bs).Tidy W M := by
  have hpages : ((pagesOf a bs.length).foldl (fun t p => t.writePage p) s).Tidy W M := .foldl (fun _ _ h => h.writePage) hs
  unfold State.storeBytes
  exact .coverLost (.of_parts hpages (fun m => wf_putBytes (hpages.store m) _ _) hpages.pools)

theorem State.Tidy.cardClose (hs : s.Tidy W M) {c} : (s.cardClose c).Tidy W M := by
  unfold State.cardClose
  exact .ite hs.updCard hs

theorem State.Tidy.cardFinish (hs : s.Tidy W M) {c resp} : (cardFinish s c resp).Tidy W M := by
  unfold Machine.cardFinish
  dsimp only
  split
  · exact .finish hs.cardFree
  · exact .ite (.finish hs.cardFree) (.ite (.ite (.finish hs.cardFree) (.ite (.finish hs.cardFree) (.ite (.more hs) (.commit
        hs.cardFree.updCard.storeBytes.cardClose)))) (.ite (.commit hs.cardFree.cardClose) (.finish hs.cardFree)))

theorem State.Tidy.cardWork (hs : s.Tidy W M) {c} : (cardWork s c).Tidy W M := by
  unfold Machine.cardWork
  refine .ite ?_ (.ite (.finish hs.cardFree) (.ite (.finish hs.cardFree) (.ite (.finish hs.cardFree) (.ite ?_ hs.cardGo))))
  · split
    · exact hs.cardFinish
    · exact .more hs
  · split
    · next he0 => exact .finish (.cardFree (hs.storeCheck.of_refused he0))
    · next he0 => exact State.Tidy.cardGo (hs.storeCheck.of_ok he0)

theorem State.Tidy.waitCommit (hs : s.Tidy W M) {k} : (s.waitCommit k).Tidy W M := by
  unfold State.waitCommit
  exact .ite hs hs.frame

theorem State.Tidy.dropWait (hs : s.Tidy W M) {k} : (s.dropWait k).Tidy W M := by
  unfold State.dropWait
  exact hs.frame

theorem Work.Tidy.settle {w : Work} (hw : w.Tidy W M) (hs : s.Tidy W M) {k c} : (w.settle s k c).Tidy W M := by
  unfold Work.settle
  split
  · exact .finish ((hw.of_finish rfl))
  · exact (hw.of_more rfl)
  · exact .ite (.finish (.dropWait ((hw.of_commit rfl)))) hs.waitCommit

theorem State.Tidy.waitDraw (hs : s.Tidy W M) {k} : (s.waitDraw k).Tidy W M := by
  unfold State.waitDraw
  exact hs.frame

theorem State.Tidy.runCmd (hs : s.Tidy W M) {i ok k} {body : State → Inflight → Work}
    (hb : ∀ t c, t.Tidy W M → (body t c).Tidy W M) :
    (s.runCmd i ok body k).Tidy W M := by
  unfold State.runCmd
  split
  · exact hs
  · refine .ite hs.finish (.ite hs ?_)
    split
    · exact hs.finish
    · refine .ite hs.finish (.ite hs.finish ?_)
      split
      · exact hs.finish
      · exact .ite hs.waitDraw ((hb _ _ hs).settle hs)

theorem State.Tidy.execCardResponse (hs : s.Tidy W M) {resp} : TidyOutcome W M (execCardResponse resp s) := by
  unfold Machine.execCardResponse
  refine .next ?_
  split
  · exact hs
  · exact .ite hs (hs.updCard.runCmd (fun _ _ h => h.cardWork))

theorem State.Tidy.execHypothesisFailed (hs : s.Tidy W M) {i raw} : TidyOutcome W M (execHypothesisFailed i raw s) := by
  unfold Machine.execHypothesisFailed
  refine .next ?_
  split
  · exact hs
  · split
    · exact hs
    · exact .ite hs hs.frame.bump

theorem State.Tidy.execSyncMatch (hs : s.Tidy W M) {bits} : TidyOutcome W M (execSyncMatch bits s) := by
  unfold Machine.execSyncMatch
  refine .next ?_
  split
  · exact hs
  · refine .ite hs ?_
    dsimp only
    split
    · exact .ite hs.frame.bump.bump.raise hs.frame
    · exact hs.frame

theorem State.Tidy.showVlf (hs : s.Tidy W M) : (s.showVlf).Tidy W M := by
  unfold State.showVlf
  exact .ite hs.setFld hs.setFld.raise

theorem State.Tidy.execVlfLowChange (hs : s.Tidy W M) {mv} : TidyOutcome W M (execVlfLowChange mv s) := by
  unfold Machine.execVlfLowChange
  exact .next hs.frame.showVlf

theorem State.Tidy.execSerdesSupplyReturn (hs : s.Tidy W M) : TidyOutcome W M (execSerdesSupplyReturn s) := by
  unfold Machine.execSerdesSupplyReturn
  exact .next hs.frame.linkBack

theorem State.Tidy.execCardTransact (hs : s.Tidy W M) {k} : TidyOutcome W M (execCardTransact k s) := by
  unfold Machine.execCardTransact
  exact .next (hs.runCmd (fun _ _ h => h.cardWork))

theorem State.Tidy.showWords (hs : s.Tidy W M) {f b} : (s.showWords f b).Tidy W M := by
  unfold State.showWords
  exact .foldl (fun _ _ h => h.setFld) hs

theorem State.Tidy.remeasure (hs : s.Tidy W M) : (s.remeasure).Tidy W M := by
  unfold State.remeasure
  exact hs.frame.draw.showWords.setFld.setFld

theorem State.Tidy.acceptGrant (hs : s.Tidy W M) {g} : (s.acceptGrant g).Tidy W M := by
  unfold State.acceptGrant
  exact hs.dropSlots.frame.remeasure.bump.raise

theorem State.Tidy.grantRefused (hs : s.Tidy W M) {st} : (s.grantRefused st).Tidy W M := by
  unfold State.grantRefused
  exact .finish hs.bump.raise

theorem State.Tidy.useChallenge (hs : s.Tidy W M) : (s.useChallenge).Tidy W M := by
  unfold State.useChallenge
  exact hs.frame

theorem State.Tidy.grantWork (hs : s.Tidy W M) {c} : (grantWork s c).Tidy W M := by
  unfold Machine.grantWork
  exact .ite (.finish hs.useChallenge) (.ite hs.useChallenge.grantRefused (.ite hs.useChallenge.grantRefused (.ite
      hs.useChallenge.grantRefused (.finish hs.useChallenge.acceptGrant))))

theorem State.Tidy.execDebugGrant (hs : s.Tidy W M) {k} : TidyOutcome W M (execDebugGrant k s) := by
  unfold Machine.execDebugGrant
  exact .next (hs.runCmd (fun _ _ h => h.grantWork))

theorem State.Tidy.challengeWork (hs : s.Tidy W M) {x} : (challengeWork s x).Tidy W M := by
  unfold Machine.challengeWork
  exact .finish hs.draw.frame

theorem State.Tidy.execDebugChallenge (hs : s.Tidy W M) {k} : TidyOutcome W M (execDebugChallenge k s) := by
  unfold Machine.execDebugChallenge
  exact .next (hs.runCmd (fun _ _ h => h.challengeWork))

theorem State.Tidy.setApplets (hs : s.Tidy W M) {l} : (s.setApplets l).Tidy W M := by
  unfold State.setApplets
  exact hs.frame

theorem State.Tidy.lifeWork (hs : s.Tidy W M) {dest} : (s.lifeWork dest).Tidy W M := by
  unfold State.lifeWork
  refine .frame ?_
  split
  · exact hs.frame
  · exact hs.quench3.noteQuench.markPages.setApplets
  · exact hs

theorem State.Tidy.lifeEnd (hs : s.Tidy W M) {c} : (s.lifeEnd c).Tidy W M := by
  unfold State.lifeEnd
  exact hs.finish.deviceWarm

theorem State.Tidy.lifeCommit (hs : s.Tidy W M) {c dest} : (s.lifeCommit c dest).Tidy W M := by
  unfold State.lifeCommit
  exact hs.frame.raise.updPart

theorem State.Tidy.drawFresh (hs : s.Tidy W M) {n} : (s.drawFresh n).Tidy W M := by
  unfold State.drawFresh
  exact hs.frame.updWell

theorem State.Tidy.programUds (hs : s.Tidy W M) : (s.programUds).Tidy W M := by
  unfold State.programUds
  exact hs.drawFresh.frame

theorem State.Tidy.scrap (hs : s.Tidy W M) {c whole} : (s.scrap c whole).Tidy W M := by
  unfold State.scrap
  exact .ite hs.updTamper.quench3.noteQuench hs.updTamper.runQuench.frame.lifeEnd

theorem State.Tidy.advance' (hs : s.Tidy W M) {c readback whole} : (s.advance' c readback whole).Tidy W M := by
  unfold State.advance'
  extract_lets dest s1 s2 s3 s4
  have h2 : s2.Tidy W M := .dropWait (.ite hs.useChallenge hs)
  have h3 : s3.Tidy W M := .ite h2.programUds h2
  exact .ite h2.scrap (.ite h3.finish (.ite h3.lifeCommit.lifeWork.lifeEnd h3.lifeCommit))

theorem State.Tidy.runAdvance (hs : s.Tidy W M) {c readback whole} : (s.runAdvance c readback whole).Tidy W M := by
  unfold State.runAdvance
  split
  · exact .ite hs.lifeWork.lifeEnd hs
  · split
    · exact hs.finish
    · dsimp only
      split
      · exact .finish (.ite hs.useChallenge hs)
      · exact .ite hs (.ite hs.advance' hs.waitCommit)

theorem State.Tidy.execLifecycleAdvance (hs : s.Tidy W M) {k readback whole} :
    TidyOutcome W M (execLifecycleAdvance k readback whole s) := by
  unfold Machine.execLifecycleAdvance
  refine .next ?_
  split
  · exact hs
  · exact .ite hs hs.runAdvance

theorem State.Tidy.refuse (hs : s.Tidy W M) {r} : (s.refuse r).Tidy W M := by
  unfold State.refuse
  exact .ite (.finish hs.bump) (.finish hs)

theorem State.Tidy.immoWork (hs : s.Tidy W M) {c} : (immoWork s c).Tidy W M := by
  unfold Machine.immoWork
  dsimp only
  split
  · exact hs.refuse
  · refine .ite (.commit hs.frame.setFld) ?_
    split
    · exact hs.refuse
    · exact .commit hs.frame.setFld

theorem State.Tidy.execImmoConfig (hs : s.Tidy W M) {k} : TidyOutcome W M (execImmoConfig k s) := by
  unfold Machine.execImmoConfig
  exact .next (hs.runCmd (fun _ _ h => h.immoWork))

theorem State.Tidy.endStream (hs : s.Tidy W M) : (s.endStream).Tidy W M := by
  unfold State.endStream
  exact .ite hs hs.frame.setFld.setFld.raise

theorem State.Tidy.revokeStream (hs : s.Tidy W M) : (s.revokeStream).Tidy W M := by
  unfold State.revokeStream
  exact .ite hs.endStream.queueToken hs

theorem State.Tidy.releaseWork (hs : s.Tidy W M) {c} : (releaseWork s c).Tidy W M := by
  unfold Machine.releaseWork
  exact .ite (.ite (.finish hs.revokeStream) (.finish hs)) (.ite (.finish hs) (.ite (.finish hs.queueToken) (.ite (.finish hs)
      (.finish hs.postDecision.releaseOutputs))))

theorem State.Tidy.execReleaseRequest (hs : s.Tidy W M) {k} : TidyOutcome W M (execReleaseRequest k s) := by
  unfold Machine.execReleaseRequest
  exact .next (hs.runCmd (fun _ _ h => h.releaseWork))

theorem State.Tidy.policySetWork (hs : s.Tidy W M) {c} : (policySetWork s c).Tidy W M := by
  unfold Machine.policySetWork
  exact .ite (.finish hs) (.commit hs.setAcc)

theorem State.Tidy.execAccessPolicySet (hs : s.Tidy W M) {k} : TidyOutcome W M (execAccessPolicySet k s) := by
  unfold Machine.execAccessPolicySet
  exact .next (hs.runCmd (fun _ _ h => h.policySetWork))

theorem State.Tidy.fobRemoveWork (hs : s.Tidy W M) {c} : (fobRemoveWork s c).Tidy W M := by
  unfold Machine.fobRemoveWork
  exact .ite (.finish hs) (.commit hs.setAcc)

theorem State.Tidy.execFobRemove (hs : s.Tidy W M) {k} : TidyOutcome W M (execFobRemove k s) := by
  unfold Machine.execFobRemove
  exact .next (hs.runCmd (fun _ _ h => h.fobRemoveWork))

theorem State.Tidy.sendPair (hs : s.Tidy W M) {p} : (s.sendPair p).Tidy W M := by
  unfold State.sendPair
  exact hs.draw.setAcc.requestLf

theorem State.Tidy.endPairing (hs : s.Tidy W M) : (s.endPairing).Tidy W M := by
  unfold State.endPairing
  exact hs.setAcc.serveQueue

theorem State.Tidy.writeSlot (hs : s.Tidy W M) {n k} : (s.writeSlot n k).Tidy W M := by
  unfold State.writeSlot
  exact .ite hs.putSlot hs.putSlot.writePage

theorem State.Tidy.raiseMark (hs : s.Tidy W M) {n t k} : (s.raiseMark n t k).Tidy W M := by
  unfold State.raiseMark
  exact .ite hs.writeSlot (.ite hs hs.frame)

theorem State.Tidy.checkDrawMark (hs : s.Tidy W M) {n} : (s.checkDrawMark n).Tidy W M := by
  unfold State.checkDrawMark
  split
  · exact .ite hs hs.raiseMark
  · exact hs

theorem State.Tidy.checkUseMark (hs : s.Tidy W M) {n} : (s.checkUseMark n).Tidy W M := by
  unfold State.checkUseMark
  split
  · exact .ite hs hs.raiseMark
  · exact hs

theorem State.Tidy.takeUse (hs : s.Tidy W M) {n drawn} : (s.takeUse n drawn).Tidy W M := by
  unfold State.takeUse
  split
  · exact .exhausted hs
  · extract_lets k' full spent s1 s2 s3 s4
    have h2 : s2.Tidy W M := .ite hs.putSlot.rekeyAdvised hs.putSlot
    have h4 : s4.Tidy W M := (State.Tidy.ite h2.rekeyAdvised h2).checkUseMark
    exact .ite (.exhausted hs.bump) (.ite (.wait hs.checkUseMark) (.ite (.wait hs.checkDrawMark) (.ok (.ite h4.checkDrawMark
        h4))))

theorem Take.Tidy.andThen {x : Take} (hx : x.Tidy W M) {f : State → Work} (hf : ∀ t, t.Tidy W M → (f t).Tidy W M) :
    (x.andThen f).Tidy W M := by
  unfold Take.andThen
  split
  · exact hf _ (hx.of_ok rfl)
  · exact .finish (hx.of_exhausted rfl)
  · exact .more (hx.of_wait rfl)

theorem State.Tidy.pairStart (hs : s.Tidy W M) {c} : (pairStart s c).Tidy W M := by
  unfold Machine.pairStart
  refine .ite (.finish hs) ?_
  split
  · exact hs.refuse
  · exact .ite (.more hs) (hs.takeUse.andThen (fun _ h => .ite (.finish h.bump) (.more h.sendPair)))

theorem State.Tidy.pairWork (hs : s.Tidy W M) {c} : (pairWork s c).Tidy W M := by
  unfold Machine.pairWork
  split
  · exact hs.pairStart
  · exact .ite (.more hs) (.ite (.commit hs.setAcc.endPairing) (.ite (.more hs) (.ite (.finish hs.endPairing) (.more
        hs.sendPair))))

theorem State.Tidy.execFobPair (hs : s.Tidy W M) {k} : TidyOutcome W M (execFobPair k s) := by
  unfold Machine.execFobPair
  exact .next (hs.runCmd (fun _ _ h => h.pairWork))

theorem State.Tidy.appletUnloadWork (hs : s.Tidy W M) {c} : (appletUnloadWork s c).Tidy W M := by
  unfold Machine.appletUnloadWork
  split
  · exact .finish hs
  · exact .ite (.finish hs) (.ite (.more hs) (.commit hs.setApplets))

theorem State.Tidy.execAppletUnload (hs : s.Tidy W M) {k} : TidyOutcome W M (execAppletUnload k s) := by
  unfold Machine.execAppletUnload
  exact .next (hs.runCmd (fun _ _ h => h.appletUnloadWork))

theorem State.Tidy.applyStaged (hs : s.Tidy W M) {t g} : (s.applyStaged t g).Tidy W M := by
  unfold State.applyStaged
  split
  · exact hs
  · exact hs.setApplets
  · split
    · exact hs.writeSlot
    · exact hs
  · exact hs.putSlot

theorem State.Tidy.setTask (hs : s.Tidy W M) {e t} : (s.setTask e t).Tidy W M := by
  unfold State.setTask
  exact hs.updEng

theorem State.Tidy.endApplet (hs : s.Tidy W M) {e t st} : (s.endApplet e t st).Tidy W M := by
  unfold State.endApplet
  dsimp only
  split
  · exact hs.updEng
  · exact .ite hs.updEng.finish (.ite hs.setTask (.ite hs.setTask.waitCommit (.finish (.dropWait (.foldl (fun _ _ h =>
        h.applyStaged) hs.updEng)))))

theorem State.Tidy.invokeWork (hs : s.Tidy W M) {e base c} : (invokeWork e base s c).Tidy W M := by
  unfold Machine.invokeWork
  split
  · refine .more (.ite ?_ hs)
    split
    · exact hs.endApplet
    · exact hs
  · dsimp only
    split
    · exact .ite (.finish hs) (.ite (.finish hs) (.ite (.ite (.finish hs) (.more hs.startTask)) (.more hs)))
    · exact .finish hs

theorem State.Tidy.execAppletInvoke (hs : s.Tidy W M) {k e base} : TidyOutcome W M (execAppletInvoke k e base s) := by
  unfold Machine.execAppletInvoke
  exact .next (hs.runCmd (fun _ _ h => h.invokeWork))

theorem State.Tidy.appletLoadWork (hs : s.Tidy W M) {c} : (appletLoadWork s c).Tidy W M := by
  unfold Machine.appletLoadWork
  refine .ite (.finish hs) (.ite (.commit hs.frame) ?_)
  dsimp only
  split
  · exact .ite (.finish hs) (.commit hs.setApplets)
  · exact .commit hs.setApplets

theorem State.Tidy.execAppletLoad (hs : s.Tidy W M) {k} : TidyOutcome W M (execAppletLoad k s) := by
  unfold Machine.execAppletLoad
  exact .next (hs.runCmd (fun _ _ h => h.appletLoadWork))

theorem State.Tidy.sealNext (hs : s.Tidy W M) {i c} : (s.sealNext i c).Tidy W M := by
  unfold State.sealNext
  exact hs.frame.emit

theorem State.Tidy.enterSpill (hs : s.Tidy W M) {i f} : (s.enterSpill i f).Tidy W M := by
  unfold State.enterSpill
  exact .frame (.ite hs.sealNext hs)

theorem State.Tidy.writeFlow (hs : s.Tidy W M) {h f} : (s.writeFlow h f).Tidy W M := by
  unfold State.writeFlow
  split
  · exact hs.frame
  · exact .ite hs.frame hs.enterSpill

theorem State.Tidy.replicate (hs : s.Tidy W M) {k st out} : (s.replicate k st out).Tidy W M := by
  unfold State.replicate
  exact .ite hs.frame hs

theorem State.Tidy.flowStatsWork (hs : s.Tidy W M) {c} : (flowStatsWork s c).Tidy W M := by
  unfold Machine.flowStatsWork
  dsimp only
  split
  · exact .finish hs
  · exact .finish (.ite hs.writeFlow.replicate hs)

theorem State.Tidy.execFlowStats (hs : s.Tidy W M) {k} : TidyOutcome W M (execFlowStats k s) := by
  unfold Machine.execFlowStats
  exact .next (hs.runCmd (fun _ _ h => h.flowStatsWork))

theorem State.Tidy.sakInstallWork (hs : s.Tidy W M) {c} : (sakInstallWork s c).Tidy W M := by
  unfold Machine.sakInstallWork
  dsimp only
  split
  · exact .finish hs
  · refine .ite (.more hs) (.ite (.finish hs) (.ite ?_ ?_))
    · split
      · exact .finish hs.writeFlow
      · exact .finish hs
    · split
      · exact .finish hs
      · refine .ite (.finish hs) ?_
        split
        · exact .finish hs
        · exact .finish hs.writeFlow

theorem State.Tidy.execSakInstall (hs : s.Tidy W M) {k} : TidyOutcome W M (execSakInstall k s) := by
  unfold Machine.execSakInstall
  exact .next (hs.runCmd (fun _ _ h => h.sakInstallWork))

theorem State.Tidy.checkPause (hs : s.Tidy W M) {n} : (s.checkPause n).Tidy W M := by
  unfold State.checkPause
  exact .ite hs.setFld.emit.setLane.raise (.ite hs.setFld.emit hs)

theorem State.Tidy.settleLanes (hs : s.Tidy W M) : (s.settleLanes).Tidy W M := by
  unfold State.settleLanes
  exact .ite hs (.foldl (fun _ _ h => h.laneDown) hs.setDomains)

theorem State.Tidy.endFrame (hs : s.Tidy W M) {f} : (s.endFrame f).Tidy W M := by
  unfold State.endFrame
  exact hs.frame.dropJobs.checkPause.settleLanes

theorem State.Tidy.destroyFlow (hs : s.Tidy W M) {h} : (s.destroyFlow h).Tidy W M := by
  unfold State.destroyFlow
  exact .foldl (fun _ _ h => by
  split
  · exact .ite (.ite h.bump.endFrame h.bump) h
  · exact h) hs.frame

theorem State.Tidy.flowDestroyWork (hs : s.Tidy W M) {c} : (flowDestroyWork s c).Tidy W M := by
  unfold Machine.flowDestroyWork
  split
  · exact .finish hs
  · exact .ite (.more hs) (.commit hs.destroyFlow)

theorem State.Tidy.execFlowDestroy (hs : s.Tidy W M) {k} : TidyOutcome W M (execFlowDestroy k s) := by
  unfold Machine.execFlowDestroy
  exact .next (hs.runCmd (fun _ _ h => h.flowDestroyWork))

theorem State.Tidy.updFlow (hs : s.Tidy W M) {h g} : (s.updFlow h g).Tidy W M := by
  unfold State.updFlow
  exact hs.frame

theorem State.Tidy.askCkpt (hs : s.Tidy W M) {h k} : (s.askCkpt h k).Tidy W M := by
  unfold State.askCkpt
  exact hs.updFlow

theorem State.Tidy.checkCkpt (hs : s.Tidy W M) {h} : (s.checkCkpt h).Tidy W M := by
  unfold State.checkCkpt
  split
  · exact .ite hs.askCkpt hs
  · exact hs

theorem State.Tidy.flowModifyWork (hs : s.Tidy W M) {c} : (flowModifyWork s c).Tidy W M := by
  unfold Machine.flowModifyWork
  dsimp only
  split
  · exact .finish hs
  · refine .ite (.finish hs) ?_
    split
    · exact .finish hs
    · exact .ite (.finish hs) (.ite (.more hs) (.commit hs.writeFlow.checkCkpt))

theorem State.Tidy.execFlowModify (hs : s.Tidy W M) {k} : TidyOutcome W M (execFlowModify k s) := by
  unfold Machine.execFlowModify
  exact .next (hs.runCmd (fun _ _ h => h.flowModifyWork))

theorem State.Tidy.flowCreateWork (hs : s.Tidy W M) {c} : (flowCreateWork s c).Tidy W M := by
  unfold Machine.flowCreateWork
  dsimp only
  split
  · exact .finish hs
  · refine .ite (.finish hs) ?_
    split
    · exact .ite (.finish hs) (.ite (.commit hs.enterSpill.checkCkpt) (.commit hs.frame.checkCkpt))
    · exact .finish hs

theorem State.Tidy.execFlowCreate (hs : s.Tidy W M) {k} : TidyOutcome W M (execFlowCreate k s) := by
  unfold Machine.execFlowCreate
  exact .next (hs.runCmd (fun _ _ h => h.flowCreateWork))

theorem State.Tidy.storeSanitizeWork (hs : s.Tidy W M) {c} : (storeSanitizeWork s c).Tidy W M := by
  unfold Machine.storeSanitizeWork
  split
  · next he0 => exact .finish (hs.storeCheck.of_refused he0)
  · next he0 => exact .ite (.finish (hs.storeCheck.of_ok he0)) (.ite (.more hs) (.commit (.markPages (hs.storeCheck.of_ok he0))))

theorem State.Tidy.execStoreSanitize (hs : s.Tidy W M) {k} : TidyOutcome W M (execStoreSanitize k s) := by
  unfold Machine.execStoreSanitize
  exact .next (hs.runCmd (fun _ _ h => h.storeSanitizeWork))

theorem State.Tidy.storeWriteWork (hs : s.Tidy W M) {c} : (storeWriteWork s c).Tidy W M := by
  unfold Machine.storeWriteWork
  split
  · next he0 => exact .finish (hs.storeCheck.of_refused he0)
  · next he0 => exact .ite (.commit (.setRegion (hs.storeCheck.of_ok he0))) (.ite (.finish (hs.storeCheck.of_ok he0)) (.ite
        (.more hs) (.commit (.storeBytes (hs.storeCheck.of_ok he0)))))

theorem State.Tidy.execStoreWrite (hs : s.Tidy W M) {k} : TidyOutcome W M (execStoreWrite k s) := by
  unfold Machine.execStoreWrite
  exact .next (hs.runCmd (fun _ _ h => h.storeWriteWork))

theorem State.Tidy.storeReadWork (hs : s.Tidy W M) {c} : (storeReadWork s c).Tidy W M := by
  unfold Machine.storeReadWork
  split
  · next he0 => exact .finish (hs.storeCheck.of_refused he0)
  · next he0 => exact .ite (.finish (hs.storeCheck.of_ok he0)) (.ite (.finish (hs.storeCheck.of_ok he0)) (.finish
        (hs.storeCheck.of_ok he0)))

theorem State.Tidy.execStoreRead (hs : s.Tidy W M) {k} : TidyOutcome W M (execStoreRead k s) := by
  unfold Machine.execStoreRead
  exact .next (hs.runCmd (fun _ _ h => h.storeReadWork))

theorem State.Tidy.randomWork (hs : s.Tidy W M) {c} : (randomWork s c).Tidy W M := by
  unfold Machine.randomWork
  exact .finish hs.drawAt

theorem State.Tidy.execRandom (hs : s.Tidy W M) {k} : TidyOutcome W M (execRandom k s) := by
  unfold Machine.execRandom
  exact .next (hs.runCmd (fun _ _ h => h.randomWork))

theorem State.Tidy.countOp (hs : s.Tidy W M) : (s.countOp).Tidy W M := by
  unfold State.countOp
  exact hs.bump

theorem State.Tidy.attestWork (hs : s.Tidy W M) {c} : (attestWork s c).Tidy W M := by
  unfold Machine.attestWork
  exact .ite (.finish hs) (.finish hs.draw.countOp)

theorem State.Tidy.execAttest (hs : s.Tidy W M) {k} : TidyOutcome W M (execAttest k s) := by
  unfold Machine.execAttest
  exact .next (hs.runCmd (fun _ _ h => h.attestWork))

theorem State.Tidy.fillSlot (hs : s.Tidy W M) {p n k material} : (s.fillSlot p n k material).Tidy W M := by
  unfold State.fillSlot
  exact hs.writeSlot.frame

theorem State.Tidy.commitSlot (hs : s.Tidy W M) {n r} : (commitSlot n s r).Tidy W M := by
  unfold Machine.commitSlot
  exact .ite (.finish hs) (.commit hs)

theorem State.Tidy.storeSecret (hs : s.Tidy W M) {c n alg binding secret out} :
    (s.storeSecret c n alg binding secret out).Tidy W M := by
  unfold State.storeSecret
  dsimp only
  split
  · exact hs.fillSlot.countOp.commitSlot
  · split
    · exact .finish hs
    · exact hs.fillSlot.countOp.commitSlot

theorem State.Tidy.takeUses (hs : s.Tidy W M) {l} : (s.takeUses l).Tidy W M := by
  unfold State.takeUses
  refine .ite (.exhausted hs.bump) ?_
  split
  · exact .wait hs.checkUseMark
  · exact .ok (.foldl (fun _ _ h => by
    split
    · next he1 => exact h.takeUse.of_ok he1
    · next he1 => exact h) hs)

theorem State.Tidy.decapsWork (hs : s.Tidy W M) {c} : (decapsWork s c).Tidy W M := by
  unfold Machine.decapsWork
  split
  · exact .finish hs
  · split
    · exact .finish hs
    · refine .ite (.finish hs) ?_
      split
      · exact hs.refuse
      · split
        · exact hs.refuse
        · exact hs.takeUses.andThen (fun _ h => h.storeSecret)

theorem State.Tidy.execKemDecaps (hs : s.Tidy W M) {k} : TidyOutcome W M (execKemDecaps k s) := by
  unfold Machine.execKemDecaps
  exact .next (hs.runCmd (fun _ _ h => h.decapsWork))

theorem State.Tidy.encapsWork (hs : s.Tidy W M) {c} : (encapsWork s c).Tidy W M := by
  unfold Machine.encapsWork
  split
  · exact .finish hs
  · dsimp only
    split
    · exact hs.refuse
    · exact hs.takeUses.andThen (fun _ h => h.draw.storeSecret)

theorem State.Tidy.execKemEncaps (hs : s.Tidy W M) {k} : TidyOutcome W M (execKemEncaps k s) := by
  unfold Machine.execKemEncaps
  exact .next (hs.runCmd (fun _ _ h => h.encapsWork))

theorem State.Tidy.agreeWork (hs : s.Tidy W M) {c} : (agreeWork s c).Tidy W M := by
  unfold Machine.agreeWork
  dsimp only
  split
  · exact .finish hs
  · split
    · exact hs.refuse
    · split
      · exact hs.refuse
      · exact hs.takeUses.andThen (fun _ h => h.storeSecret)

theorem State.Tidy.execPkAgree (hs : s.Tidy W M) {k} : TidyOutcome W M (execPkAgree k s) := by
  unfold Machine.execPkAgree
  exact .next (hs.runCmd (fun _ _ h => h.agreeWork))

theorem State.Tidy.verifyWork (hs : s.Tidy W M) {c} : (verifyWork s c).Tidy W M := by
  unfold Machine.verifyWork
  exact .ite (.finish hs) (.ite (.finish hs.countOp) (.finish hs.countOp.bump))

theorem State.Tidy.execPkVerify (hs : s.Tidy W M) {k} : TidyOutcome W M (execPkVerify k s) := by
  unfold Machine.execPkVerify
  exact .next (hs.runCmd (fun _ _ h => h.verifyWork))

theorem State.Tidy.signWork (hs : s.Tidy W M) {c} : (signWork s c).Tidy W M := by
  unfold Machine.signWork
  dsimp only
  split
  · exact hs.refuse
  · refine .ite ?_ (hs.takeUse.andThen (fun _ h => .finish h.drawAt.countOp))
    split
    · exact hs.refuse
    · exact hs.takeUses.andThen (fun _ h => .finish h.drawAt.countOp)

theorem State.Tidy.execPkSign (hs : s.Tidy W M) {k} : TidyOutcome W M (execPkSign k s) := by
  unfold Machine.execPkSign
  exact .next (hs.runCmd (fun _ _ h => h.signWork))

theorem State.Tidy.keygenWork (hs : s.Tidy W M) {c} : (keygenWork s c).Tidy W M := by
  unfold Machine.keygenWork
  split
  · exact .finish hs
  · exact hs.draw.fillSlot.countOp.commitSlot

theorem State.Tidy.execPkKeygen (hs : s.Tidy W M) {k} : TidyOutcome W M (execPkKeygen k s) := by
  unfold Machine.execPkKeygen
  exact .next (hs.runCmd (fun _ _ h => h.keygenWork))

theorem State.Tidy.runOpcode1 (hs : s.Tidy W M) {op k} : TidyOutcome W M (runOpcode1 op k s) := by
  unfold Machine.runOpcode1
  split
  · exact hs.execPkKeygen
  · exact hs.execPkSign
  · exact hs.execPkVerify
  · exact hs.execPkAgree
  · exact hs.execKemEncaps
  · exact hs.execKemDecaps
  · exact hs.execAttest
  · exact hs.execRandom
  · exact hs.execStoreRead
  · exact hs.execStoreWrite
  · exact hs.execStoreSanitize
  · exact hs.execFlowCreate
  · exact hs.execFlowModify
  · exact hs.execFlowDestroy
  · exact hs.execSakInstall
  · exact hs.execFlowStats
  · exact hs.execAppletLoad
  · exact .ite hs.execAppletInvoke (.next hs)
  · exact hs.execAppletUnload
  · exact hs.execFobPair
  · exact hs.execFobRemove
  · exact hs.execAccessPolicySet
  · exact hs.execReleaseRequest
  · exact hs.execImmoConfig
  · exact hs.execLifecycleAdvance
  · exact hs.execDebugChallenge
  · exact hs.execDebugGrant
  · exact hs.execCardTransact
  · exact .next hs

theorem State.Tidy.digestWork (hs : s.Tidy W M) {c} : (digestWork s c).Tidy W M := by
  unfold Machine.digestWork
  exact .finish hs

theorem State.Tidy.execDigest (hs : s.Tidy W M) {k} : TidyOutcome W M (execDigest k s) := by
  unfold Machine.execDigest
  exact .next (hs.runCmd (fun _ _ h => h.digestWork))

theorem State.Tidy.authFail (hs : s.Tidy W M) {c} : (s.authFail c).Tidy W M := by
  unfold State.authFail
  exact .finish hs.bump

theorem State.Tidy.unwrapWork (hs : s.Tidy W M) {c} : (unwrapWork s c).Tidy W M := by
  unfold Machine.unwrapWork
  split
  · exact hs.refuse
  · exact hs.takeUse.andThen (fun _ h => .ite (.finish h) h.authFail)

theorem State.Tidy.execDataUnwrap (hs : s.Tidy W M) {k} : TidyOutcome W M (execDataUnwrap k s) := by
  unfold Machine.execDataUnwrap
  exact .next (hs.runCmd (fun _ _ h => h.unwrapWork))

theorem State.Tidy.wrapWork (hs : s.Tidy W M) {c} : (wrapWork s c).Tidy W M := by
  unfold Machine.wrapWork
  split
  · exact hs.refuse
  · exact hs.takeUse.andThen (fun _ h => .finish h)

theorem State.Tidy.execDataWrap (hs : s.Tidy W M) {k} : TidyOutcome W M (execDataWrap k s) := by
  unfold Machine.execDataWrap
  exact .next (hs.runCmd (fun _ _ h => h.wrapWork))

theorem State.Tidy.macVerWork (hs : s.Tidy W M) {c} : (macVerWork s c).Tidy W M := by
  unfold Machine.macVerWork
  split
  · exact hs.refuse
  · exact hs.takeUse.andThen (fun _ h => .ite (.finish h) (.finish h.bump))

theorem State.Tidy.execMacVerify (hs : s.Tidy W M) {k} : TidyOutcome W M (execMacVerify k s) := by
  unfold Machine.execMacVerify
  exact .next (hs.runCmd (fun _ _ h => h.macVerWork))

theorem State.Tidy.drewNonce (hs : s.Tidy W M) {c} : (s.drewNonce c).Tidy W M := by
  unfold State.drewNonce
  exact .ite hs.drawAt hs

theorem State.Tidy.macGenWork (hs : s.Tidy W M) {c} : (macGenWork s c).Tidy W M := by
  unfold Machine.macGenWork
  split
  · exact hs.refuse
  · exact hs.takeUse.andThen (fun _ h => .finish h.drewNonce)

theorem State.Tidy.execMacGenerate (hs : s.Tidy W M) {k} : TidyOutcome W M (execMacGenerate k s) := by
  unfold Machine.execMacGenerate
  exact .next (hs.runCmd (fun _ _ h => h.macGenWork))

theorem State.Tidy.decryptWork (hs : s.Tidy W M) {c} : (decryptWork s c).Tidy W M := by
  unfold Machine.decryptWork
  split
  · exact hs.refuse
  · exact hs.takeUse.andThen (fun _ h => .ite (.finish h) h.authFail)

theorem State.Tidy.execAeadDecrypt (hs : s.Tidy W M) {k} : TidyOutcome W M (execAeadDecrypt k s) := by
  unfold Machine.execAeadDecrypt
  exact .next (hs.runCmd (fun _ _ h => h.decryptWork))

theorem State.Tidy.encryptWork (hs : s.Tidy W M) {c} : (encryptWork s c).Tidy W M := by
  unfold Machine.encryptWork
  split
  · exact hs.refuse
  · exact hs.takeUse.andThen (fun _ h => .finish h.drewNonce)

theorem State.Tidy.execAeadEncrypt (hs : s.Tidy W M) {k} : TidyOutcome W M (execAeadEncrypt k s) := by
  unfold Machine.execAeadEncrypt
  exact .next (hs.runCmd (fun _ _ h => h.encryptWork))

theorem State.Tidy.unsealWork (hs : s.Tidy W M) {c} : (unsealWork s c).Tidy W M := by
  unfold Machine.unsealWork
  split
  · exact hs.refuse
  · exact .ite hs.refuse (hs.takeUse.andThen (fun _ h => by
    split
    · exact .finish h
    · exact h.authFail))

theorem State.Tidy.execUnseal (hs : s.Tidy W M) {k} : TidyOutcome W M (execUnseal k s) := by
  unfold Machine.execUnseal
  exact .next (hs.runCmd (fun _ _ h => h.unsealWork))

theorem State.Tidy.sealWork (hs : s.Tidy W M) {c} : (sealWork s c).Tidy W M := by
  unfold Machine.sealWork
  split
  · exact hs.refuse
  · exact .ite (.finish hs) (.ite hs.refuse (hs.takeUse.andThen (fun _ h => .finish h.drawAt)))

theorem State.Tidy.execSeal (hs : s.Tidy W M) {k} : TidyOutcome W M (execSeal k s) := by
  unfold Machine.execSeal
  exact .next (hs.runCmd (fun _ _ h => h.sealWork))

theorem State.Tidy.counterReadWork (hs : s.Tidy W M) {c} : (counterReadWork s c).Tidy W M := by
  unfold Machine.counterReadWork
  split <;> exact .finish hs

theorem State.Tidy.execCounterRead (hs : s.Tidy W M) {k} : TidyOutcome W M (execCounterRead k s) := by
  unfold Machine.execCounterRead
  exact .next (hs.runCmd (fun _ _ h => h.counterReadWork))

theorem State.Tidy.counterIncWork (hs : s.Tidy W M) {c} : (counterIncWork s c).Tidy W M := by
  unfold Machine.counterIncWork
  split
  · exact .finish hs
  · exact .ite (.finish hs) (.commit hs.writeSlot)

theorem State.Tidy.execCounterIncrement (hs : s.Tidy W M) {k} : TidyOutcome W M (execCounterIncrement k s) := by
  unfold Machine.execCounterIncrement
  exact .next (hs.runCmd (fun _ _ h => h.counterIncWork))

theorem State.Tidy.counterCreateWork (hs : s.Tidy W M) {c} : (counterCreateWork s c).Tidy W M := by
  unfold Machine.counterCreateWork
  split
  · exact .finish hs
  · exact .commit hs.fillSlot

theorem State.Tidy.execCounterCreate (hs : s.Tidy W M) {k} : TidyOutcome W M (execCounterCreate k s) := by
  unfold Machine.execCounterCreate
  exact .next (hs.runCmd (fun _ _ h => h.counterCreateWork))

theorem State.Tidy.infoWork (hs : s.Tidy W M) {c} : (infoWork s c).Tidy W M := by
  unfold Machine.infoWork
  split <;> exact .finish hs

theorem State.Tidy.execKeyInfo (hs : s.Tidy W M) {k} : TidyOutcome W M (execKeyInfo k s) := by
  unfold Machine.execKeyInfo
  exact .next (hs.runCmd (fun _ _ h => h.infoWork))

theorem State.Tidy.exportWork (hs : s.Tidy W M) {c} : (exportWork s c).Tidy W M := by
  unfold Machine.exportWork
  split
  · exact hs.refuse
  · exact hs.refuse
  · exact .ite (.finish hs) (hs.takeUse.andThen (fun _ h => .finish h))

theorem State.Tidy.execKeyExport (hs : s.Tidy W M) {k} : TidyOutcome W M (execKeyExport k s) := by
  unfold Machine.execKeyExport
  exact .next (hs.runCmd (fun _ _ h => h.exportWork))

theorem State.Tidy.destroySlot (hs : s.Tidy W M) {n} : (s.destroySlot n).Tidy W M := by
  unfold State.destroySlot
  exact .ite hs.frame hs.frame.writePage.markPages

theorem State.Tidy.destroyWork (hs : s.Tidy W M) {c} : (destroyWork s c).Tidy W M := by
  unfold Machine.destroyWork
  split
  · exact .finish hs
  · exact hs.destroySlot.commitSlot

theorem State.Tidy.execKeyDestroy (hs : s.Tidy W M) {k} : TidyOutcome W M (execKeyDestroy k s) := by
  unfold Machine.execKeyDestroy
  exact .next (hs.runCmd (fun _ _ h => h.destroyWork))

theorem State.Tidy.deriveWork (hs : s.Tidy W M) {c} : (deriveWork s c).Tidy W M := by
  unfold Machine.deriveWork
  split
  · exact .finish hs
  · exact hs.refuse
  · refine .ite (.finish hs) ?_
    split
    · exact .finish hs
    · exact hs.takeUse.andThen (fun _ h => h.fillSlot.commitSlot)

theorem State.Tidy.execKeyDerive (hs : s.Tidy W M) {k} : TidyOutcome W M (execKeyDerive k s) := by
  unfold Machine.execKeyDerive
  exact .next (hs.runCmd (fun _ _ h => h.deriveWork))

theorem State.Tidy.importWork (hs : s.Tidy W M) {c} : (importWork s c).Tidy W M := by
  unfold Machine.importWork
  split
  · exact .finish hs
  · exact hs.refuse
  · split
    · exact .finish hs
    · exact hs.takeUse.andThen (fun _ h => .ite h.fillSlot.commitSlot (.finish h.bump))

theorem State.Tidy.execKeyImport (hs : s.Tidy W M) {k} : TidyOutcome W M (execKeyImport k s) := by
  unfold Machine.execKeyImport
  exact .next (hs.runCmd (fun _ _ h => h.importWork))

theorem State.Tidy.generateWork (hs : s.Tidy W M) {c} : (generateWork s c).Tidy W M := by
  unfold Machine.generateWork
  split
  · exact .finish hs
  · exact hs.draw.fillSlot.commitSlot

theorem State.Tidy.execKeyGenerate (hs : s.Tidy W M) {k} : TidyOutcome W M (execKeyGenerate k s) := by
  unfold Machine.execKeyGenerate
  exact .next (hs.runCmd (fun _ _ h => h.generateWork))

theorem State.Tidy.powerCapWork (hs : s.Tidy W M) {c} : (powerCapWork s c).Tidy W M := by
  unfold Machine.powerCapWork
  exact .commit hs.updPower.setFld

theorem State.Tidy.execPowerCapSet (hs : s.Tidy W M) {k} : TidyOutcome W M (execPowerCapSet k s) := by
  unfold Machine.execPowerCapSet
  exact .next (hs.runCmd (fun _ _ h => h.powerCapWork))

theorem State.Tidy.refill (hs : s.Tidy W M) {b h} : (s.refill b h).Tidy W M := by
  unfold State.refill
  exact hs.frame.setFld.setFld.showStore

theorem State.Tidy.showPlan (hs : s.Tidy W M) : (s.showPlan).Tidy W M := by
  unfold State.showPlan
  exact hs.setFld.setFld.setFld.setFld.setFld

theorem State.Tidy.frugalityStep (hs : s.Tidy W M) {old new cause} : (s.frugalityStep old new cause).Tidy W M := by
  unfold State.frugalityStep
  dsimp only
  split
  · exact .ite hs.post hs.post.post
  · exact hs.post

theorem State.Tidy.stepLevel (hs : s.Tidy W M) {n cause} : (s.stepLevel n cause).Tidy W M := by
  unfold State.stepLevel
  exact .raise (.frugalityStep (.showPlan (.setFld (.frame (.ite hs.bump hs.bump)))))

theorem State.Tidy.stepDown (hs : s.Tidy W M) {cause n} : (s.stepDown cause n).Tidy W M := by
  induction n generalizing s with
  | zero => exact hs
  | succ n ih =>
    unfold State.stepDown
    exact .ite (ih hs.stepLevel) hs

theorem State.Tidy.stepFree (hs : s.Tidy W M) {cause n} : (s.stepFree cause n).Tidy W M := by
  induction n generalizing s with
  | zero => exact hs
  | succ n ih =>
    unfold State.stepFree
    exact .ite (ih hs.stepLevel) hs

theorem State.Tidy.plan (hs : s.Tidy W M) {cause} : (s.plan cause).Tidy W M := by
  unfold State.plan
  exact .showPlan (.frame (.ite hs.stepFree (.ite hs.stepDown.stepLevel hs.stepDown)))

theorem State.Tidy.reservoirWork (hs : s.Tidy W M) {c} : (reservoirWork s c).Tidy W M := by
  unfold Machine.reservoirWork
  exact .commit hs.refill.plan

theorem State.Tidy.execReservoirSet (hs : s.Tidy W M) {k} : TidyOutcome W M (execReservoirSet k s) := by
  unfold Machine.execReservoirSet
  exact .next (hs.runCmd (fun _ _ h => h.reservoirWork))

theorem State.Tidy.spillRegionWork (hs : s.Tidy W M) {c} : (spillRegionWork s c).Tidy W M := by
  unfold Machine.spillRegionWork
  exact .ite (.finish hs) (.commit (.setFld (.setFld (.ite hs.frame hs.frame.draw))))

theorem State.Tidy.execSpillRegionSet (hs : s.Tidy W M) {k} : TidyOutcome W M (execSpillRegionSet k s) := by
  unfold Machine.execSpillRegionSet
  exact .next (hs.runCmd (fun _ _ h => h.spillRegionWork))

theorem State.Tidy.noteDefer (hs : s.Tidy W M) {was} : (s.noteDefer was).Tidy W M := by
  unfold State.noteDefer
  exact .ite hs.raise hs

theorem State.Tidy.evalVotes (hs : s.Tidy W M) : (s.evalVotes).Tidy W M := by
  unfold State.evalVotes
  exact .ite hs (.foldl (fun _ _ h => .ite h h.post) hs.frame.settleLanes.canSettleAll.cardSettle)

theorem State.Tidy.powerVoteWork (hs : s.Tidy W M) {c} : (powerVoteWork s c).Tidy W M := by
  unfold Machine.powerVoteWork
  dsimp only
  split
  · exact .finish hs
  · exact .ite (.finish hs) (.finish hs.updPart.evalVotes.noteDefer)

theorem State.Tidy.execPowerVote (hs : s.Tidy W M) {k} : TidyOutcome W M (execPowerVote k s) := by
  unfold Machine.execPowerVote
  exact .next (hs.runCmd (fun _ _ h => h.powerVoteWork))

theorem State.Tidy.keepUse (hs : s.Tidy W M) {c} : (s.keepUse c).Tidy W M := by
  unfold State.keepUse
  refine .ite hs ?_
  split
  · next he0 => exact hs.takeUse.of_ok he0
  · next he0 => exact hs
  · next he0 => exact hs.takeUse.of_wait he0

theorem State.Tidy.haltCmds (hs : s.Tidy W M) {p} : (s.haltCmds p).Tidy W M := by
  unfold State.haltCmds
  exact .frame (.abortTasks (.foldl (fun _ _ h => h.keepUse.dropJobs) hs))

theorem State.Tidy.startPartReset (hs : s.Tidy W M) {p c} : (s.startPartReset p c).Tidy W M := by
  unfold State.startPartReset
  split
  · exact hs
  · exact .ite hs (.ite hs.abortRound.haltCmds.updPart.serveQueue hs.abortRound.haltCmds.updPart)

theorem State.Tidy.partResetWork (hs : s.Tidy W M) {c} : (partResetWork s c).Tidy W M := by
  unfold Machine.partResetWork
  exact .finish hs.startPartReset

theorem State.Tidy.execPartReset (hs : s.Tidy W M) {k} : TidyOutcome W M (execPartReset k s) := by
  unfold Machine.execPartReset
  exact .next (hs.runCmd (fun _ _ h => h.partResetWork))

theorem State.Tidy.setRegions (hs : s.Tidy W M) {t} : (s.setRegions t).Tidy W M := by
  unfold State.setRegions
  exact hs.frame

theorem State.Tidy.serveTable (hs : s.Tidy W M) {words} : (s.serveTable words).Tidy W M := by
  unfold State.serveTable
  exact hs.markPages.setRegions

theorem State.Tidy.dropRegions (hs : s.Tidy W M) {p} : (s.dropRegions p).Tidy W M := by
  unfold State.dropRegions
  exact hs.serveTable

theorem State.Tidy.destroyPart (hs : s.Tidy W M) {p} : (s.destroyPart p).Tidy W M := by
  unfold State.destroyPart
  exact .resetRegs (.frame (.dropRegions (.setApplets (.foldl (fun _ _ h => h.destroyFlow) (.foldl (fun _ _ h => h.destroySlot)
      hs)))))

theorem State.Tidy.flushVec (hs : s.Tidy W M) {p v} : (s.flushVec p v).Tidy W M := by
  unfold State.flushVec
  exact .ite hs.setFn.sendMsg hs

theorem State.Tidy.flushMsgs (hs : s.Tidy W M) {p} : (s.flushMsgs p).Tidy W M := by
  unfold State.flushMsgs
  exact .foldl (fun _ _ h => h.flushVec) hs

theorem State.Tidy.resetMsix (hs : s.Tidy W M) {p} : (s.resetMsix p).Tidy W M := by
  unfold State.resetMsix
  exact hs.resetRegs

theorem State.Tidy.dropRings (hs : s.Tidy W M) {p} : (s.dropRings p).Tidy W M := by
  unfold State.dropRings
  exact hs.frame.updPart.resetRegs

theorem State.Tidy.quench1 (hs : s.Tidy W M) {p} : (s.quench1 p).Tidy W M := by
  unfold State.quench1
  exact hs.dropSlots.noteQuench

theorem State.Tidy.endPartReset (hs : s.Tidy W M) {p c} : (s.endPartReset p c).Tidy W M := by
  unfold State.endPartReset
  extract_lets gone n s1 s2 s3 s4 s5 s6
  have h2 : s2.Tidy W M := .ite hs.quench1 (.foldl (fun _ _ h => h.complete) hs.quench1)
  have h5 : s5.Tidy W M := h2.dropRings.updPart.evalVotes.resetRegs
  have h6 : s6.Tidy W M := .ite h5.setFn.resetMsix h5.flushMsgs
  exact .post (.ite h6.cardRollback h6)

theorem State.Tidy.resetTarget (hs : s.Tidy W M) {c} : (s.resetTarget c).Tidy W M := by
  unfold State.resetTarget
  exact .ite hs hs.startPartReset.endPartReset.frame

theorem State.Tidy.partDestroyWork (hs : s.Tidy W M) {c} : (partDestroyWork s c).Tidy W M := by
  unfold Machine.partDestroyWork
  exact .ite (.more hs.resetTarget) (.ite (.commit hs.resetTarget.destroyPart) (.more hs.resetTarget.waitCommit))

theorem State.Tidy.execPartDestroy (hs : s.Tidy W M) {k} : TidyOutcome W M (execPartDestroy k s) := by
  unfold Machine.execPartDestroy
  exact .next (hs.runCmd (fun _ _ h => h.partDestroyWork))

theorem State.Tidy.partSetWork (hs : s.Tidy W M) {c} : (partSetWork s c).Tidy W M := by
  unfold Machine.partSetWork
  exact .commit hs.updPart

theorem State.Tidy.execPartSet (hs : s.Tidy W M) {k} : TidyOutcome W M (execPartSet k s) := by
  unfold Machine.execPartSet
  exact .next (hs.runCmd (fun _ _ h => h.partSetWork))

theorem State.Tidy.partCreateWork (hs : s.Tidy W M) {c} : (partCreateWork s c).Tidy W M := by
  unfold Machine.partCreateWork
  split
  · exact .finish hs
  · exact .commit hs.frame

theorem State.Tidy.execPartCreate (hs : s.Tidy W M) {k} : TidyOutcome W M (execPartCreate k s) := by
  unfold Machine.execPartCreate
  exact .next (hs.runCmd (fun _ _ h => h.partCreateWork))

theorem State.Tidy.nopWork (hs : s.Tidy W M) {x} : (nopWork s x).Tidy W M := by
  unfold Machine.nopWork
  exact .finish hs

theorem State.Tidy.execNop (hs : s.Tidy W M) {k} : TidyOutcome W M (execNop k s) := by
  unfold Machine.execNop
  exact .next (hs.runCmd (fun _ _ h => h.nopWork))

theorem State.Tidy.runOpcode0 (hs : s.Tidy W M) {op k} : TidyOutcome W M (runOpcode0 op k s) := by
  unfold Machine.runOpcode0
  split
  · exact hs.execNop
  · exact hs.execPartCreate
  · exact hs.execPartSet
  · exact hs.execPartDestroy
  · exact hs.execPartReset
  · exact hs.execPowerVote
  · exact hs.execSpillRegionSet
  · exact hs.execReservoirSet
  · exact hs.execPowerCapSet
  · exact hs.execKeyGenerate
  · exact hs.execKeyImport
  · exact hs.execKeyDerive
  · exact hs.execKeyDestroy
  · exact hs.execKeyExport
  · exact hs.execKeyInfo
  · exact hs.execCounterCreate
  · exact hs.execCounterIncrement
  · exact hs.execCounterRead
  · exact hs.execSeal
  · exact hs.execUnseal
  · exact hs.execAeadEncrypt
  · exact hs.execAeadDecrypt
  · exact hs.execMacGenerate
  · exact hs.execMacVerify
  · exact hs.execDataWrap
  · exact hs.execDataUnwrap
  · exact hs.execDigest
  · exact .next hs

theorem State.Tidy.after {o : Host.Outcome State Fault Refusal} (hs : s.Tidy W M) (ho : TidyOutcome W M o) :
    (s.after o).Tidy W M := by
  unfold State.after
  split
  · exact (ho.of_next rfl)
  · exact hs
  · exact hs

theorem State.Tidy.runOpcode (hs : s.Tidy W M) {k} : (s.runOpcode k).Tidy W M := by
  unfold State.runOpcode
  split
  · exact hs
  · exact hs.after (.ite hs.runOpcode0 hs.runOpcode1)

theorem State.Tidy.tamperWarm (hs : s.Tidy W M) : (s.tamperWarm).Tidy W M := by
  unfold State.tamperWarm
  exact hs.deviceWarm

theorem State.Tidy.commitPage (hs : s.Tidy W M) {pg} : (s.commitPage pg).Tidy W M := by
  unfold State.commitPage
  exact .ite hs.frame.serveTable hs.frame

theorem State.Tidy.journalPage (hs : s.Tidy W M) {pg} : (s.journalPage pg).Tidy W M := by
  unfold State.journalPage
  exact .ite hs.commitPage (.ite hs hs.frame)

theorem State.Tidy.dropTxn (hs : s.Tidy W M) {x} : (s.dropTxn x).Tidy W M := by
  unfold State.dropTxn
  exact hs.frame

theorem State.Tidy.runOwn (hs : s.Tidy W M) {t} : (s.runOwn t).Tidy W M := by
  unfold State.runOwn
  dsimp only
  split
  · exact hs.dropTxn.frame
  · exact hs.dropTxn.journalEpoch
  · exact hs.dropTxn.journalPage
  · exact hs.dropTxn.checkUseMark
  · exact hs.dropTxn.checkDrawMark
  · exact .ite hs.dropTxn.raiseGen hs.dropTxn
  · exact hs.dropTxn.cardRestore
  · exact hs.dropTxn.flushLog
  · exact .ite hs.dropTxn hs.dropTxn.runQuench.tamperWarm

theorem State.Tidy.refuseStale (hs : s.Tidy W M) : (s.refuseStale).Tidy W M := by
  unfold State.refuseStale
  exact .ite hs hs.frame.discardItem

theorem State.Tidy.beginTxn (hs : s.Tidy W M) {x} : (s.beginTxn x).Tidy W M := by
  unfold State.beginTxn
  refine .ite hs ?_
  dsimp only
  split
  · exact .runOwn (.ite hs hs.refuseStale)
  · exact .runOpcode (.ite hs hs.refuseStale)

theorem State.Tidy.setVhold (hs : s.Tidy W M) {mv} : (s.setVhold mv).Tidy W M := by
  unfold State.setVhold
  exact hs.frame.setFld

theorem State.Tidy.execVholdReady (hs : s.Tidy W M) {vholdMv} : TidyOutcome W M (execVholdReady vholdMv s) := by
  unfold Machine.execVholdReady
  exact .next (.foldl (fun _ _ h => h.beginTxn) hs.setVhold)

theorem State.Tidy.pmicFail (hs : s.Tidy W M) {k} : (s.pmicFail k).Tidy W M := by
  unfold State.pmicFail
  dsimp only
  split
  · exact hs.setFld.raise.setFld
  · exact hs.setFld.raise.updPower
  · exact hs.setFld.raise
  · exact .ite hs.setFld.raise.updPower.setFld hs.setFld.raise.updPower

theorem State.Tidy.pmicStatus (hs : s.Tidy W M) {v} : (s.pmicStatus v).Tidy W M := by
  unfold State.pmicStatus
  exact hs.setFld.raise.pmbus

theorem State.Tidy.setCapStep (hs : s.Tidy W M) {n} : (s.setCapStep n).Tidy W M := by
  unfold State.setCapStep
  exact .ite (.serve (.ite (.updPower (.ite hs.setFld.setFld.raise hs.setFld.setFld)) (.ite hs.setFld.setFld.raise
      hs.setFld.setFld))) (.ite (.updPower (.ite hs.setFld.setFld.raise hs.setFld.setFld)) (.ite hs.setFld.setFld.raise
      hs.setFld.setFld))

theorem State.Tidy.capLower (hs : s.Tidy W M) {mw} : (s.capLower mw).Tidy W M := by
  unfold State.capLower
  exact .ite hs.updPower.setFld.updPower.setCapStep hs.updPower.setFld

theorem State.Tidy.voutSend (hs : s.Tidy W M) {mv} : (s.voutSend mv).Tidy W M := by
  unfold State.voutSend
  exact hs.pmbus

theorem State.Tidy.askCore (hs : s.Tidy W M) {mv ack} : (s.askCore mv ack).Tidy W M := by
  unfold State.askCore
  exact .ite hs (.ite hs.voutSend.setFld hs.voutSend.updPower.pmicNack)

theorem State.Tidy.capRaise (hs : s.Tidy W M) {ack} : (s.capRaise ack).Tidy W M := by
  unfold State.capRaise
  exact .ite hs.updPower.setFld.setCapStep (.ite hs.updPower.setFld.setCapStep.askCore (.ite (.ite
      hs.updPower.setFld.updPower.setCapStep hs.updPower.setFld.askCore) (.ite (.ite hs.updPower.setFld.updPower.setCapStep
      hs.updPower.setFld.updPower) hs.updPower.setFld)))

theorem State.Tidy.capReading (hs : s.Tidy W M) {mw ack} : (s.capReading mw ack).Tidy W M := by
  unfold State.capReading
  exact .ite hs.setFld.setFld.setFld.capRaise hs.setFld.setFld.setFld.capLower

theorem State.Tidy.powerReading (hs : s.Tidy W M) {mw ns ack} : (s.powerReading mw ns ack).Tidy W M := by
  unfold State.powerReading
  exact .ite hs.capReading (.ite hs.spend hs)

theorem State.Tidy.execPmicRetry (hs : s.Tidy W M) {k v} : TidyOutcome W M (execPmicRetry k v s) := by
  unfold Machine.execPmicRetry
  refine .next ?_
  split
  · exact hs
  · refine .ite hs ?_
    dsimp only
    split
    · split
      · exact hs.updPower.powerReading
      · exact hs.updPower.setFld.updPower
      · exact hs.updPower.pmicStatus
      · exact hs.updPower
    · exact .ite hs.updPower hs.updPower.pmicFail

theorem State.Tidy.execPmicAlert (hs : s.Tidy W M) {rail status} : TidyOutcome W M (execPmicAlert rail status s) := by
  unfold Machine.execPmicAlert
  refine .next ?_
  dsimp only
  split
  · exact hs.setFld.pmbus.pmicStatus
  · exact hs.setFld.pmbus.pmicNack

theorem State.Tidy.execBusOffRecovery (hs : s.Tidy W M) {n} : TidyOutcome W M (execBusOffRecovery n s) := by
  unfold Machine.execBusOffRecovery
  exact .next (.ite hs.setFld.setFld.setFld.canSettle hs)

theorem State.Tidy.execCanBusOff (hs : s.Tidy W M) {n} : TidyOutcome W M (execCanBusOff n s) := by
  unfold Machine.execCanBusOff
  exact .next (.ite hs hs.setFld.setFld.raise.canFlush)

theorem State.Tidy.execClockStop (hs : s.Tidy W M) : TidyOutcome W M (execClockStop s) := by
  unfold Machine.execClockStop
  exact .next (.ite hs.setFld hs)

theorem State.Tidy.execCardTxnTimeout (hs : s.Tidy W M) : TidyOutcome W M (execCardTxnTimeout s) := by
  unfold Machine.execCardTxnTimeout
  refine .next ?_
  split
  · exact hs
  · exact .ite hs hs.cardRollback

theorem State.Tidy.execCardRemove (hs : s.Tidy W M) {lost} : TidyOutcome W M (execCardRemove lost s) := by
  unfold Machine.execCardRemove
  exact .next (.ite hs (.ite (.cardRollback (.ite hs.bump.updCard.cardOff hs.bump.updCard.setFld.cardOff.raise)) (.ite
      hs.bump.updCard.cardOff hs.bump.updCard.setFld.cardOff.raise)))

theorem State.Tidy.execCardCondPoll (hs : s.Tidy W M) {resp} : TidyOutcome W M (execCardCondPoll resp s) := by
  unfold Machine.execCardCondPoll
  exact .next (.ite hs (.ite hs.cardOff (.ite hs (.ite hs.emit.updCard.cardOff (.ite hs.emit.updCard.updCard
      hs.emit.updCard.updCard.setFld.raise)))))

theorem State.Tidy.cardFail (hs : s.Tidy W M) : (s.cardFail).Tidy W M := by
  unfold State.cardFail
  exact .ite hs.cardOff hs.cardActivate

theorem State.Tidy.execCardAtrTimeout (hs : s.Tidy W M) : TidyOutcome W M (execCardAtrTimeout s) := by
  unfold Machine.execCardAtrTimeout
  exact .next (.ite hs.cardFail hs)

theorem State.Tidy.cardUp (hs : s.Tidy W M) {x proto etu clk} : (s.cardUp x proto etu clk).Tidy W M := by
  unfold State.cardUp
  exact .ite hs.updCard.setFld.setFld.setFld.setFld hs.updCard.setFld.setFld.setFld.setFld.raise

theorem State.Tidy.cardNegotiate (hs : s.Tidy W M) {x pps} : (s.cardNegotiate x pps).Tidy W M := by
  unfold State.cardNegotiate
  split
  · exact hs.cardFail
  · split
    · exact .ite hs.cardUp (.ite hs.cardUp hs.cardActivate)
    · exact hs.cardUp

theorem State.Tidy.cardSpecific (hs : s.Tidy W M) {x ta2} : (s.cardSpecific x ta2).Tidy W M := by
  unfold State.cardSpecific
  split
  · exact .ite hs.cardFail hs.cardUp
  · exact hs.cardFail

theorem State.Tidy.execCardAtr (hs : s.Tidy W M) {a} : TidyOutcome W M (execCardAtr a s) := by
  unfold Machine.execCardAtr
  refine .next (.ite hs (.ite hs.cardFail ?_))
  split
  · exact hs.cardFail
  · split
    · exact hs.cardSpecific
    · exact hs.cardNegotiate

theorem State.Tidy.execCardInsert (hs : s.Tidy W M) : TidyOutcome W M (execCardInsert s) := by
  unfold Machine.execCardInsert
  exact .next (.ite hs hs.setFld.raise.cardSettle)

theorem State.Tidy.execChallengeLapse (hs : s.Tidy W M) : TidyOutcome W M (execChallengeLapse s) := by
  unfold Machine.execChallengeLapse
  refine .next ?_
  split
  · exact .ite hs.frame hs
  · exact hs

theorem State.Tidy.dbgDenied (hs : s.Tidy W M) {e op} : (s.dbgDenied e op).Tidy W M := by
  unfold State.dbgDenied
  exact .ite hs.emit hs

theorem State.Tidy.restartTask (hs : s.Tidy W M) {e b} : (s.restartTask e b).Tidy W M := by
  unfold State.restartTask
  exact hs.updEng.startTask

theorem State.Tidy.engineLost (hs : s.Tidy W M) {e} : (s.engineLost e).Tidy W M := by
  unfold State.engineLost
  dsimp only
  split
  · exact hs.engineReset.startTask
  · exact hs.engineReset.restartTask
  · exact hs.engineReset

theorem State.Tidy.execDbgEngResume (hs : s.Tidy W M) {e} : TidyOutcome W M (execDbgEngResume e s) := by
  unfold Machine.execDbgEngResume
  refine .next ?_
  split
  · exact .ite hs.engineLost hs
  · exact hs.dbgDenied

theorem State.Tidy.kCommit (hs : s.Tidy W M) {k : KCtx} (hk : k.Tidy M) {e old pc} : (s.kCommit e old k pc).Tidy W M := by
  unfold State.kCommit
  exact .updEng (.of_parts hs hs.store fun m => hk m)

theorem State.Tidy.kCtx (hs : s.Tidy W M) {e t} : (s.kCtx e t).Tidy M :=
  hs.pools

theorem State.Tidy.setProbation (hs : s.Tidy W M) {u b} : (s.setProbation u b).Tidy W M := by
  unfold State.setProbation
  split
  · exact .ite hs.setMaskBit.raise hs.setMaskBit
  · exact hs

theorem State.Tidy.unitProbation (hs : s.Tidy W M) {u stage late gen} : (s.unitProbation u stage late gen).Tidy W M := by
  unfold State.unitProbation
  exact hs.post

theorem State.Tidy.evict (hs : s.Tidy W M) {k h i} : (s.evict k h i).Tidy W M := by
  unfold State.evict
  exact hs.frame.serve

theorem State.Tidy.setSpares (hs : s.Tidy W M) : (s.setSpares).Tidy W M := by
  unfold State.setSpares
  exact .ite hs hs.setDomains

theorem State.Tidy.unitChange (hs : s.Tidy W M) {u enters} : (s.unitChange u enters).Tidy W M := by
  unfold State.unitChange
  split
  · exact .ite hs hs.raise
  · exact hs.raise
  · exact hs.raise
  · exact hs.raise
  · exact hs
  · exact hs

theorem State.Tidy.setService (hs : s.Tidy W M) {u b} : (s.setService u b).Tidy W M := by
  unfold State.setService
  exact hs.setMaskBit.unitChange

theorem State.Tidy.retire (hs : s.Tidy W M) {u cause} : (s.retire u cause).Tidy W M := by
  unfold State.retire
  refine .ite hs ?_
  extract_lets slot s1 s2 s3 s4 s5 n bad r hv s6 spare s7
  clear_value slot
  have h2 : s2.Tidy W M := by
    unfold s2
    split
    · exact hs.setService.refillSlot.engineLost.setSpares
    · exact hs.setService
  have h3 : s3.Tidy W M := by
    unfold s3
    split
    · exact h2.evict
    · exact h2
  have h4 : s4.Tidy W M := .ite h3.moveJobs h3
  have h5 : s5.Tidy W M := .ite h4.bump (.ite h4.bump h4)
  have h6 : s6.Tidy W M := h5.frame
  have h7 : s7.Tidy W M := h6.post.raise
  exact .ite h7 (.ite h7.unitProbation h7.setProbation.unitProbation)

theorem State.Tidy.strike (hs : s.Tidy W M) {u} : (s.strike u).Tidy W M := by
  unfold State.strike
  exact .ite hs.frame.retire hs.frame

theorem State.Tidy.postFailure (hs : s.Tidy W M) {h lane fv r} : (s.postFailure h lane fv r).Tidy W M := by
  unfold State.postFailure
  split
  · exact hs
  · exact hs.updFlow.post

theorem State.Tidy.countFailure (hs : s.Tidy W M) {h lane fv r} : (s.countFailure h lane fv r).Tidy W M := by
  unfold State.countFailure
  split
  · exact hs
  · exact .ite hs.updFlow.bump.raise (.ite hs.updFlow.bump.raise.updFlow hs.updFlow.bump.raise.postFailure)

theorem State.Tidy.noteFrame (hs : s.Tidy W M) {id outcome fv} : (s.noteFrame id outcome fv).Tidy W M := by
  unfold State.noteFrame
  exact .ite hs.frame hs

theorem State.Tidy.updFrame (hs : s.Tidy W M) {id g} : (s.updFrame id g).Tidy W M := by
  unfold State.updFrame
  exact hs.frame

theorem State.Tidy.doneMsg (hs : s.Tidy W M) {f i c m changed divert} : (s.doneMsg f i c m changed divert).Tidy W M := by
  unfold State.doneMsg
  exact .ite hs.updFrame.endFrame hs.updFrame

theorem State.Tidy.failMsg (hs : s.Tidy W M) {f i h c m r fv} : (s.failMsg f i h c m r fv).Tidy W M := by
  unfold State.failMsg
  exact hs.countFailure.noteFrame.doneMsg

theorem State.Tidy.failFrame (hs : s.Tidy W M) {b} : (s.failFrame b).Tidy W M := by
  unfold State.failFrame
  split
  · split
    · exact hs.failMsg
    · exact hs
  · exact hs

theorem State.Tidy.endCmd (hs : s.Tidy W M) {b r} : (s.endCmd b r).Tidy W M := by
  unfold State.endCmd
  split
  · split
    · exact hs.finish
    · exact hs
  · exact hs

theorem State.Tidy.kFault (hs : s.Tidy W M) {e t f} : (s.kFault e t f).Tidy W M := by
  unfold State.kFault
  refine .ite (.endCmd (.ite hs.bump.raise.updEng hs.bump.raise.engineReset)) (.ite (.endCmd (.failFrame (.ite
      hs.bump.raise.updEng hs.bump.raise.engineReset))) ?_)
  dsimp only
  split
  · exact .startTask (.strike (.ite hs.bump.raise.updEng hs.bump.raise.engineReset))
  · exact .strike (.ite hs.bump.raise.updEng hs.bump.raise.engineReset)

theorem State.Tidy.runInstr (hs : s.Tidy W M) {e t words} {f : KCtx → KOut} (hf : ∀ k, k.Tidy M → (f k).Tidy M) :
    (s.runInstr e t words f).Tidy W M := by
  unfold State.runInstr
  split
  · exact hs.kFault
  · split
    · next he => exact hs.kCommit ((hf _ hs.kCtx).of_go he)
    · next he => exact hs.kCommit ((hf _ hs.kCtx).of_goto he)
    · exact hs.kFault

theorem State.Tidy.instr (hs : s.Tidy W M) {e words} {f : KCtx → KOut} (hf : ∀ k, k.Tidy M → (f k).Tidy M) :
    (s.instr e words f).Tidy W M := by
  unfold State.instr
  split
  · exact hs.runInstr hf
  · exact hs

theorem KCtx.Tidy.byProfile {k : KCtx} {f g : KCtx → KOut} (hf : (f k).Tidy M) (hg : (g k).Tidy M) :
    (byProfile f g k).Tidy M := by
  unfold Machine.byProfile
  exact .ite hg hf

theorem State.Tidy.undefinedWord (hs : s.Tidy W M) {e words} : (s.undefinedWord e words).Tidy W M := by
  unfold State.undefinedWord
  exact hs.instr (fun _ h => .fault)

theorem KCtx.Tidy.timeRdt {k : KCtx} (hs : k.Tidy M) {now d} : (timeRdt now d k).Tidy M := by
  unfold Machine.timeRdt
  exact .go hs.frame

theorem KCtx.Tidy.timeWaitc {k : KCtx} (hs : k.Tidy M) {now r} : (timeWaitc now r k).Tidy M := by
  unfold Machine.timeWaitc
  exact .go hs.frame

theorem KCtx.Tidy.timeSev {k : KCtx} (hs : k.Tidy M) {own r} : (timeSev own r k).Tidy M := by
  unfold Machine.timeSev
  exact .ite .fault (.go hs)

theorem KCtx.Tidy.timeWfe {k : KCtx} (hs : k.Tidy M) {d} : (timeWfe d k).Tidy M := by
  unfold Machine.timeWfe
  exact .go hs.frame

theorem KCtx.Tidy.compute {k : KCtx} (hs : k.Tidy M) {g} : (compute g k).Tidy M := by
  unfold Machine.compute
  exact .go hs.frame

theorem KCtx.Tidy.shapeBfx {k : KCtx} (hs : k.Tidy M) {d s p w} : (shapeBfx d s p w k).Tidy M := by
  unfold Machine.shapeBfx
  exact .ite hs.compute .fault

theorem KCtx.Tidy.shapeBfi {k : KCtx} (hs : k.Tidy M) {d s p w} : (shapeBfi d s p w k).Tidy M := by
  unfold Machine.shapeBfi
  exact .ite hs.compute .fault

theorem KCtx.Tidy.profOp {k : KCtx} (hs : k.Tidy M) {now pos ks kd x own} : (profOp now pos ks kd x own k).Tidy M := by
  unfold Machine.profOp
  split
  · exact hs.shapeBfi
  · exact hs.shapeBfx
  · exact .ite hs.compute .fault
  · exact hs.compute
  · exact .ite hs.timeWfe .fault
  · exact .ite hs.timeSev .fault
  · exact .ite hs.timeWaitc .fault
  · exact .ite hs.timeRdt .fault

theorem State.Tidy.setEvent (hs : s.Tidy W M) {e n} : (s.setEvent e n).Tidy W M := by
  unfold State.setEvent
  split
  · exact .ite hs.setTask hs
  · exact hs

theorem State.Tidy.sev (hs : s.Tidy W M) {e r} : (s.sev e r).Tidy W M := by
  unfold State.sev
  split
  · exact hs
  · dsimp only
    split
    · next he0 => exact .setEvent (hs.runInstr (fun _ h1 => h1.timeSev))
    · next he0 => exact hs.runInstr (fun _ h1 => h1.timeSev)

theorem State.Tidy.prof (hs : s.Tidy W M) {e pos ks kd x} : (s.prof e pos ks kd x).Tidy W M := by
  unfold State.prof
  exact .ite hs.sev (hs.instr (fun _ h => h.profOp))

theorem KCtx.Tidy.jumpTo {k : KCtx} (hs : k.Tidy M) {target} : (jumpTo target k).Tidy M := by
  unfold Machine.jumpTo
  exact .ite (.goto hs) .fault

theorem KCtx.Tidy.kJmpcc {k : KCtx} (hs : k.Tidy M) {c target} : (kJmpcc c target k).Tidy M := by
  unfold Machine.kJmpcc
  exact .ite .fault (.ite hs.jumpTo (.go hs))

theorem State.Tidy.runLong (hs : s.Tidy W M) {e w x1 x2 x3} : (s.runLong e w x1 x2 x3).Tidy W M := by
  unfold State.runLong
  dsimp only
  split
  · exact hs.instr (fun _ h => h.compute)
  · exact hs.instr (fun _ h => h.compute)
  · exact hs.instr (fun _ h => h.compute)
  · exact hs.instr (fun _ h => h.compute)
  · exact hs.instr (fun _ h => h.compute)
  · exact hs.instr (fun _ h => h.compute)
  · exact .ite (hs.instr (fun _ h => h.compute)) hs.undefinedWord
  · exact hs.instr (fun _ h => h.kJmpcc)
  · exact hs.undefinedWord

theorem KCtx.Tidy.setPool {k : KCtx} (hk : k.Tidy M) {off bs} : (k.setPool off bs).Tidy M :=
  fun m => wf_putPool (hk m) _ _

theorem KCtx.Tidy.kStp {k : KCtx} (hs : k.Tidy M) {r b off} : (kStp r b off k).Tidy M := by
  unfold Machine.kStp
  exact .ite (.go hs.setPool) .fault

theorem KCtx.Tidy.setDm {k : KCtx} (hs : k.Tidy M) {a ws} : (k.setDm a ws).Tidy M := by
  unfold KCtx.setDm
  exact hs.frame

theorem KCtx.Tidy.kSt {k : KCtx} (hs : k.Tidy M) {r b off} : (kSt r b off k).Tidy M := by
  unfold Machine.kSt
  exact .ite (.go hs.setDm) .fault

theorem KCtx.Tidy.kLdp {k : KCtx} (hs : k.Tidy M) {r b off} : (kLdp r b off k).Tidy M := by
  unfold Machine.kLdp
  exact .ite (.go hs.frame) .fault

theorem KCtx.Tidy.kLd {k : KCtx} (hs : k.Tidy M) {r b off} : (kLd r b off k).Tidy M := by
  unfold Machine.kLd
  exact .ite (.go hs.frame) .fault

theorem State.Tidy.runMemory (hs : s.Tidy W M) {e w x} : (s.runMemory e w x).Tidy W M := by
  unfold State.runMemory
  dsimp only
  split
  · exact hs.instr (fun _ h => h.kLd)
  · exact hs.instr (fun _ h => h.kLdp)
  · exact hs.instr (fun _ h => h.kSt)
  · exact hs.instr (fun _ h => h.kStp)

theorem KCtx.Tidy.kUop {k : KCtx} (hs : k.Tidy M) {table n d} : (kUop table n d k).Tidy M := by
  unfold Machine.kUop
  split
  · exact .fault
  · exact .ite .fault (.go hs.frame)

theorem KCtx.Tidy.kMts {k : KCtx} (hs : k.Tidy M) {n s} : (kMts n s k).Tidy M := by
  unfold Machine.kMts
  split
  · exact .go hs.frame
  · exact .fault

theorem KCtx.Tidy.kMfs {k : KCtx} (hs : k.Tidy M) {n d info gen} : (kMfs n d info gen k).Tidy M := by
  unfold Machine.kMfs
  exact .go hs.frame

theorem State.Tidy.mfs {a : KCtx} (_ : s.Tidy W M) (ha : a.Tidy M) {e n d} : (s.mfs e n d a).Tidy M := by
  unfold State.mfs
  exact ha.kMfs

theorem KCtx.Tidy.kJr {k : KCtx} (hs : k.Tidy M) {r} : (kJr r k).Tidy M := by
  unfold Machine.kJr
  exact hs.jumpTo

theorem KCtx.Tidy.kPop {k : KCtx} (hs : k.Tidy M) {r} : (kPop r k).Tidy M := by
  unfold Machine.kPop
  exact .ite .fault (.ite (.go hs.frame) .fault)

theorem KCtx.Tidy.kPush {k : KCtx} (hs : k.Tidy M) {r} : (kPush r k).Tidy M := by
  unfold Machine.kPush
  exact .ite .fault (.ite (.go hs.frame.setDm) .fault)

theorem KCtx.Tidy.kSvca {k : KCtx} (hs : k.Tidy M) : (kSvca k).Tidy M := by
  unfold Machine.kSvca
  exact .ite .fault (.ite .fault (.ite (.go hs.frame) (.go hs.frame)))

theorem KCtx.Tidy.kSvc {k : KCtx} (hs : k.Tidy M) : (kSvc k).Tidy M := by
  unfold Machine.kSvc
  exact .ite (.go hs.frame) .fault

theorem KCtx.Tidy.kRetm {k : KCtx} (hs : k.Tidy M) : (kRetm k).Tidy M := by
  unfold Machine.kRetm
  exact .ite .fault (.ite .fault (.ite .fault (.goto hs.frame)))

theorem State.Tidy.kEnd (hs : s.Tidy W M) {e t} : (s.kEnd e t).Tidy W M := by
  unfold State.kEnd
  split
  · exact hs.kFault
  · refine .ite hs.updEng ?_
    split
    · exact hs.endApplet
    · exact hs.kFault

theorem State.Tidy.runSystem (hs : s.Tidy W M) {e w} : (s.runSystem e w).Tidy W M := by
  unfold State.runSystem
  dsimp only
  split
  · split
    · exact hs.instr (fun _ h => h.compute)
    · split
      · exact hs.kEnd
      · exact hs
    · exact hs.instr (fun _ h => h.kRetm)
    · exact hs.instr (fun _ h => h.kSvc)
    · exact hs.instr (fun _ h => h.kSvca)
    · exact hs.undefinedWord
  · exact hs.instr (fun _ h => h.kPush)
  · exact hs.instr (fun _ h => h.kPop)
  · exact hs.instr (fun _ h => h.compute)
  · exact hs.instr (fun _ h => h.compute)
  · exact hs.instr (fun _ h => h.compute)
  · exact hs.instr (fun _ h => h.compute)
  · exact hs.instr (fun _ h => h.compute)
  · exact hs.instr (fun _ h => h.kJr)
  · exact hs.undefinedWord

theorem KCtx.Tidy.kBranch {k : KCtx} (hs : k.Tidy M) {c disp} : (kBranch c disp k).Tidy M := by
  unfold Machine.kBranch
  exact .ite hs.jumpTo (.go hs)

theorem KCtx.Tidy.kCallm {k : KCtx} (hs : k.Tidy M) {m kt} : (kCallm m kt k).Tidy M := by
  unfold Machine.kCallm
  exact .ite .fault (.ite .fault (.ite .fault (.goto hs.frame.setDm)))

theorem State.Tidy.runWord (hs : s.Tidy W M) {e w x1 x2 x3} : (s.runWord e w x1 x2 x3).Tidy W M := by
  unfold State.runWord
  refine .ite (hs.instr (fun _ h => h.kCallm)) (.ite (hs.instr (fun _ h => h.compute)) (.ite (hs.instr (fun _ h => h.kBranch))
      (.ite (hs.instr (fun _ h => h.compute)) (.ite (hs.instr (fun _ h => h.compute)) ?_))))
  split
  · exact hs.runSystem
  · exact hs.instr (fun _ h => hs.mfs h)
  · exact hs.instr (fun _ h => h.kMts)
  · exact hs.instr (fun _ h => h.kUop)
  · exact hs.runMemory
  · exact hs.runLong
  · exact hs.prof
  · exact hs.undefinedWord

theorem State.Tidy.kStep (hs : s.Tidy W M) {e} : (s.kStep e).Tidy W M := by
  unfold State.kStep
  split
  · exact hs
  · exact hs.runWord

theorem State.Tidy.dbgStep (hs : s.Tidy W M) {e t} : (s.dbgStep e t).Tidy W M := by
  unfold State.dbgStep
  dsimp only
  split
  · exact .ite hs hs.setTask.kStep.setTask
  · exact hs

theorem State.Tidy.execDbgEngStep (hs : s.Tidy W M) {e} : TidyOutcome W M (execDbgEngStep e s) := by
  unfold Machine.execDbgEngStep
  refine .next ?_
  split
  · exact .ite hs.dbgStep hs
  · exact hs.dbgDenied

theorem State.Tidy.execDbgEngHalt (hs : s.Tidy W M) {e} : TidyOutcome W M (execDbgEngHalt e s) := by
  unfold Machine.execDbgEngHalt
  refine .next ?_
  split
  · exact .ite hs hs.setTask
  · exact hs.dbgDenied

theorem State.Tidy.execDbgEngRead (hs : s.Tidy W M) {e r spec} : TidyOutcome W M (execDbgEngRead e r spec s) := by
  unfold Machine.execDbgEngRead
  exact .next (.ite hs hs.emit)

theorem State.Tidy.errCap (hs : s.Tidy W M) {pg src cause off data} : (s.errCap pg src cause off data).Tidy W M := by
  unfold State.errCap
  exact .ite hs.setFld hs.setFld.setFld.setFld.setFld.setFld.setFld.setFld

theorem State.Tidy.readReg (hs : s.Tidy W M) {src a o n} : (s.readReg src a o n).2.Tidy W M := by
  unfold State.readReg
  exact .ite hs.errCap hs

theorem State.Tidy.afterWrite (hs : s.Tidy W M) {a oldStat} : (s.afterWrite a oldStat).Tidy W M := by
  unfold State.afterWrite
  refine .ite hs.intNotify ?_
  split
  · exact .ite hs.flushMsgs hs
  · exact .ite (.ite hs.askCore hs) (.ite hs.canSettleAll (.ite hs.cardSettle (.ite (.ite hs.laneDown hs) (.ite hs.updPower hs))))

theorem State.Tidy.writePlain (hs : s.Tidy W M) {src a d data} : (s.writePlain src a d data).Tidy W M := by
  unfold State.writePlain
  dsimp only
  split
  · exact .ite hs hs.setReg.afterWrite
  · exact .errCap (.ite hs hs.setReg.afterWrite)

theorem State.Tidy.execCqHead (hs : s.Tidy W M) {p i data} : TidyOutcome W M (execCqHead p i data s) := by
  unfold Machine.execCqHead
  refine .next ?_
  split
  · exact hs
  · refine .ite hs ?_
    split
    · exact hs.errCap
    · exact .ite hs.errCap.stopRing (.ite hs.setReg.updPart hs.setReg.updPart.sendMsg)

theorem State.Tidy.eddyExit (hs : s.Tidy W M) : (s.eddyExit).Tidy W M := by
  unfold State.eddyExit
  exact .ite hs.frame.setPowerState.setDomains hs.frame

theorem State.Tidy.execSqTail (hs : s.Tidy W M) {p i data} : TidyOutcome W M (execSqTail p i data s) := by
  unfold Machine.execSqTail
  refine .next ?_
  split
  · exact hs
  · refine .ite hs ?_
    split
    · exact hs.errCap
    · exact .ite hs.errCap.stopRing hs.setReg.updPart.eddyExit

theorem State.Tidy.rcResult (hs : s.Tidy W M) {p st} : (s.rcResult p st).Tidy W M := by
  unfold State.rcResult
  exact hs.setFld.setFld

theorem State.Tidy.rcBusy (hs : s.Tidy W M) {p data} : (s.rcBusy p data).Tidy W M := by
  unfold State.rcBusy
  exact hs.errCap

theorem State.Tidy.execRingQuery (hs : s.Tidy W M) {p} : TidyOutcome W M (execRingQuery p s) := by
  unfold Machine.execRingQuery
  refine .next ?_
  split
  · exact hs
  · refine .ite hs (.ite hs.rcBusy (.ite ?_ ?_))
    · split
      · exact hs.rcResult.setFld.setFld.setFld.setFld.setFld
      · exact hs.rcResult.setReg
    · split
      · exact hs.rcResult.setFld.setFld.setFld.setFld.setFld
      · exact hs.rcResult.setReg

theorem State.Tidy.freeSq (hs : s.Tidy W M) {p i} : (s.freeSq p i).Tidy W M := by
  unfold State.freeSq
  exact hs.updPart.rcResult

theorem State.Tidy.execRingDestroy (hs : s.Tidy W M) {p} : TidyOutcome W M (execRingDestroy p s) := by
  unfold Machine.execRingDestroy
  refine .next ?_
  split
  · exact hs
  · refine .ite hs (.ite hs.rcBusy (.ite (.ite hs.rcResult hs.updPart.rcResult) ?_))
    split
    · exact hs.rcResult
    · exact .ite hs.updPart.freeSq hs.updPart.setFld

theorem State.Tidy.flowSpilled (hs : s.Tidy W M) {p old new cause} : (s.flowSpilled p old new cause).Tidy W M := by
  unfold State.flowSpilled
  exact hs.post

theorem State.Tidy.spillFlow (hs : s.Tidy W M) {q} : TidyOption W M (s.spillFlow q) := by
  unfold State.spillFlow
  split
  · exact .some hs.frame.enterSpill.flowSpilled
  · exact .none

theorem State.Tidy.takeReserve (hs : s.Tidy W M) : TidyPair W M (s.takeReserve) := by
  unfold State.takeReserve
  split
  · exact .some hs
  · split
    · exact .none
    · exact .map hs.spillFlow

theorem State.Tidy.execRingCreate (hs : s.Tidy W M) {p} : TidyOutcome W M (execRingCreate p s) := by
  unfold Machine.execRingCreate
  refine .next ?_
  split
  · exact hs
  · refine .ite hs (.ite hs.rcBusy (.ite hs.rcResult (.ite hs.rcResult ?_)))
    split
    · exact hs.rcResult
    · next he0 => exact .ite (.updPart (.setReg (.setFld (.rcResult (hs.takeReserve.get he0))))) (.post (.updPart (.setReg
          (.setFld (.rcResult (hs.takeReserve.get he0))))))

theorem State.Tidy.flushHeld (hs : s.Tidy W M) {p n} : (s.flushHeld p n).Tidy W M := by
  induction n generalizing s with
  | zero => exact hs
  | succ n ih =>
    unfold State.flushHeld
    split
    · exact hs
    · split
      · exact .ite (ih hs.updPart.writeEvent) hs
      · exact hs

theorem State.Tidy.postOverflow (hs : s.Tidy W M) {p} : (s.postOverflow p).Tidy W M := by
  unfold State.postOverflow
  split
  · exact hs
  · split
    · exact hs
    · exact .ite hs hs.writeEvent.updPart

theorem State.Tidy.drainEvents (hs : s.Tidy W M) {p} : (s.drainEvents p).Tidy W M := by
  unfold State.drainEvents
  exact hs.flushHeld.postOverflow

theorem State.Tidy.execEvrHead (hs : s.Tidy W M) {p data} : TidyOutcome W M (execEvrHead p data s) := by
  unfold Machine.execEvrHead
  refine .next ?_
  split
  · exact hs
  · refine .ite hs ?_
    split
    · exact hs.setFld
    · refine .ite hs.errCap ?_
      dsimp only
      split
      · exact .ite hs.setFld.updPart.drainEvents hs.setFld.updPart.drainEvents.sendMsg
      · exact hs.setFld.updPart.drainEvents

theorem State.Tidy.execEvrDisable (hs : s.Tidy W M) {p data} : TidyOutcome W M (execEvrDisable p data s) := by
  unfold Machine.execEvrDisable
  refine .next ?_
  split
  · exact hs
  · exact .ite hs (.updPart (.setFld (.ite hs.errCap hs.setFld)))

theorem State.Tidy.startEvr (hs : s.Tidy W M) {p n} : (s.startEvr p n).Tidy W M := by
  unfold State.startEvr
  exact hs.setFld.updPart.drainEvents

theorem State.Tidy.execEvrEnable (hs : s.Tidy W M) {p data} : TidyOutcome W M (execEvrEnable p data s) := by
  unfold Machine.execEvrEnable
  refine .next ?_
  split
  · exact hs
  · refine .ite hs ?_
    split
    · exact .ite hs.setFld.updPart hs.setFld.updPart.errCap
    · refine .ite hs.setFld.setFld.setFld (.ite hs.setFld.setFld.setFld ?_)
      split
      · exact hs.setFld.setFld.setFld
      · next he0 => exact .startEvr (hs.setFld.setFld.takeReserve.get he0)

theorem State.Tidy.writePartRow (hs : s.Tidy W M) {p o data} : TidyOption W M (s.writePartRow p o data) := by
  unfold State.writePartRow
  refine .ite (.some hs.errCap) (.ite (.some (hs.after (.ite hs.execEvrEnable hs.execEvrDisable))) (.ite (.some (hs.after
      hs.execEvrHead)) (.ite (.some (.ite hs.rcBusy (hs.after ?_))) (.ite (.some (hs.after hs.execSqTail)) (.ite (.some
      (hs.after hs.execCqHead)) .none)))))
  split
  · exact hs.execRingCreate
  · exact hs.execRingDestroy
  · exact hs.execRingQuery
  · exact .next hs

theorem State.Tidy.leaveRaw (hs : s.Tidy W M) {n} : (s.leaveRaw n).Tidy W M := by
  unfold State.leaveRaw
  exact hs.updWell.setWhState.setFld

theorem State.Tidy.enterRaw (hs : s.Tidy W M) {n} : (s.enterRaw n).Tidy W M := by
  unfold State.enterRaw
  exact .ite hs hs.updWell.setWhState.setFld

theorem State.Tidy.writeRaw (hs : s.Tidy W M) {src d} : (s.writeRaw src d).Tidy W M := by
  unfold State.writeRaw
  exact .ite hs.errCap (.ite hs.setFld.setFld.setFld.enterRaw (.ite hs.setFld.setFld.setFld.leaveRaw hs.setFld.setFld.setFld))

theorem State.Tidy.writeWhCtl (hs : s.Tidy W M) {src d} : (s.writeWhCtl src d).Tidy W M := by
  unfold State.writeWhCtl
  exact .ite hs.errCap (.ite (.startTest (.ite (.updWell (.ite hs.writeRaw.updWell hs.writeRaw)) (.ite hs.writeRaw.updWell
      hs.writeRaw))) hs.writeRaw)

theorem State.Tidy.execRawEn (hs : s.Tidy W M) {src data} : TidyOutcome W M (execRawEn src data s) := by
  unfold Machine.execRawEn
  exact .next (.ite hs.writeWhCtl hs)

theorem State.Tidy.execTest (hs : s.Tidy W M) {src data} : TidyOutcome W M (execTest src data s) := by
  unfold Machine.execTest
  exact .next (.ite hs.writeWhCtl hs)

theorem State.Tidy.execHwClrWait (hs : s.Tidy W M) {src data} : TidyOutcome W M (execHwClrWait src data s) := by
  unfold Machine.execHwClrWait
  exact .next (.ite hs.frame hs)

theorem State.Tidy.execHmClrWait (hs : s.Tidy W M) {src data} : TidyOutcome W M (execHmClrWait src data s) := by
  unfold Machine.execHmClrWait
  exact .next (.ite (.foldl (fun _ _ h => h.setFld) hs) hs)

theorem State.Tidy.execClrLat (hs : s.Tidy W M) {src data} : TidyOutcome W M (execClrLat src data s) := by
  unfold Machine.execClrLat
  exact .next (.ite hs.setFld hs)

theorem State.Tidy.execClrPeak (hs : s.Tidy W M) {src data} : TidyOutcome W M (execClrPeak src data s) := by
  unfold Machine.execClrPeak
  exact .next (.ite hs.setFld hs)

theorem State.Tidy.execTarget (hs : s.Tidy W M) {src data} : TidyOutcome W M (execTarget src data s) := by
  unfold Machine.execTarget
  exact .next (.ite hs (.ite hs.errCap hs.setFld.updPower.noteDefer))

theorem State.Tidy.execTpRelease (hs : s.Tidy W M) {src data} : TidyOutcome W M (execTpRelease src data s) := by
  unfold Machine.execTpRelease
  exact .next (.ite hs (.ite (.ite hs.updTamper.tamperWarm hs) hs.errCap))

theorem State.Tidy.execWarm (hs : s.Tidy W M) {src data} : TidyOutcome W M (execWarm src data s) := by
  unfold Machine.execWarm
  exact .next (.ite hs (.ite (.ite hs.deviceWarm hs) hs.errCap))

theorem State.Tidy.writeDevRow (hs : s.Tidy W M) {src a data} : TidyOption W M (s.writeDevRow src a data) := by
  unfold State.writeDevRow
  exact .ite (.some (hs.after hs.execWarm)) (.ite (.some (hs.after hs.execTpRelease)) (.ite (.some (hs.after hs.execTarget))
      (.ite (.some (hs.after hs.execClrPeak)) (.ite (.some (hs.after hs.execClrLat)) (.ite (.some (hs.after hs.execHmClrWait))
      (.ite (.some (hs.after hs.execHwClrWait)) (.ite (.some (hs.after (.ite hs.execTest hs.execRawEn))) .none)))))))

theorem State.Tidy.execPgLock (hs : s.Tidy W M) {src pg data} : TidyOutcome W M (execPgLock src pg data s) := by
  unfold Machine.execPgLock
  exact .next (.ite hs (.ite hs.errCap (.ite hs.setFld.journalPage hs.setFld)))

theorem State.Tidy.execErrCapClear (hs : s.Tidy W M) {src pg data} : TidyOutcome W M (execErrCapClear src pg data s) := by
  unfold Machine.execErrCapClear
  exact .next (.ite hs.resetRegs hs)

theorem State.Tidy.execForce (hs : s.Tidy W M) {src pg data} : TidyOutcome W M (execForce src pg data s) := by
  unfold Machine.execForce
  exact .next (.ite hs.raise hs)

theorem State.Tidy.execIntStatClear (hs : s.Tidy W M) {src pg data} : TidyOutcome W M (execIntStatClear src pg data s) := by
  unfold Machine.execIntStatClear
  exact .next (.ite hs (.ite hs.setFld hs.setFld.sendMsg))

theorem State.Tidy.pageReset (hs : s.Tidy W M) {pg} : (s.pageReset pg).Tidy W M := by
  unfold State.pageReset
  refine .setReg (.setReg (.foldl (fun _ _ h => .ite ?_ h) hs))
  split
  · exact h.setReg
  · exact h

theorem State.Tidy.execResetReq (hs : s.Tidy W M) {src pg data} : TidyOutcome W M (execResetReq src pg data s) := by
  unfold Machine.execResetReq
  refine .next (.ite hs ?_)
  split
  · exact .ite hs.startPartReset hs.pageReset
  · exact hs.pageReset.canSettleAll.cardSettle

theorem State.Tidy.flushCompl (hs : s.Tidy W M) {p} : (s.flushCompl p).Tidy W M := by
  unfold State.flushCompl
  split
  · exact hs
  · exact .ite (.foldl (fun _ _ h => h.writeCompl) hs.updPart) hs

theorem State.Tidy.release (hs : s.Tidy W M) {p} : (s.release p).Tidy W M := by
  unfold State.release
  exact hs.setFn.flushCompl.drainEvents.setFn.flushMsgs

theorem State.Tidy.execEnable (hs : s.Tidy W M) {src pg data} : TidyOutcome W M (execEnable src pg data s) := by
  unfold Machine.execEnable
  refine .next (.ite hs ?_)
  dsimp only
  split
  · exact .ite hs.setFld.release hs.setFld
  · exact hs.setFld

theorem State.Tidy.execQuiesce (hs : s.Tidy W M) {src pg data} : TidyOutcome W M (execQuiesce src pg data s) := by
  unfold Machine.execQuiesce
  exact .next (.ite hs.setFld hs)

theorem State.Tidy.writeHeader (hs : s.Tidy W M) {src a data} : TidyOption W M (s.writeHeader src a data) := by
  unfold State.writeHeader
  dsimp only
  split
  · exact .some (.after (.after (hs.after hs.execQuiesce) (State.Tidy.execEnable (hs.after hs.execQuiesce)))
        (State.Tidy.execResetReq (.after (hs.after hs.execQuiesce) (State.Tidy.execEnable (hs.after hs.execQuiesce)))))
  · exact .some (hs.after hs.execIntStatClear)
  · exact .some (hs.after hs.execForce)
  · exact .some (hs.after hs.execErrCapClear)
  · exact .some (hs.after hs.execPgLock)
  · exact .none

theorem State.Tidy.writeRow (hs : s.Tidy W M) {src a data} : TidyOption W M (s.writeRow src a data) := by
  unfold State.writeRow
  split
  · next he0 => exact .some (TidyOption.get (.ite hs.writeHeader .none) he0)
  · split
    · exact hs.writeDevRow
    · exact hs.writePartRow

theorem State.Tidy.writeWord (hs : s.Tidy W M) {src a data} : (s.writeWord src a data).Tidy W M := by
  unfold State.writeWord
  refine .ite hs.errCap (.ite hs.errCap ?_)
  split
  · next he0 => exact hs.writeRow.get he0
  · split
    · exact hs.errCap
    · refine .ite hs.errCap ?_
      split
      · exact hs.errCap
      · exact hs.writePlain

theorem State.Tidy.dbgWrite (hs : s.Tidy W M) {a data} : (s.dbgWrite a data).1.Tidy W M := by
  unfold State.dbgWrite
  exact .ite hs.writeWord hs.errCap

theorem State.Tidy.dbgRefuse (hs : s.Tidy W M) {a data} : (s.dbgRefuse a data).Tidy W M := by
  unfold State.dbgRefuse
  exact hs.free.errCap

theorem State.Tidy.execDbgMem (hs : s.Tidy W M) {dr} : TidyOutcome W M (execDbgMem dr s) := by
  unfold Machine.execDbgMem
  exact .next (.ite hs (.ite hs.dbgRefuse.emit (.ite hs.dbgWrite.emit (.ite hs.updWell.emit hs.readReg.emit))))

theorem State.Tidy.leaveExtest (hs : s.Tidy W M) : (s.leaveExtest).Tidy W M := by
  unfold State.leaveExtest
  exact .ite hs.warmTo hs

theorem State.Tidy.enterExtest (hs : s.Tidy W M) : (s.enterExtest).Tidy W M := by
  unfold State.enterExtest
  exact .ite hs hs.frame.closeSession.endStream

theorem State.Tidy.selectTap (hs : s.Tidy W M) {code} : (s.selectTap code).Tidy W M := by
  unfold State.selectTap
  exact .ite hs.frame.enterExtest hs.frame.leaveExtest

theorem State.Tidy.execExtest (hs : s.Tidy W M) {selected cells} : TidyOutcome W M (execExtest selected cells s) := by
  unfold Machine.execExtest
  exact .next (.ite (.ite hs.selectTap.frame hs.selectTap) hs.selectTap)

theorem State.Tidy.captureDr (hs : s.Tidy W M) : (s.captureDr).Tidy W M := by
  unfold State.captureDr
  split
  · exact hs.emit
  · exact hs.free.emit
  · exact .ite hs.emit hs
  · exact hs

theorem State.Tidy.execTapInstruction (hs : s.Tidy W M) {code} : TidyOutcome W M (execTapInstruction code s) := by
  unfold Machine.execTapInstruction
  exact .next hs.selectTap.captureDr

theorem State.Tidy.execTapReset (hs : s.Tidy W M) : TidyOutcome W M (execTapReset s) := by
  unfold Machine.execTapReset
  exact .next hs.selectTap

theorem State.Tidy.execAlarmEnd (hs : s.Tidy W M) : TidyOutcome W M (execAlarmEnd s) := by
  unfold Machine.execAlarmEnd
  refine .next ?_
  split
  · exact .ite hs.updTamper hs
  · exact hs

theorem State.Tidy.beginQuench (hs : s.Tidy W M) {level} : (s.beginQuench level).Tidy W M := by
  unfold State.beginQuench
  exact .ite hs.frame.updTamper.runQuench.tamperWarm hs.frame.updTamper.updTamper.frame

theorem State.Tidy.beginWarm (hs : s.Tidy W M) : (s.beginWarm).Tidy W M := by
  unfold State.beginWarm
  exact hs.updTamper.tamperWarm

theorem State.Tidy.discardWork (hs : s.Tidy W M) : (s.discardWork).Tidy W M := by
  unfold State.discardWork
  exact .closeSession (.frame (.foldl (fun _ _ h => h.engineLost) hs))

theorem State.Tidy.beginGuard (hs : s.Tidy W M) {sensor} : (s.beginGuard sensor).Tidy W M := by
  unfold State.beginGuard
  exact .ite hs.updTamper.frame.discardWork hs.updTamper

theorem State.Tidy.respond (hs : s.Tidy W M) {sensor r} : (s.respond sensor r).Tidy W M := by
  unfold State.respond
  split
  · exact hs
  · exact hs.beginGuard
  · exact hs.beginWarm
  · exact hs.updTamper.tamperWarm
  · exact hs.beginQuench

theorem State.Tidy.respondBooting (hs : s.Tidy W M) {sensor r} : (s.respondBooting sensor r).Tidy W M := by
  unfold State.respondBooting
  exact .ite hs.respond (.ite hs.updTamper.tamperWarm hs.updTamper)

theorem State.Tidy.endGuard (hs : s.Tidy W M) : (s.endGuard).Tidy W M := by
  unfold State.endGuard
  exact .ite hs.updTamper hs.updTamper.frame.serve.serveQueue

theorem State.Tidy.execGuardEnd (hs : s.Tidy W M) : TidyOutcome W M (execGuardEnd s) := by
  unfold Machine.execGuardEnd
  refine .next ?_
  dsimp only
  split
  · exact hs.updTamper.endGuard
  · exact .ite hs.updTamper.endGuard (.ite hs.updTamper.endGuard.respond hs.updTamper.endGuard.respondBooting)

theorem State.Tidy.dropDipGuard (hs : s.Tidy W M) : (s.dropDipGuard).Tidy W M := by
  unfold State.dropDipGuard
  exact .ite hs hs.updTamper

theorem State.Tidy.latchWake (hs : s.Tidy W M) {w} : (s.latchWake w).Tidy W M := by
  unfold State.latchWake
  exact .eddyExit (.raise (.frame (.setFld (.setFld (.ite hs.setFld.setFld hs)))))

theorem State.Tidy.respondParked (hs : s.Tidy W M) {r} : (s.respondParked r).Tidy W M := by
  unfold State.respondParked
  dsimp only
  split
  · exact hs.latchWake
  · exact hs.latchWake
  · exact hs.latchWake.updTamper
  · exact hs.latchWake.updTamper
  · exact .ite (.ite hs.latchWake.updTamper.bump.railsOn.flushLog.runPendingQuench.railsOff.setPowerState.setDomains
        hs.latchWake.updTamper.bump.railsOn.flushLog.runPendingQuench.railsOff) hs.latchWake.updTamper

theorem State.Tidy.logTamperAt (hs : s.Tidy W M) {time sensor sub resp escalated} :
    (s.logTamperAt time sensor sub resp escalated).Tidy W M := by
  unfold State.logTamperAt
  exact .raise (.ite hs.updTamper.setFld.flushLog (.ite hs.updTamper.setFld.frame hs.updTamper.setFld))

theorem State.Tidy.decideTamper (hs : s.Tidy W M) {time sensor sub} : (s.decideTamper time sensor sub).Tidy W M := by
  unfold State.decideTamper
  exact .ite hs.updTamper.logTamperAt (.ite hs.updTamper.logTamperAt.respondParked (.ite hs.updTamper.logTamperAt.respondBooting
      hs.updTamper.logTamperAt.respond))

theorem State.Tidy.execGlitchDecide (hs : s.Tidy W M) : TidyOutcome W M (execGlitchDecide s) := by
  unfold Machine.execGlitchDecide
  refine .next ?_
  split
  · exact hs
  · exact .ite hs hs.updTamper.dropDipGuard.decideTamper.endGuard

theorem State.Tidy.execTamperEvent (hs : s.Tidy W M) {sensor sub} : TidyOutcome W M (execTamperEvent sensor sub s) := by
  unfold Machine.execTamperEvent
  exact .next (.ite hs (.ite (.ite hs.updTamper (.ite hs.updTamper.updTamper.beginGuard hs.updTamper.updTamper))
      hs.updTamper.decideTamper))

theorem State.Tidy.challengeDue (hs : s.Tidy W M) : (s.challengeDue).Tidy W M := by
  unfold State.challengeDue
  split
  · exact .ite hs.challenge hs
  · exact hs

theorem State.Tidy.execBellowsReseed (hs : s.Tidy W M) {h} : TidyOutcome W M (execBellowsReseed h s) := by
  unfold Machine.execBellowsReseed
  exact .next hs.bellows.challengeDue

theorem State.Tidy.execWhRawRead (hs : s.Tidy W M) {src} : TidyOutcome W M (execWhRawRead src s) := by
  unfold Machine.execWhRawRead
  refine .next (.ite hs ?_)
  dsimp only
  split
  · exact hs.emit
  · exact hs.updWell.emit

theorem State.Tidy.execWellheadPhaseEnd (hs : s.Tidy W M) {h knownAnswer} :
    TidyOutcome W M (execWellheadPhaseEnd h knownAnswer s) := by
  unfold Machine.execWellheadPhaseEnd
  exact .next (.ite (.ite hs.setWhState.bellows.startTest hs.whFail) (.ite hs.setWhState.bump.startTest (.ite
      hs.setWhState.startTest hs)))

theorem State.Tidy.execOscillatorCheck (hs : s.Tidy W M) {h aKhz bKhz isLocked vnBits} :
    TidyOutcome W M (execOscillatorCheck h aKhz bKhz isLocked vnBits s) := by
  unfold Machine.execOscillatorCheck
  exact .next (.ite hs (.ite hs.setFld.whFail (.ite hs.setFld.whFail hs.setFld)))

theorem State.Tidy.rawPush (hs : s.Tidy W M) {n k bits} : (s.rawPush n k bits).Tidy W M := by
  induction k generalizing s bits with
  | zero => exact hs.updWell
  | succ k ih =>
    unfold State.rawPush
    exact .ite hs.updWell (.ite hs.updWell.setFld (ih (.ite hs.updWell.raise hs.updWell)))

theorem State.Tidy.healthWindow (hs : s.Tidy W M) {n a b} : (s.healthWindow n a b).Tidy W M := by
  unfold State.healthWindow
  refine .ite hs ?_
  dsimp only
  split
  · exact .whFail (.ite hs.rawPush hs)
  · exact .ite (.whFail (.ite hs.rawPush hs)) (.ite (.bellows (.updWell (.ite hs.rawPush hs))) (.ite hs.rawPush hs))

theorem State.Tidy.execHealthWindow (hs : s.Tidy W M) {h a b} : TidyOutcome W M (execHealthWindow h a b s) := by
  unfold Machine.execHealthWindow
  exact .next (.ite hs.healthWindow hs)

theorem State.Tidy.failClear (hs : s.Tidy W M) {p} : (s.failClear p).Tidy W M := by
  unfold State.failClear
  exact hs.frame

theorem State.Tidy.pageClear (hs : s.Tidy W M) {ok} : (s.pageClear ok).Tidy W M := by
  unfold State.pageClear
  split
  · exact hs
  · exact .ite hs (.ite hs.clearPage hs.failClear)

theorem State.Tidy.execPageClear (hs : s.Tidy W M) {ok} : TidyOutcome W M (execPageClear ok s) := by
  unfold Machine.execPageClear
  exact .next hs.pageClear

theorem State.Tidy.storeRepair (hs : s.Tidy W M) {half kind array column spare page} :
    (s.storeRepair half kind array column spare page).Tidy W M := by
  unfold State.storeRepair
  exact hs.post.raise

theorem State.Tidy.rebuildRows (hs : s.Tidy W M) {r n} : (s.rebuildRows r n).Tidy W M := by
  unfold State.rebuildRows
  exact .ite hs.frame hs.frame.storeRepair

theorem State.Tidy.columnRebuild (hs : s.Tidy W M) {h rows} : (s.columnRebuild h rows).Tidy W M := by
  unfold State.columnRebuild
  refine .ite hs ?_
  split
  · exact hs.rebuildRows
  · split
    · exact hs
    · dsimp only
      split
      · exact hs.frame.frame.bump.rebuildRows
      · exact hs.frame.storeRepair.fence

theorem State.Tidy.execColumnRebuild (hs : s.Tidy W M) {h rows} : TidyOutcome W M (execColumnRebuild h rows s) := by
  unfold Machine.execColumnRebuild
  exact .next hs.columnRebuild

theorem State.Tidy.tested (hs : s.Tidy W M) {array} : (s.tested array).Tidy W M := by
  unfold State.tested
  exact hs.frame

theorem State.Tidy.refreshPage (hs : s.Tidy W M) {p} : (s.refreshPage p).Tidy W M := by
  unfold State.refreshPage
  exact .ite hs.raiseGen (.ite hs hs.frame)

theorem State.Tidy.columnTest (hs : s.Tidy W M) {array t} : (s.columnTest array t).Tidy W M := by
  unfold State.columnTest
  exact .ite (.ite hs hs.frame) (.foldl (fun _ _ h => h.refreshPage.bump) hs)

theorem State.Tidy.loseSlot (hs : s.Tidy W M) {p} : (s.loseSlot p).Tidy W M := by
  unfold State.loseSlot
  exact .ite hs.frame.setFld.storeRepair hs

theorem State.Tidy.patrolBad (hs : s.Tidy W M) {p n so} : (s.patrolBad p n so).Tidy W M := by
  unfold State.patrolBad
  exact .ite hs (.ite hs.refreshPage.storeRepair hs.frame.storeRepair.loseSlot)

theorem State.Tidy.patrolCopy (hs : s.Tidy W M) {h p f} : (s.patrolCopy h p f).Tidy W M := by
  unfold State.patrolCopy
  exact .ite hs (.ite hs.bump.frame.refreshPage.bump hs.bump.frame)

theorem State.Tidy.beginPass (hs : s.Tidy W M) : (s.beginPass).Tidy W M := by
  unfold State.beginPass
  exact .ite hs.frame hs

theorem State.Tidy.patrolPage (hs : s.Tidy W M) {north south tests} : (s.patrolPage north south tests).Tidy W M := by
  unfold State.patrolPage
  refine .ite hs ?_
  extract_lets p s1 s2 s3 s4 s5 ee s6
  have h2 : s2.Tidy W M := hs.beginPass.patrolCopy.patrolCopy
  have h3 : s3.Tidy W M := by
    unfold s3
    split
    · exact h2.patrolBad
    · exact h2.patrolBad
    · exact h2.patrolBad
    · exact h2
  have h4 : s4.Tidy W M := .foldl (fun _ _ h => .ite h.columnTest h) h3
  have h5 : s5.Tidy W M := .ite h4 h4.tested
  have h6 : s6.Tidy W M := .ite h5.frame h5
  exact h6.setFld

theorem State.Tidy.execPatrolPage (hs : s.Tidy W M) {north south tests} :
    TidyOutcome W M (execPatrolPage north south tests s) := by
  unfold Machine.execPatrolPage
  exact .next hs.patrolPage

theorem State.Tidy.execBankRebuilt (hs : s.Tidy W M) {h i} : TidyOutcome W M (execBankRebuilt h i s) := by
  unfold Machine.execBankRebuilt
  exact .next (.ite hs.setFld.setFld hs)

theorem State.Tidy.bankFail (hs : s.Tidy W M) {h i testOk cause} : (s.bankFail h i testOk cause).Tidy W M := by
  unfold State.bankFail
  exact .ite hs (.ite (.setFld (.ite hs.setFld.bump.post.raise.moveJobs.moveJobs.moveJobs hs.setFld.bump.post.raise)) (.fence
      (.raise (.post (.ite hs.setFld.bump.post.raise.moveJobs.moveJobs.moveJobs hs.setFld.bump.post.raise)))))

theorem State.Tidy.execBankFail (hs : s.Tidy W M) {h i testOk} : TidyOutcome W M (execBankFail h i testOk s) := by
  unfold Machine.execBankFail
  exact .next (.ite hs.bankFail hs)

theorem State.Tidy.updRetired (hs : s.Tidy W M) {u f} : (s.updRetired u f).Tidy W M := by
  unfold State.updRetired
  exact hs.frame

theorem State.Tidy.probationTest (hs : s.Tidy W M) {u pass} : (s.probationTest u pass).Tidy W M := by
  unfold State.probationTest
  split
  · exact hs
  · refine .ite hs (.ite hs.updRetired.setProbation.unitProbation (.ite hs.updRetired ?_))
    dsimp only
    split
    · exact hs.updRetired.setProbation.setService.unitProbation.refillSlot.setSpares
    · exact hs.updRetired.setProbation.setService.unitProbation.setSpares.serve

theorem State.Tidy.execProbationTest (hs : s.Tidy W M) {u pass} : TidyOutcome W M (execProbationTest u pass s) := by
  unfold Machine.execProbationTest
  exact .next hs.probationTest

theorem State.Tidy.execUnitWatchdog (hs : s.Tidy W M) {u parity} : TidyOutcome W M (execUnitWatchdog u parity s) := by
  unfold Machine.execUnitWatchdog
  exact .next (.ite hs.retire hs)

theorem State.Tidy.execLateRecord (hs : s.Tidy W M) {u} : TidyOutcome W M (execLateRecord u s) := by
  unfold Machine.execLateRecord
  exact .next (.ite hs.retire hs)

theorem State.Tidy.goOn (hs : s.Tidy W M) {k} : (s.goOn k).Tidy W M := by
  unfold State.goOn
  exact .ite hs.advance hs.runOpcode

theorem State.Tidy.runAgain (hs : s.Tidy W M) {k} : (s.runAgain k).Tidy W M := by
  unfold State.runAgain
  split
  · exact hs.engineLost
  · exact hs

theorem State.Tidy.endCompare (hs : s.Tidy W M) {k} : (s.endCompare k).Tidy W M := by
  unfold State.endCompare
  exact hs.frame

theorem State.Tidy.thirdRun (hs : s.Tidy W M) {k testFail} : (s.thirdRun k testFail).Tidy W M := by
  unfold State.thirdRun
  exact .ite hs.endCompare.runAgain hs.endCompare.fence.goOn

theorem State.Tidy.putCompare (hs : s.Tidy W M) {x} : (s.putCompare x).Tidy W M := by
  unfold State.putCompare
  exact hs.frame

theorem State.Tidy.mismatch (hs : s.Tidy W M) {x v} : (s.mismatch x v).Tidy W M := by
  unfold State.mismatch
  exact .ite hs.bump.putCompare.runAgain hs.bump.thirdRun

theorem State.Tidy.disablePath (hs : s.Tidy W M) {h i} : (s.disablePath h i).Tidy W M := by
  unfold State.disablePath
  exact .ite hs.setFld.post.raise hs.setFld.post.raise.fence

theorem State.Tidy.charge (hs : s.Tidy W M) {h i} : (s.charge h i).1.Tidy W M := by
  unfold State.charge
  exact hs.frame

theorem State.Tidy.chargeAll (hs : s.Tidy W M) {l} : (s.chargeAll l).1.Tidy W M := by
  induction l generalizing s with
  | nil => exact hs
  | cons h l ih =>
    unfold State.chargeAll
    exact ih hs.charge

theorem State.Tidy.infraFault (hs : s.Tidy W M) {x v cause charged} : (s.infraFault x v cause charged).Tidy W M := by
  unfold State.infraFault
  extract_lets paths path r s1 s2 infra s3 h
  have h2 : s2.Tidy W M := .foldl (fun _ _ h => h.disablePath) hs.chargeAll.bump.post.raise
  exact .ite h2.putCompare.runAgain (.ite h2.endCompare.fence.runAgain h2.endCompare.runAgain)

theorem State.Tidy.judgeRun (hs : s.Tidy W M) {k v} : (s.judgeRun k v).Tidy W M := by
  unfold State.judgeRun
  dsimp only
  split
  · exact hs.infraFault
  · refine .ite (.goOn (.endCompare ?_)) hs.mismatch
    generalize (s.compareOf k).runs = runs
    match runs with
    | [] => exact hs
    | [a] => exact .ite hs.strike (.ite hs.strike hs.strike.strike)
    | _ :: _ :: _ => exact .foldl (fun _ _ h => .ite (.ite h h.strike) (.strike (.ite h h.strike))) hs

theorem State.Tidy.execCompareVerdict (hs : s.Tidy W M) {k v} : TidyOutcome W M (execCompareVerdict k v s) := by
  unfold Machine.execCompareVerdict
  refine .next (.ite hs (.ite (.ite hs.judgeRun hs) ?_))
  split
  · exact hs
  · exact .ite hs hs.judgeRun

theorem State.Tidy.execLeaseExpiry (hs : s.Tidy W M) : TidyOutcome W M (execLeaseExpiry s) := by
  unfold Machine.execLeaseExpiry
  exact .next (.ite hs (.ite hs.frame.setFld hs.frame))

theorem State.Tidy.execLeaseRenewal (hs : s.Tidy W M) : TidyOutcome W M (execLeaseRenewal s) := by
  unfold Machine.execLeaseRenewal
  exact .next (.ite hs hs.grantLease.bump.advance)

theorem State.Tidy.execHalfSilent (hs : s.Tidy W M) {h} : TidyOutcome W M (execHalfSilent h s) := by
  unfold Machine.execHalfSilent
  exact .next (.ite hs.fence hs)

theorem State.Tidy.execRefclkReturn (hs : s.Tidy W M) {r} : TidyOutcome W M (execRefclkReturn r s) := by
  unfold Machine.execRefclkReturn
  exact .next (.ite hs (.ite hs.frame.frame.canSettleAll.cardSettle hs.frame.frame))

theorem State.Tidy.unlockWindow (hs : s.Tidy W M) {p} : (s.unlockWindow p).Tidy W M := by
  unfold State.unlockWindow
  exact hs.resetRegs

theorem State.Tidy.linkResetOf (hs : s.Tidy W M) {l} : (s.linkResetOf l).Tidy W M := by
  unfold State.linkResetOf
  exact .foldl (fun _ _ h => h.dropRings.setFn.resetMsix.unlockWindow) hs.abortRound.haltCmds

theorem State.Tidy.linkReset (hs : s.Tidy W M) : (s.linkReset).Tidy W M := by
  unfold State.linkReset
  exact hs.linkResetOf.frame

theorem State.Tidy.dataLinkDown (hs : s.Tidy W M) : (s.dataLinkDown).Tidy W M := by
  unfold State.dataLinkDown
  exact .ite hs.linkBack hs.setFld.linkReset

theorem State.Tidy.stopRef38 (hs : s.Tidy W M) : (s.stopRef38).Tidy W M := by
  unfold State.stopRef38
  exact hs.abortRound.bcOff.frame.canSettleAll.cardSettle

theorem State.Tidy.logTamper (hs : s.Tidy W M) {sensor sub resp escalated} :
    (s.logTamper sensor sub resp escalated).Tidy W M := by
  unfold State.logTamper
  exact hs.logTamperAt

theorem State.Tidy.execRefclkLoss (hs : s.Tidy W M) {r} : TidyOutcome W M (execRefclkLoss r s) := by
  unfold Machine.execRefclkLoss
  refine .next (.ite hs ?_)
  dsimp only
  split
  · exact hs.frame.setFld.stopRef38.logTamper
  · exact hs.frame.setFld.logTamper
  · exact hs.frame.setFld.dataLinkDown
  · exact hs.frame.setFld.lanesDown

theorem State.Tidy.holdHot (hs : s.Tidy W M) {hold} : (s.holdHot hold).Tidy W M := by
  unfold State.holdHot
  exact .ite hs.updPower.serve hs.updPower

theorem State.Tidy.execAvsEvaluate (hs : s.Tidy W M) {ack hot slow} : TidyOutcome W M (execAvsEvaluate ack hot slow s) := by
  unfold Machine.execAvsEvaluate
  exact .next (.ite hs (.ite hs.updPower.holdHot.askCore (.ite hs.updPower.holdHot (.ite (.ite hs.updPower.holdHot
      hs.updPower.holdHot.askCore) (.ite hs.updPower.holdHot.askCore hs.updPower.holdHot)))))

theorem State.Tidy.execPaceWindow (hs : s.Tidy W M) {counts} : TidyOutcome W M (execPaceWindow counts s) := by
  unfold Machine.execPaceWindow
  exact .next (.ite hs (.updPower (.setFld (.foldl (fun _ _ h => h.setFld) hs))))

theorem State.Tidy.readRails (hs : s.Tidy W M) : (s.readRails).Tidy W M := by
  unfold State.readRails
  exact .foldl (fun _ _ h => h.pmbus) hs

theorem State.Tidy.execPowerReading (hs : s.Tidy W M) {mw ack} : TidyOutcome W M (execPowerReading mw ack s) := by
  unfold Machine.execPowerReading
  refine .next (.ite hs ?_)
  dsimp only
  split
  · exact hs.updPower.readRails.powerReading
  · exact hs.updPower.readRails.pmicNack

theorem State.Tidy.execReservoirPlan (hs : s.Tidy W M) {i} : TidyOutcome W M (execReservoirPlan i s) := by
  unfold Machine.execReservoirPlan
  exact .next (.ite hs hs.frame.setFld.setFld.setFld.plan)

theorem State.Tidy.execReservoirCredit (hs : s.Tidy W M) {vaonNc} : TidyOutcome W M (execReservoirCredit vaonNc s) := by
  unfold Machine.execReservoirCredit
  exact .next (.ite hs (.ite hs.frame.showStore.spend hs.frame.showStore))

theorem State.Tidy.alarmWake (hs : s.Tidy W M) : (s.alarmWake).Tidy W M := by
  unfold State.alarmWake
  exact hs.updPower.latchWake

theorem State.Tidy.execAlarmWake (hs : s.Tidy W M) : TidyOutcome W M (execAlarmWake s) := by
  unfold Machine.execAlarmWake
  exact .next (.ite hs hs.alarmWake)

theorem State.Tidy.request (hs : s.Tidy W M) {src target stamp} : (s.request src target stamp).Tidy W M := by
  unfold State.request
  refine .ite hs (.ite hs.setAcc ?_)
  split
  · exact .ite hs.setAcc hs.openSession
  · exact .ite hs (.ite hs.setAcc.setFld.endSession hs.setAcc.setFld)

theorem State.Tidy.pinWake (hs : s.Tidy W M) {k} : (s.pinWake k).Tidy W M := by
  unfold State.pinWake
  exact .ite hs (.ite hs.latchWake.request hs.latchWake)

theorem State.Tidy.pinSeen (hs : s.Tidy W M) {k active} : (s.pinSeen k active).Tidy W M := by
  unfold State.pinSeen
  exact .ite hs.updPower.pinWake hs.updPower

theorem State.Tidy.execWakePin (hs : s.Tidy W M) {k high samples} : TidyOutcome W M (execWakePin k high samples s) := by
  unfold Machine.execWakePin
  exact .next (.ite hs hs.pinSeen)

theorem State.Tidy.tarnPoll (hs : s.Tidy W M) {nonce rest} : (s.tarnPoll nonce rest).Tidy W M := by
  unfold State.tarnPoll
  exact hs.updPower.railsOn.setDomains.requestLf

theorem State.Tidy.execWelcomePoll (hs : s.Tidy W M) : TidyOutcome W M (execWelcomePoll s) := by
  unfold Machine.execWelcomePoll
  refine .next (.ite hs (.ite hs.updPower.eddyExit.openSession (.ite hs.updPower ?_)))
  split
  · exact hs.updPower.tarnPoll
  · exact hs.updPower.setAcc

theorem State.Tidy.pondToFlow (hs : s.Tidy W M) : (s.pondToFlow).Tidy W M := by
  unfold State.pondToFlow
  exact hs.setFld.setPowerState.setDomains.linkReset.canSettleAll.cardSettle

theorem State.Tidy.perstRise (hs : s.Tidy W M) : (s.perstRise).Tidy W M := by
  unfold State.perstRise
  exact .ite hs (.ite hs.updPower.latchWake.pondToFlow hs.updPower.latchWake.linkBack)

theorem State.Tidy.latchCode (hs : s.Tidy W M) {w} : (s.latchCode w).Tidy W M := by
  unfold State.latchCode
  exact .ite hs.latchWake (.ite (.ite hs.latchWake hs) (.ite hs.alarmWake (.ite hs.perstRise (.ite hs.latchWake hs))))

theorem State.Tidy.passTouch (hs : s.Tidy W M) {n stamp} : (s.passTouch n stamp).Tidy W M := by
  unfold State.passTouch
  refine .ite ?_ hs.setFld.setFld.setFld.raise
  dsimp only
  split
  · exact hs.setFld.setFld.setFld.raise.latchWake.request
  · exact hs.setFld.setFld.setFld.raise.latchWake

theorem State.Tidy.passReady (hs : s.Tidy W M) : (s.passReady).Tidy W M := by
  unfold State.passReady
  exact .foldl (fun _ _ h => h.passTouch) hs.frame

theorem State.Tidy.setHsChan (hs : s.Tidy W M) {n f} : (s.setHsChan n f).Tidy W M := by
  unfold State.setHsChan
  exact hs.frame

theorem State.Tidy.setFldBit (hs : s.Tidy W M) {f n b} : (s.setFldBit f n b).Tidy W M := by
  unfold State.setFldBit
  exact hs.setFld

theorem State.Tidy.hsTouch (hs : s.Tidy W M) {m n stamp} : (s.hsTouch m n stamp).Tidy W M := by
  unfold State.hsTouch
  exact hs.setHsChan.setFldBit.frame.passReady

theorem State.Tidy.replay (hs : s.Tidy W M) {w} : (s.replay w).Tidy W M := by
  unfold State.replay
  exact .ite hs.bump.hsTouch (.ite hs.bump.pinWake (.ite hs.bump.alarmWake (.ite hs.bump.perstRise (.ite hs.bump.latchWake
      hs.bump))))

theorem State.Tidy.levelPins (hs : s.Tidy W M) : (s.levelPins).Tidy W M := by
  unfold State.levelPins
  exact .foldl (fun _ _ h => .ite h.pinWake h) hs

theorem State.Tidy.afterEntry (hs : s.Tidy W M) {wakes} : (s.afterEntry wakes).Tidy W M := by
  unfold State.afterEntry
  exact .ite (.foldl (fun _ _ h => h.replay) hs.levelPins) (.ite hs.levelPins (.ite (.foldl (fun _ _ h => h.latchCode)
      hs.levelPins) (.foldl (fun _ _ h => h.replay) hs.levelPins.setPowerState.setDomains)))

theorem State.Tidy.execLingerEnd (hs : s.Tidy W M) {wakes} : TidyOutcome W M (execLingerEnd wakes s) := by
  unfold Machine.execLingerEnd
  exact .next (.ite hs hs.enterTarn.afterEntry)

theorem State.Tidy.execParkReturn (hs : s.Tidy W M) {railOk imagesOk} : TidyOutcome W M (execParkReturn railOk imagesOk s) := by
  unfold Machine.execParkReturn
  exact .next (.ite hs.parkReturn hs)

theorem State.Tidy.execPwrgdReturn (hs : s.Tidy W M) {imagesOk} : TidyOutcome W M (execPwrgdReturn imagesOk s) := by
  unfold Machine.execPwrgdReturn
  exact .next (.ite hs (.ite hs.frame.latchWake.setPowerState.setDomains.levelPins (.ite hs.frame.latchWake.returnFlow
      hs.frame.latchWake.abandonReturn)))

theorem State.Tidy.execTarnToDry (hs : s.Tidy W M) : TidyOutcome W M (execTarnToDry s) := by
  unfold Machine.execTarnToDry
  exact .next (.ite hs hs.frame.hsOff.setPowerState.setDomains.levelPins)

theorem State.Tidy.execPondTimeout (hs : s.Tidy W M) {wakes} : TidyOutcome W M (execPondTimeout wakes s) := by
  unfold Machine.execPondTimeout
  exact .next (.ite hs hs.enterTarn.afterEntry)

theorem State.Tidy.enterPond (hs : s.Tidy W M) : (s.enterPond).Tidy W M := by
  unfold State.enterPond
  exact hs.updPower.setPowerState.lanesDown.setDomains.canSettleAll.cardSettle.askCore

theorem State.Tidy.execParkEntry (hs : s.Tidy W M) {wakes} : TidyOutcome W M (execParkEntry wakes s) := by
  unfold Machine.execParkEntry
  exact .next (.ite hs (.afterEntry (.ite hs.enterPond hs.enterTarn)))

theorem State.Tidy.execEddyEnter (hs : s.Tidy W M) {wakes} : TidyOutcome W M (execEddyEnter wakes s) := by
  unfold Machine.execEddyEnter
  exact .next (.ite hs hs.setPowerState.setDomains.afterEntry)

theorem State.Tidy.canSend (hs : s.Tidy W M) {n f} : (s.canSend n f).Tidy W M := by
  unfold State.canSend
  exact .ite hs.canWithdraw (.ite hs.updCan.canWithdraw hs.updCan.canStart)

theorem State.Tidy.tokenDone (hs : s.Tidy W M) {cfg} : (s.tokenDone cfg).Tidy W M := by
  unfold State.tokenDone
  split
  · exact hs.frame
  · exact .ite hs.frame.setFld.endStream hs.frame.setFld

theorem State.Tidy.sendToken (hs : s.Tidy W M) {cfg t key} : (s.sendToken cfg t key).Tidy W M := by
  unfold State.sendToken
  exact hs.frame.tokenDone.canSend.canSettle

theorem State.Tidy.tokenExhausted (hs : s.Tidy W M) {cfg t} : (s.tokenExhausted cfg t).Tidy W M := by
  unfold State.tokenExhausted
  exact .ite hs.tokenDone hs.tokenDone.endStream.setFld.raise

theorem State.Tidy.composeToken (hs : s.Tidy W M) {cfg t} : (s.composeToken cfg t).Tidy W M := by
  unfold State.composeToken
  dsimp only
  split
  · exact hs.tokenExhausted
  · refine .ite hs.tokenExhausted (.ite (.ite hs hs.frame) ?_)
    split
    · next he0 => exact .sendToken (Take.Tidy.of_ok (State.Tidy.takeUse (.ite hs.frame hs)) he0)
    · next he0 => exact .tokenExhausted (Take.Tidy.of_exhausted (State.Tidy.takeUse (.ite hs.frame hs)) he0)
    · next he0 => exact Take.Tidy.of_wait (State.Tidy.takeUse (.ite hs.frame hs)) he0

theorem State.Tidy.execTokenSend (hs : s.Tidy W M) : TidyOutcome W M (execTokenSend s) := by
  unfold Machine.execTokenSend
  refine .next (.ite hs ?_)
  split
  · exact hs
  · split
    · exact hs.tokenDone
    · exact hs.composeToken

theorem State.Tidy.execReleasePulseEnd (hs : s.Tidy W M) {g} : TidyOutcome W M (execReleasePulseEnd g s) := by
  unfold Machine.execReleasePulseEnd
  refine .next ?_
  split
  · exact .ite hs.setAcc hs
  · exact hs

theorem State.Tidy.execSessionTimeout (hs : s.Tidy W M) : TidyOutcome W M (execSessionTimeout s) := by
  unfold Machine.execSessionTimeout
  refine .next ?_
  split
  · exact hs
  · exact .ite hs (.ite hs.endSession hs.settle)

theorem State.Tidy.rangingDone (hs : s.Tidy W M) {fob r} : (s.rangingDone fob r).Tidy W M := by
  unfold State.rangingDone
  dsimp only
  split
  · exact hs.stopRanging
  · exact .ite hs.stopRanging.updSession.updSession.advance (.ite hs.stopRanging.updSession.updSession.advance (.ite
        hs.stopRanging.updSession.updSession.advance hs.stopRanging.updSession.decision))

theorem State.Tidy.endRound (hs : s.Tidy W M) {x r full} : (s.endRound x r full).Tidy W M := by
  unfold State.endRound
  split
  · exact hs
  · exact .ite (.rangingDone (.updSession (.frame (.ite hs.showRound.book.suspect hs.showRound.book)))) (.updSession (.frame
        (.ite hs.showRound.book.suspect hs.showRound.book)))

theorem State.Tidy.execUwbVerdict (hs : s.Tidy W M) : TidyOutcome W M (execUwbVerdict s) := by
  unfold Machine.execUwbVerdict
  refine .next ?_
  split
  · exact .ite hs.endRound hs
  · exact hs

theorem State.Tidy.execUwbReportTimeout (hs : s.Tidy W M) : TidyOutcome W M (execUwbReportTimeout s) := by
  unfold Machine.execUwbReportTimeout
  refine .next ?_
  split
  · exact .ite hs.endRound hs
  · exact hs

theorem State.Tidy.dropSts (hs : s.Tidy W M) : (s.dropSts).Tidy W M := by
  unfold State.dropSts
  exact hs.frame

theorem State.Tidy.execUwbReportRx (hs : s.Tidy W M) {psdu} : TidyOutcome W M (execUwbReportRx psdu s) := by
  unfold Machine.execUwbReportRx
  refine .next ?_
  split
  · exact .ite hs.frame.dropSts hs
  · exact hs

theorem State.Tidy.execUwbFinalTx (hs : s.Tidy W M) : TidyOutcome W M (execUwbFinalTx s) := by
  unfold Machine.execUwbFinalTx
  refine .next ?_
  split
  · exact .ite hs hs.askOwn.frame.emit
  · exact hs

theorem State.Tidy.putRecord (hs : s.Tidy W M) {e r} : (s.putRecord e r).Tidy W M := by
  unfold State.putRecord
  exact hs.updEng.setEvent

theorem State.Tidy.takeRecord (hs : s.Tidy W M) {r} : (s.takeRecord r).Tidy W M := by
  unfold State.takeRecord
  split
  · exact hs
  · exact .ite hs.frame (.ite hs.frame hs)

theorem State.Tidy.execCirRecord (hs : s.Tidy W M) {r} : TidyOutcome W M (execCirRecord r s) := by
  unfold Machine.execCirRecord
  exact .next (.ite (.takeRecord (.foldl (fun _ _ h => h.putRecord) hs)) hs)

theorem State.Tidy.execUwbResponseTimeout (hs : s.Tidy W M) {preamble} : TidyOutcome W M (execUwbResponseTimeout preamble s) := by
  unfold Machine.execUwbResponseTimeout
  refine .next ?_
  split
  · exact .ite hs hs.endRound
  · exact hs

theorem State.Tidy.execUwbResponseRx (hs : s.Tidy W M) {t4c} : TidyOutcome W M (execUwbResponseRx t4c s) := by
  unfold Machine.execUwbResponseRx
  refine .next ?_
  split
  · exact .ite hs hs.frame.dropSts
  · exact hs

theorem State.Tidy.testPorts (hs : s.Tidy W M) {need cleared} : (s.testPorts need cleared).Tidy W M := by
  unfold State.testPorts
  exact hs.setFld

theorem State.Tidy.startRound (hs : s.Tidy W M) {y fob r t1 cleared lowLoss} :
    (s.startRound y fob r t1 cleared lowLoss).Tidy W M := by
  unfold State.startRound
  exact .ite hs.testPorts.portsPower.frame.setFldBit.raise.endRound hs.testPorts.portsPower.frame.askOwn.frame.emit

theorem State.Tidy.execUwbRoundStart (hs : s.Tidy W M) {t1 cleared lowLoss} :
    TidyOutcome W M (execUwbRoundStart t1 cleared lowLoss s) := by
  unfold Machine.execUwbRoundStart
  refine .next ?_
  split
  · refine .ite hs (.ite hs.rangingDone ?_)
    split
    · exact hs.rangingDone
    · exact hs.startRound
  · exact hs

theorem State.Tidy.nextRepoll (hs : s.Tidy W M) : (s.nextRepoll).Tidy W M := by
  unfold State.nextRepoll
  split
  · exact hs
  · split
    · exact hs.updSession.requestLf
    · exact hs.advance

theorem State.Tidy.closeRepoll (hs : s.Tidy W M) {x w f outcome} : (s.closeRepoll x w f outcome).Tidy W M := by
  unfold State.closeRepoll
  split
  · exact hs
  · refine .ite hs.nextRepoll ?_
    dsimp only
    split
    · exact hs.updSession
    · exact .nextRepoll (.ite hs.updSession.postCollision hs.updSession)

theorem State.Tidy.pollOver (hs : s.Tidy W M) : (s.pollOver).Tidy W M := by
  unfold State.pollOver
  exact .ite hs hs.updPower.railSet.railSet.railSet.setDomains

theorem State.Tidy.showOutcomes (hs : s.Tidy W M) {oc} : (s.showOutcomes oc).Tidy W M := by
  unfold State.showOutcomes
  exact .ite hs.setFld.bump hs.setFld.bump.raise

theorem State.Tidy.execUhfWindowEnd (hs : s.Tidy W M) {l} : TidyOutcome W M (execUhfWindowEnd l s) := by
  unfold Machine.execUhfWindowEnd
  refine .next ?_
  split
  · exact hs
  · refine .ite hs ?_
    dsimp only
    split
    · exact hs.frame.showOutcomes.book
    · exact hs.frame.showOutcomes.book.pollOver
    · split
      · exact hs.frame.showOutcomes.book.closeRepoll
      · exact hs.frame.showOutcomes.book.updSession.nextRepoll

theorem State.Tidy.heardInTarn (hs : s.Tidy W M) {payload slot rssi} : (s.heardInTarn payload slot rssi).Tidy W M := by
  unfold State.heardInTarn
  exact .ite hs (.ite hs.updPower.latchWake hs.updPower)

theorem State.Tidy.deliver (hs : s.Tidy W M) {w h} : (s.deliver w h).Tidy W M := by
  unfold State.deliver
  split
  · exact .ite hs.askOwn.setAcc hs.askOwn.bump
  · split
    · exact hs.answer
    · exact hs.answer
    · exact hs.heardInTarn

theorem State.Tidy.execUhfTelegram (hs : s.Tidy W M) {i raw rssi0 rssi1} :
    TidyOutcome W M (execUhfTelegram i raw rssi0 rssi1 s) := by
  unfold Machine.execUhfTelegram
  refine .next ?_
  split
  · exact hs
  · split
    · exact hs.frame.bump.setFld.setFld.setFld.raise.deliver
    · exact hs

theorem State.Tidy.execUhfWindowOpen (hs : s.Tidy W M) : TidyOutcome W M (execUhfWindowOpen s) := by
  unfold Machine.execUhfWindowOpen
  refine .next ?_
  split
  · exact hs
  · exact .ite hs hs.frame.updSession

theorem State.Tidy.bcDecide (hs : s.Tidy W M) : (s.bcDecide).Tidy W M := by
  unfold State.bcDecide
  split
  · exact .ite hs (.ite hs.tryBackup hs.decision)
  · exact hs

theorem State.Tidy.execBcSessionEnd (hs : s.Tidy W M) : TidyOutcome W M (execBcSessionEnd s) := by
  unfold Machine.execBcSessionEnd
  refine .next ?_
  split
  · exact hs
  · exact .ite hs hs.bcOff.bcDecide

theorem State.Tidy.bcDownlink (hs : s.Tidy W M) {b} : (s.bcDownlink b).Tidy W M := by
  unfold State.bcDownlink
  exact hs.draw.updSession.frame.setFld.setFld.emit

theorem State.Tidy.bcAgain (hs : s.Tidy W M) {b} : (s.bcAgain b).Tidy W M := by
  unfold State.bcAgain
  split
  · exact .ite hs hs.updSession.bcDownlink
  · exact hs

theorem State.Tidy.execBcReply (hs : s.Tidy W M) {raw} : TidyOutcome W M (execBcReply raw s) := by
  unfold Machine.execBcReply
  refine .next ?_
  split
  · refine .ite hs ?_
    dsimp only
    split
    · exact hs.askOwn.acceptAnswer.updSession.advance
    · exact hs.askOwn.rejectAnswer.bcAgain
  · exact hs

theorem State.Tidy.bcCheck (hs : s.Tidy W M) {b transponder} : (s.bcCheck b transponder).Tidy W M := by
  unfold State.bcCheck
  exact .ite hs (.ite hs.bcDownlink hs.bcOff.bcDecide)

theorem State.Tidy.bcStart (hs : s.Tidy W M) : (s.bcStart).Tidy W M := by
  unfold State.bcStart
  refine .ite hs ?_
  dsimp only
  split
  · exact .ite hs.openSession hs
  · refine .ite (.ite hs.openSession hs) ?_
    split
    · exact .setFld (.frame (.ite hs.openSession hs))
    · exact .ite (.setFld (.frame (.ite hs.openSession hs))) (.raise (.setFld (.setFld (.frame (.ite hs.openSession hs)))))

theorem State.Tidy.execBcSessionStart (hs : s.Tidy W M) {transponder} : TidyOutcome W M (execBcSessionStart transponder s) := by
  unfold Machine.execBcSessionStart
  refine .next ?_
  split
  · exact hs.bcStart
  · exact hs.bcCheck

theorem State.Tidy.lfDiagnose (hs : s.Tidy W M) {n st} : (s.lfDiagnose n st).Tidy W M := by
  unfold State.lfDiagnose
  exact .ite hs.setFld.setFldBit hs.setFld.setFldBit.raise

theorem State.Tidy.execLfDiag (hs : s.Tidy W M) {n st res why} : TidyOutcome W M (execLfDiag n st res why s) := by
  unfold Machine.execLfDiag
  exact .next (.ite hs.lfDiagnose.setFld.frame hs)

theorem State.Tidy.noteBursts (hs : s.Tidy W M) {a} : (s.noteBursts a).Tidy W M := by
  unfold State.noteBursts
  exact .ite hs.updSession.updPower hs

theorem State.Tidy.execLfFrameEnd (hs : s.Tidy W M) {shorted} : TidyOutcome W M (execLfFrameEnd shorted s) := by
  unfold Machine.execLfFrameEnd
  refine .next ?_
  split
  · exact hs
  · exact .ite hs (.book (.noteBursts (.frame (.foldl (fun _ _ h => h.lfDiagnose) hs))))

theorem State.Tidy.lfStart (hs : s.Tidy W M) {r short} : (s.lfStart r short).Tidy W M := by
  unfold State.lfStart
  exact .ite hs.frame.noteBursts.setFld.emit hs.frame.noteBursts.setFld.emit.raise

theorem State.Tidy.lfNotSent (hs : s.Tidy W M) : (s.lfNotSent).Tidy W M := by
  unfold State.lfNotSent
  exact hs.frame.showVlf.updSession.advance.pollOver

theorem State.Tidy.execLfFrameStart (hs : s.Tidy W M) {short} : TidyOutcome W M (execLfFrameStart short s) := by
  unfold Machine.execLfFrameStart
  refine .next ?_
  split
  · exact hs
  · exact .ite hs (.ite hs.lfNotSent (.ite hs hs.lfStart))

theorem State.Tidy.execStuckTouch (hs : s.Tidy W M) {n} : TidyOutcome W M (execStuckTouch n s) := by
  unfold Machine.execStuckTouch
  refine .next ?_
  split
  · exact hs
  · exact .ite hs hs.setHsChan.setFldBit.setFldBit.raise

theorem State.Tidy.hsTrack (hs : s.Tidy W M) {n count startedAt} : (s.hsTrack n count startedAt).Tidy W M := by
  unfold State.hsTrack
  exact .ite (.ite hs hs.setHsChan) (.ite hs.setHsChan (.ite (.ite hs.setHsChan hs.setHsChan) hs))

theorem State.Tidy.hsFault (hs : s.Tidy W M) {n count} : (s.hsFault n count).Tidy W M := by
  unfold State.hsFault
  exact .ite (.ite hs.setHsChan.setFldBit hs.setHsChan.setFldBit.raise) (.ite (.ite hs.setHsChan.setFldBit hs.setHsChan) hs)

theorem State.Tidy.hsMeasure (hs : s.Tidy W M) {n count startedAt} : (s.hsMeasure n count startedAt).Tidy W M := by
  unfold State.hsMeasure
  exact .ite (.ite (.setFldBit (.setHsChan (.ite hs.setHsChan.hsFault.setFldBit hs.setHsChan.hsFault))) (.ite
      hs.setHsChan.hsFault.setFldBit hs.setHsChan.hsFault)) (.hsTrack (.ite hs.setHsChan.hsFault.setFldBit
      hs.setHsChan.hsFault))

theorem State.Tidy.hsReturn (hs : s.Tidy W M) {n} : (s.hsReturn n).Tidy W M := by
  unfold State.hsReturn
  exact hs.setHsChan.passReady

theorem State.Tidy.hsConfirm (hs : s.Tidy W M) {n count startedAt} : (s.hsConfirm n count startedAt).Tidy W M := by
  unfold State.hsConfirm
  split
  · exact hs
  · exact .ite (.hsReturn (.ite hs.setHsChan.hsFault.setFldBit hs.setHsChan.hsFault)) (.ite (.hsTouch (.ite
        hs.setHsChan.hsFault.setFldBit hs.setHsChan.hsFault)) (.setHsChan (.ite hs.setHsChan.hsFault.setFldBit
        hs.setHsChan.hsFault)))

theorem State.Tidy.execHsRemeasure (hs : s.Tidy W M) {n count startedAt} :
    TidyOutcome W M (execHsRemeasure n count startedAt s) := by
  unfold Machine.execHsRemeasure
  exact .next (.ite hs (.ite hs.hsReturn (.ite hs (.ite hs.book.hsConfirm hs.book.hsMeasure))))

theorem State.Tidy.execHsConfirm (hs : s.Tidy W M) {n count startedAt} : TidyOutcome W M (execHsConfirm n count startedAt s) := by
  unfold Machine.execHsConfirm
  exact .next (.ite hs (.ite hs.hsReturn (.ite hs (.ite hs.book.setHsChan hs.book.hsConfirm))))

theorem State.Tidy.execHsMeasurement (hs : s.Tidy W M) {n count startedAt} :
    TidyOutcome W M (execHsMeasurement n count startedAt s) := by
  unfold Machine.execHsMeasurement
  exact .next (.ite hs (.ite hs.frame.book.setHsChan hs.frame.book.hsMeasure))

theorem State.Tidy.execHsScanRound (hs : s.Tidy W M) : TidyOutcome W M (execHsScanRound s) := by
  unfold Machine.execHsScanRound
  exact .next (.ite hs hs.frame)

theorem State.Tidy.execWaitcDeadline (hs : s.Tidy W M) {e} : TidyOutcome W M (execWaitcDeadline e s) := by
  unfold Machine.execWaitcDeadline
  refine .next ?_
  split
  · split
    · exact .ite hs.setTask hs
    · exact hs
  · exact hs

theorem State.Tidy.execEngineEvent (hs : s.Tidy W M) {e line} : TidyOutcome W M (execEngineEvent e line s) := by
  unfold Machine.execEngineEvent
  exact .next hs.setEvent

theorem State.Tidy.execRdt (hs : s.Tidy W M) {e d} : TidyOutcome W M (execRdt e d s) := by
  unfold Machine.execRdt
  exact .next hs.prof

theorem State.Tidy.execWaitc (hs : s.Tidy W M) {e r} : TidyOutcome W M (execWaitc e r s) := by
  unfold Machine.execWaitc
  exact .next hs.prof

theorem State.Tidy.execSev (hs : s.Tidy W M) {e r} : TidyOutcome W M (execSev e r s) := by
  unfold Machine.execSev
  exact .next hs.prof

theorem State.Tidy.execWfe (hs : s.Tidy W M) {e d} : TidyOutcome W M (execWfe e d s) := by
  unfold Machine.execWfe
  exact .next hs.prof

theorem State.Tidy.execBperm (hs : s.Tidy W M) {e d r sel zm} : TidyOutcome W M (execBperm e d r sel zm s) := by
  unfold Machine.execBperm
  exact .next hs.prof

theorem State.Tidy.execClz (hs : s.Tidy W M) {e d r} : TidyOutcome W M (execClz e d r s) := by
  unfold Machine.execClz
  exact .next hs.prof

theorem State.Tidy.execBfx (hs : s.Tidy W M) {e d r p w} : TidyOutcome W M (execBfx e d r p w s) := by
  unfold Machine.execBfx
  exact .next hs.prof

theorem State.Tidy.execBfi (hs : s.Tidy W M) {e d r p w} : TidyOutcome W M (execBfi e d r p w s) := by
  unfold Machine.execBfi
  exact .next hs.prof

theorem State.Tidy.execStp (hs : s.Tidy W M) {e r b off} : TidyOutcome W M (execStp e r b off s) := by
  unfold Machine.execStp
  exact .next (hs.instr (fun _ h => h.kStp))

theorem State.Tidy.execLdp (hs : s.Tidy W M) {e r b off} : TidyOutcome W M (execLdp e r b off s) := by
  unfold Machine.execLdp
  exact .next (hs.instr (fun _ h => h.kLdp))

theorem State.Tidy.execSt (hs : s.Tidy W M) {e r b off} : TidyOutcome W M (execSt e r b off s) := by
  unfold Machine.execSt
  exact .next (hs.instr (fun _ h => h.kSt))

theorem State.Tidy.execLd (hs : s.Tidy W M) {e r b off} : TidyOutcome W M (execLd e r b off s) := by
  unfold Machine.execLd
  exact .next (hs.instr (fun _ h => h.kLd))

theorem State.Tidy.execUop (hs : s.Tidy W M) {e n d} : TidyOutcome W M (execUop e n d s) := by
  unfold Machine.execUop
  exact .next (hs.instr (fun _ h => h.kUop))

theorem State.Tidy.execMts (hs : s.Tidy W M) {e n r} : TidyOutcome W M (execMts e n r s) := by
  unfold Machine.execMts
  exact .next (hs.instr (fun _ h => h.kMts))

theorem State.Tidy.execMfs (hs : s.Tidy W M) {e n d} : TidyOutcome W M (execMfs e n d s) := by
  unfold Machine.execMfs
  exact .next (hs.instr (fun _ h => hs.mfs h))

theorem State.Tidy.execPmv (hs : s.Tidy W M) {e d} : TidyOutcome W M (execPmv e d s) := by
  unfold Machine.execPmv
  exact .next (hs.instr (fun _ h => h.compute))

theorem State.Tidy.execTst (hs : s.Tidy W M) {e d} : TidyOutcome W M (execTst e d s) := by
  unfold Machine.execTst
  exact .next (hs.instr (fun _ h => h.compute))

theorem State.Tidy.execAbs (hs : s.Tidy W M) {e d} : TidyOutcome W M (execAbs e d s) := by
  unfold Machine.execAbs
  exact .next (hs.instr (fun _ h => h.compute))

theorem State.Tidy.execNeg (hs : s.Tidy W M) {e d} : TidyOutcome W M (execNeg e d s) := by
  unfold Machine.execNeg
  exact .next (hs.instr (fun _ h => h.compute))

theorem State.Tidy.execNot (hs : s.Tidy W M) {e d} : TidyOutcome W M (execNot e d s) := by
  unfold Machine.execNot
  exact .next (hs.instr (fun _ h => h.compute))

theorem State.Tidy.execPop (hs : s.Tidy W M) {e r} : TidyOutcome W M (execPop e r s) := by
  unfold Machine.execPop
  exact .next (hs.instr (fun _ h => h.kPop))

theorem State.Tidy.execPush (hs : s.Tidy W M) {e r} : TidyOutcome W M (execPush e r s) := by
  unfold Machine.execPush
  exact .next (hs.instr (fun _ h => h.kPush))

theorem State.Tidy.putReply (hs : s.Tidy W M) {e t req off r} : (s.putReply e t req off r).Tidy W M := by
  unfold State.putReply
  exact .of_parts hs hs.store fun m => hs.kCtx.setPool.setPool m

theorem State.Tidy.leaveClaimed (hs : s.Tidy W M) {e} : (s.leaveClaimed e).Tidy W M := by
  unfold State.leaveClaimed
  split
  · exact .ite hs.leave hs
  · exact hs

theorem State.Tidy.reqOwn (hs : s.Tidy W M) {t c} : (s.reqOwn t c).Tidy W M := by
  unfold State.reqOwn
  refine .ite (.done hs) ?_
  split
  · split
    · exact .ite (.done hs) (.done hs)
    · exact .done hs
  · exact .done hs
  · split
    · exact .ite (.done hs) (.done hs)
    · exact .done hs
  · split
    · exact .ite (.done hs) (.done hs)
    · exact .done hs

theorem State.Tidy.stageCounter (hs : s.Tidy W M) {t c} : (s.stageCounter t c).Tidy W M := by
  unfold State.stageCounter
  refine .ite (.done hs) ?_
  split
  · exact .done hs
  · exact .ite (.done hs) (.done hs)

theorem State.Tidy.reqCommand (hs : s.Tidy W M) {c i} {body : State → Inflight → Work}
    (hb : ∀ t c, t.Tidy W M → (body t c).Tidy W M) :
    (s.reqCommand c i body).Tidy W M := by
  unfold State.reqCommand
  refine .ite (.done hs) (.ite (.done hs) (.ite (.done hs) (.ite (.done hs) (.ite (.done hs) (.ite (.wait hs) ?_)))))
  split
  · next he => exact .done ((hb _ _ hs).of_finish he)
  · next he => exact .done ((hb _ _ hs).of_commit he)
  · next he => exact .wait ((hb _ _ hs).of_more he)

theorem State.Tidy.stageKey {x : ReqEnd} (_ : s.Tidy W M) (hx : x.Tidy W M) : (s.stageKey x).Tidy W M := by
  unfold State.stageKey
  split
  · exact .wait ((hx.of_wait rfl))
  · refine .ite (.done ((hx.of_done rfl))) ?_
    dsimp only
    split
    · exact .done (.frame ((hx.of_done rfl)))
    · exact .done ((hx.of_done rfl))

theorem serviceOp_tidy {op : Nat} {i : OpInfo} {body : State → Inflight → Work} (h : serviceOp op = some (i, body)) (t : State)
    (c : Inflight) (ht : t.Tidy W M) : (body t c).Tidy W M := by
  unfold serviceOp at h
  split at h <;> cases h
  · exact ht.encryptWork
  · exact ht.decryptWork
  · exact ht.macGenWork
  · exact ht.macVerWork
  · exact ht.wrapWork
  · exact ht.unwrapWork
  · exact ht.digestWork
  · exact ht.signWork
  · exact ht.verifyWork
  · exact ht.deriveWork
  · exact ht.counterReadWork
  · exact ht.randomWork

theorem State.Tidy.service (hs : s.Tidy W M) {e t req} :
    (s.service e t req).Tidy W M := by
  unfold State.service
  refine .ite (.done hs) (.ite (.done hs) (.ite (.done hs) ?_))
  split
  · next he => exact .ite (hs.stageKey (hs.reqCommand (serviceOp_tidy he))) (hs.reqCommand (serviceOp_tidy he))
  · exact .ite hs.stageCounter hs.reqOwn

theorem State.Tidy.endSvca (hs : s.Tidy W M) {e t i req off} : (s.endSvca e t i req off).Tidy W M := by
  unfold State.endSvca
  split
  · next he0 => exact hs.service.of_wait he0
  · next he0 => exact .leaveClaimed (.setTask (.putReply (hs.service.of_done he0)))

theorem State.Tidy.endSvc (hs : s.Tidy W M) {e t req off} : (s.endSvc e t req off).Tidy W M := by
  unfold State.endSvc
  split
  · next he0 => exact hs.service.of_wait he0
  · next he0 => exact .leaveClaimed (.setTask (.putReply (hs.service.of_done he0)))

theorem State.Tidy.execServiceRequestEnd (hs : s.Tidy W M) {e which} : TidyOutcome W M (execServiceRequestEnd e which s) := by
  unfold Machine.execServiceRequestEnd
  refine .next ?_
  split
  · exact hs
  · split
    · split
      · exact hs.endSvc
      · exact hs
    · split
      · exact hs.endSvca
      · exact hs

theorem State.Tidy.execSvca (hs : s.Tidy W M) {e} : TidyOutcome W M (execSvca e s) := by
  unfold Machine.execSvca
  exact .next (hs.instr (fun _ h => h.kSvca))

theorem State.Tidy.execSvc (hs : s.Tidy W M) {e} : TidyOutcome W M (execSvc e s) := by
  unfold Machine.execSvc
  exact .next (hs.instr (fun _ h => h.kSvc))

theorem State.Tidy.portArrive (hs : s.Tidy W M) {h p} : (s.portArrive h p).Tidy W M := by
  unfold State.portArrive
  exact hs.frame

theorem State.Tidy.arrive (hs : s.Tidy W M) {u} : (s.arrive u).Tidy W M := by
  unfold State.arrive
  split
  · exact hs.portArrive
  · exact hs

theorem State.Tidy.execEnd (hs : s.Tidy W M) {e} : TidyOutcome W M (execEnd e s) := by
  unfold Machine.execEnd
  refine .next ?_
  split
  · exact hs.arrive.kEnd
  · exact hs

theorem State.Tidy.execNopInstruction (hs : s.Tidy W M) {e} : TidyOutcome W M (execNopInstruction e s) := by
  unfold Machine.execNopInstruction
  exact .next (hs.instr (fun _ h => h.compute))

theorem State.Tidy.execRetm (hs : s.Tidy W M) {e} : TidyOutcome W M (execRetm e s) := by
  unfold Machine.execRetm
  exact .next (hs.instr (fun _ h => h.kRetm))

theorem State.Tidy.execCallm (hs : s.Tidy W M) {e m kt} : TidyOutcome W M (execCallm e m kt s) := by
  unfold Machine.execCallm
  exact .next (hs.instr (fun _ h => h.kCallm))

theorem State.Tidy.execJr (hs : s.Tidy W M) {e r} : TidyOutcome W M (execJr e r s) := by
  unfold Machine.execJr
  exact .next (hs.instr (fun _ h => h.kJr))

theorem State.Tidy.execShortBranch (hs : s.Tidy W M) {e c disp} : TidyOutcome W M (execShortBranch e c disp s) := by
  unfold Machine.execShortBranch
  exact .next (hs.instr (fun _ h => h.kBranch))

theorem State.Tidy.execJmpcc (hs : s.Tidy W M) {e c target} : TidyOutcome W M (execJmpcc e c target s) := by
  unfold Machine.execJmpcc
  exact .next (hs.instr (fun _ h => h.kJmpcc))

theorem State.Tidy.execMovl (hs : s.Tidy W M) {e d imm} : TidyOutcome W M (execMovl e d imm s) := by
  unfold Machine.execMovl
  exact .next (hs.instr (fun _ h => h.compute))

theorem State.Tidy.execXorw (hs : s.Tidy W M) {e d imm} : TidyOutcome W M (execXorw e d imm s) := by
  unfold Machine.execXorw
  exact .next (hs.instr (fun _ h => h.compute))

theorem State.Tidy.execOrw (hs : s.Tidy W M) {e d imm} : TidyOutcome W M (execOrw e d imm s) := by
  unfold Machine.execOrw
  exact .next (hs.instr (fun _ h => h.compute))

theorem State.Tidy.execAndw (hs : s.Tidy W M) {e d imm} : TidyOutcome W M (execAndw e d imm s) := by
  unfold Machine.execAndw
  exact .next (hs.instr (fun _ h => h.compute))

theorem State.Tidy.execCmpw (hs : s.Tidy W M) {e d imm} : TidyOutcome W M (execCmpw e d imm s) := by
  unfold Machine.execCmpw
  exact .next (hs.instr (fun _ h => h.compute))

theorem State.Tidy.execAddw (hs : s.Tidy W M) {e d imm} : TidyOutcome W M (execAddw e d imm s) := by
  unfold Machine.execAddw
  exact .next (hs.instr (fun _ h => h.compute))

theorem State.Tidy.execMovw (hs : s.Tidy W M) {e d imm} : TidyOutcome W M (execMovw e d imm s) := by
  unfold Machine.execMovw
  exact .next (hs.instr (fun _ h => h.compute))

theorem State.Tidy.execAddi (hs : s.Tidy W M) {e d imm} : TidyOutcome W M (execAddi e d imm s) := by
  unfold Machine.execAddi
  exact .next (hs.instr (fun _ h => h.compute))

theorem State.Tidy.execMovi (hs : s.Tidy W M) {e d imm} : TidyOutcome W M (execMovi e d imm s) := by
  unfold Machine.execMovi
  exact .next (hs.instr (fun _ h => h.compute))

theorem State.Tidy.execMsb (hs : s.Tidy W M) {e d r} : TidyOutcome W M (execMsb e d r s) := by
  unfold Machine.execMsb
  exact .next (hs.instr (fun _ h => h.compute))

theorem State.Tidy.execMac (hs : s.Tidy W M) {e d r} : TidyOutcome W M (execMac e d r s) := by
  unfold Machine.execMac
  exact .next (hs.instr (fun _ h => h.compute))

theorem State.Tidy.execMulu (hs : s.Tidy W M) {e d r} : TidyOutcome W M (execMulu e d r s) := by
  unfold Machine.execMulu
  exact .next (hs.instr (fun _ h => h.compute))

theorem State.Tidy.execMul (hs : s.Tidy W M) {e d r} : TidyOutcome W M (execMul e d r s) := by
  unfold Machine.execMul
  exact .next (hs.instr (fun _ h => h.compute))

theorem State.Tidy.execRor (hs : s.Tidy W M) {e d a} : TidyOutcome W M (execRor e d a s) := by
  unfold Machine.execRor
  exact .next (hs.instr (fun _ h => h.compute))

theorem State.Tidy.execSar (hs : s.Tidy W M) {e d n} : TidyOutcome W M (execSar e d n s) := by
  unfold Machine.execSar
  exact .next (hs.instr (fun _ h => h.compute))

theorem State.Tidy.execShr (hs : s.Tidy W M) {e d n} : TidyOutcome W M (execShr e d n s) := by
  unfold Machine.execShr
  exact .next (hs.instr (fun _ h => h.compute))

theorem State.Tidy.execShl (hs : s.Tidy W M) {e d n} : TidyOutcome W M (execShl e d n s) := by
  unfold Machine.execShl
  exact .next (hs.instr (fun _ h => h.compute))

theorem State.Tidy.execXor (hs : s.Tidy W M) {e d r} : TidyOutcome W M (execXor e d r s) := by
  unfold Machine.execXor
  exact .next (hs.instr (fun _ h => h.compute))

theorem State.Tidy.execOr (hs : s.Tidy W M) {e d r} : TidyOutcome W M (execOr e d r s) := by
  unfold Machine.execOr
  exact .next (hs.instr (fun _ h => h.compute))

theorem State.Tidy.execAnd (hs : s.Tidy W M) {e d r} : TidyOutcome W M (execAnd e d r s) := by
  unfold Machine.execAnd
  exact .next (hs.instr (fun _ h => h.compute))

theorem State.Tidy.execCmp (hs : s.Tidy W M) {e d r} : TidyOutcome W M (execCmp e d r s) := by
  unfold Machine.execCmp
  exact .next (hs.instr (fun _ h => h.compute))

theorem State.Tidy.execSbc (hs : s.Tidy W M) {e d r} : TidyOutcome W M (execSbc e d r s) := by
  unfold Machine.execSbc
  exact .next (hs.instr (fun _ h => h.compute))

theorem State.Tidy.execSub (hs : s.Tidy W M) {e d r} : TidyOutcome W M (execSub e d r s) := by
  unfold Machine.execSub
  exact .next (hs.instr (fun _ h => h.compute))

theorem State.Tidy.execAdc (hs : s.Tidy W M) {e d r} : TidyOutcome W M (execAdc e d r s) := by
  unfold Machine.execAdc
  exact .next (hs.instr (fun _ h => h.compute))

theorem State.Tidy.execAdd (hs : s.Tidy W M) {e d r} : TidyOutcome W M (execAdd e d r s) := by
  unfold Machine.execAdd
  exact .next (hs.instr (fun _ h => h.compute))

theorem State.Tidy.execMov (hs : s.Tidy W M) {e d r} : TidyOutcome W M (execMov e d r s) := by
  unfold Machine.execMov
  exact .next (hs.instr (fun _ h => h.compute))

theorem State.Tidy.execTaskStart (hs : s.Tidy W M) {e b} : TidyOutcome W M (execTaskStart e b s) := by
  unfold Machine.execTaskStart
  exact .next (.ite hs hs.startTask)

theorem State.Tidy.stopRun (hs : s.Tidy W M) {r} : (s.stopRun r).Tidy W M := by
  unfold State.stopRun
  exact hs.frame

theorem State.Tidy.restart (hs : s.Tidy W M) {r h} : (s.restart r h).Tidy W M := by
  unfold State.restart
  exact hs.stopRun.frame.serve

theorem State.Tidy.lateItem (hs : s.Tidy W M) {u} : (s.lateItem u).Tidy W M := by
  unfold State.lateItem
  refine .ite hs.discardItem (.ite hs.bump.raise ?_)
  dsimp only
  split
  · exact hs.bump.raise
  · exact hs.bump.raise.free.frame.unitProbation

theorem State.Tidy.execAnvilOpEnd (hs : s.Tidy W M) {h i failedBy} : TidyOutcome W M (execAnvilOpEnd h i failedBy s) := by
  unfold Machine.execAnvilOpEnd
  refine .next ?_
  split
  · exact hs.lateItem
  · split
    · exact hs.arrive.stopRun.serve
    · exact hs.bump.raise.restart.strike.strike

theorem State.Tidy.setRun (hs : s.Tidy W M) {r j} : (s.setRun r j).Tidy W M := by
  unfold State.setRun
  exact hs.frame

theorem State.Tidy.endRequest (hs : s.Tidy W M) {r} : (s.endRequest r).Tidy W M := by
  unfold State.endRequest
  exact .ite hs.stopRun.serve hs.stopRun.addJob

theorem State.Tidy.preempt (hs : s.Tidy W M) {r} : (s.preempt r).Tidy W M := by
  unfold State.preempt
  exact .serve (.ite hs.stopRun.frame.bump hs.stopRun.frame)

theorem State.Tidy.boundary (hs : s.Tidy W M) {r n} : (s.boundary r n).Tidy W M := by
  unfold State.boundary
  exact .ite hs.setRun.preempt hs.setRun

theorem State.Tidy.execDigestBlockEnd (hs : s.Tidy W M) {h ok} : TidyOutcome W M (execDigestBlockEnd h ok s) := by
  unfold Machine.execDigestBlockEnd
  refine .next ?_
  split
  · exact hs.lateItem
  · exact .ite (.ite hs.arrive.boundary hs.arrive.setRun.endRequest) (.foldl (fun _ _ h => h.strike) hs.bump.raise.restart)

theorem State.Tidy.execDefenceReseed (hs : s.Tidy W M) {h i} : TidyOutcome W M (execDefenceReseed h i s) := by
  unfold Machine.execDefenceReseed
  exact .next (.ite hs hs.frame.drawAt)

theorem State.Tidy.countBlocks (hs : s.Tidy W M) {h l n} : (s.countBlocks h l n).Tidy W M := by
  unfold State.countBlocks
  exact hs.frame

theorem State.Tidy.execHammerRequestEnd (hs : s.Tidy W M) {h i} : TidyOutcome W M (execHammerRequestEnd h i s) := by
  unfold Machine.execHammerRequestEnd
  refine .next ?_
  split
  · exact hs.lateItem
  · exact hs.arrive.countBlocks.endRequest.ownNext

theorem State.Tidy.execHammerSegmentEnd (hs : s.Tidy W M) {h i ok} : TidyOutcome W M (execHammerSegmentEnd h i ok s) := by
  unfold Machine.execHammerSegmentEnd
  refine .next ?_
  split
  · exact hs.lateItem
  · exact .ite hs (.ite hs.arrive.countBlocks.boundary (.foldl (fun _ _ h => h.strike) hs.bump.raise.restart))

theorem State.Tidy.retireIndex (hs : s.Tidy W M) {h f} : (s.retireIndex h f).Tidy W M := by
  unfold State.retireIndex
  split
  · exact hs
  · exact hs.frame.enterSpill.bump.raise.flowSpilled

theorem State.Tidy.writeBack (hs : s.Tidy W M) {h f i} : (s.writeBack h f i).Tidy W M := by
  unfold State.writeBack
  exact .ite hs.retireIndex hs.sealNext.bump.updFlow

theorem State.Tidy.execWriteBack (hs : s.Tidy W M) {h} : TidyOutcome W M (execWriteBack h s) := by
  unfold Machine.execWriteBack
  refine .next ?_
  split
  · exact hs
  · split
    · exact hs
    · exact .ite hs.writeBack hs

theorem State.Tidy.loseFlow (hs : s.Tidy W M) {h} : (s.loseFlow h).Tidy W M := by
  unfold State.loseFlow
  exact hs.updFlow.bump.raise.postFailure

theorem State.Tidy.execSpillRecordRead (hs : s.Tidy W M) {h rec} : TidyOutcome W M (execSpillRecordRead h rec s) := by
  unfold Machine.execSpillRecordRead
  refine .next ?_
  split
  · exact hs
  · split
    · exact hs
    · refine .ite hs ?_
      split
      · exact hs.loseFlow
      · split
        · exact hs.bump.raise.loseFlow
        · exact .ite hs.updFlow.askCkpt hs.updFlow

theorem State.Tidy.execCheckpointTimeout (hs : s.Tidy W M) {id} : TidyOutcome W M (execCheckpointTimeout id s) := by
  unfold Machine.execCheckpointTimeout
  refine .next ?_
  split
  · exact hs
  · split
    · exact .ite hs.failMsg hs
    · exact hs

theorem State.Tidy.commitCkpt (hs : s.Tidy W M) {h} : (s.commitCkpt h).Tidy W M := by
  unfold State.commitCkpt
  split
  · exact hs
  · split
    · exact hs
    · exact .ite hs.updFlow.sealNext.updFlow hs.updFlow

theorem State.Tidy.execCheckpointCommit (hs : s.Tidy W M) {h} : TidyOutcome W M (execCheckpointCommit h s) := by
  unfold Machine.execCheckpointCommit
  exact .next (.ite hs.commitCkpt hs)

theorem State.Tidy.noteLatency (hs : s.Tidy W M) {f} : (s.noteLatency f).Tidy W M := by
  unfold State.noteLatency
  exact hs.setFld

theorem State.Tidy.frameJobs (hs : s.Tidy W M) {id ms} : (s.frameJobs id ms).Tidy W M := by
  unfold State.frameJobs
  exact .foldl (fun _ _ h => by
  split
  · split
    · exact h.newJob
    · exact h
  · exact h) hs

theorem State.Tidy.remakeFrame (hs : s.Tidy W M) {f} : (s.remakeFrame f).Tidy W M := by
  unfold State.remakeFrame
  exact .ite hs.discardItem.updFrame hs.discardItem.frame.updFrame.frameJobs

theorem State.Tidy.execFrameTransmit (hs : s.Tidy W M) {id} : TidyOutcome W M (execFrameTransmit id s) := by
  unfold Machine.execFrameTransmit
  refine .next ?_
  split
  · exact hs
  · exact .ite hs (.ite hs.remakeFrame (.endFrame (.ite hs.emit.noteLatency hs)))

theorem State.Tidy.movePn (hs : s.Tidy W M) {h lane i v} : (s.movePn h lane i v).Tidy W M := by
  unfold State.movePn
  split
  · exact hs
  · exact .ite hs.updFlow.postFailure hs.updFlow

theorem State.Tidy.withKey (hs : s.Tidy W M) {p slot fv fit} {f : State → KeySlot → MsgEnd}
    (hf : ∀ t k, t.Tidy W M → (f t k).Tidy W M) :
    (s.withKey p slot fv fit f).Tidy W M := by
  unfold State.withKey
  split
  · exact .fail hs
  · split
    · next he => exact hf _ _ (hs.takeUse.of_ok he)
    · next he => exact .fail (hs.takeUse.of_exhausted he)
    · next he => exact .hold (hs.takeUse.of_wait he)

theorem State.Tidy.macsecTxMsg (hs : s.Tidy W M) {h fl f m} : (macsecTxMsg s h fl f m).Tidy W M := by
  unfold Machine.macsecTxMsg
  exact .ite (.fail hs) (.ite (.fail hs) (.ite (.fail hs) (hs.withKey (fun _ _ h => .ok h.movePn))))

theorem State.Tidy.stall (hs : s.Tidy W M) {h} : (s.stall h).Tidy W M := by
  unfold State.stall
  split
  · exact .ite hs hs.updFlow.raise
  · exact hs

theorem State.Tidy.countOk (hs : s.Tidy W M) {h} : (s.countOk h).Tidy W M := by
  unfold State.countOk
  exact .ite hs.updFlow.setFld.bump hs.updFlow.setFld

theorem State.Tidy.passMsg (hs : s.Tidy W M) {f i h c m raw fv} : (s.passMsg f i h c m raw fv).Tidy W M := by
  unfold State.passMsg
  exact hs.countOk.noteFrame.doneMsg

theorem State.Tidy.touchFlow (hs : s.Tidy W M) {h} : (s.touchFlow h).Tidy W M := by
  unfold State.touchFlow
  exact hs.frame.updFlow

theorem State.Tidy.cacheRoom (hs : s.Tidy W M) {h} : TidyOption W M (s.cacheRoom h) := by
  unfold State.cacheRoom
  refine .ite (.some hs) ?_
  split
  · exact .none
  · split
    · exact .none
    · exact .ite (.some hs.updFlow) (.ite (.some hs.writeBack) .none)

theorem State.Tidy.coldMiss (hs : s.Tidy W M) {h i} : (s.coldMiss h i).Tidy W M := by
  unfold State.coldMiss
  refine .ite hs ?_
  split
  · exact hs
  · next he0 => exact .updFlow (.bump (.emit (hs.cacheRoom.get he0)))

theorem State.Tidy.laneTake (hs : s.Tidy W M) {id} : (s.laneTake id).Tidy W M := by
  unfold State.laneTake
  split
  · exact hs
  · exact hs.frame

theorem State.Tidy.process (hs : s.Tidy W M) {id kind} {body : State → Nat → Flow → Frame → Msg → MsgEnd}
    (hb : ∀ t h fl f m, t.Tidy W M → (body t h fl f m).Tidy W M) :
    (s.process id kind body).Tidy W M := by
  have hend : ∀ (c : Prop) [Decidable c] (t : State) (h : Nat) (fl : Flow) (f : Frame) (m : Msg), t.Tidy W M →
      (if c then MsgEnd.fail t .spillLost 0 else body t h fl f m).Tidy W M := by
    intro c _ t h fl f m ht
    exact .ite (.fail ht) (hb _ _ _ _ _ ht)
  unfold State.process
  split
  · exact hs
  · refine .ite hs (.ite ?_ ?_)
    · split
      · exact hs.laneTake.coldMiss
      · exact hs.laneTake
    · dsimp only
      split
      · next he => exact ((hend _ _ _ _ _ _ hs.laneTake.touchFlow).of_ok he).passMsg
      · next he => exact ((hend _ _ _ _ _ _ hs.laneTake.touchFlow).of_fail he).failMsg
      · next he => exact ((hend _ _ _ _ _ _ hs.laneTake.touchFlow).of_wait he).stall.updFrame
      · next he => exact (hend _ _ _ _ _ _ hs.laneTake.touchFlow).of_hold he

theorem State.Tidy.execMacsecTx (hs : s.Tidy W M) {id} : TidyOutcome W M (execMacsecTx id s) := by
  unfold Machine.execMacsecTx
  exact .next (hs.process (fun _ _ _ _ _ h => h.macsecTxMsg))

theorem State.Tidy.macsecRxMsg (hs : s.Tidy W M) {h fl f m} : (macsecRxMsg s h fl f m).Tidy W M := by
  unfold Machine.macsecRxMsg
  dsimp only
  split
  · exact .fail hs
  · refine .ite (.fail hs) ?_
    split
    · exact .fail hs
    · exact .ite (.fail hs) (hs.withKey (fun _ _ h => by
      split
      · exact .fail h
      · exact .ok h.movePn))

theorem State.Tidy.execMacsecRx (hs : s.Tidy W M) {id} : TidyOutcome W M (execMacsecRx id s) := by
  unfold Machine.execMacsecRx
  exact .next (hs.process (fun _ _ _ _ _ h => h.macsecRxMsg))

theorem State.Tidy.signMsg (hs : s.Tidy W M) {h fl f m} : (signMsg s h fl f m).Tidy W M := by
  unfold Machine.signMsg
  exact .ite (.fail hs) (.ite (.fail hs) (.ite (.wait hs.askCkpt) (hs.withKey (fun _ _ h => .ok h.updFlow.checkCkpt))))

theorem State.Tidy.execSecocSign (hs : s.Tidy W M) {id} : TidyOutcome W M (execSecocSign id s) := by
  unfold Machine.execSecocSign
  exact .next (hs.process (fun _ _ _ _ _ h => h.signMsg))

theorem State.Tidy.acceptFresh (hs : s.Tidy W M) {h cand raw} : (acceptFresh s h cand raw).Tidy W M := by
  unfold Machine.acceptFresh
  split
  · exact .hold hs
  · exact .ite (.wait hs.askCkpt) (.ok hs.updFlow.checkCkpt)

theorem State.Tidy.verifyMsg (hs : s.Tidy W M) {h fl _f m} : (verifyMsg s h fl _f m).Tidy W M := by
  unfold Machine.verifyMsg
  exact .ite hs.acceptFresh (.ite (.fail hs) (.ite (.fail hs) (.ite (.fail hs) (hs.withKey (fun _ _ h => .ite (.fail h)
      h.acceptFresh)))))

theorem State.Tidy.execSecocVerify (hs : s.Tidy W M) {id} : TidyOutcome W M (execSecocVerify id s) := by
  unfold Machine.execSecocVerify
  exact .next (hs.process (fun _ _ _ _ _ h => h.verifyMsg))

theorem State.Tidy.execLaneLinkChange (hs : s.Tidy W M) {n up mismatch} :
    TidyOutcome W M (execLaneLinkChange n up mismatch s) := by
  unfold Machine.execLaneLinkChange
  exact .next (.ite hs (.ite hs.setFld (.ite hs.setFld.setFld.raise.setLane.bump hs.setFld.setFld.raise)))

theorem State.Tidy.execPauseReceive (hs : s.Tidy W M) {n quanta} : TidyOutcome W M (execPauseReceive n quanta s) := by
  unfold Machine.execPauseReceive
  exact .next (.ite hs (.ite hs.setFld.setLane hs.setFld.setLane))

theorem State.Tidy.execPauseRepeat (hs : s.Tidy W M) {n} : TidyOutcome W M (execPauseRepeat n s) := by
  unfold Machine.execPauseRepeat
  exact .next (.ite hs.emit.setLane hs)

theorem State.Tidy.addFrame (hs : s.Tidy W M) {n sh data unknown p} : (s.addFrame n sh data unknown p).Tidy W M := by
  unfold State.addFrame
  exact hs.frame.frameJobs.checkPause

theorem State.Tidy.execFrameReceive (hs : s.Tidy W M) {n data cut} : TidyOutcome W M (execFrameReceive n data cut s) := by
  unfold Machine.execFrameReceive
  refine .next ?_
  split
  · exact hs
  · exact .settleLanes (.ite hs.setLane.bump (.ite hs.setLane.bump (.ite (.ite hs.setLane.bump hs.setLane) (.addFrame (.ite
        hs.setLane.bump hs.setLane)))))

theorem State.Tidy.execFrameStart (hs : s.Tidy W M) {n} : TidyOutcome W M (execFrameStart n s) := by
  unfold Machine.execFrameStart
  refine .next (.ite hs ?_)
  dsimp only
  split
  · exact hs.eddyExit.setLane
  · exact hs.eddyExit.bump.raise

theorem State.Tidy.abandonCmd (hs : s.Tidy W M) {c} : (s.abandonCmd c).Tidy W M := by
  unfold State.abandonCmd
  exact hs.keepUse.cardFree.abortTasks

theorem State.Tidy.execVholdWaitTimeout (hs : s.Tidy W M) {k} : TidyOutcome W M (execVholdWaitTimeout k s) := by
  unfold Machine.execVholdWaitTimeout
  refine .next ?_
  dsimp only
  split
  · exact hs
  · exact .ite hs hs.dropWait.abandonCmd.finish

theorem State.Tidy.execEeTransaction (hs : s.Tidy W M) {vholdMv} : TidyOutcome W M (execEeTransaction vholdMv s) := by
  unfold Machine.execEeTransaction
  refine .next ?_
  dsimp only
  split
  · exact hs.setVhold
  · exact hs.setVhold.beginTxn

theorem State.Tidy.testFailed (hs : s.Tidy W M) {u} : (s.testFailed u).Tidy W M := by
  unfold State.testFailed
  exact .ite (.fence (.ite hs.bankFail hs.retire)) (.ite hs.bankFail hs.retire)

theorem State.Tidy.halfTestWork (hs : s.Tidy W M) {f c} : (halfTestWork f s c).Tidy W M := by
  unfold Machine.halfTestWork
  exact .ite (.finish hs) (.finish (.foldl (fun _ _ h => h.testFailed) hs))

theorem State.Tidy.execHalfTest (hs : s.Tidy W M) {k f} : TidyOutcome W M (execHalfTest k f s) := by
  unfold Machine.execHalfTest
  exact .next (hs.runCmd (fun _ _ h => h.halfTestWork))

theorem State.Tidy.followCmd (hs : s.Tidy W M) {c} : (s.followCmd c).Tidy W M := by
  unfold State.followCmd
  exact .ite hs hs.skew.frame

theorem State.Tidy.admitJobs (hs : s.Tidy W M) {c queue} : (s.admitJobs c queue).Tidy W M := by
  unfold State.admitJobs
  exact .foldl (fun _ _ h => h.newJob) hs

theorem State.Tidy.takeTurn (hs : s.Tidy W M) {p q} : (s.takeTurn p q).Tidy W M := by
  unfold State.takeTurn
  exact hs.frame

theorem State.Tidy.emitReads (hs : s.Tidy W M) {p l} : (s.emitReads p l).Tidy W M := by
  unfold State.emitReads
  exact .foldl (fun _ _ h => h.emit) hs

theorem State.Tidy.execSqFetch (hs : s.Tidy W M) {p i f} : TidyOutcome W M (execSqFetch p i f s) := by
  unfold Machine.execSqFetch
  refine .next ?_
  split
  · exact hs
  · refine .ite hs ?_
    split
    · exact hs
    · exact .ite hs hs.takeTurn.emitReads.frame.updPart.followCmd.admitJobs.sweepBad

theorem State.Tidy.execSqDrained (hs : s.Tidy W M) {p i} : TidyOutcome W M (execSqDrained p i s) := by
  unfold Machine.execSqDrained
  refine .next ?_
  split
  · exact hs
  · split
    · exact hs
    · exact .ite hs.freeSq hs

theorem State.Tidy.writeReg (hs : s.Tidy W M) {src w off be data} : (s.writeReg src w off be data).Tidy W M := by
  unfold State.writeReg
  exact .ite hs (.ite hs.errCap (.ite hs.errCap hs.writeWord))

theorem State.Tidy.execRegisterWrite (hs : s.Tidy W M) {src w off be data} :
    TidyOutcome W M (execRegisterWrite src w off be data s) := by
  unfold Machine.execRegisterWrite
  exact .next hs.writeReg

theorem State.Tidy.aerLog (hs : s.Tidy W M) {p e} : (s.aerLog p e).Tidy W M := by
  unfold State.aerLog
  split
  · exact hs
  · exact hs.frame.setFn

theorem State.Tidy.execHostReadError (hs : s.Tidy W M) {p r e idx} : TidyOutcome W M (execHostReadError p r e idx s) := by
  unfold Machine.execHostReadError
  refine .next ?_
  split
  · exact hs
  · exact .ite hs.aerLog.stopRing hs

theorem State.Tidy.releaseAll (hs : s.Tidy W M) {l} : (s.releaseAll l).Tidy W M := by
  unfold State.releaseAll
  exact .foldl (fun _ _ h => h.release) hs

theorem State.Tidy.setVfs (hs : s.Tidy W M) {on n} : (s.setVfs on n).Tidy W M := by
  unfold State.setVfs
  exact .ite hs.frame hs.linkResetOf.frame

theorem State.Tidy.execPcieConfig (hs : s.Tidy W M) {p op} : TidyOutcome W M (execPcieConfig p op s) := by
  unfold Machine.execPcieConfig
  refine .next (.ite hs ?_)
  dsimp only
  split
  · exact hs.emit
  · exact hs.setFn
  · exact .ite hs.setFn hs
  · exact .ite hs.setFn hs
  · exact hs.setFn
  · exact hs.setFn.release
  · exact hs.setFn.flushMsgs
  · exact hs.setFn.flushMsgs
  · exact hs.setFld.flushMsgs
  · exact .ite hs hs.setVfs
  · exact .ite hs hs.frame.releaseAll

theorem State.Tidy.execPartitionReset (hs : s.Tidy W M) {p c} : TidyOutcome W M (execPartitionReset p c s) := by
  unfold Machine.execPartitionReset
  refine .next ?_
  split
  · exact hs
  · split
    · exact .ite hs.endPartReset hs
    · exact .ite hs hs.startPartReset.endPartReset

theorem State.Tidy.execFlr (hs : s.Tidy W M) {p} : TidyOutcome W M (execFlr p s) := by
  unfold Machine.execFlr
  exact .next (.ite hs (.ite hs.startPartReset hs.startPartReset.linkResetOf.frame))

theorem State.Tidy.execPerstNRise (hs : s.Tidy W M) : TidyOutcome W M (execPerstNRise s) := by
  unfold Machine.execPerstNRise
  exact .next hs.perstRise

theorem State.Tidy.execLinkReset (hs : s.Tidy W M) {c} : TidyOutcome W M (execLinkReset c s) := by
  unfold Machine.execLinkReset
  exact .next (.ite (.ite hs.updPower hs) (.linkReset (.setFld (.ite hs.updPower hs))))

theorem State.Tidy.execDeviceWarmReset (hs : s.Tidy W M) {c} : TidyOutcome W M (execDeviceWarmReset c s) := by
  unfold Machine.execDeviceWarmReset
  exact .next hs.deviceWarm

theorem State.Tidy.execHoldCapMeasure (hs : s.Tidy W M) {dropUv} : TidyOutcome W M (execHoldCapMeasure dropUv s) := by
  unfold Machine.execHoldCapMeasure
  exact .next (.ite hs hs.setFld.setFld.frame.setVhold)

theorem State.Tidy.execSerdesSupplyLow (hs : s.Tidy W M) : TidyOutcome W M (execSerdesSupplyLow s) := by
  unfold Machine.execSerdesSupplyLow
  exact .next (.ite hs hs.frame.lanesDown.dataLinkDown)

theorem State.Tidy.execBrownOut (hs : s.Tidy W M) {m vholdMv} : TidyOutcome W M (execBrownOut m vholdMv s) := by
  unfold Machine.execBrownOut
  exact .next (.ite hs hs.updTamper.warmTo.frame.setVhold.setFld.setFld)

theorem State.Tidy.setStep (hs : s.Tidy W M) {n} : (s.setStep n).Tidy W M := by
  unfold State.setStep
  exact hs.setFld

theorem State.Tidy.readyEvents (hs : s.Tidy W M) : (s.readyEvents).Tidy W M := by
  unfold State.readyEvents
  dsimp only
  split
  · exact .repostTamper (.ite hs.post.flushLog hs.post)
  · exact .post (.frame (.repostTamper (.ite hs.post.flushLog hs.post)))

theorem State.Tidy.ready11 (hs : s.Tidy W M) : (s.ready11).Tidy W M := by
  unfold State.ready11
  exact hs.setStep.setFld.setFld.setFld.setFld.frame.setDomains.frame.showPlan.readyEvents.canSettleAll.cardSettle.serveQueue

theorem State.Tidy.showMap (hs : s.Tidy W M) : (s.showMap).Tidy W M := by
  unfold State.showMap
  exact .foldl (fun _ _ h => h.setFld.setFld) hs

theorem State.Tidy.bootStep10 (hs : s.Tidy W M) {b} : (s.bootStep10 b).Tidy W M := by
  unfold State.bootStep10
  exact .drawMesh (.drawCheck (.foldl (fun _ _ h => h.retire) (.ite (.halfUnitsOn (.ite hs.showMap.halfUnitsOn hs.showMap))
      (.ite hs.showMap.halfUnitsOn hs.showMap))))

theorem State.Tidy.putRwl (hs : s.Tidy W M) {l} : (s.putRwl l).Tidy W M := by
  unfold State.putRwl
  exact .foldl (fun _ _ h => by
  split
  · exact h.setReg
  · exact h) hs

theorem State.Tidy.loadPage (hs : s.Tidy W M) {pg l} : (s.loadPage pg l).Tidy W M := by
  unfold State.loadPage
  exact hs.putRwl.putRwl.setFld

theorem State.Tidy.bootStep9 (hs : s.Tidy W M) : (s.bootStep9).Tidy W M := by
  unfold State.bootStep9
  exact .setRegions (.foldl (fun _ _ h => h.loadPage) hs.restartFlows)

theorem State.Tidy.drawSeed (hs : s.Tidy W M) : (s.drawSeed).Tidy W M := by
  unfold State.drawSeed
  exact .setFld (.ite hs hs.frame.drawFresh)

theorem State.Tidy.bootStep8 (hs : s.Tidy W M) : (s.bootStep8).Tidy W M := by
  unfold State.bootStep8
  exact hs.drawSeed.reloadSlots.frame

theorem State.Tidy.recovered (hs : s.Tidy W M) : (s.recovered).Tidy W M := by
  unfold State.recovered
  exact hs.setFld

theorem State.Tidy.recoverColumns (hs : s.Tidy W M) : (s.recoverColumns).Tidy W M := by
  unfold State.recoverColumns
  exact .ite hs (.recovered (.foldl (fun _ _ h => h.rebuildRows) hs))

theorem State.Tidy.recoverClears (hs : s.Tidy W M) : (s.recoverClears).Tidy W M := by
  unfold State.recoverClears
  exact .ite hs (.setFld (.recovered (.foldl (fun _ _ h => h.clearPage) hs)))

theorem State.Tidy.recoverMirrors (hs : s.Tidy W M) : (s.recoverMirrors).Tidy W M := by
  unfold State.recoverMirrors
  exact .ite (.catchUp (.ite hs.catchUp hs)) (.ite hs.catchUp hs)

theorem State.Tidy.recoverLife (hs : s.Tidy W M) : (s.recoverLife).Tidy W M := by
  unfold State.recoverLife
  split
  · exact hs
  · exact hs.frame.lifeWork.recovered

theorem State.Tidy.recoverTxn (hs : s.Tidy W M) : (s.recoverTxn).Tidy W M := by
  unfold State.recoverTxn
  exact .ite hs.recoverCard.recovered hs

theorem State.Tidy.recover (hs : s.Tidy W M) : (s.recover).Tidy W M := by
  unfold State.recover
  exact hs.recoverColumns.recoverClears.recoverMirrors.recoverLife.recoverTxn.runPendingQuench

theorem State.Tidy.failBoot (hs : s.Tidy W M) {step code} : (s.failBoot step code).Tidy W M := by
  unfold State.failBoot
  exact hs.frame.setDomains.setStep.setFld.setFld.frame

theorem State.Tidy.bootStep7 (hs : s.Tidy W M) {b} : (s.bootStep7 b).Tidy W M := by
  unfold State.bootStep7
  exact .ite hs.failBoot (.ite hs.recover.failBoot hs.recover)

theorem State.Tidy.activate (hs : s.Tidy W M) {n b} : (s.activate n b).Tidy W M := by
  unfold State.activate
  dsimp only
  split <;> exact hs.frame.frame

theorem State.Tidy.takeStaged (hs : s.Tidy W M) {c} : (s.takeStaged c).Tidy W M := by
  unfold State.takeStaged
  exact .raise (.ite hs.activate hs.setFld)

theorem State.Tidy.takeImages (hs : s.Tidy W M) : (s.takeImages).Tidy W M := by
  unfold State.takeImages
  exact .setFld (.showWords (.remeasure (.frame (.foldl (fun _ _ h => h.takeStaged) hs))))

theorem State.Tidy.bootImage (hs : s.Tidy W M) {h fails} : (s.bootImage h fails).Tidy W M := by
  unfold State.bootImage
  exact .ite hs.setFld hs

theorem State.Tidy.bothCode (hs : s.Tidy W M) {a b} : (s.bothCode a b).2.Tidy W M := by
  unfold State.bothCode
  dsimp only
  split
  · split
    · exact hs
    · exact hs.free
  · exact hs
  · exact hs
  · exact hs.free

theorem State.Tidy.ifHalf (hs : s.Tidy W M) {n b} : (s.ifHalf n b).Tidy W M := by
  unfold State.ifHalf
  exact .ite hs hs.bothCode.failBoot

theorem State.Tidy.bootStep5 (hs : s.Tidy W M) {b} : (s.bootStep5 b).Tidy W M := by
  unfold State.bootStep5
  exact .ite hs.setDomains.bootImage.bootImage.ifHalf (.ite hs.setDomains.bootImage.bootImage.ifHalf.failBoot
      hs.setDomains.bootImage.bootImage.ifHalf.takeImages)

theorem State.Tidy.bootWell (hs : s.Tidy W M) {h fails} : (s.bootWell h fails).Tidy W M := by
  unfold State.bootWell
  refine .ite hs ?_
  split
  · exact hs.setFld.setFld.setFld.raise.entropyAlarm
  · exact hs.wellService.drawLink

theorem State.Tidy.bootStep4 (hs : s.Tidy W M) {b} : (s.bootStep4 b).Tidy W M := by
  unfold State.bootStep4
  exact hs.bootWell.bootWell.ifHalf

theorem State.Tidy.bootCore (hs : s.Tidy W M) {h fails} : (s.bootCore h fails).Tidy W M := by
  unfold State.bootCore
  exact hs.setFld

theorem State.Tidy.bootStep3 (hs : s.Tidy W M) {b} : (s.bootStep3 b).Tidy W M := by
  unfold State.bootStep3
  exact .ite hs.setDomains.failBoot hs.setDomains.bootCore.bootCore.ifHalf

theorem State.Tidy.bootStep2 (hs : s.Tidy W M) {b} : (s.bootStep2 b).Tidy W M := by
  unfold State.bootStep2
  exact .ite hs.setDomains.failBoot (.ite hs.setDomains.failBoot (.ite hs.setDomains.failBoot hs.setDomains))

theorem State.Tidy.readModes (hs : s.Tidy W M) : (s.readModes).Tidy W M := by
  unfold State.readModes
  exact .foldl (fun _ _ h => h.pmbus) hs

theorem State.Tidy.sampleStraps (hs : s.Tidy W M) {straps} : (s.sampleStraps straps).Tidy W M := by
  unfold State.sampleStraps
  exact .ite hs (.ite hs.setFld.setFld.setFld.setFld.frame.decideTamper hs.setFld.setFld.setFld.setFld.frame)

theorem State.Tidy.bootStep1 (hs : s.Tidy W M) {b} : (s.bootStep1 b).Tidy W M := by
  unfold State.bootStep1
  exact .setDomains (.setFld (.voutSend (.ite hs.frame.sampleStraps.frame.setVhold.readModes
      hs.frame.sampleStraps.frame.setVhold)))

theorem State.Tidy.bootStepN (hs : s.Tidy W M) {b n} : (s.bootStepN b n).Tidy W M := by
  unfold State.bootStepN
  split
  · exact hs.bootStep1
  · exact hs.bootStep2
  · exact hs.bootStep3
  · exact hs.bootStep4
  · exact hs.bootStep5
  · exact hs.grantEpoch
  · exact hs.bootStep7
  · exact hs.bootStep8
  · exact hs.bootStep9
  · exact hs.bootStep10
  · exact hs.ready11

theorem State.Tidy.doBootStep (hs : s.Tidy W M) {b n} : (s.doBootStep b n).Tidy W M := by
  unfold State.doBootStep
  exact .ite hs.setStep.bootStepN hs.setStep.bootStepN.frame

theorem State.Tidy.runBoot (hs : s.Tidy W M) {b n k} : (s.runBoot b n k).Tidy W M := by
  induction k generalizing s n with
  | zero => exact hs
  | succ k ih =>
    unfold State.runBoot
    exact .ite hs (ih hs.doBootStep)

theorem State.Tidy.execBringUp (hs : s.Tidy W M) {b} : TidyOutcome W M (execBringUp b s) := by
  unfold Machine.execBringUp
  exact .next (.ite hs hs.setVhold.runBoot)

theorem State.Tidy.losePd00 (hs : s.Tidy W M) {vaon} : (s.losePd00 vaon).Tidy W M := by
  unfold State.losePd00
  exact .of_regs hs rfl (fun _ => rfl) rfl rfl

theorem State.Tidy.execPowerOnReset (hs : s.Tidy W M) {c} : TidyOutcome W M (execPowerOnReset c s) := by
  unfold Machine.execPowerOnReset
  exact .next (.ite (.setFld (hs.warmTo.losePd00.reshow hs)) (.frame (.refill (.setFld (hs.warmTo.losePd00.reshow hs)))))

theorem State.Tidy.exec (hs : s.Tidy W M) {i} : TidyOutcome W M (exec i s) := by
  unfold Machine.exec
  split
  · exact hs.execPowerOnReset
  · exact hs.execBringUp
  · exact hs.execBrownOut
  · exact hs.execSerdesSupplyLow
  · exact hs.execHoldCapMeasure
  · exact hs.execDeviceWarmReset
  · exact hs.execWarm
  · exact hs.execLinkReset
  · exact hs.execPerstNRise
  · exact hs.execFlr
  · exact hs.execPartitionReset
  · exact hs.execPcieConfig
  · exact hs.execHostReadError
  · exact hs.execRegisterWrite
  · exact hs.execResetReq
  · exact hs.execQuiesce
  · exact hs.execEnable
  · exact hs.execPgLock
  · exact hs.execIntStatClear
  · exact hs.execForce
  · exact hs.execErrCapClear
  · exact hs.execEvrEnable
  · exact hs.execEvrDisable
  · exact hs.execEvrHead
  · exact hs.execSqTail
  · exact hs.execCqHead
  · exact hs.execRingCreate
  · exact hs.execRingDestroy
  · exact hs.execSqDrained
  · exact hs.execRingQuery
  · exact hs.execSqFetch
  · exact hs.execNop
  · exact hs.execPartCreate
  · exact hs.execPartSet
  · exact hs.execPartDestroy
  · exact hs.execPartReset
  · exact hs.execPowerVote
  · exact hs.execSpillRegionSet
  · exact hs.execReservoirSet
  · exact hs.execPowerCapSet
  · exact hs.execKeyGenerate
  · exact hs.execKeyImport
  · exact hs.execKeyDerive
  · exact hs.execKeyDestroy
  · exact hs.execKeyExport
  · exact hs.execKeyInfo
  · exact hs.execCounterCreate
  · exact hs.execCounterIncrement
  · exact hs.execCounterRead
  · exact hs.execSeal
  · exact hs.execUnseal
  · exact hs.execAeadEncrypt
  · exact hs.execAeadDecrypt
  · exact hs.execMacGenerate
  · exact hs.execMacVerify
  · exact hs.execDataWrap
  · exact hs.execDataUnwrap
  · exact hs.execDigest
  · exact hs.execPkKeygen
  · exact hs.execPkSign
  · exact hs.execPkVerify
  · exact hs.execPkAgree
  · exact hs.execKemEncaps
  · exact hs.execKemDecaps
  · exact hs.execAttest
  · exact hs.execRandom
  · exact hs.execStoreRead
  · exact hs.execStoreWrite
  · exact hs.execStoreSanitize
  · exact hs.execFlowCreate
  · exact hs.execFlowModify
  · exact hs.execFlowDestroy
  · exact hs.execSakInstall
  · exact hs.execFlowStats
  · exact hs.execAppletLoad
  · exact hs.execAppletInvoke
  · exact hs.execAppletUnload
  · exact hs.execFobPair
  · exact hs.execFobRemove
  · exact hs.execAccessPolicySet
  · exact hs.execReleaseRequest
  · exact hs.execImmoConfig
  · exact hs.execLifecycleAdvance
  · exact hs.execDebugChallenge
  · exact hs.execDebugGrant
  · exact hs.execCardTransact
  · exact hs.execHalfTest
  · exact hs.execEeTransaction
  · exact hs.execVholdWaitTimeout
  · exact hs.execFrameStart
  · exact hs.execFrameReceive
  · exact hs.execPauseRepeat
  · exact hs.execPauseReceive
  · exact hs.execLaneLinkChange
  · exact hs.execSecocVerify
  · exact hs.execSecocSign
  · exact hs.execMacsecRx
  · exact hs.execMacsecTx
  · exact hs.execFrameTransmit
  · exact hs.execCheckpointCommit
  · exact hs.execCheckpointTimeout
  · exact hs.execSpillRecordRead
  · exact hs.execWriteBack
  · exact hs.execHammerSegmentEnd
  · exact hs.execHammerRequestEnd
  · exact hs.execDefenceReseed
  · exact hs.execDigestBlockEnd
  · exact hs.execAnvilOpEnd
  · exact hs.execTaskStart
  · exact hs.execMov
  · exact hs.execAdd
  · exact hs.execAdc
  · exact hs.execSub
  · exact hs.execSbc
  · exact hs.execCmp
  · exact hs.execAnd
  · exact hs.execOr
  · exact hs.execXor
  · exact hs.execShl
  · exact hs.execShr
  · exact hs.execSar
  · exact hs.execRor
  · exact hs.execMul
  · exact hs.execMulu
  · exact hs.execMac
  · exact hs.execMsb
  · exact hs.execMovi
  · exact hs.execAddi
  · exact hs.execMovw
  · exact hs.execAddw
  · exact hs.execCmpw
  · exact hs.execAndw
  · exact hs.execOrw
  · exact hs.execXorw
  · exact hs.execMovl
  · exact hs.execJmpcc
  · exact hs.execShortBranch
  · exact hs.execJr
  · exact hs.execCallm
  · exact hs.execRetm
  · exact hs.execNopInstruction
  · exact hs.execEnd
  · exact hs.execSvc
  · exact hs.execSvca
  · exact hs.execServiceRequestEnd
  · exact hs.execPush
  · exact hs.execPop
  · exact hs.execNot
  · exact hs.execNeg
  · exact hs.execAbs
  · exact hs.execTst
  · exact hs.execPmv
  · exact hs.execMfs
  · exact hs.execMts
  · exact hs.execUop
  · exact hs.execLd
  · exact hs.execSt
  · exact hs.execLdp
  · exact hs.execStp
  · exact hs.execBfi
  · exact hs.execBfx
  · exact hs.execClz
  · exact hs.execBperm
  · exact hs.execWfe
  · exact hs.execSev
  · exact hs.execWaitc
  · exact hs.execRdt
  · exact hs.execEngineEvent
  · exact hs.execWaitcDeadline
  · exact hs.execHsScanRound
  · exact hs.execHsMeasurement
  · exact hs.execHsConfirm
  · exact hs.execHsRemeasure
  · exact hs.execStuckTouch
  · exact hs.execLfFrameStart
  · exact hs.execLfFrameEnd
  · exact hs.execLfDiag
  · exact hs.execBcSessionStart
  · exact hs.execBcReply
  · exact hs.execBcSessionEnd
  · exact hs.execUhfWindowOpen
  · exact hs.execUhfTelegram
  · exact hs.execUhfWindowEnd
  · exact hs.execUwbRoundStart
  · exact hs.execUwbResponseRx
  · exact hs.execUwbResponseTimeout
  · exact hs.execCirRecord
  · exact hs.execUwbFinalTx
  · exact hs.execUwbReportRx
  · exact hs.execUwbReportTimeout
  · exact hs.execUwbVerdict
  · exact hs.execSessionTimeout
  · exact hs.execReleasePulseEnd
  · exact hs.execTokenSend
  · exact hs.execEddyEnter
  · exact hs.execTarget
  · exact hs.execParkEntry
  · exact hs.execPondTimeout
  · exact hs.execTarnToDry
  · exact hs.execPwrgdReturn
  · exact hs.execParkReturn
  · exact hs.execLingerEnd
  · exact hs.execWelcomePoll
  · exact hs.execWakePin
  · exact hs.execAlarmWake
  · exact hs.execReservoirCredit
  · exact hs.execReservoirPlan
  · exact hs.execPowerReading
  · exact hs.execPaceWindow
  · exact hs.execAvsEvaluate
  · exact hs.execClrPeak
  · exact hs.execHmClrWait
  · exact hs.execHwClrWait
  · exact hs.execClrLat
  · exact hs.execRefclkLoss
  · exact hs.execRefclkReturn
  · exact hs.execHalfSilent
  · exact hs.execLeaseRenewal
  · exact hs.execLeaseExpiry
  · exact hs.execCompareVerdict
  · exact hs.execLateRecord
  · exact hs.execUnitWatchdog
  · exact hs.execProbationTest
  · exact hs.execBankFail
  · exact hs.execBankRebuilt
  · exact hs.execPatrolPage
  · exact hs.execColumnRebuild
  · exact hs.execPageClear
  · exact hs.execHealthWindow
  · exact hs.execOscillatorCheck
  · exact hs.execWellheadPhaseEnd
  · exact hs.execTest
  · exact hs.execRawEn
  · exact hs.execWhRawRead
  · exact hs.execBellowsReseed
  · exact hs.execTamperEvent
  · exact hs.execGlitchDecide
  · exact hs.execGuardEnd
  · exact hs.execAlarmEnd
  · exact hs.execTpRelease
  · exact hs.execTapReset
  · exact hs.execTapInstruction
  · exact hs.execExtest
  · exact hs.execDbgMem
  · exact hs.execDbgEngRead
  · exact hs.execDbgEngHalt
  · exact hs.execDbgEngStep
  · exact hs.execDbgEngResume
  · exact hs.execChallengeLapse
  · exact hs.execCardInsert
  · exact hs.execCardAtr
  · exact hs.execCardAtrTimeout
  · exact hs.execCardCondPoll
  · exact hs.execCardRemove
  · exact hs.execCardTxnTimeout
  · exact hs.execClockStop
  · exact hs.execCanBusOff
  · exact hs.execBusOffRecovery
  · exact hs.execPmicAlert
  · exact hs.execPmicRetry
  · exact hs.execVholdReady
  · exact hs.execSerdesSupplyReturn
  · exact hs.execVlfLowChange
  · exact hs.execSyncMatch
  · exact hs.execHypothesisFailed
  · exact hs.execCardResponse
  · exact hs.execRejoin
  · exact hs.execSensorClear
  · exact hs.execRepetitionCountFail
  · exact hs.execPauseTimerExpiry
  · exact hs.execRailOnRetry
  · exact hs.execTokenTransmitted

theorem State.Tidy.tick (hs : s.Tidy W M) : (s.tick).Tidy W M := by
  unfold State.tick
  exact hs.frame

theorem State.Tidy.step (hs : s.Tidy W M) : TidyOutcome W M (step s) := by
  unfold Machine.step
  split
  · exact .next hs.tick
  · exact hs.frame.exec

/-- Settles O60: what a sound state has holds of every state a step answers, because every function of the model keeps it. -/
theorem stepsKeepSoundness : Obligations.StepsKeepSoundness := by
  unfold Obligations.StepsKeepSoundness
  intro s t hs hst
  exact tidy_iff_sound.mp ((tidy_iff_sound.mpr hs).step.of_next hst)

end Sys2Proof.Machine
end

section
/-! PROOF. Waiting transactions, patrol, clearing and column repair (16_ee_store.md R566-R580). -/

namespace Sys2Proof.Machine

/-- The stamp of a command's waiting transaction is due (R569). -/
theorem not_due_eq_false {l : List Txn} {k : CmdKey} {t now : Nat} (h : l.contains (.cmd k t) = true) (ht : t + 50000000 ≤ now) :
    (!l.any (fun x => match x with
      | .cmd k' since => k' == k && decide (since + 50000000 ≤ now)
      | .own _ => false)) = false :=
  (Bool.not_eq_false' ..).mpr (List.any_eq_true.mpr ⟨_, List.contains_iff_mem.mp h, by simp [ht]⟩)

/-- Every part of a patrol page but its last write leaves the registers in rising order. -/
theorem fld_patrolPage {s : State} {north south : CopyFind} {tests : List ColTest} (hp : s.storePower = true)
    (hh : s.halvesOn = true) (hw : s.passWaits = false) (hr : mapRising 0 s.regs = true) :
    (s.patrolPage north south tests).fld Fd.EE_PATROL_PROGRESS = (s.fld Fd.EE_PATROL_PROGRESS + 1) % 32768 := by
  have hs := tidy_of_rising hr
  unfold State.patrolPage
  rw [if_neg (by simp [hp, hh, hw])]
  extract_lets p s1 s2 s3 s4 s5 ee s6
  have h2 : s2.Tidy False False := hs.beginPass.patrolCopy.patrolCopy
  have h3 : s3.Tidy False False := by
    unfold s3
    split
    · exact h2.patrolBad
    · exact h2.patrolBad
    · exact h2.patrolBad
    · exact h2
  have h4 : s4.Tidy False False := .foldl (fun _ _ h => .ite h.columnTest h) h3
  have h5 : s5.Tidy False False := .ite h4 h4.tested
  have h6 : s6.Tidy False False := .ite h5.frame h5
  rw [fld_setFld h6.rising (by decide) (by decide)]
  exact Nat.mod_eq_of_lt ((Nat.mod_lt _ (Nat.succ_pos 32767)).trans (by decide))

/-- Settles O34: each row is its definition with the checks passed; of the patrol, the last write is PROGRESS's. -/
theorem storeWork : Obligations.StoreWork := by
  unfold Obligations.StoreWork
  refine ⟨?_, fun _ _ => rfl, ?_, ?_, ?_, ?_⟩
  · intro s mv x l h
    unfold exec execEeTransaction
    dsimp only
    rw [h]
  · intro s k c t hc hl ht hr
    unfold exec execVholdWaitTimeout
    dsimp only
    rw [hc]
    refine congrArg Host.Outcome.next (if_neg fun hor => ?_)
    rcases (Bool.or_eq_true _ _).mp hor with hdue | hready
    · exact Bool.false_ne_true ((not_due_eq_false hl ht).symm.trans hdue)
    · exact Bool.false_ne_true (hr.symm.trans hready)
  · exact fun s north south tests hp hh hw hr => ⟨_, rfl, fld_patrolPage hp hh hw hr⟩
  · intro s p hc hp hh hr
    have hrow : ∀ ok, s.pageClear ok = if ok then s.clearPage p else s.failClear p := by
      intro ok
      unfold State.pageClear
      rw [hc]
      exact if_neg (by rw [hp, hh, hr]; decide)
    exact ⟨congrArg Host.Outcome.next (hrow true), congrArg Host.Outcome.next (hrow false)⟩
  · intro s h rows r hh ho hr hf
    refine congrArg Host.Outcome.next ?_
    unfold State.columnRebuild
    rw [if_neg (by rw [hh, ho, hr]; decide), hf]

end Sys2Proof.Machine
end

section
/-! PROOF. Two fields of one register: a write of one leaves the other. -/

namespace Sys2Proof.Machine

/-! ### Two fields of one register -/

/-- A word is what stands above a field, the field, and what stands below it. -/
theorem toNat_eq_field (w : Word) {hi lo : Nat} (h : lo ≤ hi) :
    w.toNat = 2 ^ lo * (2 ^ (hi - lo + 1) * (w.toNat / 2 ^ (hi + 1)) + bitsOf w.toNat hi lo) + w.toNat % 2 ^ lo := by
  have hpow : 2 ^ (hi + 1) = 2 ^ lo * 2 ^ (hi - lo + 1) := by rw [← pow_add]; congr 1; omega
  rw [bitsOf, hpow, ← Nat.div_div_eq_div_mul, Nat.div_add_mod, Nat.div_add_mod]

/-- A field replaced leaves what stands above and below it. -/
theorem toNat_insertBits (w : Word) {hi lo : Nat} (h : lo ≤ hi) (h32 : hi < 32) (v : Nat) :
    (insertBits w hi lo v).toNat =
      2 ^ lo * (2 ^ (hi - lo + 1) * (w.toNat / 2 ^ (hi + 1)) + v % 2 ^ (hi - lo + 1)) + w.toNat % 2 ^ lo := by
  have hw := toNat_eq_field w h
  have hv : v % 2 ^ (hi - lo + 1) < 2 ^ (hi - lo + 1) := Nat.mod_lt _ (by positivity)
  have hlow : w.toNat % 2 ^ lo < 2 ^ lo := Nat.mod_lt _ (by positivity)
  have htop : w.toNat / 2 ^ (hi + 1) < 2 ^ (31 - hi) := by
    rw [Nat.div_lt_iff_lt_mul (by positivity), ← pow_add, show 31 - hi + (hi + 1) = 32 by omega]
    exact w.isLt
  have hpow : 2 ^ lo * (2 ^ (hi - lo + 1) * 2 ^ (31 - hi)) = 2 ^ 32 := by rw [← pow_add, ← pow_add]; congr 1; omega
  rw [insertBits, BitVec.toNat_ofNat]
  generalize w.toNat / 2 ^ (hi + 1) = t at *
  generalize bitsOf w.toNat hi lo = m at *
  generalize w.toNat % 2 ^ lo = l at *
  generalize v % 2 ^ (hi - lo + 1) = x at *
  have hsum : w.toNat - m * 2 ^ lo + x * 2 ^ lo = 2 ^ lo * (2 ^ (hi - lo + 1) * t + x) + l := by
    rw [show w.toNat = m * 2 ^ lo + (2 ^ lo * (2 ^ (hi - lo + 1) * t) + l) by rw [hw]; ring, Nat.add_sub_cancel_left]
    ring
  rw [hsum]
  refine Nat.mod_eq_of_lt ?_
  calc 2 ^ lo * (2 ^ (hi - lo + 1) * t + x) + l < 2 ^ lo * (2 ^ (hi - lo + 1) * t + x + 1) := by rw [Nat.mul_add_one]; omega
    _ ≤ 2 ^ lo * (2 ^ (hi - lo + 1) * (t + 1)) := Nat.mul_le_mul_left _ (by rw [Nat.mul_add_one]; omega)
    _ ≤ 2 ^ lo * (2 ^ (hi - lo + 1) * 2 ^ (31 - hi)) := Nat.mul_le_mul_left _ (Nat.mul_le_mul_left _ htop)
    _ = 2 ^ 32 := hpow

/-- A bit outside a field is left alone by a write of the field. -/
theorem testBit_insertBits (w : Word) {hi lo j : Nat} (h : lo ≤ hi) (h32 : hi < 32) (hj : j < lo ∨ hi < j) (v : Nat) :
    (insertBits w hi lo v).toNat.testBit j = w.toNat.testBit j := by
  have hlow : w.toNat % 2 ^ lo < 2 ^ lo := Nat.mod_lt _ (by positivity)
  have hv : v % 2 ^ (hi - lo + 1) < 2 ^ (hi - lo + 1) := Nat.mod_lt _ (by positivity)
  conv_rhs => rw [toNat_eq_field w h]
  rw [toNat_insertBits w h h32, Nat.testBit_two_pow_mul_add _ hlow, Nat.testBit_two_pow_mul_add _ hlow]
  split
  · rfl
  · rw [Nat.testBit_two_pow_mul_add _ hv, Nat.testBit_two_pow_mul_add _ (bitsOf_lt _ hi lo), if_neg (by omega), if_neg (by omega)]

/-- A write of one field of a register leaves another of it alone. -/
theorem fld_setFld_disjoint {s : State} (hs : mapRising 0 s.regs = true) {f g : Fld} (ha : f.addr = g.addr) (h : f.lo ≤ f.hi)
    (h32 : f.hi < 32) (hd : f.hi < g.lo ∨ g.lo ≤ g.hi ∧ g.hi < f.lo) (v : Nat) : (s.setFld f v).fld g = s.fld g := by
  have hread : (s.setFld f v).reg g.addr = insertBits (s.reg g.addr) f.hi f.lo v := by
    rw [State.setFld, ha, reg_setReg hs]
  rw [State.fld, State.fld, hread]
  refine Nat.eq_of_testBit_eq fun i => ?_
  by_cases hi : i < g.hi - g.lo + 1
  · simp only [bitsOf, Nat.testBit_mod_two_pow, Nat.testBit_div_two_pow]
    rw [testBit_insertBits _ h h32 (by omega)]
  · simp [bitsOf, Nat.testBit_mod_two_pow, hi]

end Sys2Proof.Machine
end

section
/-! PROOF. Bring-up (03_bring_up_and_reset.md R87-R102) and the holding capacitor's measurement
(02_package_and_electrical.md R66, R80). -/

namespace Sys2Proof.Machine

variable {s t : State}

/-! ### What the work of bring-up leaves (R89) -/

theorem kept_boot (h : t.kept = s.kept) : t.boot = s.boot := congrArg (fun k => k.2.1) h
theorem kept_retry (h : t.kept = s.kept) : t.retry = s.retry := congrArg (fun k => k.2.2.1) h
theorem kept_gatesOpen (h : t.kept = s.kept) : t.gatesOpen = s.gatesOpen := congrArg (fun k => k.2.2.2.1) h
theorem kept_life (h : t.kept = s.kept) : t.life = s.life := congrArg (fun k => k.2.2.2.2.1) h
theorem kept_lasting (h : t.kept = s.kept) : t.lasting = s.lasting := congrArg (fun k => k.2.2.2.2.2.1) h

/-! Domains, rails and draws -/

theorem lostPages_power (e : EeSt) (now : Nat) (was on : Bool) : (e.power now was on).lostPages = e.lostPages := by
  unfold EeSt.power
  split_ifs <;> rfl

@[simp] theorem kept_setDomains (s : State) (d : Nat) : (s.setDomains d).kept = s.kept := by
  have hlasting : (s.setDomains d).lasting = s.lasting := by
    simp only [State.lasting, State.setDomains, lostPages_power]
  simp only [State.kept, hlasting]
  rfl

@[simp] theorem kept_pmbus (s : State) (rail code : Nat) (data : Bytes) : (s.pmbus rail code data).kept = s.kept := rfl
@[simp] theorem kept_voutSend (s : State) (mv : Nat) : (s.voutSend mv).kept = s.kept := rfl
@[simp] theorem kept_readModes (s : State) : s.readModes.kept = s.kept := kept_foldl (fun t r => kept_pmbus t r 0x20 []) _ s
@[simp] theorem kept_updWell (s : State) (n : Nat) (f : WellSt → WellSt) : (s.updWell n f).kept = s.kept := rfl
@[simp] theorem kept_updCard (s : State) (f : CardSt → CardSt) : (s.updCard f).kept = s.kept := rfl
@[simp] theorem kept_setReg (s : State) (a : Nat) (w : Word) : (s.setReg a w).kept = s.kept := rfl

@[simp] theorem kept_bellows (s : State) (n : Nat) : (s.bellows n).kept = s.kept := by
  unfold State.bellows
  refine kept_ite (kept_ite ?_ rfl) (kept_ite rfl (kept_ite (kept_updWell s _ _) (kept_ite rfl ?_)))
  · rw [kept_setFld, kept_updWell]
  · rw [kept_raise, kept_bump, kept_updWell]

theorem kept_draws (s : State) (n : Nat) : State.kept { s with draws := n } = s.kept := rfl

@[simp] theorem kept_drawAt (s : State) (pref n : Nat) : (s.drawAt pref n).kept = s.kept := by
  rw [State.drawAt, kept_updWell, kept_draws, kept_bellows]

@[simp] theorem kept_draw (s : State) (n : Nat) : (s.draw n).kept = s.kept := kept_drawAt s _ n

@[simp] theorem kept_setLink (s : State) (h : Half) (v : Option Bytes) : (s.setLink h v).kept = s.kept := by cases h <;> rfl

@[simp] theorem kept_drawLink (s : State) (h : Half) : (s.drawLink h).kept = s.kept := by
  rw [State.drawLink, kept_drawAt, kept_setLink]

@[simp] theorem kept_wellService (s : State) (h : Half) : (s.wellService h).kept = s.kept := by
  rw [State.wellService, kept_setFld, kept_setFld, kept_updWell]

@[simp] theorem kept_entropyAlarm (s : State) (n cause st action : Nat) : (s.entropyAlarm n cause st action).kept = s.kept :=
  kept_post s _ _ _ _

/-! Images (step 5) -/

@[simp] theorem kept_showWords (s : State) (f : Nat → Fld) (b : Bytes) : (s.showWords f b).kept = s.kept :=
  kept_foldl (fun t k => kept_setFld t (f k) _) _ s

@[simp] theorem kept_activate (s : State) (n : Nat) (b : Bytes) : (s.activate n b).kept = s.kept := by
  match n with
  | 0 => rfl
  | 1 => rfl
  | n + 2 => rfl

@[simp] theorem kept_takeStaged (s : State) (c : Nat × Bytes) : (s.takeStaged c).kept = s.kept := by
  rw [State.takeStaged, kept_raise]
  exact kept_ite (kept_activate s _ _) rfl

theorem kept_measured (s : State) (m r : Bytes) : State.kept { s with keys := { s.keys with m := m, aliasRnd := r } } = s.kept := rfl

@[simp] theorem kept_remeasure (s : State) : s.remeasure.kept = s.kept := by
  rw [State.remeasure, kept_setFld, kept_setFld, kept_showWords, kept_draw, kept_measured]

theorem kept_listed (s : State) (l : List (Nat × Bytes)) (m : List (Nat × Bytes)) :
    State.kept { s with kalmel := { s.kalmel with staged := l }, keys := { s.keys with images := m } } = s.kept := rfl

@[simp] theorem kept_takeImages (s : State) : s.takeImages.kept = s.kept := by
  rw [State.takeImages, kept_setFld, kept_showWords, kept_remeasure, kept_listed]
  exact kept_foldl kept_takeStaged _ s

/-! The Lead, the store and the card (steps 6 and 7) -/

theorem kept_halves (s : State) (h : HalvesSt) : State.kept { s with halves := h } = s.kept := rfl

@[simp] theorem kept_journalEpoch (s : State) : s.journalEpoch.kept = s.kept := by
  have hlease : ∀ (t : State) (h : Half), (t.grantLease h).kept = t.kept := by
    intro t h
    rw [State.grantLease, kept_setFld, kept_setFld, kept_halves]
  unfold State.journalEpoch
  refine kept_ite ?_ (kept_ite ?_ (kept_halves s _))
  · rw [hlease, kept_halves]
  · rw [hlease, kept_halves]

theorem kept_epoch (s : State) (h : HalvesSt) (e : Nat) : (State.showEpoch { s with halves := h } e).kept = s.kept := rfl

theorem kept_queued (s : State) (l : List Txn) : State.kept { s with txns := l } = s.kept := rfl

@[simp] theorem kept_grantEpoch (s : State) : s.grantEpoch.kept = s.kept := by
  unfold State.grantEpoch
  refine kept_ite ?_ ?_
  · rw [kept_journalEpoch, kept_epoch]
  · rw [kept_queued, kept_setFld, kept_epoch]

@[simp] theorem kept_storeRepair (s : State) (half kind array column spare page : Nat) :
    (s.storeRepair half kind array column spare page).kept = s.kept := by
  rw [State.storeRepair, kept_raise, kept_post]

theorem kept_remaps (s : State) (l : List Remap) : State.kept { s with ee := { s.ee with remaps := l } } = s.kept := rfl

@[simp] theorem kept_rebuildRows (s : State) (r : Remap) (n : Nat) : (s.rebuildRows r n).kept = s.kept := by
  unfold State.rebuildRows
  refine kept_ite (kept_remaps s _) ?_
  rw [kept_storeRepair, kept_remaps]

@[simp] theorem kept_recovered (s : State) : s.recovered.kept = s.kept := rfl

@[simp] theorem kept_recoverColumns (s : State) : s.recoverColumns.kept = s.kept := by
  unfold State.recoverColumns
  refine kept_ite rfl ?_
  rw [kept_recovered]
  exact kept_foldl (fun t r => kept_rebuildRows t r 2048) _ s

theorem kept_cleared (s : State) (c : List (List Nat)) (f : List (Nat × Bool)) :
    State.kept { s with ee := { s.ee with clearing := c, failing := f } } = s.kept := rfl

@[simp] theorem kept_clearPage (s : State) (p : Nat) : (s.clearPage p).kept = s.kept := by
  unfold State.clearPage
  refine kept_ite rfl (kept_ite ?_ ?_)
  · rw [kept_raise, kept_raiseGen, kept_cleared]
  · rw [kept_raiseGen, kept_cleared]

@[simp] theorem kept_recoverClears (s : State) : s.recoverClears.kept = s.kept := by
  unfold State.recoverClears
  refine kept_ite rfl ?_
  rw [kept_setFld, kept_recovered]
  exact kept_foldl kept_clearPage _ s

@[simp] theorem kept_catchUp (s : State) (h : Half) : (s.catchUp h).kept = s.kept := rfl

@[simp] theorem kept_recoverMirrors (s : State) : s.recoverMirrors.kept = s.kept := by
  have hnorth : (if s.halfUp .north then s.catchUp .north else s).kept = s.kept := kept_ite rfl rfl
  unfold State.recoverMirrors
  exact kept_ite ((kept_catchUp _ _).trans hnorth) hnorth

theorem kept_mem (s : State) (m : List Host.Cell) : State.kept { s with ee := { s.ee with mem := m } } = s.kept := rfl

@[simp] theorem kept_restoreImages (s : State) (l : List (Nat × Bytes)) : (s.restoreImages l).kept = s.kept := by
  refine kept_foldl (fun t c => ?_) l s
  exact (kept_mem (t.writePage c.1) _).trans (kept_writePage t c.1)

/-- A rollback that no command waits for ends none. -/
theorem kept_cardRestore (s : State) (cause : Nat) : (s.cardRestore cause none).kept = s.kept := by
  unfold State.cardRestore
  simp only [Option.bind_none]
  split
  · rfl
  · refine kept_ite ?_ ?_
    · rw [kept_raise, kept_bump, kept_updCard, kept_restoreImages]
    · rw [kept_post, kept_raise, kept_bump, kept_updCard, kept_restoreImages]

theorem kept_cardRollback (s : State) (cause : Nat) : (s.cardRollback cause none).kept = s.kept := by
  unfold State.cardRollback
  exact kept_ite (kept_cardRestore s cause) (kept_ite rfl rfl)

@[simp] theorem kept_recoverCard (s : State) : s.recoverCard.kept = s.kept := by
  unfold State.recoverCard
  exact kept_ite rfl ((kept_cardRollback _ _).trans (kept_free s))

@[simp] theorem kept_recoverTxn (s : State) : s.recoverTxn.kept = s.kept := by
  unfold State.recoverTxn
  exact kept_ite ((kept_recovered _).trans (kept_recoverCard s)) rfl

/-! Slots, pages, units (steps 8 to 10) -/

@[simp] theorem kept_reloadSlot (s : State) (n : Nat) (k : KeySlot) : (s.reloadSlot n k).kept = s.kept := by
  unfold State.reloadSlot
  refine kept_ite ?_ rfl
  rw [kept_rekeyAdvised, kept_putSlot]

@[simp] theorem kept_reloadSlots (s : State) : s.reloadSlots.kept = s.kept := by
  refine kept_foldl (fun t c => ?_) _ s
  exact kept_reloadSlot t c.1 c.2

@[simp] theorem kept_restartFlows (s : State) : s.restartFlows.kept = s.kept := rfl

@[simp] theorem kept_putRwl (s : State) (l : List (Nat × Word)) : (s.putRwl l).kept = s.kept := by
  refine kept_foldl (fun t c => ?_) l s
  split <;> rfl

@[simp] theorem kept_loadPage (s : State) (pg : Nat) (l : List (Nat × Word)) : (s.loadPage pg l).kept = s.kept := by
  rw [State.loadPage, kept_setFld, kept_putRwl, kept_putRwl]

@[simp] theorem kept_setRegions (s : State) (l : List Region) : (s.setRegions l).kept = s.kept := rfl

@[simp] theorem kept_bootStep9 (s : State) : s.bootStep9.kept = s.kept := by
  rw [State.bootStep9, kept_setRegions]
  refine (kept_foldl (fun t c => ?_) _ _).trans (kept_restartFlows s)
  exact kept_loadPage t c.1 c.2

@[simp] theorem kept_showMap (s : State) : s.showMap.kept = s.kept := by
  refine kept_foldl (fun t j => ?_) _ s
  rw [kept_setFld, kept_setFld]

@[simp] theorem kept_setMaskBit (s : State) (f : Fld × Nat) (b : Bool) : (s.setMaskBit f b).kept = s.kept := rfl

@[simp] theorem kept_refillSlot (s : State) (h : Half) (j : Nat) : (s.refillSlot h j).kept = s.kept := by
  unfold State.refillSlot
  split
  · cases h
    · exact (kept_setFld _ _ _).trans ((kept_setFld _ _ _).trans (kept_halves s _))
    · exact (kept_setFld _ _ _).trans ((kept_setFld _ _ _).trans (kept_halves s _))
  · cases h
    · exact kept_setFld s _ _
    · exact kept_setFld s _ _

@[simp] theorem kept_halfUnitsOn (s : State) (h : Half) : (s.halfUnitsOn h).kept = s.kept := by
  unfold State.halfUnitsOn
  extract_lets on
  have hon : ∀ t u, (on t u).kept = t.kept := fun t u => kept_ite (kept_setMaskBit t _ _) (kept_setMaskBit t _ _)
  clear_value on
  rw [kept_setFld, kept_foldl (fun t j => kept_ite rfl (kept_refillSlot t h j)), kept_foldl (fun t i => by simp only [hon]),
    kept_foldl (fun t i => hon t _), kept_foldl (fun t i => hon t _)]

@[simp] theorem kept_drawCheck (s : State) : s.drawCheck.kept = s.kept := by rw [State.drawCheck, kept_draw, kept_halves]

theorem kept_meshKey (s : State) (k : Bytes) : State.kept { s with tamper := { s.tamper with meshKey := k } } = s.kept := rfl

@[simp] theorem kept_drawMesh (s : State) : s.drawMesh.kept = s.kept := by rw [State.drawMesh, kept_draw, kept_meshKey]

/-! Sessions, logs, buses (step 11) -/

@[simp] theorem kept_setAcc (s : State) (f : AccessSt → AccessSt) : (s.setAcc f).kept = s.kept := rfl
@[simp] theorem kept_updSession (s : State) (f : Session → Session) : (s.updSession f).kept = s.kept := rfl
@[simp] theorem kept_requestLf (s : State) (r : LfReq) : (s.requestLf r).kept = s.kept := rfl
@[simp] theorem kept_updCan (s : State) (n : Nat) (f : CanSt → CanSt) : (s.updCan n f).kept = s.kept := rfl

@[simp] theorem kept_postAccess (s : State) (code : Nat) (detail : Bytes) : (s.postAccess code detail).kept = s.kept := by
  unfold State.postAccess
  split
  · exact kept_post s _ _ _ _
  · rfl

theorem kept_access (s : State) (a : AccessSt) : State.kept { s with acc := a } = s.kept := rfl

@[simp] theorem kept_setSession (s : State) (x : Option Session) : (s.setSession x).kept = s.kept := by
  rw [State.setSession, kept_setFld, kept_access, kept_setDomains]

theorem kept_ranging (s : State) (u : UwbSt) : State.kept { s with uwb := u } = s.kept := rfl

@[simp] theorem kept_portsPower (s : State) (m : Nat) : (s.portsPower m).kept = s.kept := by
  rw [State.portsPower, kept_setDomains, kept_ranging]

@[simp] theorem kept_stopRanging (s : State) : s.stopRanging.kept = s.kept := by
  rw [State.stopRanging, kept_ranging, kept_portsPower, kept_abortRound]

theorem kept_coil (s : State) (b : Option BcSession) (l : LfSt) : State.kept { s with bc := b, lf := l } = s.kept := rfl

@[simp] theorem kept_bcOff (s : State) (st : Nat) : (s.bcOff st).kept = s.kept := by
  unfold State.bcOff
  split
  · rfl
  · rw [kept_raise, kept_setFld, kept_coil, kept_book]

@[simp] theorem kept_postCollision (s : State) (x : Session) (slot : Nat) : (s.postCollision x slot).kept = s.kept :=
  kept_postAccess s _ _

theorem kept_closed (s : State) (h : HalvesSt) (u : Option UhfWindow) (l : LfSt) (p : PowerSt) :
    State.kept { s with halves := h, uhf := u, lf := l, power := p } = s.kept := rfl

@[simp] theorem kept_closeSession (s : State) : s.closeSession.kept = s.kept := by
  have hstop : (s.stopRanging.bcOff 3).kept = s.kept := by rw [kept_bcOff, kept_stopRanging]
  rw [State.closeSession, kept_setSession, kept_closed]
  split
  · exact (kept_foldl (fun t k => kept_postCollision t _ k) _ _).trans hstop
  · exact hstop

@[simp] theorem kept_postDecision (s : State) (d : Decision) : (s.postDecision d).kept = s.kept := by
  rw [State.postDecision, kept_raise, kept_setAcc]
  refine (kept_ite (kept_bump _ _ _) (kept_bump _ _ _)).trans ?_
  repeat rw [kept_setFld]
  exact kept_postAccess s _ _

@[simp] theorem kept_sendChallenge (s : State) (x : Session) : (s.sendChallenge x).kept = s.kept := by
  rw [State.sendChallenge, kept_requestLf, kept_updSession, kept_draw]

@[simp] theorem kept_challenge (s : State) : s.challenge.kept = s.kept := by
  unfold State.challenge
  split
  · rfl
  · exact kept_ite (kept_updSession s _) (kept_sendChallenge s _)

@[simp] theorem kept_openSession (s : State) (src : Source) (target : Nat) : (s.openSession src target).kept = s.kept := by
  unfold State.openSession
  extract_lets u
  have hu : u.kept = s.kept := by rw [kept_setFld, kept_setSession]
  clear_value u
  refine kept_ite rfl (kept_ite (kept_ite ?_ ?_) (kept_ite ?_ ?_))
  · rw [kept_closeSession, hu]
  · rw [kept_closeSession, kept_postDecision, kept_bump, hu]
  · exact (kept_ite rfl (kept_bump u _ _)).trans hu
  · exact (kept_challenge _).trans ((kept_ite rfl (kept_bump u _ _)).trans hu)

@[simp] theorem kept_serveQueue (s : State) (n : Nat) : (s.serveQueue n).kept = s.kept := by
  induction n generalizing s with
  | zero => rfl
  | succ n ih =>
    unfold State.serveQueue
    split
    · rw [ih, kept_openSession, kept_setFld, kept_setAcc]
    · rfl

@[simp] theorem kept_canWithdraw (s : State) (n k : Nat) : (s.canWithdraw n k).kept = s.kept := by
  unfold State.canWithdraw
  refine kept_ite rfl ?_
  rw [kept_raise, kept_bump]

@[simp] theorem kept_canStop (s : State) (n : Nat) : (s.canStop n).kept = s.kept := by
  rw [State.canStop, kept_setFld, kept_setFld, kept_setFld]

@[simp] theorem kept_canFlush (s : State) (n : Nat) : (s.canFlush n).kept = s.kept := by
  rw [State.canFlush, kept_canWithdraw, kept_updCan]

@[simp] theorem kept_canStart (s : State) (n : Nat) : (s.canStart n).kept = s.kept := by
  unfold State.canStart
  refine kept_ite ?_ rfl
  rw [kept_setFld, kept_updCan]

@[simp] theorem kept_canSettle (s : State) (n : Nat) : (s.canSettle n).kept = s.kept := by
  unfold State.canSettle
  refine kept_ite ?_ (kept_ite (kept_canStart s n) (kept_ite rfl (kept_ite (kept_canStop s n) rfl)))
  rw [kept_canStop, kept_canFlush]

@[simp] theorem kept_canSettleAll (s : State) : s.canSettleAll.kept = s.kept := by
  rw [State.canSettleAll, kept_canSettle, kept_canSettle]

@[simp] theorem kept_cardOff (s : State) (st : Nat) : (s.cardOff st).kept = s.kept := by
  rw [State.cardOff, kept_setFld, kept_setFld, kept_setFld, kept_setFld, kept_setFld]

@[simp] theorem kept_cardActivate (s : State) (classB noPps : Bool) : (s.cardActivate classB noPps).kept = s.kept := by
  rw [State.cardActivate, kept_setFld, kept_setFld, kept_cardOff, kept_updCard]

@[simp] theorem kept_cardSettle (s : State) : s.cardSettle.kept = s.kept := by
  unfold State.cardSettle
  refine kept_ite rfl (kept_ite (kept_ite ?_ (kept_ite ?_ (kept_updCard s _))) (kept_ite ?_ (kept_ite rfl (kept_cardOff s 0))))
  · rw [kept_cardActivate, kept_updCard]
  · rw [kept_setFld, kept_updCard]
  · rw [kept_setFld, kept_updCard]

@[simp] theorem kept_writeEntry (s : State) (e : TpEntry) : (s.writeEntry e).kept = s.kept := by
  rw [State.writeEntry, kept_postTo]
  rfl

@[simp] theorem kept_flushLog (s : State) : s.flushLog.kept = s.kept := kept_foldl kept_writeEntry _ _

@[simp] theorem kept_repostTamper (s : State) : s.repostTamper.kept = s.kept :=
  kept_foldl (fun t e => kept_postTo t 0 e) _ _

@[simp] theorem kept_showPlan (s : State) : s.showPlan.kept = s.kept := by
  rw [State.showPlan, kept_setFld, kept_setFld, kept_setFld, kept_setFld, kept_setFld]

/-! ### Ready (R101) -/

/-- Bring-up has ended, the gates are open, and no request is retried. -/
def State.serves (s : State) : Prop := s.boot = .up ∧ s.gatesOpen = true ∧ s.retry = false

theorem serves_of_kept (h : t.kept = s.kept) (hs : s.serves) : t.serves := by
  obtain ⟨hb, hg, hr⟩ := hs
  exact ⟨(kept_boot h).trans hb, (kept_gatesOpen h).trans hg, (kept_retry h).trans hr⟩

theorem serves_readyEvents (hs : s.serves) : s.readyEvents.serves := by
  unfold State.readyEvents
  extract_lets u v
  have hv : v.serves := by
    refine serves_of_kept ?_ hs
    rw [kept_repostTamper]
    exact (kept_ite (kept_flushLog u) rfl).trans (kept_post s _ _ _ _)
  clear_value v
  split
  · exact hv
  · exact serves_of_kept (kept_post _ _ _ _ _) hv

theorem serves_opened (s : State) (x : TamperSt) (p : PowerSt) :
    State.serves { s with boot := .up, retry := false, gatesOpen := true, tamper := x, power := p } := ⟨rfl, rfl, rfl⟩

theorem serves_linked (hs : s.serves) (b : Bool) : State.serves { s with linkUp := b } := hs

theorem serves_ready11 (s : State) : s.ready11.serves := by
  unfold State.ready11
  extract_lets halves a b pw tp c d e
  have hc : c.serves := serves_opened b _ _
  have hd : d.serves := serves_of_kept (kept_setDomains c _) hc
  have he : e.serves := serves_linked hd _
  exact serves_of_kept (kept_serveQueue _ _) (serves_of_kept (kept_cardSettle _) (serves_of_kept (kept_canSettleAll _)
    (serves_readyEvents (serves_of_kept (kept_showPlan _) he))))

/-! ### A bring-up that nothing stops (R89, R99) -/

/-- Nothing in the state stops a bring-up that has begun: no failure yet, neither HOLD nor SCRAP, no transition or Quench to finish,
a firmware key, a storage seed, and the SYSTEM pages. -/
structure State.Booting (s : State) : Prop where
  boot : s.boot ≠ .failed
  life : s.life ≠ 7
  progress : s.lc.progress = none
  quench : s.tamper.quench = 0
  hold : s.tamper.hold = false
  fuse : (mapGet s.keys.fuses 0).isSome = true
  seed : s.keys.seed.isSome = true
  pages : s.ee.lostPages.any (fun c => decide (c.1 < 1024)) = false

theorem State.Booting.congr (hs : s.Booting) (hb : t.boot = s.boot) (hl : t.life = s.life) (h : t.lasting = s.lasting) :
    t.Booting := by
  obtain ⟨boot, life, progress, quench, hold, fuse, seed, pages⟩ := hs
  simp only [State.lasting, Prod.mk.injEq] at h
  obtain ⟨hlc, hq, hh, hf, hseed, hp⟩ := h
  exact ⟨hb ▸ boot, hl ▸ life, hlc ▸ progress, hq ▸ quench, hh ▸ hold, hf ▸ fuse, hseed ▸ seed, hp ▸ pages⟩

theorem State.Booting.of_kept (hs : s.Booting) (h : t.kept = s.kept) : t.Booting :=
  hs.congr (kept_boot h) (kept_life h) (kept_lasting h)

theorem State.Booting.ite {c : Prop} [Decidable c] (hs : s.Booting) (ht : t.Booting) : (if c then s else t).Booting := by
  split <;> assumption

theorem State.Booting.supplied (hs : s.Booting) (x : Supply) : State.Booting { s with supply := x } := hs.congr rfl rfl rfl

theorem State.Booting.begun (hs : State.Booting { s with life := s.lc.fused }) (t : Nat) (x : HalvesSt) :
    State.Booting { s with bootAt := t, life := s.lc.fused, halves := x } := hs.congr rfl rfl rfl

theorem State.Booting.strapped (hs : s.Booting) (c : Bool) (x : List (Nat × PartSt)) :
    State.Booting { s with strapCompat := c, parts := x } := hs.congr rfl rfl rfl

theorem State.Booting.setVhold (hs : s.Booting) (mv : Nat) : (s.setVhold mv).Booting :=
  State.Booting.of_kept (hs.supplied { s.supply with vholdMv := mv }) (kept_setFld _ _ _)

/-- With TEST_EN in place the straps are noted, and nothing else happens. -/
theorem State.Booting.sampleStraps (hs : s.Booting) {v : BitVec 4} (hv : v.toNat < 8) : (s.sampleStraps v).Booting := by
  have htest : bit v.toNat 3 = false := by
    exact Nat.testBit_lt_two_pow hv
  unfold State.sampleStraps
  refine .ite hs ?_
  extract_lets n a c
  have ha : a.Booting := hs.of_kept (by rw [kept_setFld, kept_setFld, kept_setFld, kept_setFld])
  rw [if_neg (by rw [show bit n 3 = false from htest]; exact Bool.false_ne_true)]
  exact ha.strapped _ _

theorem State.Booting.bootStep1 (hs : State.Booting { s with life := s.lc.fused }) {b : BringUp} (hv : b.straps.toNat < 8) :
    (s.bootStep1 b).Booting := by
  unfold State.bootStep1
  extract_lets cold hw u sp v w
  have hu : u.Booting := (hs.begun _ _).sampleStraps hv
  have hv : v.Booting := (hu.supplied _).setVhold _
  have hw : w.Booting := .ite (hv.of_kept (kept_readModes v)) hv
  exact hw.of_kept (by rw [kept_setDomains, kept_setFld, kept_voutSend])

theorem State.Booting.bootStep2 (hs : s.Booting) {b : BringUp} (hb : b.shoreImageFail = false) : (s.bootStep2 b).Booting := by
  have hu := hs.of_kept (kept_setDomains s (setBit s.domains 9))
  unfold State.bootStep2
  dsimp only
  rw [if_neg (by simp [hb]), if_neg (by rw [hu.hold]; decide), if_neg hu.life]
  exact hu

theorem State.Booting.bootStep7 (hs : s.Booting) {b : BringUp} (hb : b.storeLost = false) : (s.bootStep7 b).Booting := by
  have hmirrors := hs.of_kept (t := s.recoverColumns.recoverClears.recoverMirrors)
    (by rw [kept_recoverMirrors, kept_recoverClears, kept_recoverColumns])
  have hlife : s.recoverColumns.recoverClears.recoverMirrors.recoverLife = s.recoverColumns.recoverClears.recoverMirrors := by
    unfold State.recoverLife
    rw [hmirrors.progress]
  have htxn := hmirrors.of_kept (kept_recoverTxn _)
  have hrec : s.recover.Booting := by
    rw [State.recover, hlife, State.runPendingQuench, if_pos htxn.quench]
    exact htxn
  unfold State.bootStep7
  rw [if_neg (by rw [hb, hs.pages]; decide)]
  dsimp only
  rw [if_neg hrec.life]
  exact hrec

theorem State.Booting.bootStep8 (hs : s.Booting) : s.bootStep8.Booting := by
  have hseed : s.drawSeed.Booting := by
    unfold State.drawSeed
    rw [if_pos hs.seed]
    exact hs.of_kept (kept_setFld s _ _)
  exact .congr (hseed.of_kept (kept_reloadSlots _)) rfl rfl rfl

theorem foldl_filter_of_nil {α β : Type} {l : List α} (hl : l = []) (p : α → Bool) (f : β → α → β) (b : β) :
    (l.filter p).foldl f b = b := by
  subst hl
  rfl

theorem State.Booting.bootStep10 (hs : s.Booting) {b : BringUp} (hb : b.spareFails = []) : (s.bootStep10 b).Booting := by
  unfold State.bootStep10
  extract_lets u v w x
  have hu : u.Booting := hs.of_kept (kept_showMap s)
  have hv : v.Booting := .ite (hu.of_kept (kept_halfUnitsOn u _)) hu
  have hw : w.Booting := .ite (hv.of_kept (kept_halfUnitsOn v _)) hv
  have hx : x = w := foldl_filter_of_nil hb _ _ w
  clear_value u v w x
  subst hx
  exact hw.of_kept (by rw [kept_drawMesh, kept_drawCheck])

/-! The halves (steps 3 to 5) -/

theorem halfUp_iff {h : Half} : s.halfUp h = true ↔ s.fld (roleField h) = 1 := by
  cases h <;> simp [State.halfUp, roleField, eq_comm]

/-- What bring-up finds wrong with a half. -/
def bringUpFail (b : BringUp) : Half → Option HalfFail
  | .north => b.northFail
  | .south => b.southFail

theorem ifHalf_of_up {h : Half} (hs : s.fld (roleField h) = 1) (n : Nat) (b : BringUp) : s.ifHalf n b = s := by
  have hup := halfUp_iff.mpr hs
  unfold State.ifHalf
  cases h <;> simp [hup]

theorem role_setFld_same (hr : mapRising 0 s.regs = true) (h : Half) : (s.setFld (roleField h) 1).fld (roleField h) = 1 := by
  cases h <;> exact fld_setFld hr (by decide) (by decide) 1

theorem role_setFld_other (hr : mapRising 0 s.regs = true) {h k : Half} (hk : k ≠ h) (v : Nat) :
    (s.setFld (roleField k) v).fld (roleField h) = s.fld (roleField h) := by
  cases h <;> cases k
  · exact absurd rfl hk
  · exact fld_setFld_disjoint (f := Fd.HW_ROLE_S_STATE) (g := Fd.HW_ROLE_N_STATE) hr rfl (by decide) (by decide) (by decide) v
  · exact fld_setFld_disjoint (f := Fd.HW_ROLE_N_STATE) (g := Fd.HW_ROLE_S_STATE) hr rfl (by decide) (by decide) (by decide) v
  · exact absurd rfl hk

/-- A write of another register leaves a half's state. -/
theorem role_setFld_ne (s : State) {f : Fld} (hf : f.addr ≠ Reg.HW_ROLE) (h : Half) (v : Nat) :
    (s.setFld f v).fld (roleField h) = s.fld (roleField h) := by
  cases h <;> exact fld_setFld_ne s hf v

theorem role_raise (s : State) {pg : Nat} (hp : (Fd.INT_RAW_RAW pg).addr ≠ Reg.HW_ROLE) (mask : Nat) (h : Half) :
    (s.raise pg mask).fld (roleField h) = s.fld (roleField h) := by
  cases h <;> exact fld_raise_ne s hp mask

theorem role_congr (h : t.regs = s.regs) (k : Half) : t.fld (roleField k) = s.fld (roleField k) := fld_congr h _

theorem role_bellows (s : State) {n : Nat} (hn : n ≤ 1) (h : Half) : (s.bellows n).fld (roleField h) = s.fld (roleField h) := by
  have haddr : (Fd.BW_STAT_INST n).addr ≠ Reg.HW_ROLE := by
    show 0xB010C + 4 * n ≠ 0xD0100
    omega
  unfold State.bellows
  dsimp only
  split_ifs
  · rw [role_setFld_ne _ haddr]
    exact role_congr rfl h
  · rfl
  · rfl
  · exact role_congr rfl h
  · rfl
  · rw [role_raise _ (by decide), State.bump, role_setFld_ne _ (by decide)]
    exact role_congr rfl h

theorem role_drawLink (s : State) (k h : Half) : (s.drawLink k).fld (roleField h) = s.fld (roleField h) := by
  have hle : ∀ t : State, t.bellowsOf (halfNum k) ≤ 1 := by
    intro t
    have hk : halfNum k ≤ 1 := by cases k <;> decide
    unfold State.bellowsOf
    split_ifs <;> omega
  have hlink : (s.setLink k (some (s.drawn 16))).regs = s.regs := by cases k <;> rfl
  rw [State.drawLink, State.drawAt]
  exact (role_congr rfl h).trans ((role_bellows _ (hle _) h).trans (role_congr hlink h))

theorem role_wellService (s : State) (k h : Half) : (s.wellService k).fld (roleField h) = s.fld (roleField h) := by
  rw [State.wellService, role_setFld_ne _ (by cases k <;> decide), role_setFld_ne _ (by cases k <;> decide)]
  exact role_congr rfl h

theorem kept_bootWell (s : State) (k : Half) (f : Option HalfFail) : (s.bootWell k f).kept = s.kept := by
  unfold State.bootWell
  refine kept_ite rfl ?_
  split
  · rw [kept_entropyAlarm, kept_raise, kept_setFld, kept_setFld, kept_setFld]
  · rw [kept_drawLink, kept_wellService]

/-- A half's Wellhead and what befalls the other half leave a half that has not failed in service. -/
theorem role_bootWell (hr : mapRising 0 s.regs = true) {k h : Half} {f : Option HalfFail} (hf : k = h → f = none) :
    (s.bootWell k f).fld (roleField h) = s.fld (roleField h) := by
  unfold State.bootWell
  split
  · rfl
  · split
    · next c =>
      have hk : k ≠ h := fun e => Option.some_ne_none _ (hf e)
      rw [State.entropyAlarm, role_congr (post_regs _ _ _ _ _), role_raise _ (by decide),
        role_setFld_ne _ (by cases k <;> decide), role_setFld_ne _ (by cases k <;> decide), role_setFld_other hr hk]
    · rw [role_drawLink, role_wellService]

theorem role_bootImage (hr : mapRising 0 s.regs = true) {k h : Half} {f : Option HalfFail} (hf : k = h → f = none) :
    (s.bootImage k f).fld (roleField h) = s.fld (roleField h) := by
  unfold State.bootImage
  split
  · next e => exact role_setFld_other hr (fun hk => Option.some_ne_none _ (e.symm.trans (hf hk))) 0
  · rfl

/-- A bring-up that nothing stops, with half h in service. -/
structure State.BootsOn (h : Half) (s : State) : Prop where
  booting : s.Booting
  role : s.fld (roleField h) = 1
  rising : mapRising 0 s.regs = true

theorem State.BootsOn.up {h : Half} (hs : s.BootsOn h) : s.halfUp h = true := halfUp_iff.mpr hs.role

theorem kept_bootCore (s : State) (k : Half) (f : Option HalfFail) : (s.bootCore k f).kept = s.kept := kept_setFld s _ _

/-- A half whose core and UDS pass is in service, whatever befalls the other (R98). -/
theorem role_bootCores (hr : mapRising 0 s.regs = true) {h : Half} {b : BringUp} (hf : bringUpFail b h = none) :
    ((s.bootCore .north b.northFail).bootCore .south b.southFail).fld (roleField h) = 1 := by
  have hn : mapRising 0 (s.bootCore .north b.northFail).regs = true := (tidy_of_rising hr).bootCore.rising
  cases h with
  | north =>
    have hnone : b.northFail = none := hf
    refine (role_setFld_other (k := .south) hn (by decide) _).trans ?_
    rw [hnone]
    exact role_setFld_same hr .north
  | south =>
    have hnone : b.southFail = none := hf
    rw [hnone]
    exact role_setFld_same hn .south

theorem State.BootsOn.bootStep3 (hs : s.Booting) (hr : mapRising 0 s.regs = true) {h : Half} {b : BringUp} (hd : b.udsDiffer = false)
    (hf : bringUpFail b h = none) : (s.bootStep3 b).BootsOn h := by
  unfold State.bootStep3
  extract_lets u
  have hu : u.Booting := hs.of_kept (kept_setDomains s _)
  have hr : mapRising 0 u.regs = true := hr
  clear_value u
  have hrole := role_bootCores hr hf
  rw [if_neg (by rw [hd]; decide), ifHalf_of_up hrole]
  exact ⟨hu.of_kept ((kept_bootCore _ _ _).trans (kept_bootCore _ _ _)), hrole, (tidy_of_rising hr).bootCore.bootCore.rising⟩

theorem State.BootsOn.bootStep4 {h : Half} (hs : s.BootsOn h) {b : BringUp} (hf : bringUpFail b h = none) :
    (s.bootStep4 b).BootsOn h := by
  have hfn : Half.north = h → b.northFail = none := fun e => by subst e; exact hf
  have hfs : Half.south = h → b.southFail = none := fun e => by subst e; exact hf
  have hn : (s.bootWell .north b.northFail).Tidy False False := (tidy_of_rising hs.rising).bootWell
  have hrole : ((s.bootWell .north b.northFail).bootWell .south b.southFail).fld (roleField h) = 1 :=
    (role_bootWell hn.rising hfs).trans ((role_bootWell hs.rising hfn).trans hs.role)
  rw [State.bootStep4, ifHalf_of_up hrole]
  exact ⟨hs.booting.of_kept ((kept_bootWell _ _ _).trans (kept_bootWell _ _ _)), hrole, hn.bootWell.rising⟩

theorem kept_bootImage (s : State) (k : Half) (f : Option HalfFail) : (s.bootImage k f).kept = s.kept := kept_ite rfl rfl

theorem State.BootsOn.bootStep5 {h : Half} (hs : s.BootsOn h) {b : BringUp} (hf : bringUpFail b h = none) :
    (s.bootStep5 b).Booting := by
  have hfn : Half.north = h → b.northFail = none := fun e => by subst e; exact hf
  have hfs : Half.south = h → b.southFail = none := fun e => by subst e; exact hf
  unfold State.bootStep5
  extract_lets u v
  have hu : mapRising 0 u.regs = true := hs.rising
  have hn : (u.bootImage .north b.northFail).Tidy False False := (tidy_of_rising hu).bootImage
  have hrole : ((u.bootImage .north b.northFail).bootImage .south b.southFail).fld (roleField h) = 1 :=
    (role_bootImage hn.rising hfs).trans ((role_bootImage hu hfn).trans hs.role)
  have hv : v = (u.bootImage .north b.northFail).bootImage .south b.southFail := ifHalf_of_up hrole 5 b
  have hboot : v.Booting := by
    rw [hv]
    exact hs.booting.of_kept ((kept_bootImage _ _ _).trans ((kept_bootImage _ _ _).trans (kept_setDomains s _)))
  rw [if_neg hboot.boot, if_neg (by simp [Option.isSome_iff_ne_none.mp hboot.fuse])]
  exact hboot.of_kept (kept_takeImages v)

/-! Steps in their order -/

theorem runBoot_succ {b : BringUp} {n : Nat} (hs : s.boot ≠ .failed) (hn : n < b.upTo) (hm : s.bootMay b (n + 1) = true) (k : Nat) :
    s.runBoot b n (k + 1) = (s.doBootStep b (n + 1)).runBoot b (n + 1) k := by
  rw [State.runBoot, if_neg (by simp [hs, hm, hn])]

theorem doBootStep_of_boot {b : BringUp} {n : Nat} (h : ((s.setStep n).bootStepN b n).boot ≠ .failed) :
    s.doBootStep b n = { (s.setStep n).bootStepN b n with linkUp := ((s.setStep n).bootStepN b n).linkCan } := by
  rw [State.doBootStep, if_neg h]

theorem State.Booting.linked (hs : s.Booting) (b : Bool) : State.Booting { s with linkUp := b } := hs.congr rfl rfl rfl

theorem State.Booting.doBootStep {b : BringUp} {n : Nat} (h : ((s.setStep n).bootStepN b n).Booting) : (s.doBootStep b n).Booting := by
  rw [doBootStep_of_boot h.boot]
  exact h.linked _

theorem State.BootsOn.doBootStep {b : BringUp} {n : Nat} {h : Half} (hs : ((s.setStep n).bootStepN b n).BootsOn h) :
    (s.doBootStep b n).BootsOn h := by
  rw [doBootStep_of_boot hs.booting.boot]
  exact ⟨hs.booting.linked _, hs.role, hs.rising⟩

theorem State.Booting.setStep (hs : s.Booting) (n : Nat) : (s.setStep n).Booting := hs.of_kept (kept_setFld s _ _)

theorem rising_setFld (h : mapRising 0 s.regs = true) (f : Fld) (v : Nat) : mapRising 0 (s.setFld f v).regs = true :=
  mapRising_mapSet _ h (Nat.zero_le _) _

theorem State.BootsOn.setStep {h : Half} (hs : s.BootsOn h) (n : Nat) : (s.setStep n).BootsOn h :=
  ⟨hs.booting.setStep n, (role_setFld_ne s (by decide) h n).trans hs.role, rising_setFld hs.rising _ _⟩

theorem bootMay_of {b : BringUp} {n : Nat} (hv : 2850 ≤ b.vholdMv) (hs : s.keys.seed.isSome = true) : s.bootMay b n = true := by
  unfold State.bootMay
  split
  · exact decide_eq_true hv
  · exact decide_eq_true hv
  · rw [hs]
    rfl
  · rfl

/-- What the environment finds in a bring-up that nothing stops. -/
structure BringsUp (b : BringUp) : Prop where
  upTo : 11 ≤ b.upTo
  vhold : 2850 ≤ b.vholdMv
  straps : b.straps.toNat < 8
  image : b.shoreImageFail = false
  uds : b.udsDiffer = false
  store : b.storeLost = false
  spares : b.spareFails = []

theorem State.Booting.step {b : BringUp} {n : Nat} (hs : s.Booting) (hb : BringsUp b) (hn : n < 11) (k : Nat) :
    s.runBoot b n (k + 1) = (s.doBootStep b (n + 1)).runBoot b (n + 1) k :=
  runBoot_succ hs.boot (Nat.lt_of_lt_of_le hn hb.upTo) (bootMay_of hb.vhold hs.seed) k

theorem serves_doBootStep11 (s : State) (b : BringUp) : (s.doBootStep b 11).serves := by
  have hready : ((s.setStep 11).bootStepN b 11).serves := serves_ready11 _
  have hboot : ((s.setStep 11).bootStepN b 11).boot ≠ .failed := by
    rw [hready.1]
    decide
  rw [doBootStep_of_boot hboot]
  exact serves_linked hready _

/-- Steps 6 to 11. -/
theorem serves_runBoot6 {b : BringUp} (hb : BringsUp b) (hs : s.Booting) : (s.runBoot b 5 6).serves := by
  have h6 : (s.doBootStep b 6).Booting := .doBootStep (.of_kept (hs.setStep 6) (kept_grantEpoch _))
  have h7 : ((s.doBootStep b 6).doBootStep b 7).Booting := .doBootStep ((h6.setStep 7).bootStep7 hb.store)
  have h8 := State.Booting.doBootStep (b := b) (n := 8) ((h7.setStep 8).bootStep8)
  have h9 := State.Booting.doBootStep (b := b) (n := 9) (.of_kept (h8.setStep 9) (kept_bootStep9 _))
  have h10 := State.Booting.doBootStep (b := b) (n := 10) ((h9.setStep 10).bootStep10 hb.spares)
  rw [hs.step hb (by decide), h6.step hb (by decide), h7.step hb (by decide), h8.step hb (by decide), h9.step hb (by decide),
    h10.step hb (by decide), State.runBoot]
  exact serves_doBootStep11 _ b

theorem boot_of_due {b : BringUp} (h : s.bootDue b = true) : s.boot ≠ .failed := by
  intro hf
  simp [State.bootDue, hf] at h

theorem exec_bringUp {b : BringUp} (h : s.bootDue b = true) : exec (.bringUp b) s =
    .next ((s.setVhold b.vholdMv).runBoot b (s.fld Fd.BOOT_STAT_STEP) 11) :=
  congrArg Host.Outcome.next (if_neg (by rw [h]; decide))

/-- What step 1 needs, in which the life cycle takes the fused code. -/
theorem begins_congr (hs : State.Booting { s with life := s.lc.fused }) (hb : t.boot = s.boot) (h : t.lasting = s.lasting) :
    State.Booting { t with life := t.lc.fused } :=
  hs.congr hb (congrArg (fun x => x.1.fused) h) h

theorem kept_setStep (s : State) (n : Nat) : (s.setStep n).kept = s.kept := kept_setFld s _ n

theorem begins_setStep (hs : State.Booting { s with life := s.lc.fused }) (n : Nat) :
    State.Booting { s.setStep n with life := (s.setStep n).lc.fused } :=
  begins_congr hs (kept_boot (kept_setStep s n)) (kept_lasting (kept_setStep s n))

theorem boot_setVhold (s : State) (mv : Nat) : (s.setVhold mv).boot = s.boot := by
  unfold State.setVhold
  exact (kept_boot (kept_setFld _ _ _)).trans rfl

theorem lasting_setVhold (s : State) (mv : Nat) : (s.setVhold mv).lasting = s.lasting := by
  unfold State.setVhold
  exact (kept_lasting (kept_setFld _ _ _)).trans rfl

theorem begins_setVhold (hs : State.Booting { s with life := s.lc.fused }) (mv : Nat) :
    State.Booting { s.setVhold mv with life := (s.setVhold mv).lc.fused } :=
  begins_congr hs (boot_setVhold s mv) (lasting_setVhold s mv)

theorem bootStepN_four (s : State) (b : BringUp) : s.bootStepN b 4 = s.bootStep4 b := rfl

theorem State.BootsOn.doBootStep4 {b : BringUp} {h : Half} (hs : s.BootsOn h) (hf : bringUpFail b h = none) :
    (s.doBootStep b 4).BootsOn h := by
  refine .doBootStep ?_
  rw [bootStepN_four]
  exact (hs.setStep 4).bootStep4 hf

/-- Steps 3 to 11. -/
theorem serves_runBoot3 {b : BringUp} (hb : BringsUp b) (hs : s.Booting) (hr : s.Tidy False False) {h : Half}
    (hf : bringUpFail b h = none) : (s.runBoot b 2 9).serves := by
  have h3 : (s.doBootStep b 3).BootsOn h := .doBootStep (.bootStep3 (hs.setStep 3) hr.setStep.rising hb.uds hf)
  have h4 : ((s.doBootStep b 3).doBootStep b 4).BootsOn h := h3.doBootStep4 hf
  have h5 : (((s.doBootStep b 3).doBootStep b 4).doBootStep b 5).Booting := .doBootStep ((h4.setStep 5).bootStep5 hf)
  rw [hs.step hb (by decide), h3.booting.step hb (by decide), h4.booting.step hb (by decide)]
  exact serves_runBoot6 hb h5

/-- All eleven steps, from the first. -/
theorem serves_runBoot {b : BringUp} (hb : BringsUp b) (hr : s.Tidy False False)
    (hs : State.Booting { s with life := s.lc.fused }) {h : Half} (hf : bringUpFail b h = none) : (s.runBoot b 0 11).serves := by
  have h1 : (s.doBootStep b 1).Booting := .doBootStep (State.Booting.bootStep1 (s := s.setStep 1) (begins_setStep hs 1) hb.straps)
  have h2 : ((s.doBootStep b 1).doBootStep b 2).Booting := .doBootStep ((h1.setStep 2).bootStep2 hb.image)
  rw [runBoot_succ (s := s) hs.boot (Nat.lt_of_lt_of_le (by decide) hb.upTo) rfl, h1.step hb (by decide)]
  exact serves_runBoot3 hb h2 hr.doBootStep.doBootStep hf

/-! ### An image of Shore that fails (R99) -/

theorem boot_deviceWarm (s : State) (c : WarmCause) : (s.deviceWarm c).boot ≠ .failed := by
  obtain ⟨r, hr⟩ := deviceWarm_regsOnly s c
  rw [hr]
  show (if s.boot = .power then Boot.power else Boot.warm) ≠ .failed
  split <;> decide

theorem boot_tamperWarm (s : State) : s.tamperWarm.boot ≠ .failed := boot_deviceWarm s .tamper

theorem boot_beginWarm (s : State) : s.beginWarm.boot ≠ .failed := by
  unfold State.beginWarm
  exact boot_tamperWarm _

theorem kept_skew (s : State) : s.skew.2.kept = s.kept := by
  unfold State.skew
  split
  · rfl
  · exact kept_drawAt s _ 1

theorem kept_engines (s : State) (k : KalmelSt) : State.kept { s with kalmel := k } = s.kept := rfl

theorem kept_startTask (s : State) (e : EngRef) (b : TaskStart) (img : Option Image) : (s.startTask e b img).kept = s.kept := by
  have hcopy : ∀ t : State, (t.startCopy e b).kept = t.kept := by
    intro t
    unfold State.startCopy
    refine kept_ite rfl ?_
    exact (kept_updEng _ _ _).trans (kept_skew t)
  rw [State.startTask, hcopy, kept_updEng, kept_engines]

theorem kept_engineLost (s : State) (e : EngRef) : (s.engineLost e).kept = s.kept := by
  have hreset : (s.engineReset e).kept = s.kept := kept_updEng s e _
  unfold State.engineLost
  dsimp only
  split
  · rw [kept_startTask, hreset]
  · rw [State.restartTask, kept_startTask, kept_updEng, hreset]
  · exact hreset

theorem kept_work (s : State) (u : UnitsSt) (h : HalvesSt) (a : AccessSt) :
    State.kept { s with units := u, halves := h, acc := a } = s.kept := rfl

theorem kept_discardWork (s : State) : s.discardWork.kept = s.kept := by
  rw [State.discardWork, kept_closeSession, kept_work]
  exact kept_foldl kept_engineLost _ s

theorem kept_setPowerState (s : State) (n : Nat) : (s.setPowerState n).kept = s.kept := by
  unfold State.setPowerState
  refine kept_ite rfl ?_
  rw [kept_raise, kept_setFld]

theorem kept_power (s : State) (p : PowerSt) : State.kept { s with power := p } = s.kept := rfl

theorem kept_eddyExit (s : State) : s.eddyExit.kept = s.kept := by
  unfold State.eddyExit
  refine kept_ite ?_ (kept_power s _)
  rw [kept_setDomains, kept_setPowerState, kept_power]

theorem kept_latchWake (s : State) (w : WakeSrc) : (s.latchWake w).kept = s.kept := by
  rw [State.latchWake, kept_eddyExit, kept_raise, kept_power, kept_setFld, kept_setFld]
  refine kept_ite ?_ rfl
  rw [kept_setFld, kept_setFld]

theorem kept_railsOn (s : State) (flow : Bool) : (s.railsOn flow).kept = s.kept := kept_ite rfl rfl
theorem kept_railsOff (s : State) : s.railsOff.kept = s.kept := rfl

theorem boot_updTamper (s : State) (f : TamperSt → TamperSt) : (s.updTamper f).boot = s.boot := rfl

theorem boot_quench3 (s : State) : s.quench3.boot = s.boot := by
  have hmark : ∀ (t : State) (l : List Nat), (t.markPages l).boot = t.boot := by
    intro t l
    unfold State.markPages
    dsimp only
    split <;> rfl
  exact hmark s.quench2 _

theorem boot_quench4 (s : State) : s.quench4.boot = s.boot := by
  unfold State.quench4
  extract_lets u
  have hu : u.boot = s.boot := boot_quench3 s
  clear_value u
  exact hu

theorem kept_noteQuench (s : State) (level : Nat) : (s.noteQuench level).kept = s.kept := by
  rw [State.noteQuench, kept_raise, kept_setFld]

theorem boot_runQuench (s : State) (level : Nat) : (s.runQuench level).boot = s.boot := by
  unfold State.runQuench
  extract_lets w x u
  have hw : w.boot = s.boot := boot_quench4 s
  clear_value w x
  have hu : u.boot = s.boot := by
    unfold u
    split
    · exact (kept_boot (kept_raise _ _ _)).trans hw
    · exact boot_quench3 s
  exact (boot_updTamper _ _).trans ((kept_boot (kept_noteQuench u level)).trans hu)

theorem boot_runPendingQuench (s : State) : s.runPendingQuench.boot = s.boot := by
  unfold State.runPendingQuench
  split
  · rfl
  · exact boot_runQuench s _

theorem boot_respondParked (s : State) (r : Nat) : (s.respondParked r).boot = s.boot := by
  have hwake := kept_boot (kept_latchWake s .tamper)
  unfold State.respondParked
  extract_lets u
  have hu : u.boot = s.boot := hwake
  clear_value u
  split
  · exact hu
  · exact hu
  · exact hu
  · exact hu
  · have hrun : ((((u.updTamper (fun t => { t with quench := r - 1, quenchAlarm := true })).bump Fd.PW_CNT_EXCURSIONS).railsOn
        false).flushLog.runPendingQuench.railsOff).boot = s.boot := by
      rw [kept_boot (kept_railsOff _), boot_runPendingQuench, kept_boot (kept_flushLog _), kept_boot (kept_railsOn _ _)]
      exact hu
    split
    · split
      · exact (kept_boot ((kept_setDomains _ _).trans (kept_setPowerState _ _))).trans hrun
      · exact hrun
    · exact hu

theorem boot_beginGuard (s : State) (sensor : Nat) : (s.beginGuard sensor).boot = s.boot := by
  unfold State.beginGuard
  dsimp only
  split
  · exact (kept_boot (kept_discardWork _)).trans rfl
  · rfl

theorem boot_beginQuench (hs : s.boot ≠ .failed) (level : Nat) : (s.beginQuench level).boot ≠ .failed := by
  unfold State.beginQuench
  extract_lets u
  have hu : u.boot ≠ .failed := hs
  clear_value u
  split
  · exact boot_tamperWarm _
  · exact hu

theorem boot_respond (hs : s.boot ≠ .failed) (sensor r : Nat) : (s.respond sensor r).boot ≠ .failed := by
  unfold State.respond
  split
  · exact hs
  · rwa [boot_beginGuard]
  · exact boot_beginWarm _
  · exact boot_tamperWarm _
  · exact boot_beginQuench hs _

theorem boot_respondBooting (hs : s.boot ≠ .failed) (sensor r : Nat) : (s.respondBooting sensor r).boot ≠ .failed := by
  unfold State.respondBooting
  split
  · exact boot_respond hs sensor r
  · extract_lets u
    have hu : u.boot ≠ .failed := hs
    clear_value u
    split
    · exact boot_tamperWarm _
    · exact hu

theorem boot_logTamperAt (s : State) (time sensor sub resp : Nat) (escalated : Bool) :
    (s.logTamperAt time sensor sub resp escalated).boot = s.boot := by
  unfold State.logTamperAt
  extract_lets e u v
  have hv : v.boot = u.boot := by
    unfold v
    split_ifs
    · exact kept_boot (kept_flushLog u)
    · rfl
    · rfl
  exact (kept_boot (kept_raise v _ _)).trans hv

theorem boot_decideTamper (hs : s.boot ≠ .failed) (time sensor sub : Nat) : (s.decideTamper time sensor sub).boot ≠ .failed := by
  unfold State.decideTamper
  extract_lets u
  have hlog : ∀ r e, (u.logTamperAt time sensor sub r e).boot ≠ .failed := by
    intro r e
    rwa [boot_logTamperAt]
  clear_value u
  dsimp only
  split_ifs
  · exact hlog _ _
  · rw [boot_respondParked]
    exact hlog _ _
  · exact boot_respondBooting (hlog _ _) _ _
  · exact boot_respond (hlog _ _) _ _

theorem boot_sampleStraps (hs : s.boot ≠ .failed) (v : BitVec 4) : (s.sampleStraps v).boot ≠ .failed := by
  unfold State.sampleStraps
  split
  · exact hs
  · extract_lets n a c
    have hc : c.boot ≠ .failed := hs
    split
    · exact boot_decideTamper hc _ _ _
    · exact hc

theorem boot_bootStep1 (hs : s.boot ≠ .failed) (b : BringUp) : (s.bootStep1 b).boot ≠ .failed := by
  unfold State.bootStep1
  extract_lets cold hw u sp v w
  have hu : u.boot ≠ .failed := by
    apply boot_sampleStraps
    exact hs
  have hv : v.boot = u.boot := boot_setVhold _ _
  have hw : w.boot = u.boot := by
    unfold w
    split
    · exact (kept_boot (kept_readModes v)).trans hv
    · exact hv
  rw [kept_boot (kept_setDomains _ _), kept_boot (kept_setFld _ _ _), kept_boot (kept_voutSend _ _), hw]
  exact hu

theorem boot_doBootStep1 (hs : s.boot ≠ .failed) (b : BringUp) : (s.doBootStep b 1).boot ≠ .failed := by
  have h0 : (s.setStep 1).boot ≠ .failed := by rwa [State.setStep, kept_boot (kept_setFld _ _ _)]
  have h1 : ((s.setStep 1).bootStepN b 1).boot ≠ .failed := boot_bootStep1 h0 b
  rw [doBootStep_of_boot h1]
  exact h1

/-- A state in which bring-up has failed, but for its link. -/
def State.failed (s : State) (step code : Nat) : State :=
  (((State.setDomains { s with boot := .failed, retry := false } (listMask [0, 1, 9, 13])).setStep step).setFld
    Fd.BOOT_STAT_FAILED 1).setFld Fd.BOOT_STAT_FAIL_CODE code

theorem failBoot_eq (s : State) (step code : Nat) :
    s.failBoot step code = { s.failed step code with linkUp := (s.failed step code).linkCan } := rfl

theorem kept_failed (s : State) (step code : Nat) :
    (s.failed step code).kept = State.kept { s with boot := .failed, retry := false } := by
  rw [State.failed, kept_setFld, kept_setFld, kept_setStep, kept_setDomains]

theorem boot_linked (s : State) (b : Bool) : State.boot { s with linkUp := b } = s.boot := rfl
theorem retry_linked (s : State) (b : Bool) : State.retry { s with linkUp := b } = s.retry := rfl
theorem fld_linked (s : State) (b : Bool) (f : Fld) : State.fld { s with linkUp := b } f = s.fld f := rfl

theorem boot_failBoot (s : State) (step code : Nat) : (s.failBoot step code).boot = .failed := by
  rw [failBoot_eq, boot_linked]
  exact kept_boot (kept_failed s step code)

/-- What BOOT_STAT shows of a bring-up that failed (R112). -/
theorem failed_shows (hr : mapRising 0 s.regs = true) {step code : Nat} (hstep : step < 16) (hcode : code < 256) :
    (s.failed step code).fld Fd.BOOT_STAT_STEP = step ∧ (s.failed step code).fld Fd.BOOT_STAT_FAILED = 1 ∧
    (s.failed step code).fld Fd.BOOT_STAT_FAIL_CODE = code := by
  unfold State.failed
  have hu : mapRising 0 (State.setDomains { s with boot := .failed, retry := false } (listMask [0, 1, 9, 13])).regs = true := hr
  generalize State.setDomains { s with boot := .failed, retry := false } (listMask [0, 1, 9, 13]) = u at hu ⊢
  rw [State.setStep]
  have h1 := rising_setFld hu Fd.BOOT_STAT_STEP step
  have h2 := rising_setFld h1 Fd.BOOT_STAT_FAILED 1
  refine ⟨?_, ?_, ?_⟩
  · rw [fld_setFld_disjoint (f := Fd.BOOT_STAT_FAIL_CODE) (g := Fd.BOOT_STAT_STEP) h2 rfl (by decide) (by decide) (by decide),
      fld_setFld_disjoint (f := Fd.BOOT_STAT_FAILED) (g := Fd.BOOT_STAT_STEP) h1 rfl (by decide) (by decide) (by decide),
      fld_setFld hu (by decide) (by decide)]
    exact Nat.mod_eq_of_lt hstep
  · rw [fld_setFld_disjoint (f := Fd.BOOT_STAT_FAIL_CODE) (g := Fd.BOOT_STAT_FAILED) h2 rfl (by decide) (by decide) (by decide)]
    exact fld_setFld h1 (by decide) (by decide) 1
  · rw [fld_setFld h2 (by decide) (by decide)]
    exact Nat.mod_eq_of_lt hcode

/-- What a bring-up that failed at a step leaves (R99, R112). -/
theorem failBoot_spec (hr : mapRising 0 s.regs = true) {step code : Nat} (hstep : step < 16) (hcode : code < 256) :
    (s.failBoot step code).boot = .failed ∧ (s.failBoot step code).retry = false ∧ (s.failBoot step code).windowOpen 0 = false ∧
    (s.failBoot step code).fld Fd.BOOT_STAT_STEP = step ∧ (s.failBoot step code).fld Fd.BOOT_STAT_FAILED = 1 ∧
    (s.failBoot step code).fld Fd.BOOT_STAT_FAIL_CODE = code := by
  have hfail := boot_failBoot s step code
  have hretry : (s.failBoot step code).retry = false := by
    rw [failBoot_eq, retry_linked]
    exact kept_retry (kept_failed s step code)
  have hwindow : (s.failBoot step code).windowOpen 0 = false := by
    rw [State.windowOpen, hfail]
    exact Bool.and_false _
  refine ⟨hfail, hretry, hwindow, ?_⟩
  obtain ⟨hstep, hfailed, hcode⟩ := failed_shows hr hstep hcode
  rw [failBoot_eq]
  exact ⟨(fld_linked _ _ _).trans hstep, (fld_linked _ _ _).trans hfailed, (fld_linked _ _ _).trans hcode⟩

/-- With an image of Shore that fails, bring-up stands at step 2. -/
theorem runBoot_shoreFail {b : BringUp} (hs : s.boot ≠ .failed) (hup : 2 ≤ b.upTo) (hb : b.shoreImageFail = true) :
    ∃ u : State, s.runBoot b 0 11 = u.failBoot 2 3 ∧ (mapRising 0 s.regs = true → mapRising 0 u.regs = true) := by
  have h1 := boot_doBootStep1 hs b
  have hstep2 : (s.doBootStep b 1).doBootStep b 2 =
      (((s.doBootStep b 1).setStep 2).setDomains (setBit ((s.doBootStep b 1).setStep 2).domains 9)).failBoot 2 3 := by
    have hrun : ((s.doBootStep b 1).setStep 2).bootStepN b 2 =
        (((s.doBootStep b 1).setStep 2).setDomains (setBit ((s.doBootStep b 1).setStep 2).domains 9)).failBoot 2 3 := if_pos hb
    rw [State.doBootStep, hrun]
    exact if_pos (boot_failBoot _ _ _)
  refine ⟨((s.doBootStep b 1).setStep 2).setDomains (setBit ((s.doBootStep b 1).setStep 2).domains 9), ?_, fun hr => ?_⟩
  · rw [runBoot_succ hs (Nat.lt_of_lt_of_le (by decide) hup) rfl, runBoot_succ h1 (Nat.lt_of_lt_of_le (by decide) hup) rfl, hstep2,
      State.runBoot, if_pos]
    simp [boot_failBoot]
  · exact ((tidy_of_rising hr).doBootStep).setStep.setDomains.rising

/-! ### The holding capacitor (02 R66, R80) -/

/-- HOLD_STAT with the capacitance of a drop and whether it is low. -/
def State.capShown (s : State) (uf : Nat) : State :=
  (s.setFld Fd.HOLD_STAT_HOLD_CAP_UF uf).setFld Fd.HOLD_STAT_CAP_LOW (b2n (decide (uf < 56)))

theorem supply_capShown (s : State) (uf : Nat) : (s.capShown uf).supply = s.supply := by
  rw [State.capShown, setFld_supply, setFld_supply]

theorem deviceTime_capShown (s : State) (uf : Nat) : (s.capShown uf).deviceTime = s.deviceTime := by
  rw [State.capShown, setFld_deviceTime, setFld_deviceTime]

theorem exec_holdCapMeasure {uv uf : Nat} (hd : s.capDone = false) (hb : s.supply.brownout = false)
    (hu : uf = if uv = 0 then 1023 else min 1023 (2000000 / uv)) :
    exec (.holdCapMeasure uv) s = .next (State.setVhold
      { s.capShown uf with capDone := true, supply := { s.supply with capAt := some s.deviceTime } } 3000) := by
  have hrun : exec (.holdCapMeasure uv) s = .next (State.setVhold
      { s.capShown uf with
        capDone := true, supply := { (s.capShown uf).supply with capAt := some (s.capShown uf).deviceTime } } 3000) := by
    subst hu
    unfold exec execHoldCapMeasure State.capShown
    exact congrArg Host.Outcome.next (if_neg (by rw [hd, hb]; decide))
  rw [hrun, supply_capShown, deviceTime_capShown]

theorem fld_capShown (hr : mapRising 0 s.regs = true) {uf : Nat} (hu : uf ≤ 1023) :
    (s.capShown uf).fld Fd.HOLD_STAT_HOLD_CAP_UF = uf ∧ (s.capShown uf).fld Fd.HOLD_STAT_CAP_LOW = b2n (decide (uf < 56)) := by
  have h1 := rising_setFld hr Fd.HOLD_STAT_HOLD_CAP_UF uf
  refine ⟨?_, ?_⟩
  · rw [State.capShown, fld_setFld_disjoint (f := Fd.HOLD_STAT_CAP_LOW) (g := Fd.HOLD_STAT_HOLD_CAP_UF) h1 rfl (by decide) (by decide)
      (by decide), fld_setFld hr (by decide) (by decide)]
    exact Nat.mod_eq_of_lt (Nat.lt_succ_of_le hu)
  · rw [State.capShown, fld_setFld h1 (by decide) (by decide)]
    cases decide (uf < 56) <;> rfl

/-- VHOLD at 3.0 V is held where the capacitance is 56 uF or more. -/
theorem setVhold_measured (x : State) : x.setVhold 3000 =
    State.setFld { x with supply := { x.supply with vholdMv := 3000 } } Fd.HOLD_STAT_HOLD_OK
      (b2n (decide (56 ≤ x.fld Fd.HOLD_STAT_HOLD_CAP_UF))) := rfl

theorem fld_setVhold_measured {x : State} (hr : mapRising 0 x.regs = true) :
    (x.setVhold 3000).fld Fd.HOLD_STAT_HOLD_CAP_UF = x.fld Fd.HOLD_STAT_HOLD_CAP_UF ∧
    (x.setVhold 3000).fld Fd.HOLD_STAT_CAP_LOW = x.fld Fd.HOLD_STAT_CAP_LOW ∧
    (x.setVhold 3000).fld Fd.HOLD_STAT_HOLD_OK = b2n (decide (56 ≤ x.fld Fd.HOLD_STAT_HOLD_CAP_UF)) := by
  have hx : mapRising 0 (State.regs { x with supply := { x.supply with vholdMv := 3000 } }) = true := hr
  rw [setVhold_measured]
  refine ⟨?_, ?_, ?_⟩
  · exact fld_setFld_disjoint (f := Fd.HOLD_STAT_HOLD_OK) (g := Fd.HOLD_STAT_HOLD_CAP_UF) hx rfl (by decide) (by decide) (by decide) _
  · exact fld_setFld_disjoint (f := Fd.HOLD_STAT_HOLD_OK) (g := Fd.HOLD_STAT_CAP_LOW) hx rfl (by decide) (by decide) (by decide) _
  · rw [fld_setFld hx (by decide) (by decide)]
    cases decide (56 ≤ x.fld Fd.HOLD_STAT_HOLD_CAP_UF) <;> rfl

/-- The measurement leaves VHOLD at 3.0 V, and shows whether it holds. -/
theorem setVhold_capDone (u : State) (x : Supply) : State.setVhold { u with capDone := true, supply := x } 3000 =
    State.setFld { u with capDone := true, supply := { x with vholdMv := 3000 } } Fd.HOLD_STAT_HOLD_OK
      (b2n (decide (56 ≤ u.fld Fd.HOLD_STAT_HOLD_CAP_UF))) := rfl

theorem fld_supplied (s : State) (c : Bool) (x : Supply) (f : Fld) : State.fld { s with capDone := c, supply := x } f = s.fld f := rfl

/-- Settles O7: bring-up goes step by step; what each step of a good one leaves, and where one without an image of Shore stands. -/
theorem bringUpEnds : Obligations.BringUpEnds := by
  unfold Obligations.BringUpEnds
  refine ⟨fun s b h => exec_bringUp h, ?_, ?_, ?_, ?_⟩
  · intro s b hwf hdue hstep hup hv hhold hfused hstraps himage huds hstore hhalf hspare hfuse hseed hprog hquench hpages
    have hs : State.Booting { s with life := s.lc.fused } :=
      ⟨boot_of_due hdue, hfused, hprog, hquench, hhold, hfuse, hseed, hpages⟩
    obtain ⟨h, hf⟩ : ∃ h, bringUpFail b h = none := hhalf.elim (fun e => ⟨.north, e⟩) (fun e => ⟨.south, e⟩)
    have hr : (s.setVhold b.vholdMv).Tidy False False := (tidy_of_rising (regsWf_rising hwf)).setVhold
    have hserves := serves_runBoot ⟨hup, hv, hstraps, himage, huds, hstore, hspare⟩ hr (begins_setVhold hs _) hf
    exact ⟨_, (exec_bringUp hdue).trans (by rw [hstep]), hserves⟩
  · intro s b hwf hdue hstep hup himage
    have hboot : (s.setVhold b.vholdMv).boot ≠ .failed := by
      rw [boot_setVhold]
      exact boot_of_due hdue
    obtain ⟨u, hrun, hu⟩ := runBoot_shoreFail hboot hup himage
    have hr : (s.setVhold b.vholdMv).Tidy False False := (tidy_of_rising (regsWf_rising hwf)).setVhold
    exact ⟨_, (exec_bringUp hdue).trans (by rw [hstep, hrun]), failBoot_spec (hu hr.rising) (by decide) (by decide)⟩
  · intro s uv uf hd hb hu
    rw [exec_holdCapMeasure hd hb hu, setVhold_capDone]
    rfl
  · intro s uv uf hwf hd hb hu
    have hle : uf ≤ 1023 := by
      subst hu
      split <;> omega
    have hr := regsWf_rising hwf
    obtain ⟨hcap, hlow⟩ := fld_capShown hr hle
    have hr2 : mapRising 0 (s.capShown uf).regs = true := rising_setFld (rising_setFld hr _ _) _ _
    obtain ⟨h1, h2, h3⟩ := fld_setVhold_measured
      (x := { s.capShown uf with capDone := true, supply := { s.supply with capAt := some s.deviceTime } }) hr2
    have hcap' := (fld_supplied (s.capShown uf) true { s.supply with capAt := some s.deviceTime } _).trans hcap
    have hlow' := (fld_supplied (s.capShown uf) true { s.supply with capAt := some s.deviceTime } _).trans hlow
    exact ⟨_, exec_holdCapMeasure hd hb hu, h1.trans hcap', h2.trans hlow', h3.trans (congrArg (fun n => b2n (decide (56 ≤ n))) hcap')⟩

end Sys2Proof.Machine
end
